-- ==== Sys2Proof/Word.lean ====
section
/-! DEFINITION. The word types of the SZ4160 and nothing else: registers and tags (64 bits), bytes, token values
(256 bits), token status words (16 bits), flags (7 bits) and D144 codewords (144 bits). -/

namespace Sys2Proof

/-- A register, a tag or an instruction word (R37, R43, R107). -/
abbrev Word := BitVec 64

/-- A token's tag (R43). -/
abbrev Tag := BitVec 64

/-- A byte of memory. -/
abbrev Byte := BitVec 8

/-- A token value (R38). -/
abbrev Value := BitVec 256

/-- A token status word (R40). -/
abbrev Status := BitVec 16

/-- The flags [6:0] of a status word: NV, DZ, OF, UF, NX, V, SAT from bit 6 down (Table 2.3). -/
abbrev Flags7 := BitVec 7

/-- A D144 codeword: 128 data bits and 16 check bits (R38, R246). -/
abbrev Codeword := BitVec 144

end Sys2Proof
end

