-- ==== Sys2Proof/Machine/Bits.lean ====
section
/-! DEFINITION. Bit fields, lanes and byte order: a field [hi:lo] is read as a number and written back (R7), lanes lie
little-endian in a value (R130), and bytes are joined little-endian (R130). -/

namespace Sys2Proof.Machine

/-- Field [hi:lo] of a number (R7). -/
def natField (x hi lo : Nat) : Nat := (x >>> lo) % 2 ^ (hi + 1 - lo)

/-- Field [hi:lo] of a word, as a number (R7). -/
def fld {n : Nat} (x : BitVec n) (hi lo : Nat) : Nat := natField x.toNat hi lo

/-- Bit `i` of a word. -/
def bit {n : Nat} (x : BitVec n) (i : Nat) : Bool := x.getLsbD i

/-- `x` with field [hi:lo] set to `v` (taken modulo the field's width). -/
def setFld {n : Nat} (x : BitVec n) (hi lo v : Nat) : BitVec n :=
  let m : BitVec n := BitVec.ofNat n ((2 ^ (hi + 1 - lo) - 1) <<< lo)
  (x &&& ~~~m) ||| BitVec.ofNat n ((v % 2 ^ (hi + 1 - lo)) <<< lo)

/-- `x` with bit `i` set to `b`. -/
def setBit {n : Nat} (x : BitVec n) (i : Nat) (b : Bool) : BitVec n := setFld x i i (if b then 1 else 0)

/-- A word that holds the number `v`. -/
def w64 (v : Nat) : Word := BitVec.ofNat 64 v

/-- A number of one bit. -/
def b2n (b : Bool) : Nat := if b then 1 else 0

/-- The signed value of the low `w` bits of a number. -/
def signedOf (w x : Nat) : Int :=
  let y := x % 2 ^ w
  if w = 0 then 0 else if y < 2 ^ (w - 1) then (y : Int) else (y : Int) - (2 ^ w : Nat)

/-- The low `w` bits of an integer, as a number. -/
def wrapInt (w : Nat) (x : Int) : Nat := (x % ((2 ^ w : Nat) : Int)).toNat

/-- Lane `k` of a value, lanes of `w` bits (R130). -/
def lane (w k : Nat) (v : Value) : Nat := natField v.toNat ((k + 1) * w - 1) (k * w)

/-- The value whose lanes of `w` bits are the given numbers, lane 0 first. -/
def ofLanes (w : Nat) (xs : List Nat) : Value :=
  BitVec.ofNat 256 (xs.foldr (fun x acc => acc * 2 ^ w + x % 2 ^ w) 0)

/-- Little-endian number of a list of bytes (R130). -/
def bytesToNat : List Byte → Nat
  | [] => 0
  | b :: bs => b.toNat + 256 * bytesToNat bs

/-- The low `n` bytes of a number, least significant first (R130). -/
def natToBytes : Nat → Nat → List Byte
  | 0, _ => []
  | n + 1, x => BitVec.ofNat 8 (x % 256) :: natToBytes n (x / 256)

/-- A value held within `lo` and `hi` (the "values outside are clamped" of the register tables). -/
def clampNat (lo hi v : Nat) : Nat := if v < lo then lo else if hi < v then hi else v

/-- An integer held within `lo` and `hi`. -/
def clampInt (lo hi v : Int) : Int := if v < lo then lo else if hi < v then hi else v

/-- Element `i` of a list, or `d` where there is none. -/
def nth {α : Type} (xs : List α) (i : Nat) (d : α) : α := xs.getD i d

/-- `x` placed before the first element that it may stand before. -/
def insertBy {α : Type} (le : α → α → Bool) (x : α) : List α → List α
  | [] => [x]
  | y :: ys => if le x y then x :: y :: ys else y :: insertBy le x ys

/-- The elements in order; equal ones keep theirs. -/
def sortBy {α : Type} (le : α → α → Bool) (xs : List α) : List α := xs.foldr (insertBy le) []

/-- Element `i` replaced by `f` of it. -/
def updAt {α : Type} : List α → Nat → (α → α) → List α
  | [], _, _ => []
  | x :: xs, 0, f => f x :: xs
  | x :: xs, i + 1, f => x :: updAt xs i f

/-- Integer square root by bits, `fuel` result bits from the top. -/
def isqrtGo : Nat → Nat → Nat → Nat
  | 0, _, r => r
  | f + 1, n, r =>
    let c := r + 2 ^ f
    isqrtGo f n (if c * c ≤ n then c else r)

/-- The largest number whose square does not exceed `n`. -/
def isqrt (n : Nat) : Nat := isqrtGo (n.log2 / 2 + 1) n 0

end Sys2Proof.Machine
end

