-- ==== Sys2Proof/Machine/Float.lean ====
section
/-! DEFINITION. IEEE 754-2019 binary32 and binary64 as Integer and floating-point arithmetic fixes them (R187 to R193):
exact results rounded once, the flags NV, DZ, OF, UF and NX, the NaN rules, DAZ and FTZ. -/

namespace Sys2Proof.Machine

/-- A binary format: `ew` exponent bits, `mw` fraction bits (R187). -/
structure Fmt where
  ew : Nat
  mw : Nat
  deriving DecidableEq, Repr

/-- binary32 (R187). -/
def fmt32 : Fmt := ⟨8, 23⟩

/-- binary64 (R187). -/
def fmt64 : Fmt := ⟨11, 52⟩

/-- The four roundings (R110, R187). -/
inductive RMode where
  | rne | rtz | rup | rdn
  deriving DecidableEq, Repr

/-- Rounding and the DAZ and FTZ bits of an activation (R47). -/
structure FEnv where
  rm  : RMode
  daz : Bool
  ftz : Bool
  deriving DecidableEq, Repr

/-- A result and the flags it raises. -/
structure FRes where
  bits  : Nat
  flags : Flags7
  deriving DecidableEq, Repr

def flNV : Flags7 := 0b1000000
def flDZ : Flags7 := 0b0100000
def flOF : Flags7 := 0b0010000
def flUF : Flags7 := 0b0001000
def flNX : Flags7 := 0b0000100
def flV : Flags7 := 0b0000010
def flSAT : Flags7 := 0b0000001

/-- What a pattern stands for: a NaN, an infinity, or ± m × 2^e. -/
inductive FNum where
  | nan (signalling : Bool)
  | inf (neg : Bool)
  | fin (neg : Bool) (m : Nat) (e : Int)
  deriving DecidableEq, Repr

namespace Fmt

def width (f : Fmt) : Nat := 1 + f.ew + f.mw
def bias (f : Fmt) : Int := (2 ^ (f.ew - 1) - 1 : Nat)
def signBit (f : Fmt) : Nat := 2 ^ (f.ew + f.mw)
def infBits (f : Fmt) : Nat := (2 ^ f.ew - 1) * 2 ^ f.mw
def maxBits (f : Fmt) : Nat := f.infBits - 1
def quietBit (f : Fmt) : Nat := 2 ^ (f.mw - 1)
/-- The default NaN (R192). -/
def dNaN (f : Fmt) : Nat := f.infBits + f.quietBit
def isNeg (f : Fmt) (b : Nat) : Bool := decide (b / f.signBit % 2 = 1)
def expOf (f : Fmt) (b : Nat) : Nat := b / 2 ^ f.mw % 2 ^ f.ew
def fracOf (f : Fmt) (b : Nat) : Nat := b % 2 ^ f.mw
def signed (f : Fmt) (neg : Bool) (b : Nat) : Nat := if neg then f.signBit + b else b
def isNaN (f : Fmt) (b : Nat) : Bool := decide (f.expOf b = 2 ^ f.ew - 1 ∧ f.fracOf b ≠ 0)
def isSNaN (f : Fmt) (b : Nat) : Bool := f.isNaN b && decide (f.fracOf b < f.quietBit)
def isSub (f : Fmt) (b : Nat) : Bool := decide (f.expOf b = 0 ∧ f.fracOf b ≠ 0)
/-- The NaN with its quiet bit set (R192). -/
def quiet (f : Fmt) (b : Nat) : Nat := if f.fracOf b < f.quietBit then b + f.quietBit else b

end Fmt

/-- DAZ replaces a subnormal operand by zero of its sign (R190). -/
def dazOp (f : Fmt) (env : FEnv) (b : Nat) : Nat :=
  if env.daz && f.isSub b then f.signed (f.isNeg b) 0 else b

/-- The number a pattern stands for. -/
def unpack (f : Fmt) (b : Nat) : FNum :=
  let neg := f.isNeg b
  let ex := f.expOf b
  let fr := f.fracOf b
  if ex = 2 ^ f.ew - 1 then
    if fr = 0 then .inf neg else .nan (decide (fr < f.quietBit))
  else if ex = 0 then .fin neg fr (1 - f.bias - f.mw)
  else .fin neg (2 ^ f.mw + fr) (ex - f.bias - f.mw)

/-- `m / 2^sh` rounded to an integer for a number of sign `neg`, and whether that is inexact (R187). -/
def roundShift (rm : RMode) (neg : Bool) (m : Nat) (sh : Int) : Nat × Bool :=
  if sh ≤ 0 then (m * 2 ^ (-sh).toNat, false)
  else
    let d := 2 ^ sh.toNat
    let q := m / d
    let r := m % d
    let up : Bool :=
      match rm with
      | .rne => decide (2 * r > d ∨ (2 * r = d ∧ q % 2 = 1))
      | .rtz => false
      | .rup => !neg && decide (r ≠ 0)
      | .rdn => neg && decide (r ≠ 0)
    (if up then q + 1 else q, decide (r ≠ 0))

/-- What an overflow delivers (R188). -/
def overflowBits (f : Fmt) (rm : RMode) (neg : Bool) : Nat :=
  let toInf : Bool :=
    match rm with
    | .rne => true
    | .rtz => false
    | .rup => !neg
    | .rdn => neg
  f.signed neg (if toInf then f.infBits else f.maxBits)

/-- ± m × 2^e, rounded once to the format, with the flags OF, UF and NX and the FTZ rule (R187 to R190). -/
def roundFin (f : Fmt) (env : FEnv) (neg : Bool) (m : Nat) (e : Int) : FRes :=
  if m = 0 then ⟨f.signed neg 0, 0⟩
  else
    let emin : Int := 1 - f.bias
    let msb : Int := m.log2
    let u := roundShift env.rm neg m (msb - f.mw)
    let eU : Int := if u.1 = 2 ^ (f.mw + 1) then msb + e + 1 else msb + e
    if eU < emin then
      if env.ftz then ⟨f.signed neg 0, flUF ||| flNX⟩
      else
        let q := roundShift env.rm neg m (emin - f.mw - e)
        ⟨f.signed neg q.1, if q.2 then flUF ||| flNX else 0⟩
    else if f.bias < eU then ⟨overflowBits f env.rm neg, flOF ||| flNX⟩
    else
      let frac := if u.1 = 2 ^ (f.mw + 1) then 0 else u.1 - 2 ^ f.mw
      ⟨f.signed neg ((eU + f.bias).toNat * 2 ^ f.mw + frac), if u.2 then flNX else 0⟩

/-- The NaN an operation delivers: its first NaN operand, quieted (R192). -/
def nanResult (f : Fmt) (ops : List Nat) : Nat :=
  match ops.find? (fun b => f.isNaN b) with
  | some b => f.quiet b
  | none => f.dNaN

/-- NV where an operand is a signalling NaN (R189). -/
def snanFlag (f : Fmt) (ops : List Nat) : Flags7 := if ops.any (fun b => f.isSNaN b) then flNV else 0

/-- The sign of an exact zero sum of two terms (R195). -/
def zeroSumSign (rm : RMode) (n1 n2 : Bool) : Bool :=
  if n1 = n2 then n1 else decide (rm = .rdn)

/-- Signed sum of two finite terms, rounded once. -/
def addFin (f : Fmt) (env : FEnv) (n1 : Bool) (m1 : Nat) (e1 : Int) (n2 : Bool) (m2 : Nat) (e2 : Int) : FRes :=
  let e := min e1 e2
  let a : Int := (m1 * 2 ^ (e1 - e).toNat : Nat)
  let b : Int := (m2 * 2 ^ (e2 - e).toNat : Nat)
  let s : Int := (if n1 then -a else a) + (if n2 then -b else b)
  if s = 0 then
    if m1 = 0 ∧ m2 = 0 then ⟨f.signed (zeroSumSign env.rm n1 n2) 0, 0⟩
    else ⟨f.signed (decide (env.rm = .rdn)) 0, 0⟩
  else roundFin f env (decide (s < 0)) s.natAbs e

/-- L + R (R151, R187, R192). -/
def fAdd (f : Fmt) (env : FEnv) (l r : Nat) : FRes :=
  let a := dazOp f env l
  let b := dazOp f env r
  match unpack f a, unpack f b with
  | .nan _, _ => ⟨nanResult f [a, b], snanFlag f [a, b]⟩
  | _, .nan _ => ⟨nanResult f [a, b], snanFlag f [a, b]⟩
  | .inf s, .inf t => if s = t then ⟨a, 0⟩ else ⟨f.dNaN, flNV⟩
  | .inf _, .fin .. => ⟨a, 0⟩
  | .fin .., .inf _ => ⟨b, 0⟩
  | .fin s m e, .fin t n g => addFin f env s m e t n g

/-- The sign bit inverted. -/
def fNeg (f : Fmt) (b : Nat) : Nat := if f.isNeg b then b - f.signBit else b + f.signBit

/-- The sign bit cleared. -/
def fAbs (f : Fmt) (b : Nat) : Nat := if f.isNeg b then b - f.signBit else b

/-- L − R: a NaN operand keeps its sign (R192). -/
def fSub (f : Fmt) (env : FEnv) (l r : Nat) : FRes :=
  if f.isNaN r then fAdd f env l r else fAdd f env l (fNeg f r)

/-- L × R. -/
def fMul (f : Fmt) (env : FEnv) (l r : Nat) : FRes :=
  let a := dazOp f env l
  let b := dazOp f env r
  let s := f.isNeg a != f.isNeg b
  match unpack f a, unpack f b with
  | .nan _, _ => ⟨nanResult f [a, b], snanFlag f [a, b]⟩
  | _, .nan _ => ⟨nanResult f [a, b], snanFlag f [a, b]⟩
  | .inf _, .inf _ => ⟨f.signed s f.infBits, 0⟩
  | .inf _, .fin _ n _ => if n = 0 then ⟨f.dNaN, flNV⟩ else ⟨f.signed s f.infBits, 0⟩
  | .fin _ m _, .inf _ => if m = 0 then ⟨f.dNaN, flNV⟩ else ⟨f.signed s f.infBits, 0⟩
  | .fin _ m e, .fin _ n g => roundFin f env s (m * n) (e + g)

/-- L ÷ R, correctly rounded: the quotient is taken with spare bits and a sticky bit. -/
def fDiv (f : Fmt) (env : FEnv) (l r : Nat) : FRes :=
  let a := dazOp f env l
  let b := dazOp f env r
  let s := f.isNeg a != f.isNeg b
  match unpack f a, unpack f b with
  | .nan _, _ => ⟨nanResult f [a, b], snanFlag f [a, b]⟩
  | _, .nan _ => ⟨nanResult f [a, b], snanFlag f [a, b]⟩
  | .inf _, .inf _ => ⟨f.dNaN, flNV⟩
  | .inf _, .fin .. => ⟨f.signed s f.infBits, 0⟩
  | .fin .., .inf _ => ⟨f.signed s 0, 0⟩
  | .fin _ m e, .fin _ n g =>
    if n = 0 then
      if m = 0 then ⟨f.dNaN, flNV⟩ else ⟨f.signed s f.infBits, flDZ⟩
    else if m = 0 then ⟨f.signed s 0, 0⟩
    else
      let k := f.mw + 4 + n.log2
      let q := m * 2 ^ k / n
      let sticky := if m * 2 ^ k % n = 0 then 0 else 1
      roundFin f env s (2 * q + sticky) (e - g - k - 1)

/-- √L, correctly rounded; √−0 = −0. -/
def fSqrt (f : Fmt) (env : FEnv) (l : Nat) : FRes :=
  let a := dazOp f env l
  match unpack f a with
  | .nan _ => ⟨nanResult f [a], snanFlag f [a]⟩
  | .inf s => if s then ⟨f.dNaN, flNV⟩ else ⟨a, 0⟩
  | .fin s m e =>
    if m = 0 then ⟨a, 0⟩
    else if s then ⟨f.dNaN, flNV⟩
    else
      let k0 := 2 * f.mw + 8
      let k := if (e - k0) % 2 = 0 then k0 else k0 + 1
      let n := m * 2 ^ k
      let q := isqrt n
      roundFin f env false (2 * q + (if q * q = n then 0 else 1)) ((e - k) / 2 - 1)

/-- ± (L × R) ± C rounded once: `negP` negates the product, `negC` the addend (R187, R192). -/
def fFused (f : Fmt) (env : FEnv) (negP negC : Bool) (l r c : Nat) : FRes :=
  let a := dazOp f env l
  let b := dazOp f env r
  let d := dazOp f env c
  let prodInvalid : Bool :=
    match unpack f a, unpack f b with
    | .inf _, .fin _ n _ => decide (n = 0)
    | .fin _ m _, .inf _ => decide (m = 0)
    | _, _ => false
  if f.isNaN a || f.isNaN b || f.isNaN d then
    ⟨nanResult f [a, b, d], snanFlag f [a, b, d] ||| (if prodInvalid then flNV else 0)⟩
  else if prodInvalid then ⟨f.dNaN, flNV⟩
  else
    let ps := (f.isNeg a != f.isNeg b) != negP
    let cs := f.isNeg d != negC
    match unpack f a, unpack f b, unpack f d with
    | .fin _ m e, .fin _ n g, .fin _ k h => addFin f env ps (m * n) (e + g) cs k h
    | .fin .., .fin .., _ => ⟨f.signed cs f.infBits, 0⟩
    | _, _, .inf _ => if ps = cs then ⟨f.signed ps f.infBits, 0⟩ else ⟨f.dNaN, flNV⟩
    | _, _, _ => ⟨f.signed ps f.infBits, 0⟩

def fFma (f : Fmt) (env : FEnv) (l r c : Nat) : FRes := fFused f env false false l r c
def fFms (f : Fmt) (env : FEnv) (l r c : Nat) : FRes := fFused f env false true l r c
def fFnma (f : Fmt) (env : FEnv) (l r c : Nat) : FRes := fFused f env true false l r c

/-- A key that orders the patterns of numbers as `minimumNumber` does: −0 below +0. -/
def orderKey (f : Fmt) (b : Nat) : Int :=
  if f.isNeg b then -((fAbs f b : Nat) : Int) - 1 else (b : Int)

/-- minimumNumber and maximumNumber (R151, R191). -/
def fMinMax (f : Fmt) (env : FEnv) (wantMax : Bool) (l r : Nat) : FRes :=
  let a := dazOp f env l
  let b := dazOp f env r
  let fl := snanFlag f [a, b]
  match f.isNaN a, f.isNaN b with
  | true, true => ⟨nanResult f [a, b], fl⟩
  | true, false => ⟨b, fl⟩
  | false, true => ⟨a, fl⟩
  | false, false =>
    let aLow := decide (orderKey f a ≤ orderKey f b)
    ⟨if aLow != wantMax then a else b, 0⟩

/-- A key that orders numbers by value: −0 and +0 equal. -/
def valueKey (f : Fmt) (b : Nat) : Int :=
  if f.isNeg b then -((fAbs f b : Nat) : Int) else (b : Int)

/-- The compares of R150 on floating operands: relation and flags. -/
inductive FCmp where
  | eq | ne | lt | le | un
  deriving DecidableEq, Repr

def fCompare (f : Fmt) (env : FEnv) (c : FCmp) (l r : Nat) : Bool × Flags7 :=
  let a := dazOp f env l
  let b := dazOp f env r
  let anyNaN := f.isNaN a || f.isNaN b
  let quietFl := snanFlag f [a, b]
  let loudFl : Flags7 := if anyNaN then flNV else 0
  match c with
  | .eq => (!anyNaN && decide (valueKey f a = valueKey f b), quietFl)
  | .ne => (anyNaN || decide (valueKey f a ≠ valueKey f b), quietFl)
  | .lt => (!anyNaN && decide (valueKey f a < valueKey f b), loudFl)
  | .le => (!anyNaN && decide (valueKey f a ≤ valueKey f b), loudFl)
  | .un => (anyNaN, quietFl)

/-- Rounds to an integral value; NX if the value changes (R151). -/
def fRint (f : Fmt) (env : FEnv) (l : Nat) : FRes :=
  let a := dazOp f env l
  match unpack f a with
  | .nan _ => ⟨nanResult f [a], snanFlag f [a]⟩
  | .inf _ => ⟨a, 0⟩
  | .fin s m e =>
    if 0 ≤ e then ⟨a, 0⟩
    else
      let q := roundShift env.rm s m (-e)
      let r := roundFin f env s q.1 0
      ⟨r.bits, if q.2 then flNX else 0⟩

/-- An integer, rounded to the format (R152). -/
def fOfInt (f : Fmt) (env : FEnv) (x : Int) : FRes := roundFin f env (decide (x < 0)) x.natAbs 0

/-- A number rounded to an integer of `w` bits, signed or not (R152). -/
def fToInt (f : Fmt) (env : FEnv) (sgn : Bool) (w : Nat) (l : Nat) : FRes :=
  let lo : Int := if sgn then -((2 ^ (w - 1) : Nat) : Int) else 0
  let hi : Int := if sgn then ((2 ^ (w - 1) : Nat) : Int) - 1 else ((2 ^ w : Nat) : Int) - 1
  let a := dazOp f env l
  match unpack f a with
  | .nan _ => ⟨0, flNV⟩
  | .inf s => ⟨wrapInt w (if s then lo else hi), flNV⟩
  | .fin s m e =>
    let q := roundShift env.rm s m (-e)
    let v : Int := if s then -(q.1 : Int) else (q.1 : Int)
    if v < lo then ⟨wrapInt w lo, flNV⟩
    else if hi < v then ⟨wrapInt w hi, flNV⟩
    else ⟨wrapInt w v, if q.2 then flNX else 0⟩

/-- Format to format (R152); NaNs carry their fraction as R193 lays down. -/
def fConvert (src dst : Fmt) (env : FEnv) (l : Nat) : FRes :=
  let a := dazOp src env l
  match unpack src a with
  | .nan sg =>
    let fr := src.fracOf a
    let fr' := if src.mw ≤ dst.mw then fr * 2 ^ (dst.mw - src.mw) else fr / 2 ^ (src.mw - dst.mw)
    ⟨dst.signed (src.isNeg a) (dst.quiet (dst.infBits + fr' % dst.quietBit)), if sg then flNV else 0⟩
  | .inf s => ⟨dst.signed s dst.infBits, 0⟩
  | .fin s m e => roundFin dst env s m e

/-- The one-hot class of R152. -/
def fClass (f : Fmt) (b : Nat) : Nat :=
  let n := f.isNeg b
  if f.isSNaN b then 1
  else if f.isNaN b then 2
  else if fAbs f b = f.infBits then (if n then 4 else 512)
  else if fAbs f b = 0 then (if n then 32 else 64)
  else if f.isSub b then (if n then 16 else 128)
  else (if n then 8 else 256)

end Sys2Proof.Machine
end

