-- ==== Sys2Proof/Machine/Flags.lean ====
section
/-! DEFINITION. The integer results and flags V, SAT and DZ of one lane (R148, R183 to R186), and the status word's
flag fields (R40, R41). -/

namespace Sys2Proof.Machine

/-- A lane result: its low bits and the flags it raises (R183). -/
structure LaneRes where
  bits  : Nat
  flags : Flags7
  deriving DecidableEq, Repr

/-- The value of a lane under its type (R148). -/
def laneInt (sgn : Bool) (w x : Nat) : Int := if sgn then signedOf w x else ((x % 2 ^ w : Nat) : Int)

/-- MIN of the lane type, 0 for an unsigned type. -/
def laneMin (sgn : Bool) (w : Nat) : Int := if sgn then -((2 ^ (w - 1) : Nat) : Int) else 0

/-- MAX of a signed lane type, UMAX of an unsigned one. -/
def laneMax (sgn : Bool) (w : Nat) : Int :=
  if sgn then ((2 ^ (w - 1) : Nat) : Int) - 1 else ((2 ^ w : Nat) : Int) - 1

/-- The exact result wrapped to the lane, V where it is not representable (R183). -/
def wrapRes (sgn : Bool) (w : Nat) (x : Int) : LaneRes :=
  ⟨wrapInt w x, if x < laneMin sgn w ∨ laneMax sgn w < x then flV else 0⟩

/-- The exact result clamped to the lane, SAT where it is clamped (R183). -/
def satRes (sgn : Bool) (w : Nat) (x : Int) : LaneRes :=
  ⟨wrapInt w (clampInt (laneMin sgn w) (laneMax sgn w) x), if x < laneMin sgn w ∨ laneMax sgn w < x then flSAT else 0⟩

def intAdd (sgn : Bool) (w l r : Nat) : LaneRes := wrapRes sgn w (laneInt sgn w l + laneInt sgn w r)
def intSub (sgn : Bool) (w l r : Nat) : LaneRes := wrapRes sgn w (laneInt sgn w l - laneInt sgn w r)
def intAdds (sgn : Bool) (w l r : Nat) : LaneRes := satRes sgn w (laneInt sgn w l + laneInt sgn w r)
def intSubs (sgn : Bool) (w l r : Nat) : LaneRes := satRes sgn w (laneInt sgn w l - laneInt sgn w r)
def intMul (sgn : Bool) (w l r : Nat) : LaneRes := wrapRes sgn w (laneInt sgn w l * laneInt sgn w r)
def intMuls (sgn : Bool) (w l r : Nat) : LaneRes := satRes sgn w (laneInt sgn w l * laneInt sgn w r)

/-- High `w` bits of the `2w`-bit product; no flag (R183). -/
def intMulh (sgn : Bool) (w l r : Nat) : LaneRes :=
  ⟨wrapInt (2 * w) (laneInt sgn w l * laneInt sgn w r) / 2 ^ w, 0⟩

def intNeg (sgn : Bool) (w l : Nat) : LaneRes := wrapRes sgn w (-laneInt sgn w l)
def intNegs (sgn : Bool) (w l : Nat) : LaneRes := satRes sgn w (-laneInt sgn w l)
def intAbs (sgn : Bool) (w l : Nat) : LaneRes := wrapRes sgn w (laneInt sgn w l).natAbs
def intAbss (sgn : Bool) (w l : Nat) : LaneRes := satRes sgn w (laneInt sgn w l).natAbs

/-- Truncated quotient with the edge results of Table 6.1. -/
def intDiv (sgn : Bool) (w l r : Nat) : LaneRes :=
  let a := laneInt sgn w l
  let b := laneInt sgn w r
  if b = 0 then ⟨wrapInt w (if a < 0 then laneMin sgn w else laneMax sgn w), flDZ⟩
  else wrapRes sgn w (Int.tdiv a b)

/-- Remainder with the sign of L; a zero divisor gives L and DZ (Table 6.1). -/
def intRem (sgn : Bool) (w l r : Nat) : LaneRes :=
  let a := laneInt sgn w l
  let b := laneInt sgn w r
  if b = 0 then ⟨l % 2 ^ w, flDZ⟩ else ⟨wrapInt w (Int.tmod a b), 0⟩

def intMin (sgn : Bool) (w l r : Nat) : LaneRes := ⟨if laneInt sgn w l ≤ laneInt sgn w r then l else r, 0⟩
def intMax (sgn : Bool) (w l r : Nat) : LaneRes := ⟨if laneInt sgn w l ≤ laneInt sgn w r then r else l, 0⟩
def intAnd (_ : Bool) (_ l r : Nat) : LaneRes := ⟨l &&& r, 0⟩
def intOr (_ : Bool) (_ l r : Nat) : LaneRes := ⟨l ||| r, 0⟩
def intXor (_ : Bool) (_ l r : Nat) : LaneRes := ⟨l ^^^ r, 0⟩
def intNot (_ : Bool) (w l : Nat) : LaneRes := ⟨2 ^ w - 1 - l % 2 ^ w, 0⟩
def intAndn (_ : Bool) (w l r : Nat) : LaneRes := ⟨l &&& (2 ^ w - 1 - r % 2 ^ w), 0⟩

/-- Shifts take the whole of R, unmasked (R186, Table 6.2). -/
def intShl (_ : Bool) (w l r : Nat) : LaneRes := ⟨if w ≤ r then 0 else l * 2 ^ r % 2 ^ w, 0⟩
def intShr (_ : Bool) (w l r : Nat) : LaneRes := ⟨if w ≤ r then 0 else l / 2 ^ r, 0⟩
def intSar (_ : Bool) (w l r : Nat) : LaneRes :=
  let a := signedOf w l
  ⟨if w ≤ r then (if a < 0 then 2 ^ w - 1 else 0) else wrapInt w (a / ((2 ^ r : Nat) : Int)), 0⟩
def intRol (_ : Bool) (w l r : Nat) : LaneRes :=
  let k := r % w
  ⟨(l * 2 ^ k % 2 ^ w) ||| (l % 2 ^ w) / 2 ^ (w - k), 0⟩
def intRor (sgn : Bool) (w l r : Nat) : LaneRes := intRol sgn w l (w - r % w)

/-- Leading zeros of a `w`-bit number, `w` for 0. -/
def clzNat (w x : Nat) : Nat := if x % 2 ^ w = 0 then w else w - 1 - (x % 2 ^ w).log2

/-- Set bits among the low `w` bits. -/
def popNat : Nat → Nat → Nat
  | 0, _ => 0
  | w + 1, x => x % 2 + popNat w (x / 2)

def intClz (_ : Bool) (w l : Nat) : LaneRes := ⟨clzNat w l, 0⟩
def intPopc (_ : Bool) (w l : Nat) : LaneRes := ⟨popNat w l, 0⟩

/-- Integer to integer (R152): the low bits, V where the value is not representable. -/
def intConvert (srcSgn : Bool) (srcW : Nat) (sgn : Bool) (w l : Nat) : LaneRes :=
  wrapRes sgn w (laneInt srcSgn srcW l)

/-- The OR of a list of flags (R197). -/
def orFlags (fs : List Flags7) : Flags7 := fs.foldr (· ||| ·) 0

/-- Fields of a status word (Table 2.3). -/
def stType (s : Status) : Nat := fld s 15 12
def stExc (s : Status) : Bool := bit s 11
def stCtx (s : Status) : Bool := bit s 10
def stNd (s : Status) : Bool := bit s 9
def stFlags (s : Status) : Flags7 := BitVec.ofNat 7 (fld s 6 0)

/-- A status word from its fields; [8:7] are 0 (Table 2.3). -/
def mkStatus (ty : Nat) (exc ctx nd : Bool) (fl : Flags7) : Status :=
  BitVec.ofNat 16 (ty % 16 * 2 ^ 12 + b2n exc * 2 ^ 11 + b2n ctx * 2 ^ 10 + b2n nd * 2 ^ 9 + fl.toNat)

end Sys2Proof.Machine
end

