-- ==== Sys2Proof/Machine/Micro.lean ====
section
/-! DEFINITION. The fixed sequences of the microcoded signal operations: the complex product, the butterflies, the
quadrature stage, the cubic resampler and the running moments (R158 to R161), and the CORDIC and reciprocal
square-root sequences (R206 to R208).  Each step is rounded under the rounding in force (R157). -/

namespace Sys2Proof.Machine

/-- A complex number as two binary32 patterns (R109, R130). -/
structure Cpx where
  re : Nat
  im : Nat
  deriving DecidableEq, Repr

/-- A complex result and the flags of its steps. -/
structure CRes where
  val   : Cpx
  flags : Flags7
  deriving DecidableEq, Repr

def cAdd (env : FEnv) (a b : Cpx) : CRes :=
  let x := fAdd fmt32 env a.re b.re
  let y := fAdd fmt32 env a.im b.im
  ⟨⟨x.bits, y.bits⟩, x.flags ||| y.flags⟩

def cSub (env : FEnv) (a b : Cpx) : CRes :=
  let x := fSub fmt32 env a.re b.re
  let y := fSub fmt32 env a.im b.im
  ⟨⟨x.bits, y.bits⟩, x.flags ||| y.flags⟩

/-- Multiplication by i exchanges the parts and negates one of them exactly (R158). -/
def cTimesI (a : Cpx) : Cpx := ⟨fNeg fmt32 a.im, a.re⟩

/-- CMUL of one lane (R158). -/
def cMul (env : FEnv) (a w : Cpx) : CRes :=
  let p := fMul fmt32 env a.im w.im
  let q := fMul fmt32 env a.im w.re
  let x := fFma fmt32 env a.re w.re (fNeg fmt32 p.bits)
  let y := fFma fmt32 env a.re w.im q.bits
  ⟨⟨x.bits, y.bits⟩, p.flags ||| q.flags ||| x.flags ||| y.flags⟩

/-- Lane `k` of a complex value. -/
def cLane (k : Nat) (v : Value) : Cpx := ⟨lane 32 (2 * k) v, lane 32 (2 * k + 1) v⟩

/-- The value of a list of complex lanes. -/
def ofCpx (xs : List Cpx) : Value := ofLanes 32 (xs.flatMap (fun c => [c.re, c.im]))

/-- A value and the flags of its lanes, lane 0 first. -/
structure LanesRes where
  val   : Value
  flags : List Flags7
  deriving DecidableEq, Repr

/-- FFT4, or IFFT4 where `inverse` (R158). -/
def fft4 (env : FEnv) (inverse : Bool) (l r : Value) : LanesRes :=
  let t := fun j => cMul env (cLane j l) (cLane j r)
  let t0 := t 0
  let t1 := t 1
  let t2 := t 2
  let t3 := t 3
  let u0 := cAdd env t0.val t2.val
  let u1 := cSub env t0.val t2.val
  let u2 := cAdd env t1.val t3.val
  let u3 := cSub env t1.val t3.val
  let r0 := cAdd env u0.val u2.val
  let r2 := cSub env u0.val u2.val
  let iu3 := cTimesI u3.val
  let m := cSub env u1.val iu3
  let p := cAdd env u1.val iu3
  let r1 := if inverse then p else m
  let r3 := if inverse then m else p
  ⟨ofCpx [r0.val, r1.val, r2.val, r3.val],
   [t0.flags ||| u0.flags ||| u2.flags ||| r0.flags, t1.flags ||| u1.flags ||| u3.flags ||| r1.flags,
    t2.flags ||| r2.flags, t3.flags ||| r3.flags]⟩

/-- One lane of HILB: an eight-tap sum in fixed order (R159). -/
def hilbLane (env : FEnv) (c z : List Nat) (j : Nat) : FRes :=
  let acc0 := fMul fmt32 env (nth c 0 0) (nth z (j + 8) 0)
  (List.range 7).foldl
    (fun acc k =>
      let a := fFma fmt32 env (nth c (k + 1) 0) (nth z (j + 7 - k) 0) acc.bits
      ⟨a.bits, acc.flags ||| a.flags⟩) acc0

/-- HILB (R159): R holds the eight older samples, L the eight new ones, C the coefficients. -/
def hilb (env : FEnv) (l r c : Value) : LanesRes :=
  let z := (List.range 8).map (fun k => lane 32 k r) ++ (List.range 8).map (fun k => lane 32 k l)
  let cs := (List.range 8).map (fun k => lane 32 k c)
  let rs := (List.range 8).map (hilbLane env cs z)
  ⟨ofLanes 32 (rs.map (·.bits)), rs.map (·.flags)⟩

/-- ⌊p⌋ of a finite binary64 number. -/
def floor64 (b : Nat) : Int :=
  match unpack fmt64 b with
  | .fin s m e =>
    let v : Int := if s then -(m : Int) else m
    if 0 ≤ e then v * (2 ^ e.toNat : Nat) else v / ((2 ^ (-e).toNat : Nat) : Int)
  | _ => 0

/-- RESAMP (R160): `p` is the binary64 position, `w` the window of eight samples. -/
def resamp (env : FEnv) (p : Nat) (w : Value) : FRes :=
  let bad : FRes := ⟨0x7FC00000, flNV⟩
  let go (m : Nat) : FRes :=
    let mB := (fOfInt fmt64 ⟨.rne, false, false⟩ m).bits
    let t64 := (fSub fmt64 ⟨.rne, false, false⟩ p mB).bits
    let t := fConvert fmt64 fmt32 env t64
    let g0 := lane 32 (m - 1) w
    let g1 := lane 32 m w
    let g2 := lane 32 (m + 1) w
    let g3 := lane 32 (m + 2) w
    let k (x : Int) : Nat := (fOfInt fmt32 ⟨.rne, false, false⟩ x).bits
    let half : Nat := 0x3F000000
    let a1 := fFma fmt32 env (k 3) g1 (fNeg fmt32 g0)
    let a2 := fFma fmt32 env (k (-3)) g2 a1.bits
    let a3 := fAdd fmt32 env a2.bits g3
    let a := fMul fmt32 env half a3.bits
    let b1 := fMul fmt32 env (k 2) g0
    let b2 := fFma fmt32 env (k (-5)) g1 b1.bits
    let b3 := fFma fmt32 env (k 4) g2 b2.bits
    let b4 := fSub fmt32 env b3.bits g3
    let b := fMul fmt32 env half b4.bits
    let c1 := fSub fmt32 env g2 g0
    let c := fMul fmt32 env half c1.bits
    let r1 := fFma fmt32 env a.bits t.bits b.bits
    let r2 := fFma fmt32 env r1.bits t.bits c.bits
    let r3 := fFma fmt32 env r2.bits t.bits g1
    ⟨r3.bits, orFlags [t.flags, a1.flags, a2.flags, a3.flags, a.flags, b1.flags, b2.flags, b3.flags, b4.flags, b.flags,
      c1.flags, c.flags, r1.flags, r2.flags, r3.flags]⟩
  match unpack fmt64 p with
  | .fin .. =>
    let m := floor64 p
    if m < 1 ∨ 5 < m then bad else go m.toNat
  | _ => bad

/-- MOMENT (R161): the new state lanes (n, μ, S2, S3) from the value `x` and the old state. -/
def moment (env : FEnv) (x : Nat) (st : Value) : LanesRes :=
  let n := lane 64 0 st
  let mu := lane 64 1 st
  let s2 := lane 64 2 st
  let s3 := lane 64 3 st
  let k (x : Int) : Nat := (fOfInt fmt64 ⟨.rne, false, false⟩ x).bits
  let n1 := fAdd fmt64 env n (k 1)
  let d := fSub fmt64 env x mu
  let dn := fDiv fmt64 env d.bits n1.bits
  let t1 := fMul fmt64 env d.bits dn.bits
  let tt := fMul fmt64 env t1.bits n
  let a := fMul fmt64 env tt.bits dn.bits
  let b := fSub fmt64 env n (k 1)
  let s3a := fFma fmt64 env a.bits b.bits s3
  let c := fMul fmt64 env (k (-3)) dn.bits
  let s3b := fFma fmt64 env c.bits s2 s3a.bits
  let s2' := fAdd fmt64 env s2 tt.bits
  let mu' := fAdd fmt64 env mu dn.bits
  ⟨ofLanes 64 [n1.bits, mu'.bits, s2'.bits, s3b.bits],
   [orFlags [n1.flags, d.flags, dn.flags, t1.flags, tt.flags, a.flags, b.flags, s3a.flags, c.flags, s3b.flags,
     s2'.flags, mu'.flags]]⟩

/-- ATAN[i] of R206: atan(2⁻ⁱ) × 2⁶² to the nearest integer, i = 0 to 31. -/
def atanTable : List Int :=
  [0x3243f6a8885a308d, 0x1dac670561bb4f69, 0xfadbafc96406eb1, 0x7f56ea6ab0bdb72, 0x3feab76e59fbd39, 0x1ffd55bba97624b,
   0xfffaaadddb94d6, 0x7fff5556eeea5d, 0x3fffeaaab7776e, 0x1ffffd5555bbbc, 0xfffffaaaaadde, 0x7fffff555556f,
   0x3fffffeaaaaab, 0x1ffffffd55555, 0xfffffffaaaab, 0x7fffffff5555, 0x3fffffffeaab, 0x1ffffffffd55, 0xfffffffffab,
   0x7fffffffff5, 0x3ffffffffff, 0x20000000000, 0x10000000000, 0x8000000000, 0x4000000000, 0x2000000000,
   0x1000000000, 0x800000000, 0x400000000, 0x200000000, 0x100000000, 0x80000000]

/-- KINV of R206. -/
def kinv : Int := 0x26dd3b6a10d7969a

/-- PI of R206: π × 2⁶² to the nearest integer. -/
def piFix : Int := 0xc90fdaa22168c235

/-- T[k] × 2¹⁰ of R206: 1 ÷ √(1 + (k + 0.5) ÷ 64) to the nearest multiple of 2⁻¹⁰. -/
def seedTable (k : Nat) : Nat := (isqrt (2 ^ 29 / (129 + 2 * k)) + 1) / 2

/-- The CORDIC registers X, Y, Z of R207. -/
structure Cordic where
  x : Int
  y : Int
  z : Int
  deriving DecidableEq, Repr

/-- One vectoring step of R207. -/
def cordicStep (c : Cordic) (i : Nat) : Cordic :=
  let sx := c.x / ((2 ^ i : Nat) : Int)
  let sy := c.y / ((2 ^ i : Nat) : Int)
  let a := nth atanTable i 0
  if 0 ≤ c.y then ⟨c.x + sy, c.y - sx, c.z + a⟩ else ⟨c.x - sy, c.y + sx, c.z - a⟩

/-- The 32 steps and the residual step of R207 on two magnitudes m × 2^e, with their common exponent k. -/
def cordicRun (mx : Nat) (ex : Int) (my : Nat) (ey : Int) (k : Int) : Cordic :=
  let fix (m : Nat) (e : Int) : Int :=
    let sh := 62 - k + e
    if 0 ≤ sh then (m * 2 ^ sh.toNat : Nat) else (m / 2 ^ (-sh).toNat : Nat)
  let c := (List.range 32).foldl cordicStep ⟨fix mx ex, fix my ey, 0⟩
  if c.x = 0 then c else { c with z := c.z + Int.tdiv (c.y * ((2 ^ 62 : Nat) : Int)) c.x }

/-- Exponent of the larger of two magnitudes, not both zero. -/
def topExp (mx : Nat) (ex : Int) (my : Nat) (ey : Int) : Int :=
  if mx = 0 then my.log2 + ey
  else if my = 0 then mx.log2 + ex
  else max (mx.log2 + ex) (my.log2 + ey)

/-- m × 2^e < n × 2^g. -/
def magLt (m : Nat) (e : Int) (n : Nat) (g : Int) : Bool :=
  let b := min e g
  decide (m * 2 ^ (e - b).toNat < n * 2 ^ (g - b).toNat)

/-- The magnitude and exponent of a finite pattern. -/
def finMag (f : Fmt) (b : Nat) : Nat × Int :=
  match unpack f b with
  | .fin _ m e => (m, e)
  | _ => (0, 0)

/-- CMAG of one lane (R207); the imaginary part of the result is +0. -/
def cMag (env : FEnv) (v : Cpx) : FRes :=
  let a := dazOp fmt32 env v.re
  let b := dazOp fmt32 env v.im
  let fl := snanFlag fmt32 [a, b]
  if fAbs fmt32 a = fmt32.infBits ∨ fAbs fmt32 b = fmt32.infBits then ⟨fmt32.infBits, fl⟩
  else if fmt32.isNaN a || fmt32.isNaN b then ⟨nanResult fmt32 [a, b], fl⟩
  else
    let x := finMag fmt32 a
    let y := finMag fmt32 b
    if x.1 = 0 ∧ y.1 = 0 then ⟨0, fl⟩
    else
      let sw := magLt x.1 x.2 y.1 y.2
      let p := if sw then y else x
      let q := if sw then x else y
      let k := topExp p.1 p.2 q.1 q.2
      let c := cordicRun p.1 p.2 q.1 q.2 k
      let r := roundFin fmt32 env false (c.x * kinv).toNat (k - 124)
      ⟨r.bits, fl ||| r.flags⟩

/-- CPHASE of one lane (R207). -/
def cPhase (env : FEnv) (v : Cpx) : FRes :=
  let a := dazOp fmt32 env v.re
  let b := dazOp fmt32 env v.im
  let fl := snanFlag fmt32 [a, b]
  if fmt32.isNaN a || fmt32.isNaN b then ⟨nanResult fmt32 [a, b], fl⟩
  else
    let ia := decide (fAbs fmt32 a = fmt32.infBits)
    let ib := decide (fAbs fmt32 b = fmt32.infBits)
    let x : Nat × Int := if ia then (1, 0) else if ib then (0, 0) else finMag fmt32 a
    let y : Nat × Int := if ib then (1, 0) else if ia then (0, 0) else finMag fmt32 b
    if x.1 = 0 ∧ y.1 = 0 then ⟨0, fl⟩
    else
      let k := topExp x.1 x.2 y.1 y.2
      let c := cordicRun x.1 x.2 y.1 y.2 k
      let neg := fmt32.isNeg b && decide (y.1 ≠ 0)
      let r :=
        if !fmt32.isNeg a && magLt y.1 y.2 x.1 (x.2 - 20) then
          let w : FEnv := ⟨.rne, false, false⟩
          let q := fDiv fmt64 w (roundFin fmt64 w false y.1 y.2).bits (roundFin fmt64 w false x.1 x.2).bits
          let z := finMag fmt64 q.bits
          roundFin fmt32 env neg z.1 z.2
        else
          let z : Int := if fmt32.isNeg a then piFix - c.z else c.z
          roundFin fmt32 env (decide (z < 0) != neg) z.natAbs (-62)
      ⟨r.bits, fl ||| r.flags⟩

/-- The Newton steps of R208 in binary64, the last one under `last`. -/
def frsqrtIter (h : Nat) (last : FEnv) : Nat → Nat → FRes
  | 0, y => ⟨y, 0⟩
  | n + 1, y =>
    let w : FEnv := ⟨.rne, false, false⟩
    let t := (fMul fmt64 w y y).bits
    let r := (fFnma fmt64 w h t 0x3FE0000000000000).bits
    let z := fFma fmt64 (if n = 0 then last else w) y r y
    if n = 0 then z else frsqrtIter h last n z.bits

/-- FRSQRT of one lane (R208). -/
def fRsqrt (f : Fmt) (env : FEnv) (l : Nat) : FRes :=
  let a := dazOp f env l
  match unpack f a with
  | .nan _ => ⟨nanResult f [a], snanFlag f [a]⟩
  | .inf s => if s then ⟨f.dNaN, flNV⟩ else ⟨f.signed false 0, 0⟩
  | .fin s m x =>
    if m = 0 then ⟨f.signed s f.infBits, flDZ⟩
    else if s then ⟨f.dNaN, flNV⟩
    else
      let w : FEnv := ⟨.rne, false, false⟩
      let top : Int := m.log2 + x
      let e := top / 2
      let mant := x - 2 * e
      -- x = (m × 2^mant) × 4^e with m × 2^mant in [1, 4)
      let one := decide (m = 2 ^ m.log2 ∧ top = 2 * e)
      if one then ⟨(roundFin f env false 1 (-e)).bits, 0⟩
      else
        let h := (roundFin fmt64 w false m (mant - 1)).bits
        let k : Nat :=
          let sh := mant + 6
          let v := if 0 ≤ sh then m * 2 ^ sh.toNat else m / 2 ^ (-sh).toNat
          v - 64
        let y0 := (roundFin fmt64 w false (seedTable k) (-10)).bits
        if f = fmt32 then
          let y := finMag fmt64 (frsqrtIter h w 3 y0).bits
          roundFin fmt32 env false y.1 (y.2 - e)
        else
          let y := frsqrtIter h ⟨env.rm, false, false⟩ 4 y0
          let z := finMag fmt64 y.bits
          ⟨(roundFin fmt64 env false z.1 (z.2 - e)).bits, y.flags⟩

end Sys2Proof.Machine
end

