-- ==== Sys2Proof/Machine/Operands.lean ====
section
/-! DEFINITION. Instruction words: fields, types, literals, operand modes, token ports, memory descriptors and reserved
encodings (R107 to R117, R143 to R146, Tables 4.1 to 4.5, 5.1 to 5.11). -/

namespace Sys2Proof.Machine

/-- An instruction word's fields (Table 4.1). -/
structure IWord where
  opc  : Nat
  ty   : Nat
  rnd  : Nat
  mode : Nat
  lit  : Nat
  da   : Nat
  db   : Nat
  deriving DecidableEq, Repr

/-- The fields of a word (Table 4.1). -/
def decodeIWord (w : Word) : IWord :=
  ⟨fld w 63 54, fld w 53 50, fld w 49 48, fld w 47 44, fld w 43 32, fld w 31 16, fld w 15 0⟩

/-- The word that has the given fields (Table 4.1). -/
def encodeIWord (i : IWord) : Word :=
  w64 (i.opc % 1024 * 2 ^ 54 + i.ty % 16 * 2 ^ 50 + i.rnd % 4 * 2 ^ 48 + i.mode % 16 * 2 ^ 44 + i.lit % 4096 * 2 ^ 32 +
    i.da % 65536 * 2 ^ 16 + i.db % 65536)

/-- The word that an IADDR outside every image reads as (R136). -/
def unloadedWord : Word := 0xE800000000000000

/-- How the lanes of a type are read. -/
inductive LaneKind where
  | sint | uint | flt | cpx
  deriving DecidableEq, Repr

/-- Lane kind, lane width in bits and lane count of a type; the parts of a complex type count as lanes (Table 4.2). -/
structure Ty where
  kind  : LaneKind
  w     : Nat
  lanes : Nat
  deriving DecidableEq, Repr

/-- Table 4.2; a reserved code reads as u32 and is refused before use. -/
def tyInfo : Nat → Ty
  | 0x0 => ⟨.sint, 32, 1⟩
  | 0x1 => ⟨.uint, 32, 1⟩
  | 0x2 => ⟨.sint, 64, 1⟩
  | 0x3 => ⟨.uint, 64, 1⟩
  | 0x4 => ⟨.flt, 32, 1⟩
  | 0x5 => ⟨.flt, 64, 1⟩
  | 0x6 => ⟨.sint, 32, 8⟩
  | 0x7 => ⟨.uint, 32, 8⟩
  | 0x8 => ⟨.flt, 32, 8⟩
  | 0x9 => ⟨.flt, 64, 4⟩
  | 0xA => ⟨.sint, 16, 16⟩
  | 0xB => ⟨.sint, 8, 32⟩
  | 0xC => ⟨.cpx, 32, 2⟩
  | 0xD => ⟨.cpx, 32, 8⟩
  | _ => ⟨.uint, 32, 1⟩

/-- Access size s in bytes (Table 4.2). -/
def tySize (ty : Nat) : Nat := (tyInfo ty).w * (tyInfo ty).lanes / 8

/-- The value of a type: bits above its size are ignored (R38). -/
def tyMask (ty : Nat) (v : Value) : Value := BitVec.ofNat 256 (v.toNat % 2 ^ (8 * tySize ty))

/-- Width in bits and count of the lanes that the lane operations move: a complex lane is whole (R153). -/
def moveLane (ty : Nat) : Nat × Nat :=
  let t := tyInfo ty
  if t.kind = .cpx then (64, t.lanes / 2) else (t.w, t.lanes)

/-- Type of a scalar lane token (R153). -/
def laneType : Nat → Nat
  | 0x6 => 0
  | 0x7 => 1
  | 0x8 => 4
  | 0x9 => 5
  | 0xD => 0xC
  | _ => 0

/-- Types that are vectors (Table 5.1). -/
def isVec (ty : Nat) : Bool := decide (1 < (moveLane ty).2)

/-- The format of a floating or complex type's lanes. -/
def tyFmt (ty : Nat) : Fmt := if (tyInfo ty).w = 64 then fmt64 else fmt32

/-- The literal as a value of the type (R111). -/
def litValue (ty lit : Nat) : Value :=
  let t := tyInfo ty
  let s := signedOf 12 lit
  match t.kind with
  | .uint => ofLanes t.w (List.replicate t.lanes (lit % 4096))
  | .sint => if t.w = 8 then ofLanes 8 (List.replicate t.lanes (lit % 256)) else ofLanes t.w (List.replicate t.lanes (wrapInt t.w s))
  | .flt => ofLanes t.w (List.replicate t.lanes (fOfInt (tyFmt ty) ⟨.rne, false, false⟩ s).bits)
  | .cpx => ofCpx (List.replicate (t.lanes / 2) ⟨(fOfInt fmt32 ⟨.rne, false, false⟩ s).bits, 0⟩)

/-- Where an input comes from (Table 4.3). -/
inductive Src where
  | none | tok | lit | memD12 | memD12i | memDA
  deriving DecidableEq, Repr

/-- Where a memory result goes (Table 4.3). -/
inductive Dst where
  | none | d12 | d12i | da | db
  deriving DecidableEq, Repr

def mTOK : Nat := 0x0
def mLITR : Nat := 0x1
def mLITC : Nat := 0x2
def mMEMR : Nat := 0x3
def mMEMC : Nat := 0x4
def mMEML : Nat := 0x5
def mIDXR : Nat := 0x6
def mSTO : Nat := 0x7
def mSTOX : Nat := 0x8
def mMEM3 : Nat := 0x9
def mMEM3S : Nat := 0xA
def mMEM2S : Nat := 0xB

/-- Sources of L, R and C of an operation with inputs `ins` (bit 0 L, bit 1 R, bit 2 C) under a mode (Table 4.3). -/
def srcL (ins mode : Nat) : Src :=
  if !ins.testBit 0 then .none else if mode = mMEML then .memD12 else .tok
def srcR (ins mode : Nat) : Src :=
  if !ins.testBit 1 then .none
  else if mode = mLITR then .lit
  else if mode = mMEMR ∨ mode = mMEM3 ∨ mode = mMEM3S ∨ mode = mMEM2S then .memD12
  else if mode = mIDXR then .memD12i
  else .tok
def srcC (ins mode : Nat) : Src :=
  if !ins.testBit 2 then .none
  else if mode = mLITC then .lit
  else if mode = mMEMC then .memD12
  else if mode = mMEM3 ∨ mode = mMEM3S then .memDA
  else .tok

/-- Where a mode writes its memory result (Table 4.3). -/
def memDst (mode : Nat) : Dst :=
  if mode = mSTO then .d12 else if mode = mSTOX then .d12i else if mode = mMEM2S then .da
  else if mode = mMEM3S then .db else .none

/-- The MEM forms send their result to IADDR + 1, port L (R63, Table 4.3). -/
def isMemForm (mode : Nat) : Bool := mode = mMEM3 || mode = mMEM3S || mode = mMEM2S

/-- A 12- or 16-bit memory descriptor: mode, base and displacement (Table 4.4). -/
structure Desc where
  m    : Nat
  base : Nat
  d    : Nat
  d16  : Bool
  deriving DecidableEq, Repr

def desc12 (x : Nat) : Desc := ⟨natField x 11 9, natField x 8 7, natField x 6 0, false⟩
def desc16 (x : Nat) : Desc := ⟨natField x 15 13, natField x 12 11, natField x 10 0, true⟩

def dFR : Nat := 0
def dFI : Nat := 1
def dRING : Nat := 2
def dSTR : Nat := 3
def dCHN : Nat := 4
def dABS : Nat := 5
def dTAG : Nat := 6

/-- TAG's selector and offset (R122). -/
def tagSel (x : Desc) : Nat := if x.d16 then natField x.d 10 8 else natField x.d 6 4
def tagOff (x : Desc) : Nat := if x.d16 then natField x.d 7 0 else natField x.d 3 0

/-- A descriptor that no operation accepts: mode 0b111, or TAG with a reserved selector (R117, R122). -/
def descReserved (x : Desc) : Bool := decide (x.m = 7 ∨ (x.m = dTAG ∧ 1 < tagSel x))

/-- How an operation restricts the mode of its memory inputs and results (R124, R126, R155). -/
inductive DescRule where
  | plain      -- inputs not STR, results not STR or CHN
  | strOnly    -- IFETCH and ISTORE: STR and nothing else
  | maint      -- CLEAN and CLINV: FR, FI, RING, ABS, TAG
  deriving DecidableEq, Repr

def descInOk (r : DescRule) (x : Desc) : Bool :=
  !descReserved x &&
    match r with
    | .plain => decide (x.m ≠ dSTR)
    | .strOnly => decide (x.m = dSTR)
    | .maint => decide (x.m ≠ dSTR ∧ x.m ≠ dCHN)

def descOutOk (r : DescRule) (x : Desc) : Bool :=
  !descReserved x &&
    match r with
    | .strOnly => decide (x.m = dSTR)
    | _ => decide (x.m ≠ dSTR ∧ x.m ≠ dCHN)

/-- Rules for the parameter [43:32] (the rows of Tables 5.3 to 5.11). -/
inductive ParamRule where
  | any | loopgate | iter | laneIdx | fence | chtag | tagq | lock | atLeast1 | schstat | zero | vote | timeq
  deriving DecidableEq, Repr

def paramOk (r : ParamRule) (ty p : Nat) : Bool :=
  match r with
  | .any => true
  | .loopgate => decide (1 ≤ p ∧ p ≤ 1024)
  | .iter => decide (p < 2048)
  | .laneIdx => decide (p < 32 ∧ p < (moveLane ty).2)
  | .fence => decide (p ≤ 1)
  | .chtag => decide (p ≤ 1)
  | .tagq => decide (p ≤ 1)
  | .lock => decide (p < 1024)
  | .atLeast1 => decide (1 ≤ p)
  | .schstat => decide (natField p 11 8 ≤ 2 ∧ natField p 7 4 = 0)
  | .zero => decide (p = 0)
  | .vote => decide (p < 16)
  | .timeq => decide (p ≤ 2)

/-- One row of the catalogue: opcode, permitted types, inputs, permitted modes, whether it rounds (†), and its
parameter and descriptor rules.  Type and mode sets are bit masks over Tables 4.2 and 4.3. -/
structure OpRow where
  opc    : Nat
  types  : Nat
  ins    : Nat
  modes  : Nat
  rounds : Bool
  param  : ParamRule
  descs  : DescRule
  deriving DecidableEq, Repr

def tsINT : Nat := 0x000F
def tsINTS : Nat := 0x0C45
def tsINTV : Nat := 0x0CCF
def tsFLT : Nat := 0x0030
def tsFLTV : Nat := 0x0330
def tsCPX : Nat := 0x3000
def tsVEC : Nat := 0x2FC0
def tsANY : Nat := 0x3FFF
def msTok : Nat := 0x001
def msM1 : Nat := 0x081
def msM2 : Nat := 0x9EB
def msM2n : Nat := 0x06B
def msMlc : Nat := 0x015
def msM3 : Nat := 0xFFF
def msRead : Nat := 0x048
def insL : Nat := 1
def insLR : Nat := 3
def insLC : Nat := 5
def insLRC : Nat := 7

/-- A row with no parameter rule and the plain descriptor rule. -/
def opRow (opc types ins modes : Nat) (rounds : Bool) : OpRow := ⟨opc, types, ins, modes, rounds, .any, .plain⟩

/-- Table 5.3. -/
def opRowsInt : List OpRow :=
  [opRow 0x000 tsANY insL msM1 false, opRow 0x001 tsINTV insLR msM2 false, opRow 0x002 tsINTV insLR msM2 false,
   opRow 0x003 tsINTV insLR msM2 false, opRow 0x004 tsINTV insLR msM2 false, opRow 0x005 tsINTS insL msM1 false,
   opRow 0x006 tsINTS insL msM1 false, opRow 0x007 tsINTS insL msM1 false, opRow 0x008 tsINTS insL msM1 false,
   opRow 0x009 tsINTV insLR msM2 false, opRow 0x00A tsINT insLR msM2 false, opRow 0x00B tsINTV insLR msM2 false,
   opRow 0x00C tsINT insLR msM2 false, opRow 0x00D tsINT insLR msM2 false, opRow 0x00E tsINTV insLR msM2 false,
   opRow 0x00F tsINTV insLR msM2 false, opRow 0x010 tsINTV insLR msM2 false, opRow 0x011 tsINTV insLR msM2 false,
   opRow 0x012 tsINTV insLR msM2 false, opRow 0x013 tsINTV insL msM1 false, opRow 0x014 tsINTV insLR msM2 false,
   opRow 0x015 tsINTV insLR msM2 false, opRow 0x016 tsINTV insLR msM2 false, opRow 0x017 tsINTV insLR msM2 false,
   opRow 0x018 tsINTV insLR msM2 false, opRow 0x019 tsINTV insLR msM2 false, opRow 0x01A tsINTV insL msM1 false,
   opRow 0x01B tsINTV insL msM1 false]

/-- Table 5.4. -/
def opRowsSteer : List OpRow :=
  [opRow 0x080 (tsINTV ||| tsFLTV ||| tsCPX) insLR msM2n false, opRow 0x081 (tsINTV ||| tsFLTV ||| tsCPX) insLR msM2n false,
   opRow 0x082 (tsINTV ||| tsFLTV) insLR msM2n false, opRow 0x083 (tsINTV ||| tsFLTV) insLR msM2n false,
   opRow 0x084 tsFLTV insLR msM2n false, opRow 0x088 tsANY insLRC msM3 false, opRow 0x090 tsANY insLC msMlc false,
   opRow 0x091 tsANY insLC msMlc false, opRow 0x092 tsANY insLR msTok false,
   ⟨0x093, tsANY, insLC, msTok, false, .loopgate, .plain⟩]

/-- Table 5.5. -/
def opRowsFloat : List OpRow :=
  [opRow 0x100 (tsFLTV ||| tsCPX) insLR msM2 true, opRow 0x101 (tsFLTV ||| tsCPX) insLR msM2 true,
   opRow 0x102 tsFLTV insLR msM2 true, opRow 0x103 tsFLTV insLR msM2 true, opRow 0x104 (tsFLTV ||| tsCPX) insL msM1 false,
   opRow 0x105 tsFLTV insL msM1 false, opRow 0x106 tsFLTV insLR msM2 false, opRow 0x107 tsFLTV insLR msM2 false,
   opRow 0x108 tsFLTV insLRC msM3 true, opRow 0x109 tsFLTV insLRC msM3 true, opRow 0x10A tsFLTV insLRC msM3 true,
   opRow 0x10B tsFLTV insL msM1 true, opRow 0x10C tsFLTV insL msM1 true, opRow 0x10D tsFLTV insL msM1 true,
   opRow 0x110 (tsINT ||| tsFLT ||| 0x1C0) insL msM1 true, opRow 0x111 tsFLT insL msTok false]

/-- Table 5.6. -/
def opRowsLane : List OpRow :=
  [opRow 0x180 tsVEC insL msM1 false, ⟨0x181, tsVEC, insL, msTok, false, .laneIdx, .plain⟩,
   ⟨0x182, tsVEC, insLR, msTok, false, .laneIdx, .plain⟩, opRow 0x183 tsVEC insLR msM2 false,
   opRow 0x184 tsVEC insLRC msM3 false, opRow 0x185 tsVEC insL msTok true, opRow 0x186 (tsVEC - 0x2000) insL msTok false,
   opRow 0x187 (tsVEC - 0x2000) insL msTok false, opRow 0x188 0x300 insLR msM2n true]

/-- Table 5.7. -/
def opRowsMem : List OpRow :=
  [opRow 0x1C0 tsANY insLR msRead false, opRow 0x1C1 tsANY insL 0x080 false, opRow 0x1C2 tsANY insLR 0x100 false,
   opRow 0x1C3 tsANY insLR 0x800 false, ⟨0x1C4, tsANY, insLR, msRead, false, .any, .strOnly⟩,
   ⟨0x1C5, tsANY, insLR, 0x180, false, .any, .strOnly⟩, ⟨0x1C8, tsANY, insL, msTok, false, .fence, .plain⟩,
   ⟨0x1CC, tsANY, insLR, msRead, false, .any, .maint⟩, ⟨0x1CD, tsANY, insLR, msRead, false, .any, .maint⟩]

/-- Table 5.8. -/
def opRowsSignal : List OpRow :=
  [opRow 0x200 tsCPX insLR msM2 true, opRow 0x201 0x2000 insLR msM2 true, opRow 0x202 0x2000 insLR msM2 true,
   opRow 0x204 tsCPX insL msM1 true, opRow 0x205 tsCPX insL msM1 true, opRow 0x206 tsCPX insL msTok true,
   opRow 0x208 0x100 insLRC msM3 true, opRow 0x20C 0x100 insLR msRead true, opRow 0x210 0x200 insLR 0x800 true]

/-- Tables 5.9, 5.10 and 5.11. -/
def opRowsCtx : List OpRow :=
  [opRow 0x280 tsANY insL msTok false, opRow 0x281 tsANY insL msTok false, ⟨0x282, tsANY, insL, msTok, false, .iter, .plain⟩,
   ⟨0x283, tsANY, insLR, msTok, false, .chtag, .plain⟩, opRow 0x284 tsANY insL msTok false,
   ⟨0x285, tsANY, insL, msTok, false, .tagq, .plain⟩, opRow 0x288 tsANY insL msTok false,
   opRow 0x2C0 tsANY insL msTok false, opRow 0x2C1 tsANY insL msTok false, opRow 0x2C2 tsANY insL msTok false,
   opRow 0x2C4 tsANY insL msTok false, ⟨0x2D0, tsANY, insL, msTok, false, .lock, .plain⟩,
   ⟨0x2D1, tsANY, insL, msTok, false, .lock, .plain⟩, ⟨0x2D2, tsANY, insL, msTok, false, .lock, .plain⟩,
   ⟨0x2D3, tsANY, insLR, msTok, false, .lock, .plain⟩, ⟨0x2E0, tsANY, insL, msTok, false, .atLeast1, .plain⟩,
   ⟨0x2E1, tsANY, insL, msTok, false, .atLeast1, .plain⟩, ⟨0x2E8, tsANY, insL, msTok, false, .schstat, .plain⟩,
   opRow 0x2EC tsANY insL msTok false, ⟨0x2F0, tsANY, insL, msTok, false, .zero, .plain⟩,
   ⟨0x300, tsANY, insLR, msTok, false, .vote, .plain⟩, opRow 0x304 tsANY insL msTok false,
   ⟨0x308, tsANY, insL, msTok, false, .timeq, .plain⟩]

/-- The extension row of arity `nin` (R177). -/
def extRow (opc nin : Nat) : Option OpRow :=
  match nin with
  | 1 => some ⟨opc, tsANY, insL, msTok, true, .any, .plain⟩
  | 2 => some ⟨opc, tsANY, insLR, msM2n, true, .any, .plain⟩
  | 3 => some ⟨opc, tsANY, insLRC, 0x27F, true, .any, .plain⟩
  | _ => none

/-- The catalogue's row of an opcode; `nin` is the extension arity of opcode 0x3C0 + x (R144, R177). -/
def opRowOf (opc nin : Nat) : Option OpRow :=
  if 0x3C0 ≤ opc then extRow opc nin
  else (opRowsInt ++ opRowsSteer ++ opRowsFloat ++ opRowsLane ++ opRowsMem ++ opRowsSignal ++ opRowsCtx).find?
    (fun r => r.opc = opc)

/-- Port bits of a destination field (R63). -/
def destPort (x : Nat) : Nat := natField x 15 14

/-- Every descriptor that the word uses is permitted (R117, R122, R124, R126, R155). -/
def descsOk (r : OpRow) (i : IWord) : Bool :=
  let inOk (s : Src) : Bool :=
    match s with
    | .memD12 | .memD12i => descInOk r.descs (desc12 i.lit)
    | .memDA => descInOk r.descs (desc16 i.da)
    | _ => true
  let outOk : Bool :=
    match memDst i.mode with
    | .d12 | .d12i => descOutOk r.descs (desc12 i.lit)
    | .da => descOutOk r.descs (desc16 i.da)
    | .db => descOutOk r.descs (desc16 i.db)
    | .none => true
  inOk (srcL r.ins i.mode) && inOk (srcR r.ins i.mode) && inOk (srcC r.ins i.mode) && outOk

/-- NEWACT's and FREEACT's destination rules (R162, R163). -/
def destsOk (i : IWord) : Bool :=
  if i.opc = 0x280 then decide (destPort i.db = 3)
  else if i.opc = 0x281 then decide (destPort i.da = 3 ∧ destPort i.db = 3)
  else true

/-- The catalogue's row of a legal word; none for a reserved encoding (R108, R146). -/
def legalRow (i : IWord) (nin : Nat) : Option OpRow :=
  match opRowOf i.opc nin with
  | none => none
  | some r =>
    if i.ty ≤ 13 && r.types.testBit i.ty && r.modes.testBit i.mode && (r.rounds || decide (i.rnd = 0))
        && paramOk r.param i.ty i.lit && descsOk r i && destsOk i
        && (decide (i.mode ≠ mMEM2S) || decide (i.db = 0)) then some r
    else none

/-- Token ports of the word (R114): bit 0 L, bit 1 R, bit 2 C. -/
def needMask (r : OpRow) (mode : Nat) : Nat :=
  b2n (srcL r.ins mode = .tok) + 2 * b2n (srcR r.ins mode = .tok) + 4 * b2n (srcC r.ins mode = .tok)

/-- How the store treats a token for the word (R50, R67, R146). -/
inductive MatchKind where
  | illegal                 -- each of L, R and C fires alone
  | merge                   -- L or R fires alone
  | loopgate                -- R67
  | fan                     -- the router copies the token (R65)
  | need (mask : Nat)
  deriving DecidableEq, Repr

def matchKind (w : Word) (nin : Nat) : MatchKind :=
  let i := decodeIWord w
  match legalRow i nin with
  | none => .illegal
  | some r =>
    if i.opc = 0x092 then .merge else if i.opc = 0x093 then .loopgate else if i.opc = 0x288 then .fan
    else .need (needMask r i.mode)

/-- The rounding in force (R110, R187). -/
def rmodeOf (code : Nat) : RMode :=
  match code with
  | 1 => .rtz
  | 2 => .rup
  | 3 => .rdn
  | _ => .rne

/-- Rounding, DAZ and FTZ of a firing: RND, or RDEF where RND is 0 (R47, R110). -/
def fenvOf (mode : BitVec 16) (rnd : Nat) : FEnv :=
  ⟨rmodeOf (if rnd = 0 then fld mode 1 0 else rnd), bit mode 4, bit mode 3⟩

/-- Bits of a tag (Table 2.4). -/
def tagDevice (t : Tag) : Nat := fld t 63 54
def tagAct (t : Tag) : Nat := fld t 53 38
def tagSlot (t : Tag) : Nat := fld t 37 35
def tagIter (t : Tag) : Nat := fld t 34 24
def tagIaddr (t : Tag) : Nat := fld t 23 2
def tagPort (t : Tag) : Nat := fld t 1 0

/-- A tag from its fields (Table 2.4). -/
def mkTag (device act slot iter iaddr port : Nat) : Tag :=
  w64 (device % 1024 * 2 ^ 54 + act % 65536 * 2 ^ 38 + slot % 8 * 2 ^ 35 + iter % 2048 * 2 ^ 24 +
    iaddr % 4194304 * 4 + port % 4)

/-- The key of a tag: everything but the port (R50, R79). -/
def tagKey (t : Tag) : Nat := t.toNat / 4

/-- The destination of a 16-bit destination field, none for port 0b11 (R63). -/
def destOf (iaddr x : Nat) : Option (Nat × Nat) :=
  if destPort x = 3 then none
  else some (wrapInt 22 ((iaddr : Int) + signedOf 14 (natField x 13 0)), destPort x)

end Sys2Proof.Machine
end

