-- ==== Sys2Proof/Machine/CoreTypes.lean ====
section
/-! DEFINITION. The records that the state of the execution core is made of: tokens, matching-store entries, firings,
activations, start requests, buffers, delay entries, locks, channels, wafer slots and code words. -/

namespace Sys2Proof.Machine

/-- A value with its status word (R38). -/
structure TVal where
  v  : Value
  st : Status
  deriving DecidableEq, Repr

/-- A token between its forming and its arrival (R38, Table 2.1 and Table 2.2).  `barrier` is the commit number up to
which the stores of (`srcTile`, `srcPe`) must be performed before the router forwards it (R234); `egress` is set where it
was formed for another wafer in oldest-wafer mode (R97).  `src` is its source, 16 the scheduler; `vc` the virtual channel
that it is on, 0 while it waits at its source; `sent` numbers the tokens in the order in which they left their sources
(R425, R426).  `stray` marks a start token for an ENTRY in no valid placement range (R163). -/
structure Token where
  tag     : Tag
  tv      : TVal
  inc     : Nat
  seq     : Nat
  srcTile : Nat
  srcPe   : Nat
  dtile   : Nat
  cls     : Nat
  barrier : Nat
  egress  : Bool
  src     : Nat
  vc      : Nat
  sent    : Nat
  stray   : Bool
  deriving DecidableEq, Repr

/-- Kinds of a matching-store entry (Table 3.1). -/
inductive MKind where
  | operand | complete | gateState | held
  deriving DecidableEq, Repr

/-- Where an entry lies: a way of the store, a slot of the spill table (still in the transit buffer or not), a slot of
the reserve (R86, R90 to R97). -/
inductive MPlace where
  | way (bank set way : Nat)
  | table (bucket slot : Nat) (transit : Bool)
  | reserve (r : Nat)
  deriving DecidableEq, Repr

/-- A matching-store entry (R79, R80).  `live`, `head` and `tail` are a GATESTATE entry's; `heldIter` is a HELD
entry's own iteration.  `key` is tag [63:2]. -/
structure MEntry where
  tile     : Nat
  place    : MPlace
  key      : Nat
  kind     : MKind
  p0       : Nat
  v0       : TVal
  p1       : Nat
  v1       : TVal
  p2       : Nat
  v2       : TVal
  need     : Nat
  count    : Nat
  inc      : Nat
  wafer    : Nat
  live     : Nat
  head     : Nat
  tail     : Nat
  heldIter : Nat
  deriving DecidableEq, Repr

/-- A lookup that waits for a fetch from the spill table (R94). -/
structure MFetch where
  tile : Nat
  tok  : Token
  deriving DecidableEq, Repr

/-- What a firing waits for, uncommitted (R46, R62, R102, R127, R156, R165 to R168, R172, R178, R340). -/
inductive Wait where
  | none | fill | channel | lock | delay | alloc | xreply | vote | fence | buffer | covered | xport | micro | useq
  deriving DecidableEq, Repr

/-- The stage of a firing: in the ready queue (R54), dispatched to a PE and not yet executed, executed with its
results staged (R58). -/
inductive FStage where
  | ready | dispatched | executed
  deriving DecidableEq, Repr

/-- A staged output token: tag and value (R63, R64). -/
structure OutTok where
  tag : Tag
  tv  : TVal
  deriving DecidableEq, Repr

/-- A store staged or committed: bytes at a local address, or at a remote one (R59, R220).  `cell` is an ISTORE's
presence bits: the map word and the shift of its two bits (R126, R129). -/
structure StoreRec where
  addr   : Nat
  device : Nat
  bytes  : List Byte
  cell   : Option (Nat × Nat)
  deriving DecidableEq, Repr

/-- Side effects of a firing other than its stores (R61, R164 to R175). -/
inductive Effect where
  | chSend (handle : Nat) (word : Nat) (close : Bool) (ctx : Bool)
  | chPoll (handle : Nat)
  | lockHold (k : Nat)
  | lockRel (k : Nat)
  | lockHand (k act : Nat)
  | crumb (kind : Nat) (d : Word) (p : Nat)
  | freeAct
  | delay (due : Nat) (ticks : Bool) (outs : List OutTok)
  | codeCommit
  | codeStage (iaddr : Nat) (w : Word)
  | rsend (device inbound : Nat) (guar : Bool) (word width : Nat)
  | rsLost (device : Nat)
  | vote (group : Nat) (minority : Bool)
  | deferred (id : Nat)
  | maint (inval : Bool) (line : Nat)
  | noHandler
  deriving DecidableEq, Repr

/-- A firing from its match to its commit (R50, R53, R58).  Inputs that the word takes from memory or a literal are
none in `inL`, `inR`, `inC`. -/
structure Firing where
  id       : Nat
  tile     : Nat
  pe       : Nat
  tag      : Tag
  inc      : Nat
  wafer    : Nat
  epoch    : Nat
  word     : Word
  inL      : Option TVal
  inR      : Option TVal
  inC      : Option TVal
  stage    : FStage
  wait     : Wait
  outs     : List OutTok
  stores   : List StoreRec
  effects  : List Effect
  raised   : Flags7
  nd       : Bool
  attempt  : Nat
  reserved : Nat
  granted  : Option Nat
  fenceSeq : Nat
  since    : Nat
  deriving DecidableEq, Repr

/-- A committed entry of a PE's store buffer (R58, R59). -/
structure SbEntry where
  tile  : Nat
  pe    : Nat
  seq   : Nat
  act   : Nat
  slot  : Nat
  inc   : Nat
  wafer : Nat
  st    : StoreRec
  deriving DecidableEq, Repr

/-- A committed entry of a PE's event buffer (R58, R234). -/
structure EbEntry where
  tile  : Nat
  pe    : Nat
  seq   : Nat
  act   : Nat
  slot  : Nat
  inc   : Nat
  wafer : Nat
  nd    : Bool
  prio  : Nat
  ev    : Effect
  deriving DecidableEq, Repr

/-- States of an activation other than FREE (Table 2.5). -/
inductive ActState where
  | live | ending | quarantined
  deriving DecidableEq, Repr

/-- An activation that is not FREE (R45 to R47, R118, R120, R257, R258). -/
structure Act where
  id      : Nat
  state   : ActState
  slot    : Nat
  inc     : Nat
  wafer   : Nat
  epoch   : Nat
  desc    : Nat
  base    : Nat
  eff     : Nat
  mode    : BitVec 16
  handler : Nat
  bases   : List (Word × Word)
  fa      : Nat
  frame   : Nat
  flags   : Flags7
  nd      : Bool
  flow    : Option Nat
  deriving DecidableEq, Repr

/-- A start request in a ready list or a flow queue, with its time and its number of arrival (R260, R261, R265). -/
structure StartReq where
  root   : Bool
  desc   : Nat
  slot   : Nat
  inc    : Nat
  wafer  : Nat
  epoch  : Nat
  prio   : Nat
  act    : Nat
  firing : Nat
  flow   : Option Nat
  arr    : Nat
  no     : Nat
  warned : Bool
  deriving DecidableEq, Repr

/-- A delay-list entry: a DELAY token with its release edge in ns, or a TICKWAIT token with its ticks to go (R268 to
R270). -/
structure DelayEntry where
  ticks : Bool
  due   : Nat
  seq   : Nat
  tok   : Token
  act   : Nat
  slot  : Nat
  inc   : Nat
  deriving DecidableEq, Repr

/-- A deferred read held by an L2 slice (R127). -/
structure Deferred where
  id    : Nat
  slice : Nat
  cell  : Nat × Nat
  ea    : Nat
  tile  : Nat
  pe    : Nat
  tag   : Tag
  inc   : Nat
  dests : List (Nat × Nat)
  ty    : Nat
  flags : Flags7
  nd    : Bool
  done  : Bool
  deriving DecidableEq, Repr

/-- A lock owner: master ID and activation ID or context (R280). -/
structure Owner where
  master : Nat
  ctx    : Nat
  deriving DecidableEq, Repr

/-- The effective level of an owner where it is not its base level (R283). -/
structure OwnerLevel where
  owner : Owner
  level : Nat
  deriving DecidableEq, Repr

/-- A waiting lock request (R167, R281): `firing` is the waiting firing of a graph request. -/
structure LockWait where
  owner  : Owner
  base   : Nat
  firing : Nat
  deriving DecidableEq, Repr

/-- A lock that is not in its reset state (R167, R280 to R286).  `resv` is set while the holder is a firing's
reservation; `abandBefore` is the mark before the present acquisition; `withheld` stands until a journal restoration
ends (R473); `forSlot` is the slot whose replay withheld it. -/
structure Lock where
  k           : Nat
  holder      : Option Owner
  base        : Nat
  resv        : Bool
  aband       : Bool
  abandBefore : Bool
  withheld    : Bool
  forSlot     : Nat
  waiters     : List LockWait
  deriving DecidableEq, Repr

/-- A request record of a lock master (R281, Table 9.10). -/
structure LkuRec where
  master : Nat
  state  : Nat
  prio   : Nat
  eff    : Nat
  rstat  : Nat
  lock   : Nat
  ctx    : Nat
  deriving DecidableEq, Repr

/-- A stored packet of a channel (R331, R333): `src` is the wafer of a graph's send that is not yet acknowledged
(R27, R337), `win` the wafer whose completed window holds the item (R339). -/
structure Item where
  iseq  : Nat
  words : List Nat
  time  : Nat
  ovf   : Bool
  ctx   : Bool
  src   : Option Nat
  win   : Option Nat
  deriving DecidableEq, Repr

/-- A window of a WAFER channel (R339, R341): the wafer it belongs to, its bounds in time, and the ISEQ counter at the
previous completion and at this one. -/
structure Window where
  wafer  : Nat
  openT  : Nat
  closeT : Nat
  lo     : Nat
  hi     : Nat
  done   : Bool
  deriving DecidableEq, Repr

/-- Who owns an open packet (R331): a graph activation, an engine, or another producing unit. -/
inductive PktOwner where
  | graph (act slot inc : Nat)
  | engine (n : Nat)
  | unit
  deriving DecidableEq, Repr

/-- An open packet in the assembly area (R328, R331). -/
structure OpenPkt where
  handle : Nat
  owner  : PktOwner
  words  : List Nat
  time   : Nat
  ctx    : Bool
  deriving DecidableEq, Repr

/-- The pointers of a channel's rings: head and tail of the data ring and of the descriptor ring, and the consumer's read
position in the data ring (R351). -/
structure QPtrs where
  head  : Nat
  tail  : Nat
  dhead : Nat
  dtail : Nat
  rd    : Nat
  deriving DecidableEq, Repr

/-- A read of a channel's pointer `ptr`, numbered as `QPtrs` lists them, after the bits of `bits` have changed in its binary
copy (R351). -/
structure PtrFault where
  chan : Nat
  ptr  : Nat
  bits : Nat
  deriving DecidableEq, Repr

/-- A channel index (R324 to R341).  A channel that is not live keeps its last generation and the order in which it was
freed.  `last` is the ISEQ that the consumer expects next, `doneT` the close time of the last completed window, `openT` the
nominal open time of the first window that the channel can have (R339), `granted` the remote-send credits granted and not
used (R406).  `acc` counts ACC(W) per slot, `kth` the commits of each incarnation, keyed by slot × 16 + incarnation (R338).
`ptrs` and `ptrsInv` are the ring pointers and their complements (R351). -/
structure Chan where
  index   : Nat
  gen     : Nat
  live    : Bool
  freedAt : Nat
  tcls    : Bool
  width   : Nat
  maxlen  : Nat
  pkind   : Nat
  punit   : Nat
  ckind   : Nat
  cunit   : Nat
  qblk    : Nat
  ovf     : Nat
  ndlog   : Nat
  tmo     : Nat
  evlvl   : Nat
  iseq    : Nat
  items   : List Item
  readPos : Nat
  last    : Nat
  tailT   : Nat
  stale   : Bool
  wasRst  : Bool
  resetting : Bool
  windows : List Window
  doneT   : Option Nat
  recHi   : Nat
  acc     : List Nat
  kth     : List (Nat × Nat)
  granted : Nat
  openT   : Nat
  ptrs    : QPtrs
  ptrsInv : QPtrs
  deriving DecidableEq, Repr

/-- A command record of a channel master (R354): `op` is the command that is PENDING, 0 where none is. -/
structure ChnRec where
  master : Nat
  op     : Nat
  arg0   : Word
  arg1   : Word
  resp   : Word
  data   : Word
  deriving DecidableEq, Repr

/-- A journal entry (R472, Table 15.8). -/
structure JEntry where
  inc   : Nat
  addr  : Nat
  bytes : List Byte
  deriving DecidableEq, Repr

/-- A wafer slot (R19, R20, Table 1.7) with what the device keeps per slot: incarnation and replays (R469, R477), flag
summary (R42), trace segment and the trace settings of its admission (R275, R278), journal segment (R472, R473), the tiles that count
as retired for its wafer because they park (R440), and the atomic flows of which an item has come into service (R419). -/
structure Slot where
  wafer    : Nat
  state    : Nat
  epoch    : Nat
  flags    : Flags7
  nd       : Bool
  quar     : Bool
  wide     : Bool
  suspect  : Bool
  openT    : Nat
  closeT   : Nat
  inc      : Nat
  replays  : Nat
  trcOn    : Bool
  trcWrap  : Bool
  trcKinds : Nat
  crumbs   : List (BitVec 128)
  dropped  : Nat
  journal  : List JEntry
  nojrnl   : Bool
  restore  : Bool
  rsclosed : Bool
  noTiles  : Nat
  flows    : List Nat
  deriving DecidableEq, Repr

/-- A closed wafer that waits for admission (R17, R23). -/
structure ClosedWafer where
  num     : Nat
  openT   : Nat
  closeT  : Nat
  wide    : Bool
  suspect : Bool
  deriving DecidableEq, Repr

/-- A staged instruction word (R139, R140). -/
structure StagedWord where
  wafer     : Nat
  slot      : Nat
  inc       : Nat
  iaddr     : Nat
  word      : Word
  committed : Bool
  due       : Bool
  deriving DecidableEq, Repr

/-- An old instruction word kept for the wafers of the listed epochs (R141, R498). -/
structure OldWord where
  iaddr  : Nat
  word   : Word
  epochs : List Nat
  deriving DecidableEq, Repr

/-- An L2 frame that holds a line or is bound to one (R223, R243). -/
structure L2Line where
  slice : Nat
  set   : Nat
  way   : Nat
  line  : Nat
  data  : BitVec 512
  valid : Bool
  dirty : Bool
  bound : Bool
  deriving DecidableEq, Repr

/-- A line held by a PE's L1 data cache (R223, R224). -/
structure L1Line where
  tile : Nat
  pe   : Nat
  line : Nat
  data : BitVec 512
  deriving DecidableEq, Repr

/-- An L2 fill in progress (R229, R240). -/
structure Fill where
  line : Nat
  tile : Nat
  pe   : Nat
  l1   : Bool
  deriving DecidableEq, Repr

/-- A maintenance operation in progress on the lines `lo` up to but not including `hi`, or on one frame (R237 to R243). -/
structure Maint where
  op    : Nat
  lo    : Nat
  hi    : Nat
  frame : Option (Nat × Nat × Nat)
  deriving DecidableEq, Repr

/-- An outstanding extension request with the inputs that it carries (R178 to R181): `aband` where its firing was discarded
or replayed, so that its reply is awaited for nothing. -/
structure XReq where
  reqid  : Nat
  firing : Nat
  since  : Nat
  aband  : Bool
  l      : Value
  r      : Value
  c      : Value
  deriving DecidableEq, Repr

/-- A vote key (R172) with the value a member sent under it, kept until the wafer commits (R174, R417). -/
structure VoteMsg where
  group   : Nat
  wafer   : Nat
  iaddr   : Nat
  iter    : Nat
  key     : Nat
  member  : Nat
  abstain : Bool
  tv      : TVal
  digest  : BitVec 128
  deriving DecidableEq, Repr

/-- An open or closed vote of this device: its key, when it reached stage 6, and the participants of its first outcome
(R172, R418). -/
structure VoteRec where
  group  : Nat
  wafer  : Nat
  iaddr  : Nat
  iter   : Nat
  key    : Nat
  firing : Nat
  since  : Nat
  part   : Option Nat
  excl   : Nat
  deriving DecidableEq, Repr

/-- A fault-collector record with its wafer, tag and time (R454, R456). -/
structure FclRec where
  word  : Word
  wafer : Word
  tag   : Word
  time  : Word
  deriving DecidableEq, Repr

/-- A recovery from the detection of its fault to its completion (R458, R459, R478): its mechanism as `FCL_RECOV.MECH`
numbers it (0 where the report needs no work of the sequencer), the report's class and source, the unit concerned (`a`
a tile, slot or channel, `b` a PE), the slots that replay, the time of the first detection, and the firing that is
retried. -/
structure RecJob where
  mech  : Nat
  cls   : Nat
  src   : Nat
  a     : Nat
  b     : Nat
  slots : List Nat
  time  : Nat
  fid   : Option Nat
  deriving DecidableEq, Repr

/-- A completed substitution whose interruption ends when the last of these firings is dispatched (Table 15.7). -/
structure RecWait where
  job  : RecJob
  fids : List Nat
  deriving DecidableEq, Repr

end Sys2Proof.Machine
end

