-- ==== Sys2Proof/Machine/UnitTypes.lean ====
section
/-! DEFINITION. The records that the state of the units around the execution core is made of: tiles, tick, control
stores, the front end and the trip unit, channel engines, data transforms, the fabric and its links. -/

namespace Sys2Proof.Machine

/-- States of a deadlock detector (Table 3.6, Table 3.11). -/
inductive DlState where
  | idle | watch | paused | confirm | declare
  deriving DecidableEq, Repr

/-- The matching-store levels, the deadlock window and the spill base in force (R106). -/
structure Levels where
  hi     : Nat
  lo     : Nat
  at_    : Nat
  shi    : Nat
  slo    : Nat
  window : Nat
  base   : Word
  deriving DecidableEq, Repr

/-- What a tile holds beside its registers: its modes (R90, R96), the memory of a reserve that is still to be reloaded
(R98), its request for the throttle (R91), the dispatcher's round-robin position (R53), the detector states and their
timers in sub-ticks (R101), the dispatcher limit in force (Table 2.19), the levels in force (R106), the persistence window in
force in ms and the scrub interval in force in µs (R218), the time of the next scrub read, the word at which a full reload
stands (R217), and the times of the shadow-register errors of its PEs (R452, R475). -/
structure Tile where
  oldest    : Bool
  noReserve : Bool
  spilling  : Bool
  reload    : Bool
  throttle  : Bool
  rr        : Nat
  det       : List DlState
  detT      : List Nat
  rqLimit   : Nat
  levels    : Levels
  persist   : Nat
  scrub     : Nat
  scrubAt   : Nat
  reloadPos : Nat
  shadowErr : List (Nat × Nat)
  deriving DecidableEq, Repr

/-- The tick unit beside its registers (R14 to R22); `suspect` is set once TSUSPECT has stood since the last closing tick
(R412). -/
structure Tick where
  started    : Bool
  period     : Nat
  pend       : List (Nat × Nat)
  nextWafer  : Nat
  prevClose  : Nat
  heldSince  : Bool
  firstOpen  : Nat
  count      : Nat
  lastEdge   : Nat
  swapAt     : Nat
  shadowDue  : Bool
  synced     : Bool
  suspect    : Bool
  deriving DecidableEq, Repr

/-- A PE's microsequencer with the microsequence that it holds (R205, R209, R211): the firing, the microaddress, the
micro-stack, the loop counter, the scratch file S0 to S31, X, Y and Z of the CORDIC unit's lanes, and the last results of the
FMA unit, the adder and the integer unit. -/
structure MicroSeq where
  tile   : Nat
  pe     : Nat
  firing : Nat
  addr   : Nat
  stack  : List Nat
  cnt    : Nat
  regs   : List Value
  cord   : List Cordic
  rFma   : Value
  rAdd   : Value
  rInt   : Value
  deriving DecidableEq, Repr

/-- A microword marked BAD with the firing that met it (R215). -/
structure UcsBad where
  tile   : Nat
  addr   : Nat
  pe     : Nat
  firing : Nat
  path   : Bool
  scrub  : Bool
  deriving DecidableEq, Repr

/-- Time of an earlier error at a place, for the persistence and repetition rules (R104, R216, R250, R374, R475). -/
structure ErrMark where
  kind : Nat
  a    : Nat
  b    : Nat
  time : Nat
  deriving DecidableEq, Repr

/-- Run counts and states of one comparator kind (R302). -/
structure CmpState where
  stA  : Bool
  stD  : Bool
  runA : Nat
  runD : Nat
  deriving DecidableEq, Repr

/-- An analog channel (R295 to R298, R302, R303): `pktHealth` and `pktCond` are the health and the comparator states when the
packet's last sample left the filter, `cuts` the ticks that passed and that no sample has reached (R297), `lastY` is |y| of the
latest protection-path sample (R537). -/
structure AfeChan where
  mSkip   : Nat
  pSkip   : Nat
  pkt     : List Int
  pktT    : Nat
  pktK    : Nat
  pktOvr  : Bool
  pktHealth : Nat
  pktCond : Nat
  lastT   : Nat
  cuts    : List Nat
  lastY   : Nat
  win     : List Int
  ppFill  : Nat
  rmsFill : Nat
  pk      : CmpState
  pp      : CmpState
  rms     : CmpState
  health  : Nat
  cand    : Nat
  candN   : Nat
  deriving DecidableEq, Repr

/-- A tachometer (R300, R304): `level` is the hysteresis comparator's output. -/
structure Tach where
  level    : Bool
  pend     : Option (Bool × Nat)
  lastKept : Nat
  kept     : Bool
  lastOvs  : Nat
  hasOvs   : Bool
  stA      : Bool
  stD      : Bool
  deriving DecidableEq, Repr

/-- A trip output (R306, R307, R309, R317, R318, R521). -/
structure TripOut where
  h      : Bool
  g      : Bool
  t      : Bool
  v      : Bool
  cond   : Bool
  sensed : Bool
  stuck  : Bool
  lastG  : Nat
  drvOff : Bool
  deriving DecidableEq, Repr

/-- Causes for which FORCE stands (R315). -/
inductive Force where
  | none | c4 | supply | alive
  deriving DecidableEq, Repr

/-- The trip unit beside its registers. -/
structure Trip where
  force : Force
  rail  : Bool
  outs  : List TripOut
  deriving DecidableEq, Repr

/-- Run state of an engine (Table 12.13). -/
inductive RunState where
  | halted | running | waiting | stalled
  deriving DecidableEq, Repr

/-- A hardware loop (R363): `buffed` where the pass runs from the loop buffer, `kept` where the buffer holds all that the pass
has fetched so far. -/
structure Loop where
  active : Bool
  start  : Nat
  len    : Nat
  left   : Nat
  buffed : Bool
  kept   : Bool
  deriving DecidableEq, Repr

/-- An engine's store-buffer entry (R365). -/
structure EStore where
  addr  : Nat
  size  : Nat
  data  : Nat
  deriving DecidableEq, Repr

/-- A result of the load and store unit (R361): a word, or the number of the remote load that is to give it. -/
inductive LoadRes where
  | word (w : Word)
  | load (id : Nat)
  deriving DecidableEq, Repr

/-- A remote load of an engine that is still to be answered (R361, R402). -/
structure PendLoad where
  id   : Nat
  size : Nat
  sgn  : Bool
  deriving DecidableEq, Repr

/-- An event-queue entry (R370). -/
structure EvqEntry where
  kind   : Nat
  handle : Nat
  data   : Nat
  deriving DecidableEq, Repr

/-- A channel engine or the recovery sequencer (R356 to R376).  `iramNew` is the code-write queue; `iram` is what fetch
sees; `image` is the vault's copy of the program image (R375); `timed` is the TIMER value that has raised its event. -/
structure Engine where
  run      : RunState
  failed   : Bool
  pc       : Nat
  w        : List (Nat × Word)
  p1       : Bool
  p2       : Bool
  p3       : Bool
  alu0o    : Word
  alu0q    : List Word
  alu1o    : Word
  alu1q    : List Word
  mulo     : Word
  mulq     : List Word
  lsuo     : Word
  lsuq     : List LoadRes
  loads    : List PendLoad
  pcuo     : Word
  link     : Nat
  chpo     : List Word
  chpq     : List (List Word)
  chps     : List Word
  ie       : Bool
  loop     : Loop
  loopSh   : Option Loop
  sbuf     : List EStore
  iram     : List (Nat × Word)
  iramNew  : List (Nat × Word)
  image    : List (Nat × Word)
  dram     : List (Nat × Byte)
  evq      : List EvqEntry
  pend     : Nat
  fault    : Option (Nat × Nat)
  wdogT    : Nat
  timed    : Nat
  deriving DecidableEq, Repr

/-- A transform job (R377, R378): units 0 and 1 are DEFLATE, 2 and 3 Glaze; `words` is its descriptor, empty where a
hole keeps it from being read; `errs` counts the unit's errors in it, two of which end it
with UNITFAIL; `quiet` stops its XDONE entry (R374). -/
structure Job where
  unit   : Nat
  master : Nat
  addr   : Nat
  words  : List Word
  op     : Nat
  errs   : Nat
  quiet  : Bool
  deriving DecidableEq, Repr

/-- A key slot (R382); `next` holds a policy and a key loaded while a running job uses the slot. -/
structure KeySlot where
  valid  : Bool
  policy : Nat
  key    : BitVec 256
  next   : Option (Nat × BitVec 256)
  deriving DecidableEq, Repr

/-- Link states (Table 13.2, Table 13.16). -/
inductive LinkState where
  | down | train | hello | up | restricted | sleep | failed
  deriving DecidableEq, Repr

/-- A fabric message: header and payload codewords (R396). -/
structure Msg where
  dst   : Nat
  src   : Nat
  kind  : Nat
  ncw   : Nat
  vc    : Nat
  eseq  : Nat
  aux   : Nat
  arg   : Nat
  body  : List (BitVec 128)
  deriving DecidableEq, Repr

end Sys2Proof.Machine
end

