-- ==== Sys2Proof/Machine/FabTypes.lean ====
section
/-! DEFINITION. The records that the state of the Kwenga fabric is made of: links, discovery, routing, end-to-end
messages, remote accesses, remote sends, fabric time and resynchronisation (R386 to R422). -/

namespace Sys2Proof.Machine

/-- The content of a HELLO (Table 13.4). -/
structure Hello where
  serial  : Nat
  bootcnt : Nat
  pers    : Nat
  fpv     : Nat
  step    : Nat
  cfgdig  : BitVec 128
  plandig : Nat
  ucsver  : Nat
  device  : Nat
  port    : Nat
  mcand   : Bool
  tmcand  : Bool
  plan    : Bool
  tmprio  : Nat
  manager : Nat
  tmaster : Nat
  deriving DecidableEq, Repr

/-- A link frame (R387): two flits with their check bits, and the link word of Table 13.1. -/
structure Frame where
  flit0 : Codeword
  flit1 : Codeword
  word  : BitVec 32
  deriving DecidableEq, Repr

/-- A link port (R386 to R390, R420): port 6 is X.  `rx` holds, per virtual channel, the codewords of a message that is
still arriving; `kept` the frames that ACK does not cover yet; `freed` the flit buffers freed on each virtual channel whose
credits have not gone back, `used` the credits in use on each, and `last` the frame sent last; `progT` the time of ACK's last
progress, `upT` the last time in UP, `syncT` the time of the last SYNC sent, `signal` whether a signal is present. -/
structure Link where
  state     : LinkState
  reason    : Nat
  peer      : Option Hello
  lastHello : Nat
  fails     : List Nat
  resends   : List Nat
  rxFseq    : Nat
  txFseq    : Nat
  nak       : Bool
  rejecting : Bool
  kept      : List (Nat × Frame)
  txq       : List (Nat × Codeword)
  rx        : List (List (BitVec 128))
  freed     : List Nat
  used      : List Nat
  last      : Option Frame
  progT     : Nat
  upT       : Nat
  syncT     : Nat
  ident     : Nat
  signal    : Bool
  deriving DecidableEq, Repr

/-- A device's link-state record (R394); `ports` holds the device on each UP port, 1,024 where there is none. -/
structure LinkRec where
  serial : Nat
  device : Nat
  mcand  : Bool
  tmcand : Bool
  tmprio : Nat
  seq    : Nat
  ports  : List Nat
  deriving DecidableEq, Repr

/-- A retained end-to-end message with the time of its last progress (R398). -/
structure Retained where
  msg  : Msg
  time : Nat
  sent : Bool
  deriving DecidableEq, Repr

/-- An outstanding remote access (R401, R402): a graph load of a firing, a store of a PE, an engine's access, or a
split half of either; `flow` is the atomic flow of a store's activation (R264). -/
structure RemAcc where
  device : Nat
  eseq   : Nat
  store  : Bool
  addr   : Nat
  len    : Nat
  firing : Option Nat
  engine : Option Nat
  data   : Option (List Byte)
  failed : Bool
  seq    : Nat
  flow   : Option Nat
  deriving DecidableEq, Repr

/-- A remote-send item held by the receiver until its window completes (R406). -/
structure RsItem where
  src   : Nat
  entry : Nat
  wafer : Nat
  k     : Nat
  word  : Nat
  deriving DecidableEq, Repr

/-- A close of wafer `wafer` by `src` for `entry` (R406). -/
structure RsClose where
  src   : Nat
  entry : Nat
  wafer : Nat
  deriving DecidableEq, Repr

/-- Items counted for (source, entry, wafer) (R407). -/
structure RsAcc where
  src   : Nat
  entry : Nat
  wafer : Nat
  n     : Nat
  deriving DecidableEq, Repr

/-- A sender's credits and outstanding items for a remote binding target (R406). -/
structure RsBind where
  device  : Nat
  inbound : Nat
  credits : Nat
  asked   : Bool
  refused : Bool
  deriving DecidableEq, Repr

/-- An RSEND item that its receiver has not acknowledged (R27, R406). -/
structure RsOut where
  device  : Nat
  inbound : Nat
  wafer   : Nat
  k       : Nat
  deriving DecidableEq, Repr

/-- A resynchronisation of a group's state region for one wafer (R419): on the source, `begun` says that the snapshot is
made and `asked` who has asked for it; on the minority, `begun` says that it has asked, and `got` counts what came. -/
structure Resync where
  group    : Nat
  wafer    : Nat
  isSource : Bool
  source   : Nat
  iaddr    : Nat
  iter     : Nat
  key      : Nat
  since    : Nat
  flow     : Nat
  begun    : Bool
  holding  : Bool
  asked    : Option Nat
  got      : Nat
  deriving DecidableEq, Repr

/-- The fabric unit beside its registers. -/
structure Fabric where
  links    : List Link
  recs     : List LinkRec
  mySeq    : Nat
  newVer   : Option Nat
  newTab   : List (Nat × Nat)
  curVer   : Nat
  txSeq    : List (Nat × Nat)
  rxSeq    : List (Nat × Nat)
  retained : List Retained
  waiting  : List Msg
  /-- Messages of other devices that wait here for a link (R398). -/
  transit  : List Msg
  remote   : List RemAcc
  items    : List RsItem
  /-- RSITEM and RSCLOSE messages that wait for space in the assembly area (R332). -/
  held     : List Msg
  closes   : List RsClose
  accs     : List RsAcc
  binds    : List RsBind
  /-- Credit requests that wait for space, and credits granted whose items have not come (source × 256 + entry). -/
  asks     : List (Nat × Nat × Nat)
  granted  : List (Nat × Nat)
  outs     : List RsOut
  /-- Items sent per wafer, incarnation, device and inbound entry. -/
  sentK    : List (Nat × Nat)
  lost     : List Nat
  /-- The start-up last seen of each device, as (device, SERIAL, BOOTCNT) (R399). -/
  boots    : List (Nat × Nat × Nat)
  lastUp   : List (Nat × Nat)
  runT     : Nat
  /-- The moment at which both RUN and TLOCK were set (R413). -/
  startT   : Option Nat
  /-- Times of the exchange in progress, the parent's bound, the time of the last exchange or growth of E, and runs of good
  exchanges (R410 to R412). -/
  t2       : Nat
  t3       : Nat
  parE     : Nat
  lastX    : Nat
  good10   : Nat
  good20   : Nat
  teff     : Nat
  weff     : Nat
  nEff     : Nat
  resyncs  : List Resync
  /-- Requests for a snapshot that came before this device's own outcome, as (group, wafer, device) (R419). -/
  rsyAsks  : List (Nat × Nat × Nat)
  deriving DecidableEq, Repr

end Sys2Proof.Machine
end

