-- ==== Sys2Proof/Syntax.lean ====
section
/-! DEFINITION. The commands of the SZ4160 block: one constructor per row of the table of operations and events.  An
operand named `m` is the master that makes a register access (Table 9.4); `f` is a firing's number in State. -/

namespace Sys2Proof

open Machine (Frame Msg PtrFault)

/-- One command.  Each constructor's comment is the row's mnemonic and the rule that governs it. (DESIGN CHOICE, log
entries 1 and 10) -/
inductive Instr where
  /-- TICK (R15). -/
  | tick
  /-- WAFER_ADMIT (R23). -/
  | waferAdmit
  /-- WAFER_COMMIT (R29). -/
  | waferCommit
  /-- SUBTICK_EDGE (R15). -/
  | subtickEdge
  /-- TCK_RUN (R16). -/
  | tckRun (m : Nat) (v : Word)
  /-- TCK_PERIOD_WRITE (R14). -/
  | tckPeriodWrite (m : Nat) (v : Word)
  /-- TCK_TIME_SET (R37). -/
  | tckTimeSet (m : Nat) (v : Word)
  /-- TIME_SOURCE_LOST (R33). -/
  | timeSourceLost
  /-- TIME_SOURCE_RETURN (R33). -/
  | timeSourceReturn
  /-- TCK_LAG_MAX_READ (R537). -/
  | tckLagMaxRead (m : Nat)
  /-- TIL_READYQ_MAX_READ (R537). -/
  | tilReadyqMaxRead (m : Nat) (t : Nat)
  /-- PEX_INFLIGHT_MAX_READ (R537). -/
  | pexInflightMaxRead (m : Nat) (t : Nat) (p : Nat)
  /-- MST_OCC_MAX_READ (R537). -/
  | mstOccMaxRead (m : Nat) (t : Nat)
  /-- SCH_ACT_MAX_READ (R537). -/
  | schActMaxRead (m : Nat)
  /-- SCH_DLY_MAX_READ (R537). -/
  | schDlyMaxRead (m : Nat)
  /-- AFE_PKHOLD_READ (R537). -/
  | afePkholdRead (m : Nat) (c : Nat)
  /-- BOOT_TEMPMAX_READ (R537). -/
  | bootTempmaxRead (m : Nat)
  /-- FCL_RECOV_MAX_READ (R537). -/
  | fclRecovMaxRead (m : Nat)
  /-- RC_COUNTER_READ (R9). -/
  | rcCounterRead (m : Nat) (a : Nat)
  /-- REGISTER_WRITE (R9). -/
  | registerWrite (m : Nat) (a : Nat) (v : Word)
  /-- TOKEN_ARRIVAL (R85). -/
  | tokenArrival (t : Nat) (n : Nat)
  /-- SPILL_WRITE (R90). -/
  | spillWrite (t : Nat)
  /-- SPILL_FETCH (R94). -/
  | spillFetch (t : Nat) (n : Nat)
  /-- RESERVE_RELOAD (R98). -/
  | reserveReload (t : Nat)
  /-- DEADLOCK_WINDOW_EXPIRY (R101). -/
  | deadlockWindowExpiry (t : Nat) (k : Nat)
  /-- DEADLOCK_CONFIRM (R103). -/
  | deadlockConfirm (t : Nat) (k : Nat)
  /-- MST_PURGE_WALK (R105). -/
  | mstPurgeWalk (t : Nat) (k : Nat)
  /-- MST_ECC_ERROR (R104). -/
  | mstEccError (t : Nat) (n : Nat) (c : Nat) (e : Codeword)
  /-- DISPATCH_GRANT (R53). -/
  | dispatchGrant (t : Nat)
  /-- READY_QUEUE_ADMIT (R55). -/
  | readyQueueAdmit (t : Nat)
  /-- FIRING_COMMIT (R58). -/
  | firingCommit (f : Nat)
  /-- STORE_DRAIN (R59). -/
  | storeDrain (t : Nat) (p : Nat)
  /-- EVENT_BUFFER_DRAIN (R234). -/
  | eventBufferDrain (t : Nat) (p : Nat)
  /-- ACT_ID_RETURN (R49). -/
  | actIdReturn (a : Nat)
  /-- PE_RETIRE (R76). -/
  | peRetire (m : Nat) (t : Nat) (p : Nat) (v : Word)
  /-- PE_RETIRE_COMPLETE (R76). -/
  | peRetireComplete (t : Nat) (p : Nat)
  /-- STATCLR (R74). -/
  | statclr (m : Nat) (t : Nat) (v : Word)
  /-- ILLEGAL_ENCODING (R146). -/
  | fireIllegalEncoding (f : Nat)
  /-- PASS (R148). -/
  | firePass (f : Nat)
  /-- ADD (R148). -/
  | fireAdd (f : Nat)
  /-- SUB (R148). -/
  | fireSub (f : Nat)
  /-- ADDS (R148). -/
  | fireAdds (f : Nat)
  /-- SUBS (R148). -/
  | fireSubs (f : Nat)
  /-- NEG (R148). -/
  | fireNeg (f : Nat)
  /-- NEGS (R148). -/
  | fireNegs (f : Nat)
  /-- ABS (R148). -/
  | fireAbs (f : Nat)
  /-- ABSS (R148). -/
  | fireAbss (f : Nat)
  /-- MUL (R148). -/
  | fireMul (f : Nat)
  /-- MULH (R148). -/
  | fireMulh (f : Nat)
  /-- MULS (R148). -/
  | fireMuls (f : Nat)
  /-- DIV (R184). -/
  | fireDiv (f : Nat)
  /-- REM (R184). -/
  | fireRem (f : Nat)
  /-- MIN (R148). -/
  | fireMin (f : Nat)
  /-- MAX (R148). -/
  | fireMax (f : Nat)
  /-- AND (R148). -/
  | fireAnd (f : Nat)
  /-- OR (R148). -/
  | fireOr (f : Nat)
  /-- XOR (R148). -/
  | fireXor (f : Nat)
  /-- NOT (R148). -/
  | fireNot (f : Nat)
  /-- ANDN (R148). -/
  | fireAndn (f : Nat)
  /-- SHL (R186). -/
  | fireShl (f : Nat)
  /-- SHR (R186). -/
  | fireShr (f : Nat)
  /-- SAR (R186). -/
  | fireSar (f : Nat)
  /-- ROL (R186). -/
  | fireRol (f : Nat)
  /-- ROR (R186). -/
  | fireRor (f : Nat)
  /-- CLZ (R148). -/
  | fireClz (f : Nat)
  /-- POPC (R148). -/
  | firePopc (f : Nat)
  /-- CMPEQ (R150). -/
  | fireCmpeq (f : Nat)
  /-- CMPNE (R150). -/
  | fireCmpne (f : Nat)
  /-- CMPLT (R150). -/
  | fireCmplt (f : Nat)
  /-- CMPLE (R150). -/
  | fireCmple (f : Nat)
  /-- CMPUN (R150). -/
  | fireCmpun (f : Nat)
  /-- SEL (R149). -/
  | fireSel (f : Nat)
  /-- SWITCH (R66). -/
  | fireSwitch (f : Nat)
  /-- GATE (R66). -/
  | fireGate (f : Nat)
  /-- MERGE (R66). -/
  | fireMerge (f : Nat)
  /-- LOOPGATE (R67). -/
  | fireLoopgate (t : Nat) (n : Nat)
  /-- FADD (R151). -/
  | fireFadd (f : Nat)
  /-- FSUB (R151). -/
  | fireFsub (f : Nat)
  /-- FMUL (R151). -/
  | fireFmul (f : Nat)
  /-- FDIV (R151). -/
  | fireFdiv (f : Nat)
  /-- FNEG (R151). -/
  | fireFneg (f : Nat)
  /-- FABS (R151). -/
  | fireFabs (f : Nat)
  /-- FMIN (R151). -/
  | fireFmin (f : Nat)
  /-- FMAX (R151). -/
  | fireFmax (f : Nat)
  /-- FMA (R187). -/
  | fireFma (f : Nat)
  /-- FMS (R187). -/
  | fireFms (f : Nat)
  /-- FNMA (R187). -/
  | fireFnma (f : Nat)
  /-- FSQRT (R151). -/
  | fireFsqrt (f : Nat)
  /-- FRSQRT (R208). -/
  | fireFrsqrt (f : Nat)
  /-- FRINT (R151). -/
  | fireFrint (f : Nat)
  /-- CVT (R152). -/
  | fireCvt (f : Nat)
  /-- FCLASS (R152). -/
  | fireFclass (f : Nat)
  /-- SPLAT (R153). -/
  | fireSplat (f : Nat)
  /-- XLANE (R153). -/
  | fireXlane (f : Nat)
  /-- INSLANE (R153). -/
  | fireInslane (f : Nat)
  /-- PERM (R153). -/
  | firePerm (f : Nat)
  /-- VSEL (R153). -/
  | fireVsel (f : Nat)
  /-- HSUM (R154). -/
  | fireHsum (f : Nat)
  /-- HMIN (R154). -/
  | fireHmin (f : Nat)
  /-- HMAX (R154). -/
  | fireHmax (f : Nat)
  /-- DOT (R154). -/
  | fireDot (f : Nat)
  /-- LOAD (R155). -/
  | fireLoad (f : Nat)
  /-- STORE (R155). -/
  | fireStore (f : Nat)
  /-- STOREX (R155). -/
  | fireStorex (f : Nat)
  /-- COPY (R155). -/
  | fireCopy (f : Nat)
  /-- IFETCH (R127). -/
  | fireIfetch (f : Nat)
  /-- ISTORE (R129). -/
  | fireIstore (f : Nat)
  /-- FENCE (R156). -/
  | fireFence (f : Nat)
  /-- CLEAN (R155). -/
  | fireClean (f : Nat)
  /-- CLINV (R155). -/
  | fireClinv (f : Nat)
  /-- CMUL (R158). -/
  | fireCmul (f : Nat)
  /-- FFT4 (R158). -/
  | fireFft4 (f : Nat)
  /-- IFFT4 (R158). -/
  | fireIfft4 (f : Nat)
  /-- CMAG (R207). -/
  | fireCmag (f : Nat)
  /-- CPHASE (R207). -/
  | fireCphase (f : Nat)
  /-- CPOLAR (R207). -/
  | fireCpolar (f : Nat)
  /-- HILB (R159). -/
  | fireHilb (f : Nat)
  /-- RESAMP (R160). -/
  | fireResamp (f : Nat)
  /-- MOMENT (R161). -/
  | fireMoment (f : Nat)
  /-- NEWACT (R163). -/
  | fireNewact (f : Nat)
  /-- FREEACT (R49). -/
  | fireFreeact (f : Nat)
  /-- ITER (R66). -/
  | fireIter (f : Nat)
  /-- CHTAG (R163). -/
  | fireChtag (f : Nat)
  /-- SELF (R162). -/
  | fireSelf (f : Nat)
  /-- TAGQ (R162). -/
  | fireTagq (f : Nat)
  /-- FAN (R65). -/
  | fireFan (t : Nat) (n : Nat)
  /-- CHSEND (R165). -/
  | fireChsend (f : Nat)
  /-- CHPART (R165). -/
  | fireChpart (f : Nat)
  /-- CHEND (R165). -/
  | fireChend (f : Nat)
  /-- CHPOLL (R166). -/
  | fireChpoll (f : Nat)
  /-- LKACQ (R167). -/
  | fireLkacq (f : Nat)
  /-- LKTRY (R167). -/
  | fireLktry (f : Nat)
  /-- LKREL (R167). -/
  | fireLkrel (f : Nat)
  /-- LKHAND (R167). -/
  | fireLkhand (f : Nat)
  /-- DELAY (R269). -/
  | fireDelay (f : Nat)
  /-- TICKWAIT (R270). -/
  | fireTickwait (f : Nat)
  /-- SCHSTAT (R169). -/
  | fireSchstat (f : Nat)
  /-- CRUMB (R164). -/
  | fireCrumb (f : Nat)
  /-- CODE_COMMIT (R170). -/
  | fireCodeCommit (f : Nat)
  /-- VOTE (R172). -/
  | fireVote (f : Nat)
  /-- RSEND (R175). -/
  | fireRsend (f : Nat)
  /-- TIMEQ (R176). -/
  | fireTimeq (f : Nat)
  /-- EXT_OP (R178). -/
  | fireExtOp (f : Nat)
  /-- EXT_REPLY (R180). -/
  | extReply (ws : List (BitVec 128))
  /-- EXT_REPLY_TIMEOUT (R181). -/
  | extReplyTimeout (n : Nat)
  /-- UCS_FETCH_PARITY_ERROR (R215). -/
  | ucsFetchParityError (t : Nat) (a : Nat) (f : Nat) (flips : BitVec 165)
  /-- UCS_WORD_REPAIR (R215). -/
  | ucsWordRepair (t : Nat) (a : Nat) (ok : Bool)
  /-- UCS_SCRUB_READ (R217). -/
  | ucsScrubRead (t : Nat) (flips : BitVec 165) (ok : Bool)
  /-- UCS_RELOAD (R217). -/
  | ucsReload (m : Nat) (t : Nat) (v : Word)
  /-- UCS_RELOAD_DONE (R217). -/
  | ucsReloadDone (t : Nat)
  /-- MNT_CLEAN (R237). -/
  | mntClean (m : Nat) (v : Word)
  /-- MNT_INVAL (R237). -/
  | mntInval (m : Nat) (v : Word)
  /-- MNT_CLINV (R237). -/
  | mntClinv (m : Nat) (v : Word)
  /-- MNT_PIN (R243). -/
  | mntPin (m : Nat) (v : Word)
  /-- MNT_UNPIN (R237). -/
  | mntUnpin (m : Nat) (v : Word)
  /-- MNT_COMPLETE (R239). -/
  | mntComplete
  /-- L2C_LOCK_WRITE (R243). -/
  | l2cLockWrite (m : Nat) (t : Nat) (v : Word)
  /-- WAY_GROUP_POWER_REQUEST (R245). -/
  | wayGroupPowerRequest (m : Nat) (t : Nat) (v : Word)
  /-- WAY_GROUP_POWER_DOWN_DONE (R245). -/
  | wayGroupPowerDownDone (t : Nat) (g : Nat)
  /-- L2_FILL_COMPLETE (R240). -/
  | l2FillComplete (n : Nat)
  /-- L2_SCRUB_READ (R251). -/
  | l2ScrubRead (t : Nat) (e : Codeword)
  /-- SDRAM_PATROL_READ (R251). -/
  | sdramPatrolRead (c : Nat) (e : Codeword)
  /-- L2_ECC_ERROR (R249). -/
  | l2EccError (kind : Nat) (t : Nat) (y : Nat) (x : Nat) (e : Codeword)
  /-- SDRAM_ECC_ERROR (R249). -/
  | sdramEccError (a : Nat) (e : Codeword) (e2 : Codeword)
  /-- SDC_CFG_WRITE (R256). -/
  | sdcCfgWrite (m : Nat) (v : Word)
  /-- SDRAM_TRAINING_DONE (R252). -/
  | sdramTrainingDone
  /-- SDRAM_REFRESH (R254). -/
  | sdramRefresh (c : Nat)
  /-- SDRAM_REFRESH_RATE_CHANGE (R254). -/
  | sdramRefreshRateChange (c : Nat) (b : Bool)
  /-- PCIE_REQUEST (R236). -/
  | pcieRequest (bar2 : Bool) (write : Bool) (noSnoop : Bool) (off : Nat) (n : Nat) (data : List Byte)
  /-- SCHED_GRANT (R261). -/
  | schedGrant
  /-- FLOW_ITEM_RELEASE (R265). -/
  | flowItemRelease (fl : Nat)
  /-- FLOW_WAIT_WARNING (R267). -/
  | flowWaitWarning (n : Nat)
  /-- LKU_ACQ (R281). -/
  | lkuAcq (m : Nat) (v : Word)
  /-- LKU_TRY (R281). -/
  | lkuTry (m : Nat) (v : Word)
  /-- LKU_REL (R281). -/
  | lkuRel (m : Nat) (v : Word)
  /-- LKU_HAND (R281). -/
  | lkuHand (m : Nat) (v : Word)
  /-- LKU_CANCEL (R281). -/
  | lkuCancel (m : Nat) (v : Word)
  /-- LKU_MRESET (R285). -/
  | lkuMreset (m : Nat) (v : Word)
  /-- AFE_START (R295). -/
  | afeStart (m : Nat) (v : Word)
  /-- AFE_CHANNEL_CONFIG (R292). -/
  | afeChannelConfig (m : Nat) (c : Nat) (v : Word)
  /-- AFE_TACH_CONFIG (R292). -/
  | afeTachConfig (m : Nat) (t : Nat) (v : Word)
  /-- SHADOW_WRITE (R320). -/
  | shadowWrite (m : Nat) (a : Nat) (v : Word)
  /-- PROTECTION_SAMPLE (R302). -/
  | protectionSample (c : Nat) (x : Int)
  /-- MEASUREMENT_SAMPLE (R297). -/
  | measurementSample (c : Nat) (k : Nat) (x : Int)
  /-- TACH_CROSSING (R300). -/
  | tachCrossing (t : Nat) (v : Int)
  /-- TACH_EDGE_QUALIFY (R300). -/
  | tachEdgeQualify (t : Nat)
  /-- OVERSPEED_TIMEOUT (R304). -/
  | overspeedTimeout (t : Nat)
  /-- BIAS_READING (R298). -/
  | biasReading (c : Nat) (v : Int) (b : Bool)
  /-- GRAPH_DEMAND_APPLY (R308). -/
  | graphDemandApply
  /-- GRAPH_DEMAND_DISCARD (R308). -/
  | graphDemandDiscard (y : Nat)
  /-- GRAPH_DEMAND_TIMEOUT (R309). -/
  | graphDemandTimeout (k : Nat)
  /-- TRP_RESET (R307). -/
  | trpReset (m : Nat) (v : Word)
  /-- TRP_FIRST_CLR (R323). -/
  | trpFirstClr (m : Nat) (v : Word)
  /-- TRP_ARM (R314). -/
  | trpArm (m : Nat) (v : Word)
  /-- ALIVE_SILENCE_FORCE (R313). -/
  | aliveSilenceForce
  /-- TRIP_RAIL_LOSS (R316). -/
  | tripRailLoss (mv : Nat)
  /-- TRIP_RAIL_RESTORE (R316). -/
  | tripRailRestore
  /-- TRIP_CONFIG_MISMATCH (R317). -/
  | tripConfigMismatch (kind : Nat) (y : Nat)
  /-- DRIVER_SENSE_MISMATCH (R318). -/
  | driverSenseMismatch (k : Nat)
  /-- DRIVER_CURRENT_LIMIT (R521). -/
  | driverCurrentLimit (k : Nat)
  /-- DRIVER_RETRY (R521). -/
  | driverRetry (k : Nat)
  /-- DIE_LINK_LOSS (R319). -/
  | dieLinkLoss
  /-- DIE_LINK_CORRECTION (R319). -/
  | dieLinkCorrection (e : Codeword)
  /-- CHN_CREATE (R325). -/
  | chnCreate (m : Nat)
  /-- CHN_DESTROY (R344). -/
  | chnDestroy (m : Nat)
  /-- CHN_FLUSH (R348). -/
  | chnFlush (m : Nat)
  /-- CHN_DROP_PACKET (R347). -/
  | chnDropPacket (m : Nat)
  /-- CHN_QUERY (R354). -/
  | chnQuery (m : Nat)
  /-- WINDOW_COMPLETE (R339). -/
  | windowComplete (y : Nat)
  /-- STALE_TAIL_EXPIRY (R349). -/
  | staleTailExpiry (y : Nat)
  /-- QUEUE_RESET (R352). -/
  | queueReset (y : PtrFault)
  /-- QRAM_ECC_ERROR (R353). -/
  | qramEccError (y : Nat) (kind : Nat) (n : Nat) (both : Bool) (e : Codeword)
  /-- OVERFLOW_MOVE_BACK (R329). -/
  | overflowMoveBack (y : Nat)
  /-- ENGINE_BUNDLE (R358). -/
  | engineBundle (n : Nat)
  /-- ALU_ADD (R360). -/
  | aluAdd (n : Nat) (u : Nat) (t : Word)
  /-- ALU_SUB (R360). -/
  | aluSub (n : Nat) (u : Nat) (t : Word)
  /-- ALU_AND (R360). -/
  | aluAnd (n : Nat) (u : Nat) (t : Word)
  /-- ALU_OR (R360). -/
  | aluOr (n : Nat) (u : Nat) (t : Word)
  /-- ALU_XOR (R360). -/
  | aluXor (n : Nat) (u : Nat) (t : Word)
  /-- ALU_ANDN (R360). -/
  | aluAndn (n : Nat) (u : Nat) (t : Word)
  /-- ALU_SHL (R360). -/
  | aluShl (n : Nat) (u : Nat) (t : Word)
  /-- ALU_SHR (R360). -/
  | aluShr (n : Nat) (u : Nat) (t : Word)
  /-- ALU_SAR (R360). -/
  | aluSar (n : Nat) (u : Nat) (t : Word)
  /-- ALU_ROL (R360). -/
  | aluRol (n : Nat) (u : Nat) (t : Word)
  /-- ALU_EQ (R360). -/
  | aluEq (n : Nat) (u : Nat) (t : Word)
  /-- ALU_NE (R360). -/
  | aluNe (n : Nat) (u : Nat) (t : Word)
  /-- ALU_LTS (R360). -/
  | aluLts (n : Nat) (u : Nat) (t : Word)
  /-- ALU_LTU (R360). -/
  | aluLtu (n : Nat) (u : Nat) (t : Word)
  /-- ALU_LES (R360). -/
  | aluLes (n : Nat) (u : Nat) (t : Word)
  /-- ALU_LEU (R360). -/
  | aluLeu (n : Nat) (u : Nat) (t : Word)
  /-- ALU_MINS (R360). -/
  | aluMins (n : Nat) (u : Nat) (t : Word)
  /-- ALU_MAXS (R360). -/
  | aluMaxs (n : Nat) (u : Nat) (t : Word)
  /-- ALU_MINU (R360). -/
  | aluMinu (n : Nat) (u : Nat) (t : Word)
  /-- ALU_MAXU (R360). -/
  | aluMaxu (n : Nat) (u : Nat) (t : Word)
  /-- ALU_PASS (R360). -/
  | aluPass (n : Nat) (u : Nat) (t : Word)
  /-- ALU_CLZ (R360). -/
  | aluClz (n : Nat) (u : Nat) (t : Word)
  /-- ALU_POPC (R360). -/
  | aluPopc (n : Nat) (u : Nat) (t : Word)
  /-- ALU_SX8 (R360). -/
  | aluSx8 (n : Nat) (u : Nat) (t : Word)
  /-- ALU_SX16 (R360). -/
  | aluSx16 (n : Nat) (u : Nat) (t : Word)
  /-- ALU_SX32 (R360). -/
  | aluSx32 (n : Nat) (u : Nat) (t : Word)
  /-- MUL_LO (R359). -/
  | mulLo (n : Nat) (t : Word)
  /-- MUL_HIS (R359). -/
  | mulHis (n : Nat) (t : Word)
  /-- MUL_HIU (R359). -/
  | mulHiu (n : Nat) (t : Word)
  /-- LSU_LDU8 (R365). -/
  | lsuLdu8 (n : Nat) (t : Word)
  /-- LSU_LDU16 (R365). -/
  | lsuLdu16 (n : Nat) (t : Word)
  /-- LSU_LDU32 (R365). -/
  | lsuLdu32 (n : Nat) (t : Word)
  /-- LSU_LDU64 (R365). -/
  | lsuLdu64 (n : Nat) (t : Word)
  /-- LSU_LDS8 (R365). -/
  | lsuLds8 (n : Nat) (t : Word)
  /-- LSU_LDS16 (R365). -/
  | lsuLds16 (n : Nat) (t : Word)
  /-- LSU_LDS32 (R365). -/
  | lsuLds32 (n : Nat) (t : Word)
  /-- LSU_ST8 (R365). -/
  | lsuSt8 (n : Nat) (t : Word)
  /-- LSU_ST16 (R365). -/
  | lsuSt16 (n : Nat) (t : Word)
  /-- LSU_ST32 (R365). -/
  | lsuSt32 (n : Nat) (t : Word)
  /-- LSU_ST64 (R373). -/
  | lsuSt64 (n : Nat) (t : Word)
  /-- LSU_FENCE (R359). -/
  | lsuFence (n : Nat) (t : Word)
  /-- PCU_JUMP (R362). -/
  | pcuJump (n : Nat) (t : Word)
  /-- PCU_CALL (R362). -/
  | pcuCall (n : Nat) (t : Word)
  /-- PCU_RET (R362). -/
  | pcuRet (n : Nat) (t : Word)
  /-- PCU_RETE (R372). -/
  | pcuRete (n : Nat) (t : Word)
  /-- PCU_LOOP (R363). -/
  | pcuLoop (n : Nat) (t : Word)
  /-- PCU_ISYNC (R373). -/
  | pcuIsync (n : Nat) (t : Word)
  /-- PCU_HALT (R362). -/
  | pcuHalt (n : Nat) (t : Word)
  /-- PCU_WAIT (R362). -/
  | pcuWait (n : Nat) (t : Word)
  /-- PCU_EVMASK (R371). -/
  | pcuEvmask (n : Nat) (t : Word)
  /-- PCU_WDOG (R374). -/
  | pcuWdog (n : Nat) (t : Word)
  /-- CHP_SEND (R367). -/
  | chpSend (n : Nat) (t : Word)
  /-- CHP_SENDE (R367). -/
  | chpSende (n : Nat) (t : Word)
  /-- CHP_RECV (R367). -/
  | chpRecv (n : Nat) (t : Word)
  /-- CHP_DROP (R347). -/
  | chpDrop (n : Nat) (t : Word)
  /-- CHP_FLUSH (R348). -/
  | chpFlush (n : Nat) (t : Word)
  /-- CHP_EVQ_READ (R370). -/
  | chpEvqRead (n : Nat) (d : Nat)
  /-- ENGINE_EVENT_TAKE (R372). -/
  | engineEventTake (n : Nat)
  /-- CEN_RUN (R383). -/
  | cenRun (m : Nat) (n : Nat) (v : Word)
  /-- CEN_RESET (R374). -/
  | cenReset (m : Nat) (n : Nat) (v : Word)
  /-- ENGINE_WATCHDOG_EXPIRY (R374). -/
  | engineWatchdogExpiry (n : Nat)
  /-- ENGINE_TIMER (R371). -/
  | engineTimer (n : Nat)
  /-- CEN_DOORBELL (R371). -/
  | cenDoorbell (m : Nat) (n : Nat) (v : Word)
  /-- CEN_RAMDATA_READ (R384). -/
  | cenRamdataRead (m : Nat) (n : Nat)
  /-- CEN_RAMDATA_WRITE (R384). -/
  | cenRamdataWrite (m : Nat) (n : Nat) (v : Word)
  /-- ENGINE_RAM_ERROR (R374). -/
  | engineRamError (n : Nat) (kind : Nat) (y : Nat) (e : Codeword)
  /-- DEFLATE_JOB (R379). -/
  | deflateJob (m : Nat) (u : Nat) (v : Word)
  /-- INFLATE_JOB (R379). -/
  | inflateJob (m : Nat) (u : Nat) (v : Word)
  /-- FONDANT_JOB (R380). -/
  | fondantJob (m : Nat) (u : Nat) (v : Word)
  /-- FONDANT_DEFLATE_JOB (R380). -/
  | fondantDeflateJob (m : Nat) (u : Nat) (v : Word)
  /-- UNFONDANT_JOB (R380). -/
  | unfondantJob (m : Nat) (u : Nat) (v : Word)
  /-- INFLATE_UNFONDANT_JOB (R380). -/
  | inflateUnfondantJob (m : Nat) (u : Nat) (v : Word)
  /-- ENCRYPT_JOB (R381). -/
  | encryptJob (m : Nat) (u : Nat) (v : Word)
  /-- DECRYPT_JOB (R381). -/
  | decryptJob (m : Nat) (u : Nat) (v : Word)
  /-- UNWRAP_JOB (R381). -/
  | unwrapJob (m : Nat) (u : Nat) (v : Word)
  /-- TRANSFORM_JOB_DONE (R377). -/
  | transformJobDone (u : Nat)
  /-- TRANSFORM_UNIT_ERROR (R378). -/
  | transformUnitError (u : Nat) (bad : Bool)
  /-- KEY_LOAD (R382). -/
  | keyLoad (m : Nat) (v : Word)
  /-- KEY_ERASE (R382). -/
  | keyErase (m : Nat) (v : Word)
  /-- ENC_ZEROIZE (R382). -/
  | encZeroize (m : Nat) (v : Word)
  /-- RECOVERY_DISPATCH (R458). -/
  | recoveryDispatch
  /-- LINK_FRAME_RECEIVE (R388). -/
  | linkFrameReceive (p : Nat) (f : Frame)
  /-- LINK_RESEND_TIMEOUT (R388). -/
  | linkResendTimeout (p : Nat)
  /-- LINK_SIGNAL_DETECT (R389). -/
  | linkSignalDetect (p : Nat)
  /-- LINK_FRAME_LOCK (R389). -/
  | linkFrameLock (p : Nat)
  /-- LINK_TRAINING_FAILURE (R389). -/
  | linkTrainingFailure (p : Nat)
  /-- LINK_SIGNAL_LOSS (R389). -/
  | linkSignalLoss (p : Nat)
  /-- LINK_HELLO_TIMEOUT (R389). -/
  | linkHelloTimeout (p : Nat)
  /-- LINK_WAKE (R390). -/
  | linkWake (p : Nat)
  /-- HELLO_SEND (R391). -/
  | helloSend (p : Nat)
  /-- HELLO_RECEIVE (R392). -/
  | helloReceive (p : Nat) (m : Msg)
  /-- MGMT_RECEIVE (R394). -/
  | mgmtReceive (m : Msg)
  /-- ROUTE_RECEIVE (R394). -/
  | routeReceive (m : Msg)
  /-- RDREQ_RECEIVE (R401). -/
  | rdreqReceive (m : Msg)
  /-- RDRESP_RECEIVE (R401). -/
  | rdrespReceive (m : Msg)
  /-- WRREQ_RECEIVE (R401). -/
  | wrreqReceive (m : Msg)
  /-- WRACK_RECEIVE (R401). -/
  | wrackReceive (m : Msg)
  /-- RERR_RECEIVE (R402). -/
  | rerrReceive (m : Msg)
  /-- RSCRED_RECEIVE (R406). -/
  | rscredReceive (m : Msg)
  /-- RSGRANT_RECEIVE (R406). -/
  | rsgrantReceive (m : Msg)
  /-- RSITEM_RECEIVE (R407). -/
  | rsitemReceive (m : Msg)
  /-- RSCLOSE_SEND (R406). -/
  | rscloseSend (k : Nat)
  /-- RSCLOSE_RECEIVE (R406). -/
  | rscloseReceive (m : Msg)
  /-- RSACK_RECEIVE (R406). -/
  | rsackReceive (m : Msg)
  /-- VOTE_MESSAGE (R417). -/
  | voteMessage (m : Msg)
  /-- VOTE_TIMEOUT (R418). -/
  | voteTimeout (f : Nat)
  /-- RESYNC_SOURCE_POINT (R419). -/
  | resyncSourcePoint (g : Nat) (w : Nat)
  /-- RESYNC_MINORITY_POINT (R419). -/
  | resyncMinorityPoint (g : Nat) (w : Nat)
  /-- RSYREQ_RECEIVE (R419). -/
  | rsyreqReceive (m : Msg)
  /-- RSYDATA_RECEIVE (R419). -/
  | rsydataReceive (m : Msg)
  /-- RSYACK_RECEIVE (R419). -/
  | rsyackReceive (m : Msg)
  /-- RESYNC_TIMEOUT (R419). -/
  | resyncTimeout (g : Nat) (w : Nat)
  /-- E2EACK_RECEIVE (R398). -/
  | e2eackReceive (m : Msg)
  /-- E2E_RESEND_TIMEOUT (R398). -/
  | e2eResendTimeout (d : Nat) (vc : Nat)
  /-- DEVICE_LOSS_TIMEOUT (R399). -/
  | deviceLossTimeout (d : Nat)
  /-- TIME_EXCHANGE (R410). -/
  | timeExchange (p : Nat)
  /-- SYNC_RECEIVE (R413). -/
  | syncReceive (p : Nat) (m : Msg)
  /-- DREQ_RECEIVE (R410). -/
  | dreqReceive (p : Nat) (m : Msg)
  /-- DRESP_RECEIVE (R410). -/
  | drespReceive (p : Nat) (m : Msg)
  /-- TIME_BOUND_GROWTH (R412). -/
  | timeBoundGrowth
  /-- XPORT_IDENTITY (R420). -/
  | xportIdentity (d : BitVec 128)
  /-- NOC_FLIT_ERROR (R427). -/
  | nocFlitError (k : Nat) (kind : Nat) (n : Nat) (e : Codeword) (side : Bool) (band : Nat) (again : Bool)
  /-- NOC_RESERVATION_WRITE (R429). -/
  | nocReservationWrite (m : Nat) (r : Nat) (v : Word)
  /-- DOMAIN_OFF_RETURN (R437). -/
  | domainOffReturn (kind : Nat) (n : Nat) (a : Nat)
  /-- PLL_LOSS_OF_LOCK (R434). -/
  | pllLossOfLock (p : Nat)
  /-- REFCLK_LOSS (R434). -/
  | refclkLoss
  /-- DOZE_ENTER (R442). -/
  | dozeEnter (m : Nat)
  /-- DOZE_TILE_FENCE (R442). -/
  | dozeTileFence
  /-- DOZE_WAKE (R443). -/
  | dozeWake (m : Nat)
  /-- WAKE_COMPLETE (R443). -/
  | wakeComplete
  /-- UNIT_POWER_REQUEST (R441). -/
  | unitPowerRequest (m : Nat) (v : Word)
  /-- DOMAIN_POWER_DOWN_DONE (R436). -/
  | domainPowerDownDone (d : Nat)
  /-- TILE_PARK (R440). -/
  | tilePark (m : Nat) (t : Nat) (v : Bool)
  /-- TILE_PARK_COMPLETE (R440). -/
  | tileParkComplete (t : Nat)
  /-- TILE_UNPARK_COMPLETE (R440). -/
  | tileUnparkComplete (t : Nat)
  /-- TILE_CLBOFF (R440). -/
  | tileClboff (m : Nat) (t : Nat) (v : Bool)
  /-- TILE_SPOFF (R440). -/
  | tileSpoff (m : Nat) (t : Nat) (v : Bool)
  /-- SUPPLY_WARNING (R445). -/
  | supplyWarning (rail : Nat) (mv : Nat)
  /-- SUPPLY_HOLD_END (R445). -/
  | supplyHoldEnd
  /-- SUPPLY_RESET (R446). -/
  | supplyReset (rail : Nat)
  /-- FAULT_REPORT (R454). -/
  | faultReport (c : Nat) (src : Nat) (kind : Nat) (loc : Nat) (detail : Nat) (tagged : Bool) (tag : Word) (wafered : Bool) (wafer : Nat)
  /-- PE_CHECKER_ERROR (R467). -/
  | peCheckerError (f : Nat) (unit : Nat)
  /-- PE_SUBSTITUTION (R468). -/
  | peSubstitution (t : Nat) (p : Nat)
  /-- WAFER_REPLAY (R470). -/
  | waferReplay (k : Nat)
  /-- JOURNAL_RESTORE (R473). -/
  | journalRestore (k : Nat)
  /-- TILE_RETIREMENT (R475). -/
  | tileRetirement (t : Nat)
  /-- TILE_STRUCTURE_ERROR (R452). -/
  | tileStructureError (t : Nat) (kind : Nat) (y : Nat) (e : Codeword)
  /-- SEQUENCER_MEMORY_ERROR (R452). -/
  | sequencerMemoryError (kind : Nat) (e : Codeword)
  /-- RECOVERY_WATCHDOG_EXPIRY (R479). -/
  | recoveryWatchdogExpiry
  /-- SEQUENCER_WATCHDOG_EXPIRY (R463). -/
  | sequencerWatchdogExpiry
  /-- ALIVE_TOGGLE (R461). -/
  | aliveToggle
  /-- ALIVE_ENABLE (R461). -/
  | aliveEnable (m : Nat) (v : Word)
  /-- FCL_CLEAR (R455). -/
  | fclClear (m : Nat) (v : Word)
  /-- FCL_LOG_POP (R456). -/
  | fclLogPop (m : Nat) (v : Word)
  /-- FCL_SEQ_KICK (R463). -/
  | fclSeqKick (m : Nat) (v : Word)
  /-- POWER_ON_RESET (R487). -/
  | powerOnReset (strap : Bool)
  /-- PIN_RESET (R487). -/
  | pinReset
  /-- HOST_RESET (R487). -/
  | hostReset (m : Nat) (v : Word)
  /-- RESET_RELEASE (R514). -/
  | resetRelease (flashOk : Bool) (token : Bool)
  /-- BOOT_SDRAM_TRAINED (R494). -/
  | bootSdramTrained (ok : Bool)
  /-- CFG_OPEN (R499). -/
  | cfgOpen (m : Nat)
  /-- CFG_SHADOW_COPY_DONE (R499). -/
  | cfgShadowCopyDone
  /-- CFG_DATA_WRITE (R499). -/
  | cfgDataWrite (m : Nat) (v : Word)
  /-- CFG_DATA_READ (R508). -/
  | cfgDataRead (m : Nat)
  /-- CFG_IMGLOAD (R500). -/
  | cfgImgload (m : Nat)
  /-- CFG_COMMIT (R501). -/
  | cfgCommit (m : Nat)
  /-- CFG_VALIDATION_DONE (R501). -/
  | cfgValidationDone
  /-- CFG_ABORT (R503). -/
  | cfgAbort (m : Nat)
  /-- CFG_LOCK_SET (R506). -/
  | cfgLockSet (m : Nat) (v : Word)
  /-- BOOT_FLASH_READ (R507). -/
  | bootFlashRead (m : Nat)
  /-- BOOT_FLASH_PROGRAM (R507). -/
  | bootFlashProgram (m : Nat)
  /-- BOOT_FLASH_ERASE (R507). -/
  | bootFlashErase (m : Nat)
  /-- BOOT_FLASH_DONE (R507). -/
  | bootFlashDone (ok : Bool)
  /-- BOOT_SVN_ADVANCE (R507). -/
  | bootSvnAdvance (m : Nat) (v : Word)
  /-- BOOT_KEY_REVOKE (R507). -/
  | bootKeyRevoke (m : Nat) (v : Word)
  /-- TEMP_OVER_GRADE (R518). -/
  | tempOverGrade (k : Nat) (t : Int)
  /-- TEMP_CRITICAL (R518). -/
  | tempCritical (k : Nat)
  /-- PCIE_FUNCTION_RESET (R280). -/
  | pcieFunctionReset (kind : Nat)
  /-- PCI_IRQ_WRITE (R523). -/
  | pciIrqWrite (m : Nat) (v : Word)
  /-- ETH_FRAME_RECEIVE (R525). -/
  | ethFrameReceive (y : Nat) (ts : Nat) (fcs : Bool) (f : List Byte)
  /-- ETH_RX_TAIL_WRITE (R525). -/
  | ethRxTailWrite (m : Nat) (y : Nat) (v : Word)
  /-- ETH_TX_TAIL_WRITE (R525). -/
  | ethTxTailWrite (m : Nat) (y : Nat) (v : Word)
  /-- ETH_FRAME_TRANSMIT (R526). -/
  | ethFrameTransmit (y : Nat) (c : Nat)
  /-- ETH_GATE_ENTRY (R526). -/
  | ethGateEntry (y : Nat)
  /-- TSL_SENSOR_FRAME (R528). -/
  | tslSensorFrame (p : Nat) (ts : Nat) (payload : List Byte)
  /-- I2C_ADDRESS_WRITE (R532). -/
  | i2cAddressWrite (b : Nat) (hi : Nat) (lo : Nat)
  /-- I2C_READ (R532). -/
  | i2cRead
  /-- JTAG_BYPASS (R531). -/
  | jtagBypass
  /-- JTAG_IDCODE (R531). -/
  | jtagIdcode
  /-- JTAG_SAMPLE_PRELOAD (R531). -/
  | jtagSamplePreload
  /-- JTAG_EXTEST (R531). -/
  | jtagExtest
  /-- JTAG_CLAMP (R531). -/
  | jtagClamp
  /-- JTAG_HIGHZ (R531). -/
  | jtagHighz
  /-- SUPPLY_RECOVERY_CROSSING (R445). -/
  | supplyRecoveryCrossing (rail : Nat) (up : Bool)
  /-- DOMAIN_POWER_UP_DONE (R441). -/
  | domainPowerUpDone (d : Nat)
  /-- PLL_LOCK_REGAINED (R299). -/
  | pllLockRegained (p : Nat)
  deriving DecidableEq, Repr

end Sys2Proof
end

