-- ==== Sys2Proof/Decode.lean ====
section
/-! DEFINITION. The table of operations and events gives no row any bits, so no word spells a command. -/

namespace Sys2Proof

/-- The command that the low `nbits` bits `w` spell: none, since no row of the table gives bits. (DESIGN CHOICE, log entry 4) -/
def decodeTableWord (_nbits _w : Nat) : Option Instr := none

end Sys2Proof
end

