-- ==== Sys2Proof/Machine/Ecc.lean ====
section
/-! DEFINITION. The D144 code: GF(16), columns, check symbols, syndrome and decoder (R246, R247). -/

namespace Sys2Proof.Machine

/-- Multiplication by α in GF(16) under x⁴ + x + 1 (R246). -/
def gfX (a : BitVec 4) : BitVec 4 := if bit a 3 then (a <<< 1) ^^^ 3 else a <<< 1

/-- Product in GF(16) (R246). -/
def gfMul (a b : BitVec 4) : BitVec 4 :=
  (if bit b 0 then a else 0) ^^^ (if bit b 1 then gfX a else 0) ^^^ (if bit b 2 then gfX (gfX a) else 0) ^^^
    (if bit b 3 then gfX (gfX (gfX a)) else 0)

/-- A syndrome or a column: four symbols. -/
structure Sym4 where
  s0 : BitVec 4
  s1 : BitVec 4
  s2 : BitVec 4
  s3 : BitVec 4
  deriving DecidableEq, Repr

def Sym4.zero : Sym4 := ⟨0, 0, 0, 0⟩

def Sym4.add (a b : Sym4) : Sym4 := ⟨a.s0 ^^^ b.s0, a.s1 ^^^ b.s1, a.s2 ^^^ b.s2, a.s3 ^^^ b.s3⟩

def Sym4.scale (c : BitVec 4) (a : Sym4) : Sym4 := ⟨gfMul c a.s0, gfMul c a.s1, gfMul c a.s2, gfMul c a.s3⟩

/-- Column (1, u, v, u² + uv + ωv²) with ω = 8 (R246). -/
def d144Quad (u v : BitVec 4) : Sym4 := ⟨1, u, v, gfMul u u ^^^ gfMul u v ^^^ gfMul 8 (gfMul v v)⟩

/-- Column h_j (R246). -/
def d144Col (j : Nat) : Sym4 :=
  if j < 32 then
    let k := if j ≤ 13 then j + 2 else j + 3
    d144Quad (BitVec.ofNat 4 (k % 16)) (BitVec.ofNat 4 (k / 16))
  else if j = 32 then ⟨0, 0, 0, 1⟩
  else if j = 33 then d144Quad 0 0
  else if j = 34 then d144Quad 1 0
  else d144Quad 0 1

/-- Symbol j of a codeword: data symbols 0 to 31, check symbols 32 to 35 (R246). -/
def d144Sym (c : Codeword) (j : Nat) : BitVec 4 := BitVec.extractLsb' (4 * j) 4 c

/-- Sum of c_j × h_j over the first `n` symbols. -/
def d144Sum (c : Codeword) : Nat → Sym4
  | 0 => .zero
  | n + 1 => (d144Sum c n).add (Sym4.scale (d144Sym c n) (d144Col n))

/-- The syndrome (R247). -/
def d144Syn (c : Codeword) : Sym4 := d144Sum c 36

/-- SYN as error records hold it (R247). -/
def Sym4.toNat (s : Sym4) : Nat := s.s0.toNat + 16 * s.s1.toNat + 256 * s.s2.toNat + 4096 * s.s3.toNat

/-- The codeword of 128 data bits (R246). -/
def d144Encode (d : BitVec 128) : Codeword :=
  let s := d144Sum (d.setWidth 144) 32
  let c32 := s.s3 ^^^ s.s1 ^^^ gfMul 8 s.s2
  let c33 := s.s0 ^^^ s.s1 ^^^ s.s2
  d.setWidth 144 ||| (c32.setWidth 144 <<< 128) ||| (c33.setWidth 144 <<< 132) ||| (s.s1.setWidth 144 <<< 136) |||
    (s.s2.setWidth 144 <<< 140)

/-- What the decoder finds (R247). -/
inductive EccRes where
  | clean
  | corrected (sym : Nat) (mag : BitVec 4)
  | uncorrectable
  deriving DecidableEq, Repr

/-- The symbol below `n` whose column S0 × h_j is S, the lowest first. -/
def d144Find (s : Sym4) : Nat → Option Nat
  | 0 => none
  | n + 1 =>
    match d144Find s n with
    | some j => some j
    | none => if Sym4.scale s.s0 (d144Col n) = s then some n else none

/-- The decoder's verdict on a codeword (R247). (DESIGN CHOICE, log entry 11) -/
def d144Check (c : Codeword) : EccRes :=
  let s := d144Syn c
  if s = .zero then .clean
  else if s.s0 ≠ 0 then
    match d144Find s 36 with
    | some j => .corrected j s.s0
    | none => .uncorrectable
  else if s.s1 = 0 ∧ s.s2 = 0 then .corrected 32 s.s3
  else .uncorrectable

/-- The codeword with symbol j changed by exclusive OR with m. -/
def d144Flip (c : Codeword) (j : Nat) (m : BitVec 4) : Codeword := c ^^^ (m.setWidth 144 <<< (4 * j))

/-- The codeword after correction (R247). -/
def d144Correct (c : Codeword) : Codeword :=
  match d144Check c with
  | .corrected j m => d144Flip c j m
  | _ => c

/-- The data bits of a codeword. -/
def d144Data (c : Codeword) : BitVec 128 := c.setWidth 128

/-- DETAIL of an ECC report on an error pattern: the code is linear, so the pattern's syndrome is the word's
(Table 15.4). -/
def eccDetail (e : Codeword) : Nat :=
  let syn := (d144Syn e).toNat
  match d144Check e with
  | .clean => syn
  | .corrected j m => m.toNat * 2 ^ 22 + j * 2 ^ 16 + syn
  | .uncorrectable => 2 ^ 26 + 0x3F * 2 ^ 16 + syn

end Sys2Proof.Machine
end

