-- ==== Sys2Proof/Config.lean ====
section
/-! DEFINITION. What the spec leaves open: free values, which nothing constrains, applied to the counter `free` of State
or to the operands they depend on. -/

namespace Sys2Proof.Config

/-- A value that the spec leaves open, drawn for the `n`-th time. (DESIGN CHOICE, log entry 6) -/
opaque freeNat (n : Nat) : Nat

/-- A word that the spec leaves open, drawn for the `n`-th time. (DESIGN CHOICE, log entry 6) -/
opaque freeWord (n : Nat) : Word

/-- Factory values of the part (Table 17.13, Table 17.14, R494): whether the grade is SZ4160-I, the serial number, the
manufacturing word, and the fused key-encryption key. (DESIGN CHOICE, log entry 82) -/
opaque gradeI : Bool
opaque serial : Word
opaque mfg : Nat
opaque fusedKek : BitVec 256

/-- How many clock-domain crossings use their bridge: all, or those of the tiles of a mask and of the recovery sequencer (R433).
(DESIGN CHOICE, log entry 58) -/
opaque bridged (all : Bool) (tiles : Nat) : Nat

/-- The bundles of the recovery sequencer's boot ROM (R375). (DESIGN CHOICE, log entry 99) -/
opaque romWord (bundle : Nat) : Word

/-- The compressor's choice of a DEFLATE stream for a level and the given bytes (R379). (DESIGN CHOICE, log entry 46) -/
opaque deflateCandidate (level : Nat) (bytes : List Byte) : List Byte

/-- Steps of the microsequencer's data path whose arithmetic Table 7.2 names and does not state: a step of unit 0 FMA, 1 adder,
2 integer or 4 crossbar, by its operation, precision and operands; the constant ROM; the fixed-point forms of LOADFIX and
UNFIX. (DESIGN CHOICE, log entry 20) -/
opaque microUnit (unit op prec : Nat) (a b c : Value) : Value
opaque microConst (entry : Nat) : Value
opaque microFix (shift part : Nat) : Int
opaque microUnfix (shift : Nat) (x z : Int) : Nat

end Sys2Proof.Config
end

