-- ==== Sys2Proof/Machine/PlatTypes.lean ====
section
/-! DEFINITION. The records of the platform: memory, configuration banks and their transactions, power, start-up, the
Ethernet and sensor ports, and the pins (R219 to R256, R423 to R450, R485 to R534). -/

namespace Sys2Proof.Machine

/-- SDRAM, scratch and the caches (R219 to R251).  `sdram` and `scratch` list the bytes that are not 0, by address;
`l2` the filled or bound L2 frames, those of the code store among them; `l1i` the L1 instruction lines held per PE. -/
structure Mem where
  sdram   : List (Nat × Byte)
  scratch : List (Nat × Byte)
  l2      : List L2Line
  l1d     : List L1Line
  l1i     : List (Nat × Nat × Nat)
  fills   : List Fill
  maint   : Option Maint
  groupReq : List (Nat × Nat × Bool)
  deriving DecidableEq, Repr

/-- A code range loaded by IMGLOAD in the open transaction (R500). -/
structure ImgLoad where
  first : Nat
  count : Nat
  deriving DecidableEq, Repr

/-- A master's own copies of `CFG_ADDR`, `CFG_ARG0`, `CFG_ARG1` and RSTAT (R499, R508). -/
structure CfgRec where
  master : Nat
  addr   : Word
  arg0   : Word
  arg1   : Word
  rstat  : Nat
  deriving DecidableEq, Repr

/-- States of a configuration transaction (R499 to R503). -/
inductive TxnState where
  | idle | copying | opened | validating | armed
  deriving DecidableEq, Repr

/-- The configuration banks (R496 to R503): the bank in force, the banks kept for the wafers of older epochs, the
shadow, the owner of the transaction, its target wafer and whether it is late, its loads, and the masters' records. -/
structure Cfg where
  bank    : List (Nat × Word)
  old     : List (Nat × List (Nat × Word))
  shadow  : List (Nat × Word)
  txn     : TxnState
  owner   : Nat
  whenAt  : Nat
  late    : Bool
  loads   : List ImgLoad
  recs    : List CfgRec
  deriving DecidableEq, Repr

/-- Power (R435 to R447): the 134 domain states (0 off, 1 on, 2 retention), the transitions in progress in their order
(domain, up), the power-ups that wait for the end of HOLD, DOZE's progress (0 none, 2 ENTERING, 3 DOZE, 4 WAKING) and
whether its wake began in HOLD, the rails below the recovery level and the time since which none is, and the tile parks
(0 ACTIVE, 1 PARKING, 2 PARKED, 3 UNPARKING) with those that wait for the next tick. -/
structure Power where
  doms    : List Nat
  moving  : List (Nat × Bool)
  waiting : List Nat
  doze    : Nat
  wakeHeld : Bool
  low     : List Nat
  supT    : Nat
  park    : List Nat
  parkReq : List (Nat × Bool)
  deriving DecidableEq, Repr

/-- Start-up and identity (R485 to R495, R507, R514, R534).  `held` while a reset holds the device, `strap` the FTEST strap
as sampled; the boot flash's bytes that are not 0xFF, the boot counter, the fuses (security version, revoked key slots,
key digests), the image in use (its flash slot and key slot), the flash command in progress (operation, address, data),
and the time of the reset's release. -/
structure Boot where
  held    : Bool
  strap   : Bool
  count   : Nat
  flash   : List (Nat × Byte)
  fuseSvn : Nat
  revoked : Nat
  keyHash : List (Option (BitVec 384))
  slot    : Nat
  keyIdx  : Option Nat
  flashOp : Option (Nat × Nat × Word)
  freed   : Nat
  deriving DecidableEq, Repr

/-- An Ethernet port or a sensor port (R524 to R529): the gate entry in force, its end and the tick at which the list
started, the gate entries written since that tick, the time until which a PAUSE frame holds it, the descriptors already
sent ahead of `ETH_TXHEAD`, and the frame sent last. -/
structure Port where
  gate     : Nat
  gateEnd  : Nat
  gateTick : Nat
  gclPend  : List (Nat × Word)
  pauseT   : Nat
  ahead    : List Nat
  last     : List Byte
  deriving DecidableEq, Repr

/-- A packet of a class that reservations serve (R430): class, endpoints, and the virtual channel on which it travels. -/
structure ClassPkt where
  cls : Nat
  src : Nat
  dst : Nat
  vc  : Nat
  deriving DecidableEq, Repr

/-- Pins and the side ports (R461, R518 to R532): junction temperatures in 0.125 °C and when a critical one began, the
JTAG instruction, the I²C register pointer, the pending MSI-X vectors, ALIVE, and the last PCIe completion: its bytes, and
whether it was an Unsupported Request. -/
structure Pins where
  temps  : List Int
  hot    : List (Option Nat)
  jtag   : Nat
  i2c    : Nat
  msix   : List Nat
  alive  : Bool
  aliveT : Nat
  aliveEn : Bool
  aliveSeen : Bool
  kickT  : Nat
  pcieData : List Byte
  pcieUr : Bool
  deriving DecidableEq, Repr

end Sys2Proof.Machine
end

