-- ==== Sys2Proof/Machine/RegMap.lean ====
section
/-! DEFINITION. The register map of the SZ4160 (R8, R222, Table 8.2 and the register maps of Tables 1.3, 2.15,
2.21, 3.8, 7.5, 8.10, 8.11, 8.13, 9.7, 9.9, 10.12, 10.14, 11.9, 12.12, 12.14, 13.15, 14.11, 14.13, 14.15,
15.13, 16.10, 16.12, 17.13, 17.15, 17.16 and 17.17): one row per register or register array, with its place,
its reset value and the bits each access code of Table 0.6 covers.  Reserved bits are in no mask (R10). -/

namespace Sys2Proof.Machine

/-- First address of the control and status register range (R222). -/
def csrBase : Nat := 0x7F0000000000

/-- Address of offset `o` in register block `b` (R222). -/
def csrAddr (b o : Nat) : Nat := csrBase + b * 0x10000 + o

namespace Reg

def TCK_CTRL : Nat := csrAddr 0x0 0x0
def TCK_PERIOD : Nat := csrAddr 0x0 0x8
def TCK_STATUS : Nat := csrAddr 0x0 0x10
def TCK_TIME : Nat := csrAddr 0x0 0x18
def TCK_TIME_SET : Nat := csrAddr 0x0 0x20
def TCK_SLEW : Nat := csrAddr 0x0 0x28
def TCK_WAFER_BASE : Nat := csrAddr 0x0 0x30
def TCK_WAFER_CLOSED : Nat := csrAddr 0x0 0x38
def TCK_WAFER_ADMITTED : Nat := csrAddr 0x0 0x40
def TCK_WAFER_COMMITTED : Nat := csrAddr 0x0 0x48
def TCK_LAG : Nat := csrAddr 0x0 0x50
def TCK_LAG_MAX : Nat := csrAddr 0x0 0x58
def TCK_LAG_WARN : Nat := csrAddr 0x0 0x60
def TCK_HELD : Nat := csrAddr 0x0 0x68
def TCK_EPOCH : Nat := csrAddr 0x0 0x70
def TCK_NEXT : Nat := csrAddr 0x0 0x78
def TCK_SUBTICK : Nat := csrAddr 0x0 0x80
def TCK_SLOT_WAFER (k : Nat) : Nat := csrAddr 0x0 (0x100 + k * 0x20)
def TCK_SLOT_STATE (k : Nat) : Nat := csrAddr 0x0 (0x108 + k * 0x20)
def TCK_SLOT_OPEN (k : Nat) : Nat := csrAddr 0x0 (0x110 + k * 0x20)
def TCK_SLOT_CLOSE (k : Nat) : Nat := csrAddr 0x0 (0x118 + k * 0x20)
def CFG_LOCK : Nat := csrAddr 0x1 0x0
def CFG_CTRL : Nat := csrAddr 0x1 0x8
def CFG_TXN_CMD : Nat := csrAddr 0x1 0x10
def CFG_TXN_STATUS : Nat := csrAddr 0x1 0x18
def CFG_TXN_AT : Nat := csrAddr 0x1 0x20
def CFG_ADDR : Nat := csrAddr 0x1 0x28
def CFG_DATA : Nat := csrAddr 0x1 0x30
def CFG_ARG0 : Nat := csrAddr 0x1 0x38
def CFG_ARG1 : Nat := csrAddr 0x1 0x40
def CFG_REJECT : Nat := csrAddr 0x1 0x48
def CFG_CODE_DROP : Nat := csrAddr 0x1 0x50
def CFG_OLDEST_EPOCH : Nat := csrAddr 0x1 0x58
def CFG_IMG_DIGEST (k : Nat) : Nat := csrAddr 0x1 (0x60 + k * 0x8)
def CFG_SWAP_INFO (k : Nat) : Nat := csrAddr 0x1 (0x100 + k * 0x18)
def CFG_SWAP_WAFER (k : Nat) : Nat := csrAddr 0x1 (0x108 + k * 0x18)
def CFG_SWAP_TIME (k : Nat) : Nat := csrAddr 0x1 (0x110 + k * 0x18)
def BOOT_CTRL : Nat := csrAddr 0x2 0x0
def BOOT_STATUS : Nat := csrAddr 0x2 0x8
def BOOT_CAUSE : Nat := csrAddr 0x2 0x10
def BOOT_COUNT : Nat := csrAddr 0x2 0x18
def BOOT_PERS : Nat := csrAddr 0x2 0x20
def BOOT_PERS_SUP : Nat := csrAddr 0x2 0x28
def BOOT_SVN : Nat := csrAddr 0x2 0x30
def BOOT_BUILD : Nat := csrAddr 0x2 0x38
def BOOT_DIGEST_LO : Nat := csrAddr 0x2 0x40
def BOOT_DIGEST_HI : Nat := csrAddr 0x2 0x48
def BOOT_TIME : Nat := csrAddr 0x2 0x50
def BOOT_RESET : Nat := csrAddr 0x2 0x58
def BOOT_SVN_ADV : Nat := csrAddr 0x2 0x60
def BOOT_REVOKE : Nat := csrAddr 0x2 0x68
def BOOT_XADDR : Nat := csrAddr 0x2 0x80
def BOOT_XDATA : Nat := csrAddr 0x2 0x88
def BOOT_XCMD : Nat := csrAddr 0x2 0x90
def BOOT_XSTATUS : Nat := csrAddr 0x2 0x98
def BOOT_ID_PART : Nat := csrAddr 0x2 0x200
def BOOT_ID_SERIAL : Nat := csrAddr 0x2 0x208
def BOOT_ID_JTAG : Nat := csrAddr 0x2 0x210
def BOOT_ID_MFG : Nat := csrAddr 0x2 0x218
def BOOT_TEMP : Nat := csrAddr 0x2 0x220
def BOOT_TEMPMAX : Nat := csrAddr 0x2 0x228
def BOOT_TEMPSTAT : Nat := csrAddr 0x2 0x230
def FCL_CTRL : Nat := csrAddr 0x3 0x0
def FCL_STATUS : Nat := csrAddr 0x3 0x8
def FCL_OVF : Nat := csrAddr 0x3 0x10
def FCL_CLEAR : Nat := csrAddr 0x3 0x18
def FCL_FIRST (k : Nat) : Nat := csrAddr 0x3 (0x20 + k * 0x20)
def FCL_FIRST_WAFER (k : Nat) : Nat := csrAddr 0x3 (0x28 + k * 0x20)
def FCL_FIRST_TAG (k : Nat) : Nat := csrAddr 0x3 (0x30 + k * 0x20)
def FCL_FIRST_TIME (k : Nat) : Nat := csrAddr 0x3 (0x38 + k * 0x20)
def FCL_COUNT (k : Nat) : Nat := csrAddr 0x3 (0xc0 + k * 0x8)
def FCL_LOG_REC : Nat := csrAddr 0x3 0x100
def FCL_LOG_WAFER : Nat := csrAddr 0x3 0x108
def FCL_LOG_TAG : Nat := csrAddr 0x3 0x110
def FCL_LOG_TIME : Nat := csrAddr 0x3 0x118
def FCL_LOG_POP : Nat := csrAddr 0x3 0x120
def FCL_LOG_OCC : Nat := csrAddr 0x3 0x128
def FCL_LOG_LOST : Nat := csrAddr 0x3 0x130
def FCL_RECOV : Nat := csrAddr 0x3 0x140
def FCL_RECOV_MAX : Nat := csrAddr 0x3 0x148
def FCL_RECOVERIES : Nat := csrAddr 0x3 0x150
def FCL_RQ_OCC : Nat := csrAddr 0x3 0x158
def FCL_SLOT_INC : Nat := csrAddr 0x3 0x160
def FCL_JRNL_BASE : Nat := csrAddr 0x3 0x180
def FCL_JRNL_SIZE : Nat := csrAddr 0x3 0x188
def FCL_JRNL_OCC (k : Nat) : Nat := csrAddr 0x3 (0x1c0 + k * 0x8)
def FCL_SEQ_KICK : Nat := csrAddr 0x3 0x200
def FCL_SEQ_WDOG : Nat := csrAddr 0x3 0x208
def FCL_INJ_CTRL : Nat := csrAddr 0x3 0x300
def FCL_INJ_TARGET : Nat := csrAddr 0x3 0x308
def PWR_CTRL : Nat := csrAddr 0x4 0x0
def PWR_STATUS : Nat := csrAddr 0x4 0x8
def PWR_UNIT_CFG : Nat := csrAddr 0x4 0x10
def PWR_UNIT_ON : Nat := csrAddr 0x4 0x18
def PWR_DOZE_CFG : Nat := csrAddr 0x4 0x20
def PWR_SUPPLY : Nat := csrAddr 0x4 0x28
def PWR_DIPS : Nat := csrAddr 0x4 0x30
def PWR_LAST_DIP : Nat := csrAddr 0x4 0x38
def PWR_TILE_CFG (k : Nat) : Nat := csrAddr 0x4 (0x100 + k * 0x8)
def PWR_DOM (k : Nat) : Nat := csrAddr 0x4 (0x200 + k * 0x8)
def CLK_CTRL : Nat := csrAddr 0x5 0x0
def CLK_STATUS : Nat := csrAddr 0x5 0x8
def CLK_BRIDGED : Nat := csrAddr 0x5 0x10
def CLK_DOM (k : Nat) : Nat := csrAddr 0x5 (0x100 + k * 0x8)
def NOC_CTRL : Nat := csrAddr 0x6 0x0
def NOC_STATUS : Nat := csrAddr 0x6 0x8
def NOC_OLDEST : Nat := csrAddr 0x6 0x10
def NOC_FRAME : Nat := csrAddr 0x6 0x18
def NOC_CE : Nat := csrAddr 0x6 0x20
def NOC_UE : Nat := csrAddr 0x6 0x28
def NOC_ECC_LAST : Nat := csrAddr 0x6 0x30
def NOC_OFFRET : Nat := csrAddr 0x6 0x38
def NOC_RSV (k : Nat) : Nat := csrAddr 0x6 (0x100 + k * 0x8)
def NOC_RTR_FLITS (k : Nat) : Nat := csrAddr 0x6 (0x400 + k * 0x8)
def SCH_CTRL : Nat := csrAddr 0x8 0x0
def SCH_STATUS : Nat := csrAddr 0x8 0x8
def SCH_ACT_LIVE : Nat := csrAddr 0x8 0x10
def SCH_ACT_MAX : Nat := csrAddr 0x8 0x18
def SCH_FPOOL_BASE : Nat := csrAddr 0x8 0x20
def SCH_FPOOL_SIZE : Nat := csrAddr 0x8 0x28
def SCH_FPOOL_FREE : Nat := csrAddr 0x8 0x30
def SCH_RLIST : Nat := csrAddr 0x8 0x38
def SCH_FLOWQ : Nat := csrAddr 0x8 0x40
def SCH_FLOW_WARN : Nat := csrAddr 0x8 0x48
def SCH_DLY_OCC : Nat := csrAddr 0x8 0x50
def SCH_DLY_MAX : Nat := csrAddr 0x8 0x58
def SCH_DLY_FULL : Nat := csrAddr 0x8 0x60
def SCH_TRC_CTRL : Nat := csrAddr 0x8 0x80
def SCH_TRC_BASE : Nat := csrAddr 0x8 0x88
def SCH_TRC_GEOM : Nat := csrAddr 0x8 0x90
def SCH_TRC_WR : Nat := csrAddr 0x8 0x98
def SCH_TRC_RD : Nat := csrAddr 0x8 0xa0
def SCH_TRC_LOST : Nat := csrAddr 0x8 0xa8
def SCH_TRC_DROP : Nat := csrAddr 0x8 0xb0
def SCH_QDEPTH (k : Nat) : Nat := csrAddr 0x8 (0x800 + k * 0x8)
def SCH_QWAIT (k : Nat) : Nat := csrAddr 0x8 (0x880 + k * 0x8)
def SCH_LOAD (k : Nat) : Nat := csrAddr 0x8 (0x900 + k * 0x8)
def LKU_CTRL : Nat := csrAddr 0x9 0x0
def LKU_STATUS : Nat := csrAddr 0x9 0x8
def LKU_REQ : Nat := csrAddr 0x9 0x10
def LKU_RESP : Nat := csrAddr 0x9 0x18
def LKU_MRESET : Nat := csrAddr 0x9 0x20
def LKU_HELD : Nat := csrAddr 0x9 0x28
def LKU_WAITING : Nat := csrAddr 0x9 0x30
def LKU_FABPOOL : Nat := csrAddr 0x9 0x38
def LKU_ACQS : Nat := csrAddr 0x9 0x40
def LKU_CONTEND : Nat := csrAddr 0x9 0x48
def LKU_INHERITS : Nat := csrAddr 0x9 0x50
def LKU_ABANDONS : Nat := csrAddr 0x9 0x58
def LKU_CYCLES : Nat := csrAddr 0x9 0x60
def LKU_LOCK_STATE (k : Nat) : Nat := csrAddr 0x9 (0x1000 + k * 0x8)
def CHN_CTRL : Nat := csrAddr 0xa 0x0
def CHN_STATUS : Nat := csrAddr 0xa 0x8
def CHN_LIVE : Nat := csrAddr 0xa 0x10
def CHN_QRAM_FREE : Nat := csrAddr 0xa 0x18
def CHN_OVF_BASE : Nat := csrAddr 0xa 0x20
def CHN_OVF_SIZE : Nat := csrAddr 0xa 0x28
def CHN_OVF_FREE : Nat := csrAddr 0xa 0x30
def CHN_TSL_LATE : Nat := csrAddr 0xa 0x38
def CHN_ARG0 : Nat := csrAddr 0xa 0x40
def CHN_ARG1 : Nat := csrAddr 0xa 0x48
def CHN_CMD : Nat := csrAddr 0xa 0x50
def CHN_RESP : Nat := csrAddr 0xa 0x58
def CHN_RESP_DATA : Nat := csrAddr 0xa 0x60
def CHN_QRESETS : Nat := csrAddr 0xa 0x68
def CHN_QRESET_LAST : Nat := csrAddr 0xa 0x70
def CHN_DROPS : Nat := csrAddr 0xa 0x78
def CHN_LATE : Nat := csrAddr 0xa 0x80
def CHN_ECC_CE : Nat := csrAddr 0xa 0x88
def CHN_ECC_LAST : Nat := csrAddr 0xa 0x90
def CHN_STALE (k : Nat) : Nat := csrAddr 0xa (0x100 + k * 0x8)
def TIL_ID (t : Nat) : Nat := csrAddr (0x10 + t) 0x0
def TIL_CTRL (t : Nat) : Nat := csrAddr (0x10 + t) 0x8
def TIL_STATUS (t : Nat) : Nat := csrAddr (0x10 + t) 0x10
def TIL_POOL (t : Nat) : Nat := csrAddr (0x10 + t) 0x18
def TIL_SPARE (t : Nat) : Nat := csrAddr (0x10 + t) 0x20
def TIL_DISP_CFG (t : Nat) : Nat := csrAddr (0x10 + t) 0x28
def TIL_READYQ (t : Nat) : Nat := csrAddr (0x10 + t) 0x30
def TIL_READYQ_MAX (t : Nat) : Nat := csrAddr (0x10 + t) 0x38
def TIL_FIRINGS (t : Nat) : Nat := csrAddr (0x10 + t) 0x40
def TIL_LOOKUPS (t : Nat) : Nat := csrAddr (0x10 + t) 0x48
def TIL_ORPHAN (t : Nat) : Nat := csrAddr (0x10 + t) 0x50
def TIL_BADPORT (t : Nat) : Nat := csrAddr (0x10 + t) 0x58
def TIL_QUAR_COUNT (t : Nat) : Nat := csrAddr (0x10 + t) 0x60
def TIL_QUAR_LAST (t : Nat) : Nat := csrAddr (0x10 + t) 0x68
def TIL_QUAR_WAFER (t : Nat) : Nat := csrAddr (0x10 + t) 0x70
def MST_CTRL (t : Nat) : Nat := csrAddr (0x10 + t) 0x1000
def MST_STATUS (t : Nat) : Nat := csrAddr (0x10 + t) 0x1008
def MST_OCC (t : Nat) : Nat := csrAddr (0x10 + t) 0x1010
def MST_OCC_MAX (t : Nat) : Nat := csrAddr (0x10 + t) 0x1018
def MST_HIWATER (t : Nat) : Nat := csrAddr (0x10 + t) 0x1020
def MST_LOWATER (t : Nat) : Nat := csrAddr (0x10 + t) 0x1028
def MST_SPILL_AT (t : Nat) : Nat := csrAddr (0x10 + t) 0x1030
def MST_HASH_SEED (t : Nat) : Nat := csrAddr (0x10 + t) 0x1038
def MST_SPILL_BASE (t : Nat) : Nat := csrAddr (0x10 + t) 0x1040
def MST_SPILL_HI (t : Nat) : Nat := csrAddr (0x10 + t) 0x1048
def MST_SPILL_LO (t : Nat) : Nat := csrAddr (0x10 + t) 0x1050
def MST_SPILL_OCC (t : Nat) : Nat := csrAddr (0x10 + t) 0x1058
def MST_RSV_OCC (t : Nat) : Nat := csrAddr (0x10 + t) 0x1060
def MST_SPILLS (t : Nat) : Nat := csrAddr (0x10 + t) 0x1068
def MST_FETCHES (t : Nat) : Nat := csrAddr (0x10 + t) 0x1070
def MST_FILTER_FP (t : Nat) : Nat := csrAddr (0x10 + t) 0x1078
def MST_CONFLICT (t : Nat) : Nat := csrAddr (0x10 + t) 0x1080
def MST_OLDEST_CNT (t : Nat) : Nat := csrAddr (0x10 + t) 0x1088
def MST_DL_WINDOW (t : Nat) : Nat := csrAddr (0x10 + t) 0x1090
def MST_DL_STATE (t : Nat) : Nat := csrAddr (0x10 + t) 0x1098
def MST_DL_COUNT (t : Nat) : Nat := csrAddr (0x10 + t) 0x10a0
def MST_ECC_CE (t : Nat) : Nat := csrAddr (0x10 + t) 0x10a8
def MST_ECC_LAST (t : Nat) : Nat := csrAddr (0x10 + t) 0x10b0
def UCS_CTRL (t : Nat) : Nat := csrAddr (0x10 + t) 0x2000
def UCS_STATUS (t : Nat) : Nat := csrAddr (0x10 + t) 0x2008
def UCS_VERSION (t : Nat) : Nat := csrAddr (0x10 + t) 0x2010
def UCS_PERR (t : Nat) : Nat := csrAddr (0x10 + t) 0x2018
def UCS_PATHERR (t : Nat) : Nat := csrAddr (0x10 + t) 0x2020
def UCS_RELOADS (t : Nat) : Nat := csrAddr (0x10 + t) 0x2028
def UCS_LAST_ERR (t : Nat) : Nat := csrAddr (0x10 + t) 0x2030
def UCS_PERSIST (t : Nat) : Nat := csrAddr (0x10 + t) 0x2038
def UCS_SCRUB (t : Nat) : Nat := csrAddr (0x10 + t) 0x2040
def UCS_SCRUB_POS (t : Nat) : Nat := csrAddr (0x10 + t) 0x2048
def UCS_UERR_LAST (t : Nat) : Nat := csrAddr (0x10 + t) 0x2050
def L2C_LOCK (t : Nat) : Nat := csrAddr (0x10 + t) 0x3000
def L2C_WGPWR (t : Nat) : Nat := csrAddr (0x10 + t) 0x3008
def L2C_SLICE_STATUS (t : Nat) : Nat := csrAddr (0x10 + t) 0x3010
def L2C_WAYDIS (t : Nat) : Nat := csrAddr (0x10 + t) 0x3018
def L2C_HITS (t : Nat) : Nat := csrAddr (0x10 + t) 0x3020
def L2C_MISSES (t : Nat) : Nat := csrAddr (0x10 + t) 0x3028
def L2C_WBACKS (t : Nat) : Nat := csrAddr (0x10 + t) 0x3030
def L2C_DEFER_OCC (t : Nat) : Nat := csrAddr (0x10 + t) 0x3038
def L2C_DEFER_FULL (t : Nat) : Nat := csrAddr (0x10 + t) 0x3040
def L2C_ECC_CE (t : Nat) : Nat := csrAddr (0x10 + t) 0x3048
def L2C_ECC_LAST (t : Nat) : Nat := csrAddr (0x10 + t) 0x3050
def L2C_SCRUB_POS (t : Nat) : Nat := csrAddr (0x10 + t) 0x3058
def PEX_STATUS (t p : Nat) : Nat := csrAddr (0x10 + t) (0x4000 + p * 0x100)
def PEX_CTRL (t p : Nat) : Nat := csrAddr (0x10 + t) (0x4008 + p * 0x100)
def PEX_FIRED (t p : Nat) : Nat := csrAddr (0x10 + t) (0x4010 + p * 0x100)
def PEX_RETRY (t p : Nat) : Nat := csrAddr (0x10 + t) (0x4018 + p * 0x100)
def PEX_SB_FWD (t p : Nat) : Nat := csrAddr (0x10 + t) (0x4020 + p * 0x100)
def PEX_SB_FULL (t p : Nat) : Nat := csrAddr (0x10 + t) (0x4028 + p * 0x100)
def PEX_IC_MISS (t p : Nat) : Nat := csrAddr (0x10 + t) (0x4030 + p * 0x100)
def PEX_DC_MISS (t p : Nat) : Nat := csrAddr (0x10 + t) (0x4038 + p * 0x100)
def PEX_INFLIGHT_MAX (t p : Nat) : Nat := csrAddr (0x10 + t) (0x4040 + p * 0x100)
def PEX_LAST_ERR (t p : Nat) : Nat := csrAddr (0x10 + t) (0x4048 + p * 0x100)
def L2C_CTRL : Nat := csrAddr 0x20 0x0
def L2C_STATUS : Nat := csrAddr 0x20 0x8
def L2C_DEF_ATTR : Nat := csrAddr 0x20 0x10
def L2C_SCRUB : Nat := csrAddr 0x20 0x18
def L2C_PERSIST : Nat := csrAddr 0x20 0x20
def L2C_MNT_ADDR : Nat := csrAddr 0x20 0x40
def L2C_MNT_LEN : Nat := csrAddr 0x20 0x48
def L2C_MNT_CMD : Nat := csrAddr 0x20 0x50
def L2C_MNT_STATUS : Nat := csrAddr 0x20 0x58
def L2C_RGN_BASE (k : Nat) : Nat := csrAddr 0x20 (0x100 + k * 0x20)
def L2C_RGN_LIMIT (k : Nat) : Nat := csrAddr 0x20 (0x108 + k * 0x20)
def L2C_RGN_ATTR (k : Nat) : Nat := csrAddr 0x20 (0x110 + k * 0x20)
def SDC_CFG : Nat := csrAddr 0x24 0x0
def SDC_CTRL : Nat := csrAddr 0x24 0x8
def SDC_STATUS : Nat := csrAddr 0x24 0x10
def SDC_CAPACITY : Nat := csrAddr 0x24 0x18
def SDC_SCRUB : Nat := csrAddr 0x24 0x20
def SDC_SCRUB_POS : Nat := csrAddr 0x24 0x28
def SDC_ECC_CE : Nat := csrAddr 0x24 0x30
def SDC_ECC_UE : Nat := csrAddr 0x24 0x38
def SDC_REREAD : Nat := csrAddr 0x24 0x40
def SDC_ECC_LAST : Nat := csrAddr 0x24 0x48
def SDC_CH_STATUS (k : Nat) : Nat := csrAddr 0x24 (0x1000 + k * 0x100)
def SDC_CH_RDBYTES (k : Nat) : Nat := csrAddr 0x24 (0x1008 + k * 0x100)
def SDC_CH_WRBYTES (k : Nat) : Nat := csrAddr 0x24 (0x1010 + k * 0x100)
def SDC_CH_CE (k : Nat) : Nat := csrAddr 0x24 (0x1018 + k * 0x100)
def SDC_CH_LASTSYM (k : Nat) : Nat := csrAddr 0x24 (0x1020 + k * 0x100)
def CEN_CTRL (n : Nat) : Nat := csrAddr (0x30 + n) 0x0
def CEN_STATUS (n : Nat) : Nat := csrAddr (0x30 + n) 0x8
def CEN_ENTRY (n : Nat) : Nat := csrAddr (0x30 + n) 0x10
def CEN_EVBASE (n : Nat) : Nat := csrAddr (0x30 + n) 0x18
def CEN_EVPEND (n : Nat) : Nat := csrAddr (0x30 + n) 0x20
def CEN_EVMASK (n : Nat) : Nat := csrAddr (0x30 + n) 0x28
def CEN_EPC (n : Nat) : Nat := csrAddr (0x30 + n) 0x30
def CEN_CAUSE (n : Nat) : Nat := csrAddr (0x30 + n) 0x38
def CEN_FAULTADDR (n : Nat) : Nat := csrAddr (0x30 + n) 0x40
def CEN_WDOG (n : Nat) : Nat := csrAddr (0x30 + n) 0x48
def CEN_TIMER (n : Nat) : Nat := csrAddr (0x30 + n) 0x50
def CEN_DOORBELL (n : Nat) : Nat := csrAddr (0x30 + n) 0x58
def CEN_DOORBELL_CLR (n : Nat) : Nat := csrAddr (0x30 + n) 0x60
def CEN_RAMADDR (n : Nat) : Nat := csrAddr (0x30 + n) 0x68
def CEN_RAMDATA (n : Nat) : Nat := csrAddr (0x30 + n) 0x70
def CEN_BUNDLES (n : Nat) : Nat := csrAddr (0x30 + n) 0x78
def CEN_STALLS (n : Nat) : Nat := csrAddr (0x30 + n) 0x80
def CEN_LBUF (n : Nat) : Nat := csrAddr (0x30 + n) 0x88
def CEN_RESETS (n : Nat) : Nat := csrAddr (0x30 + n) 0x90
def CEN_ECC_CE (n : Nat) : Nat := csrAddr (0x30 + n) 0x98
def CEN_ECC_LAST (n : Nat) : Nat := csrAddr (0x30 + n) 0xa0
def CEN_MASTER (n : Nat) : Nat := csrAddr (0x30 + n) 0xa8
def CMP_CTRL (u : Nat) : Nat := csrAddr (0x3a + u) 0x0
def CMP_STATUS (u : Nat) : Nat := csrAddr (0x3a + u) 0x8
def CMP_SUBMIT (u : Nat) : Nat := csrAddr (0x3a + u) 0x10
def CMP_OUTST (u : Nat) : Nat := csrAddr (0x3a + u) 0x18
def CMP_JOBS (u : Nat) : Nat := csrAddr (0x3a + u) 0x20
def CMP_IN_BYTES (u : Nat) : Nat := csrAddr (0x3a + u) 0x28
def CMP_OUT_BYTES (u : Nat) : Nat := csrAddr (0x3a + u) 0x30
def CMP_ERRORS (u : Nat) : Nat := csrAddr (0x3a + u) 0x38
def CMP_ECC_CE (u : Nat) : Nat := csrAddr (0x3a + u) 0x40
def CMP_ECC_LAST (u : Nat) : Nat := csrAddr (0x3a + u) 0x48
def ENC_CTRL (u : Nat) : Nat := csrAddr (0x3c + u) 0x0
def ENC_STATUS (u : Nat) : Nat := csrAddr (0x3c + u) 0x8
def ENC_SUBMIT (u : Nat) : Nat := csrAddr (0x3c + u) 0x10
def ENC_OUTST (u : Nat) : Nat := csrAddr (0x3c + u) 0x18
def ENC_JOBS (u : Nat) : Nat := csrAddr (0x3c + u) 0x20
def ENC_IN_BYTES (u : Nat) : Nat := csrAddr (0x3c + u) 0x28
def ENC_OUT_BYTES (u : Nat) : Nat := csrAddr (0x3c + u) 0x30
def ENC_ERRORS (u : Nat) : Nat := csrAddr (0x3c + u) 0x38
def ENC_ECC_CE (u : Nat) : Nat := csrAddr (0x3c + u) 0x40
def ENC_ECC_LAST (u : Nat) : Nat := csrAddr (0x3c + u) 0x48
def ENC_KEYW0 : Nat := csrAddr 0x3c 0x100
def ENC_KEYW1 : Nat := csrAddr 0x3c 0x108
def ENC_KEYW2 : Nat := csrAddr 0x3c 0x110
def ENC_KEYW3 : Nat := csrAddr 0x3c 0x118
def ENC_KEYCMD : Nat := csrAddr 0x3c 0x120
def ENC_ZEROIZE : Nat := csrAddr 0x3c 0x128
def ENC_SLOT (k : Nat) : Nat := csrAddr 0x3c (0x200 + k * 0x8)
def AFE_CTRL : Nat := csrAddr 0x40 0x0
def AFE_STATUS : Nat := csrAddr 0x40 0x8
def AFE_CH_CFG (k : Nat) : Nat := csrAddr 0x40 (0x100 + k * 0x40)
def AFE_CH_DEST (k : Nat) : Nat := csrAddr 0x40 (0x108 + k * 0x40)
def AFE_CH_REF (k : Nat) : Nat := csrAddr 0x40 (0x110 + k * 0x40)
def AFE_CH_HTH (k : Nat) : Nat := csrAddr 0x40 (0x118 + k * 0x40)
def AFE_CH_HQUAL (k : Nat) : Nat := csrAddr 0x40 (0x120 + k * 0x40)
def AFE_CH_HEALTH (k : Nat) : Nat := csrAddr 0x40 (0x128 + k * 0x40)
def AFE_CH_OVR (k : Nat) : Nat := csrAddr 0x40 (0x130 + k * 0x40)
def AFE_CH_PKHOLD (k : Nat) : Nat := csrAddr 0x40 (0x138 + k * 0x40)
def AFE_TACH_CFG (k : Nat) : Nat := csrAddr 0x40 (0x2000 + k * 0x20)
def AFE_TACH_DEST (k : Nat) : Nat := csrAddr 0x40 (0x2008 + k * 0x20)
def AFE_TACH_LAST (k : Nat) : Nat := csrAddr 0x40 (0x2010 + k * 0x20)
def AFE_TACH_EDGES (k : Nat) : Nat := csrAddr 0x40 (0x2018 + k * 0x20)
def TRP_CTRL : Nat := csrAddr 0x41 0x0
def TRP_STATUS : Nat := csrAddr 0x41 0x8
def TRP_OUT : Nat := csrAddr 0x41 0x10
def TRP_HW : Nat := csrAddr 0x41 0x18
def TRP_GDEM : Nat := csrAddr 0x41 0x20
def TRP_DRIVE : Nat := csrAddr 0x41 0x28
def TRP_RESET : Nat := csrAddr 0x41 0x30
def TRP_FIRST : Nat := csrAddr 0x41 0x38
def TRP_FIRST_TIME : Nat := csrAddr 0x41 0x40
def TRP_FIRST_CLR : Nat := csrAddr 0x41 0x48
def TRP_GSRC : Nat := csrAddr 0x41 0x50
def TRP_DIAG : Nat := csrAddr 0x41 0x58
def TRP_OUT_CFG (k : Nat) : Nat := csrAddr 0x41 (0x1000 + k * 0x20)
def TRP_OUT_VOTE (k : Nat) : Nat := csrAddr 0x41 (0x1008 + k * 0x20)
def TRP_OUT_TIME (k : Nat) : Nat := csrAddr 0x41 (0x1010 + k * 0x20)
def TRP_OUT_COUNT (k : Nat) : Nat := csrAddr 0x41 (0x1018 + k * 0x20)
def TRP_CH_PK (k : Nat) : Nat := csrAddr 0x41 (0x2000 + k * 0x40)
def TRP_CH_PP (k : Nat) : Nat := csrAddr 0x41 (0x2008 + k * 0x40)
def TRP_CH_RMS (k : Nat) : Nat := csrAddr 0x41 (0x2010 + k * 0x40)
def TRP_CH_WIN (k : Nat) : Nat := csrAddr 0x41 (0x2018 + k * 0x40)
def TRP_CH_STATE (k : Nat) : Nat := csrAddr 0x41 (0x2020 + k * 0x40)
def TRP_TACH_OS (k : Nat) : Nat := csrAddr 0x41 (0x3000 + k * 0x10)
def TRP_TACH_STATE (k : Nat) : Nat := csrAddr 0x41 (0x3008 + k * 0x10)
def FAB_CTRL : Nat := csrAddr 0x48 0x0
def FAB_STATUS : Nat := csrAddr 0x48 0x8
def FAB_ID : Nat := csrAddr 0x48 0x10
def FAB_SERIAL : Nat := csrAddr 0x48 0x18
def FAB_MANAGER : Nat := csrAddr 0x48 0x20
def FAB_TMASTER : Nat := csrAddr 0x48 0x28
def FAB_TOFFSET : Nat := csrAddr 0x48 0x30
def FAB_TBOUND : Nat := csrAddr 0x48 0x38
def FAB_DIGEST_LO : Nat := csrAddr 0x48 0x40
def FAB_DIGEST_HI : Nat := csrAddr 0x48 0x48
def FAB_LOSS_TMO : Nat := csrAddr 0x48 0x50
def FAB_VOTE_TMO : Nat := csrAddr 0x48 0x58
def FAB_XTMO : Nat := csrAddr 0x48 0x60
def FAB_RSYNC_TMO : Nat := csrAddr 0x48 0x68
def FAB_E2E_RTO : Nat := csrAddr 0x48 0x70
def FAB_E2E_RETX : Nat := csrAddr 0x48 0x78
def FAB_RERR : Nat := csrAddr 0x48 0x80
def FAB_RS_LOST : Nat := csrAddr 0x48 0x88
def FAB_LATE : Nat := csrAddr 0x48 0x90
def FAB_RETAIN : Nat := csrAddr 0x48 0x98
def FAB_RWIN_BASE (k : Nat) : Nat := csrAddr 0x48 (0x100 + k * 0x10)
def FAB_RWIN_LIMIT (k : Nat) : Nat := csrAddr 0x48 (0x108 + k * 0x10)
def FAB_LINK_CTRL (k : Nat) : Nat := csrAddr 0x48 (0x200 + k * 0x40)
def FAB_LINK_STATUS (k : Nat) : Nat := csrAddr 0x48 (0x208 + k * 0x40)
def FAB_LINK_ASYM (k : Nat) : Nat := csrAddr 0x48 (0x210 + k * 0x40)
def FAB_LINK_PEER (k : Nat) : Nat := csrAddr 0x48 (0x218 + k * 0x40)
def FAB_LINK_CE (k : Nat) : Nat := csrAddr 0x48 (0x220 + k * 0x40)
def FAB_LINK_REPLAY (k : Nat) : Nat := csrAddr 0x48 (0x228 + k * 0x40)
def FAB_GRP_STATUS (k : Nat) : Nat := csrAddr 0x48 (0x400 + k * 0x10)
def FAB_GRP_COUNT (k : Nat) : Nat := csrAddr 0x48 (0x408 + k * 0x10)
def FAB_ROUTE (k : Nat) : Nat := csrAddr 0x48 (0x1000 + k * 0x8)
def PCI_CTRL : Nat := csrAddr 0x50 0x0
def PCI_STATUS : Nat := csrAddr 0x50 0x8
def PCI_WIN : Nat := csrAddr 0x50 0x10
def PCI_IRQ : Nat := csrAddr 0x50 0x18
def PCI_ERR_LAST : Nat := csrAddr 0x50 0x20
def PCI_CE : Nat := csrAddr 0x50 0x28
def ETH_CTRL (i : Nat) : Nat := csrAddr (0x52 + i) 0x0
def ETH_STATUS (i : Nat) : Nat := csrAddr (0x52 + i) 0x8
def ETH_MAC (i : Nat) : Nat := csrAddr (0x52 + i) 0x10
def ETH_RXRING (i : Nat) : Nat := csrAddr (0x52 + i) 0x18
def ETH_RXHEAD (i : Nat) : Nat := csrAddr (0x52 + i) 0x20
def ETH_RXTAIL (i : Nat) : Nat := csrAddr (0x52 + i) 0x28
def ETH_TXRING (i : Nat) : Nat := csrAddr (0x52 + i) 0x30
def ETH_TXHEAD (i : Nat) : Nat := csrAddr (0x52 + i) 0x38
def ETH_TXTAIL (i : Nat) : Nat := csrAddr (0x52 + i) 0x40
def ETH_RXDROP (i : Nat) : Nat := csrAddr (0x52 + i) 0x48
def ETH_GCL (i k : Nat) : Nat := csrAddr (0x52 + i) (0x1000 + k * 0x8)
def TSL_CTRL (p : Nat) : Nat := csrAddr (0x60 + p) 0x0
def TSL_STATUS (p : Nat) : Nat := csrAddr (0x60 + p) 0x8
def TSL_MAC (p : Nat) : Nat := csrAddr (0x60 + p) 0x10
def TSL_RXRING (p : Nat) : Nat := csrAddr (0x60 + p) 0x18
def TSL_RXHEAD (p : Nat) : Nat := csrAddr (0x60 + p) 0x20
def TSL_RXTAIL (p : Nat) : Nat := csrAddr (0x60 + p) 0x28
def TSL_TXRING (p : Nat) : Nat := csrAddr (0x60 + p) 0x30
def TSL_TXHEAD (p : Nat) : Nat := csrAddr (0x60 + p) 0x38
def TSL_TXTAIL (p : Nat) : Nat := csrAddr (0x60 + p) 0x40
def TSL_RXDROP (p : Nat) : Nat := csrAddr (0x60 + p) 0x48
def TSL_DEST (p : Nat) : Nat := csrAddr (0x60 + p) 0x50
def TSL_BADFRM (p : Nat) : Nat := csrAddr (0x60 + p) 0x58
def SHADOW_AFE_CH_DEST (k : Nat) : Nat := csrAddr 0x40 (0x8108 + k * 0x40)
def SHADOW_AFE_CH_REF (k : Nat) : Nat := csrAddr 0x40 (0x8110 + k * 0x40)
def SHADOW_AFE_CH_HTH (k : Nat) : Nat := csrAddr 0x40 (0x8118 + k * 0x40)
def SHADOW_AFE_CH_HQUAL (k : Nat) : Nat := csrAddr 0x40 (0x8120 + k * 0x40)
def SHADOW_AFE_TACH_DEST (k : Nat) : Nat := csrAddr 0x40 (0xa008 + k * 0x20)
def SHADOW_TRP_GSRC : Nat := csrAddr 0x41 0x8050
def SHADOW_TRP_OUT_VOTE (k : Nat) : Nat := csrAddr 0x41 (0x9008 + k * 0x20)
def SHADOW_TRP_CH_PK (k : Nat) : Nat := csrAddr 0x41 (0xa000 + k * 0x40)
def SHADOW_TRP_CH_PP (k : Nat) : Nat := csrAddr 0x41 (0xa008 + k * 0x40)
def SHADOW_TRP_CH_RMS (k : Nat) : Nat := csrAddr 0x41 (0xa010 + k * 0x40)
def SHADOW_TRP_CH_WIN (k : Nat) : Nat := csrAddr 0x41 (0xa018 + k * 0x40)
def SHADOW_TRP_TACH_OS (k : Nat) : Nat := csrAddr 0x41 (0xb000 + k * 0x10)

end Reg

/-- One register, or one array of like registers: `blocks` blocks from `block` on, `count` copies `stride` apart. -/
structure RegRow where
  block  : Nat
  blocks : Nat
  off    : Nat
  count  : Nat
  stride : Nat
  reset  : Word
  rw     : Word
  rwl    : Word
  w1c    : Word
  w1s    : Word
  rc     : Bool
  wo     : Bool
  deriving DecidableEq, Repr

def regRowsTck : List RegRow := [
  ⟨0x0, 1, 0x0, 1, 0x0, 0x4, 0xc, 0xc0, 0x0, 0x1, false, false⟩,  -- TCK_CTRL
  ⟨0x0, 1, 0x8, 1, 0x0, 0x3e8, 0x0, 0xfffff, 0x0, 0x0, false, false⟩,  -- TCK_PERIOD
  ⟨0x0, 1, 0x10, 1, 0x0, 0x0, 0x0, 0x0, 0x13, 0x0, false, false⟩,  -- TCK_STATUS
  ⟨0x0, 1, 0x18, 1, 0x0, 0x0, 0x0, 0x0, 0x0, 0x0, false, false⟩,  -- TCK_TIME
  ⟨0x0, 1, 0x20, 1, 0x0, 0x0, 0x0, 0x0, 0x0, 0x0, false, true⟩,  -- TCK_TIME_SET
  ⟨0x0, 1, 0x28, 1, 0x0, 0x0, 0xffffffff, 0x0, 0x0, 0x0, false, false⟩,  -- TCK_SLEW
  ⟨0x0, 1, 0x30, 1, 0x0, 0x0, 0x0, 0xffffffffffffffff, 0x0, 0x0, false, false⟩,  -- TCK_WAFER_BASE
  ⟨0x0, 1, 0x38, 1, 0x0, 0x0, 0x0, 0x0, 0x0, 0x0, false, false⟩,  -- TCK_WAFER_CLOSED
  ⟨0x0, 1, 0x40, 1, 0x0, 0x0, 0x0, 0x0, 0x0, 0x0, false, false⟩,  -- TCK_WAFER_ADMITTED
  ⟨0x0, 1, 0x48, 1, 0x0, 0x0, 0x0, 0x0, 0x0, 0x0, false, false⟩,  -- TCK_WAFER_COMMITTED
  ⟨0x0, 1, 0x50, 1, 0x0, 0x0, 0x0, 0x0, 0x0, 0x0, false, false⟩,  -- TCK_LAG
  ⟨0x0, 1, 0x58, 1, 0x0, 0x0, 0x0, 0x0, 0x0, 0x0, true, false⟩,  -- TCK_LAG_MAX
  ⟨0x0, 1, 0x60, 1, 0x0, 0x8, 0x1fff, 0x0, 0x0, 0x0, false, false⟩,  -- TCK_LAG_WARN
  ⟨0x0, 1, 0x68, 1, 0x0, 0x0, 0x0, 0x0, 0x0, 0x0, true, false⟩,  -- TCK_HELD
  ⟨0x0, 1, 0x70, 1, 0x0, 0x0, 0x0, 0x0, 0x0, 0x0, false, false⟩,  -- TCK_EPOCH
  ⟨0x0, 1, 0x78, 1, 0x0, 0x0, 0x0, 0x0, 0x0, 0x0, false, false⟩,  -- TCK_NEXT
  ⟨0x0, 1, 0x80, 1, 0x0, 0x0, 0x0, 0x0, 0x0, 0x0, false, false⟩,  -- TCK_SUBTICK
  ⟨0x0, 1, 0x100, 8, 0x20, 0x0, 0x0, 0x0, 0x0, 0x0, false, false⟩,  -- TCK_SLOT_WAFER
  ⟨0x0, 1, 0x108, 8, 0x20, 0x0, 0x0, 0x0, 0x0, 0x0, false, false⟩,  -- TCK_SLOT_STATE
  ⟨0x0, 1, 0x110, 8, 0x20, 0x0, 0x0, 0x0, 0x0, 0x0, false, false⟩,  -- TCK_SLOT_OPEN
  ⟨0x0, 1, 0x118, 8, 0x20, 0x0, 0x0, 0x0, 0x0, 0x0, false, false⟩  -- TCK_SLOT_CLOSE
  ]

def regRowsCfg : List RegRow := [
  ⟨0x1, 1, 0x0, 1, 0x0, 0x0, 0x0, 0x0, 0x0, 0x1, false, false⟩,  -- CFG_LOCK
  ⟨0x1, 1, 0x8, 1, 0x0, 0x3ff, 0x0, 0x3ff, 0x0, 0x0, false, false⟩,  -- CFG_CTRL
  ⟨0x1, 1, 0x10, 1, 0x0, 0x0, 0x0, 0x0, 0x0, 0x0, false, true⟩,  -- CFG_TXN_CMD
  ⟨0x1, 1, 0x18, 1, 0x0, 0x0, 0x0, 0x0, 0x0, 0x0, false, false⟩,  -- CFG_TXN_STATUS
  ⟨0x1, 1, 0x20, 1, 0x0, 0x0, 0xffffffffffffffff, 0x0, 0x0, 0x0, false, false⟩,  -- CFG_TXN_AT
  ⟨0x1, 1, 0x28, 1, 0x0, 0x0, 0x80000000000ffff8, 0x0, 0x0, 0x0, false, false⟩,  -- CFG_ADDR
  ⟨0x1, 1, 0x30, 1, 0x0, 0x0, 0xffffffffffffffff, 0x0, 0x0, 0x0, false, false⟩,  -- CFG_DATA
  ⟨0x1, 1, 0x38, 1, 0x0, 0x0, 0xffffffffffffffff, 0x0, 0x0, 0x0, false, false⟩,  -- CFG_ARG0
  ⟨0x1, 1, 0x40, 1, 0x0, 0x0, 0xfffffc00007fffff, 0x0, 0x0, 0x0, false, false⟩,  -- CFG_ARG1
  ⟨0x1, 1, 0x48, 1, 0x0, 0x0, 0x0, 0x0, 0x0, 0x0, false, false⟩,  -- CFG_REJECT
  ⟨0x1, 1, 0x50, 1, 0x0, 0x0, 0x0, 0x0, 0x0, 0x0, true, false⟩,  -- CFG_CODE_DROP
  ⟨0x1, 1, 0x58, 1, 0x0, 0x0, 0x0, 0x0, 0x0, 0x0, false, false⟩,  -- CFG_OLDEST_EPOCH
  ⟨0x1, 1, 0x60, 6, 0x8, 0x0, 0x0, 0x0, 0x0, 0x0, false, false⟩,  -- CFG_IMG_DIGEST
  ⟨0x1, 1, 0x100, 16, 0x18, 0x0, 0x0, 0x0, 0x0, 0x0, false, false⟩,  -- CFG_SWAP_INFO
  ⟨0x1, 1, 0x108, 16, 0x18, 0x0, 0x0, 0x0, 0x0, 0x0, false, false⟩,  -- CFG_SWAP_WAFER
  ⟨0x1, 1, 0x110, 16, 0x18, 0x0, 0x0, 0x0, 0x0, 0x0, false, false⟩  -- CFG_SWAP_TIME
  ]

def regRowsBoot : List RegRow := [
  ⟨0x2, 1, 0x0, 1, 0x0, 0x0, 0x0, 0x1, 0x0, 0x0, false, false⟩,  -- BOOT_CTRL
  ⟨0x2, 1, 0x8, 1, 0x0, 0x1000000000000000, 0x0, 0x0, 0x0, 0x0, false, false⟩,  -- BOOT_STATUS
  ⟨0x2, 1, 0x10, 1, 0x0, 0x1, 0x0, 0x0, 0x0, 0x0, false, false⟩,  -- BOOT_CAUSE
  ⟨0x2, 1, 0x18, 1, 0x0, 0x0, 0x0, 0x0, 0x0, 0x0, false, false⟩,  -- BOOT_COUNT
  ⟨0x2, 1, 0x20, 1, 0x0, 0x0, 0x0, 0x0, 0x0, 0x0, false, false⟩,  -- BOOT_PERS
  ⟨0x2, 1, 0x28, 1, 0x0, 0x1, 0x0, 0x0, 0x0, 0x0, false, false⟩,  -- BOOT_PERS_SUP
  ⟨0x2, 1, 0x30, 1, 0x0, 0x0, 0x0, 0x0, 0x0, 0x0, false, false⟩,  -- BOOT_SVN
  ⟨0x2, 1, 0x38, 1, 0x0, 0x0, 0x0, 0x0, 0x0, 0x0, false, false⟩,  -- BOOT_BUILD
  ⟨0x2, 1, 0x40, 1, 0x0, 0x0, 0x0, 0x0, 0x0, 0x0, false, false⟩,  -- BOOT_DIGEST_LO
  ⟨0x2, 1, 0x48, 1, 0x0, 0x0, 0x0, 0x0, 0x0, 0x0, false, false⟩,  -- BOOT_DIGEST_HI
  ⟨0x2, 1, 0x50, 1, 0x0, 0x0, 0x0, 0x0, 0x0, 0x0, false, false⟩,  -- BOOT_TIME
  ⟨0x2, 1, 0x58, 1, 0x0, 0x0, 0x0, 0x0, 0x0, 0x0, false, true⟩,  -- BOOT_RESET
  ⟨0x2, 1, 0x60, 1, 0x0, 0x0, 0x0, 0x0, 0x0, 0x0, false, true⟩,  -- BOOT_SVN_ADV
  ⟨0x2, 1, 0x68, 1, 0x0, 0x0, 0x0, 0x0, 0x0, 0x0, false, true⟩,  -- BOOT_REVOKE
  ⟨0x2, 1, 0x80, 1, 0x0, 0x0, 0xfffffff8, 0x0, 0x0, 0x0, false, false⟩,  -- BOOT_XADDR
  ⟨0x2, 1, 0x88, 1, 0x0, 0x0, 0xffffffffffffffff, 0x0, 0x0, 0x0, false, false⟩,  -- BOOT_XDATA
  ⟨0x2, 1, 0x90, 1, 0x0, 0x0, 0x0, 0x0, 0x0, 0x0, false, true⟩,  -- BOOT_XCMD
  ⟨0x2, 1, 0x98, 1, 0x0, 0x0, 0x0, 0x0, 0x0, 0x0, false, false⟩,  -- BOOT_XSTATUS
  ⟨0x2, 1, 0x200, 1, 0x0, 0x0, 0x0, 0x0, 0x0, 0x0, false, false⟩,  -- BOOT_ID_PART
  ⟨0x2, 1, 0x208, 1, 0x0, 0x0, 0x0, 0x0, 0x0, 0x0, false, false⟩,  -- BOOT_ID_SERIAL
  ⟨0x2, 1, 0x210, 1, 0x0, 0x0, 0x0, 0x0, 0x0, 0x0, false, false⟩,  -- BOOT_ID_JTAG
  ⟨0x2, 1, 0x218, 1, 0x0, 0x0, 0x0, 0x0, 0x0, 0x0, false, false⟩,  -- BOOT_ID_MFG
  ⟨0x2, 1, 0x220, 1, 0x0, 0x0, 0x0, 0x0, 0x0, 0x0, false, false⟩,  -- BOOT_TEMP
  ⟨0x2, 1, 0x228, 1, 0x0, 0x0, 0x0, 0x0, 0x0, 0x0, true, false⟩,  -- BOOT_TEMPMAX
  ⟨0x2, 1, 0x230, 1, 0x0, 0x0, 0x0, 0x0, 0x1, 0x0, false, false⟩  -- BOOT_TEMPSTAT
  ]

def regRowsFcl : List RegRow := [
  ⟨0x3, 1, 0x0, 1, 0x0, 0x0, 0x0, 0x0, 0x0, 0x1, false, false⟩,  -- FCL_CTRL
  ⟨0x3, 1, 0x8, 1, 0x0, 0x0, 0x0, 0x0, 0x3, 0x0, false, false⟩,  -- FCL_STATUS
  ⟨0x3, 1, 0x10, 1, 0x0, 0x0, 0x0, 0x0, 0xf, 0x0, false, false⟩,  -- FCL_OVF
  ⟨0x3, 1, 0x18, 1, 0x0, 0x0, 0x0, 0x0, 0x0, 0x0, false, true⟩,  -- FCL_CLEAR
  ⟨0x3, 1, 0x20, 5, 0x20, 0x0, 0x0, 0x0, 0x0, 0x0, false, false⟩,  -- FCL_FIRST
  ⟨0x3, 1, 0x28, 5, 0x20, 0x0, 0x0, 0x0, 0x0, 0x0, false, false⟩,  -- FCL_FIRST_WAFER
  ⟨0x3, 1, 0x30, 5, 0x20, 0x0, 0x0, 0x0, 0x0, 0x0, false, false⟩,  -- FCL_FIRST_TAG
  ⟨0x3, 1, 0x38, 5, 0x20, 0x0, 0x0, 0x0, 0x0, 0x0, false, false⟩,  -- FCL_FIRST_TIME
  ⟨0x3, 1, 0xc0, 5, 0x8, 0x0, 0x0, 0x0, 0x0, 0x0, true, false⟩,  -- FCL_COUNT
  ⟨0x3, 1, 0x100, 1, 0x0, 0x0, 0x0, 0x0, 0x0, 0x0, false, false⟩,  -- FCL_LOG_REC
  ⟨0x3, 1, 0x108, 1, 0x0, 0x0, 0x0, 0x0, 0x0, 0x0, false, false⟩,  -- FCL_LOG_WAFER
  ⟨0x3, 1, 0x110, 1, 0x0, 0x0, 0x0, 0x0, 0x0, 0x0, false, false⟩,  -- FCL_LOG_TAG
  ⟨0x3, 1, 0x118, 1, 0x0, 0x0, 0x0, 0x0, 0x0, 0x0, false, false⟩,  -- FCL_LOG_TIME
  ⟨0x3, 1, 0x120, 1, 0x0, 0x0, 0x0, 0x0, 0x0, 0x0, false, true⟩,  -- FCL_LOG_POP
  ⟨0x3, 1, 0x128, 1, 0x0, 0x0, 0x0, 0x0, 0x0, 0x0, false, false⟩,  -- FCL_LOG_OCC
  ⟨0x3, 1, 0x130, 1, 0x0, 0x0, 0x0, 0x0, 0x0, 0x0, true, false⟩,  -- FCL_LOG_LOST
  ⟨0x3, 1, 0x140, 1, 0x0, 0x0, 0x0, 0x0, 0x0, 0x0, false, false⟩,  -- FCL_RECOV
  ⟨0x3, 1, 0x148, 1, 0x0, 0x0, 0x0, 0x0, 0x0, 0x0, true, false⟩,  -- FCL_RECOV_MAX
  ⟨0x3, 1, 0x150, 1, 0x0, 0x0, 0x0, 0x0, 0x0, 0x0, true, false⟩,  -- FCL_RECOVERIES
  ⟨0x3, 1, 0x158, 1, 0x0, 0x0, 0x0, 0x0, 0x0, 0x0, false, false⟩,  -- FCL_RQ_OCC
  ⟨0x3, 1, 0x160, 1, 0x0, 0x0, 0x0, 0x0, 0x0, 0x0, false, false⟩,  -- FCL_SLOT_INC
  ⟨0x3, 1, 0x180, 1, 0x0, 0x0, 0x0, 0xfffffff00001, 0x0, 0x0, false, false⟩,  -- FCL_JRNL_BASE
  ⟨0x3, 1, 0x188, 1, 0x0, 0x0, 0x0, 0x1fff, 0x0, 0x0, false, false⟩,  -- FCL_JRNL_SIZE
  ⟨0x3, 1, 0x1c0, 8, 0x8, 0x0, 0x0, 0x0, 0x0, 0x0, false, false⟩,  -- FCL_JRNL_OCC
  ⟨0x3, 1, 0x200, 1, 0x0, 0x0, 0x0, 0x0, 0x0, 0x0, false, true⟩,  -- FCL_SEQ_KICK
  ⟨0x3, 1, 0x208, 1, 0x0, 0x3e8, 0x0, 0xfffff, 0x0, 0x0, false, false⟩,  -- FCL_SEQ_WDOG
  ⟨0x3, 1, 0x300, 1, 0x0, 0x0, 0x0, 0x0, 0x0, 0x0, false, false⟩,  -- FCL_INJ_CTRL
  ⟨0x3, 1, 0x308, 1, 0x0, 0x0, 0x0, 0x0, 0x0, 0x0, false, false⟩  -- FCL_INJ_TARGET
  ]

def regRowsPwr : List RegRow := [
  ⟨0x4, 1, 0x0, 1, 0x0, 0x0, 0x1, 0x0, 0x0, 0x0, false, false⟩,  -- PWR_CTRL
  ⟨0x4, 1, 0x8, 1, 0x0, 0x0, 0x0, 0x0, 0xc, 0x0, false, false⟩,  -- PWR_STATUS
  ⟨0x4, 1, 0x10, 1, 0x0, 0x0, 0x7fff, 0x0, 0x0, 0x0, false, false⟩,  -- PWR_UNIT_CFG
  ⟨0x4, 1, 0x18, 1, 0x0, 0x7fff, 0x0, 0x0, 0x0, 0x0, false, false⟩,  -- PWR_UNIT_ON
  ⟨0x4, 1, 0x20, 1, 0x0, 0x100, 0x707, 0x0, 0x0, 0x0, false, false⟩,  -- PWR_DOZE_CFG
  ⟨0x4, 1, 0x28, 1, 0x0, 0x0, 0x0, 0x0, 0x0, 0x0, false, false⟩,  -- PWR_SUPPLY
  ⟨0x4, 1, 0x30, 1, 0x0, 0x0, 0x0, 0x0, 0x0, 0x0, true, false⟩,  -- PWR_DIPS
  ⟨0x4, 1, 0x38, 1, 0x0, 0x0, 0x0, 0x0, 0x0, 0x0, false, false⟩,  -- PWR_LAST_DIP
  ⟨0x4, 1, 0x100, 16, 0x8, 0x0, 0x7, 0x0, 0x0, 0x0, false, false⟩,  -- PWR_TILE_CFG
  ⟨0x4, 1, 0x200, 4, 0x8, 0x5555555555555555, 0x0, 0x0, 0x0, 0x0, false, false⟩,  -- PWR_DOM
  ⟨0x4, 1, 0x220, 1, 0x8, 0x555, 0x0, 0x0, 0x0, 0x0, false, false⟩  -- PWR_DOM4
  ]

def regRowsClk : List RegRow := [
  ⟨0x5, 1, 0x0, 1, 0x0, 0x0, 0x0, 0x1, 0x0, 0x0, false, false⟩,  -- CLK_CTRL
  ⟨0x5, 1, 0x8, 1, 0x0, 0x0, 0x0, 0x0, 0x7ff0000, 0x0, false, false⟩,  -- CLK_STATUS
  ⟨0x5, 1, 0x10, 1, 0x0, 0x0, 0x0, 0x0, 0x0, 0x0, false, false⟩,  -- CLK_BRIDGED
  ⟨0x5, 1, 0x100, 3, 0x8, 0x0, 0x0, 0x0, 0x0, 0x0, false, false⟩  -- CLK_DOM
  ]

def regRowsNoc : List RegRow := [
  ⟨0x6, 1, 0x0, 1, 0x0, 0x1, 0x3, 0x0, 0x0, 0x0, false, false⟩,  -- NOC_CTRL
  ⟨0x6, 1, 0x8, 1, 0x0, 0x0, 0x0, 0x0, 0xf, 0x0, false, false⟩,  -- NOC_STATUS
  ⟨0x6, 1, 0x10, 1, 0x0, 0x0, 0x0, 0x0, 0x0, 0x0, false, false⟩,  -- NOC_OLDEST
  ⟨0x6, 1, 0x18, 1, 0x0, 0x0, 0x0, 0x0, 0x0, 0x0, false, false⟩,  -- NOC_FRAME
  ⟨0x6, 1, 0x20, 1, 0x0, 0x0, 0x0, 0x0, 0x0, 0x0, true, false⟩,  -- NOC_CE
  ⟨0x6, 1, 0x28, 1, 0x0, 0x0, 0x0, 0x0, 0x0, 0x0, true, false⟩,  -- NOC_UE
  ⟨0x6, 1, 0x30, 1, 0x0, 0x0, 0x0, 0x0, 0x0, 0x0, false, false⟩,  -- NOC_ECC_LAST
  ⟨0x6, 1, 0x38, 1, 0x0, 0x0, 0x0, 0x0, 0x0, 0x0, true, false⟩,  -- NOC_OFFRET
  ⟨0x6, 1, 0x100, 64, 0x8, 0x0, 0xe03f3f0003ff007f, 0x0, 0x0, 0x0, false, false⟩,  -- NOC_RSV
  ⟨0x6, 1, 0x400, 20, 0x8, 0x0, 0x0, 0x0, 0x0, 0x0, false, false⟩  -- NOC_RTR_FLITS
  ]

def regRowsSch : List RegRow := [
  ⟨0x8, 1, 0x0, 1, 0x0, 0x0, 0x1, 0x0, 0x0, 0x0, false, false⟩,  -- SCH_CTRL
  ⟨0x8, 1, 0x8, 1, 0x0, 0x0, 0x0, 0x0, 0xf, 0x0, false, false⟩,  -- SCH_STATUS
  ⟨0x8, 1, 0x10, 1, 0x0, 0x0, 0x0, 0x0, 0x0, 0x0, false, false⟩,  -- SCH_ACT_LIVE
  ⟨0x8, 1, 0x18, 1, 0x0, 0x0, 0x0, 0x0, 0x0, 0x0, true, false⟩,  -- SCH_ACT_MAX
  ⟨0x8, 1, 0x20, 1, 0x0, 0x0, 0x0, 0xffffffff0000, 0x0, 0x0, false, false⟩,  -- SCH_FPOOL_BASE
  ⟨0x8, 1, 0x28, 1, 0x0, 0x0, 0x0, 0xffffffff0000, 0x0, 0x0, false, false⟩,  -- SCH_FPOOL_SIZE
  ⟨0x8, 1, 0x30, 1, 0x0, 0x0, 0x0, 0x0, 0x0, 0x0, false, false⟩,  -- SCH_FPOOL_FREE
  ⟨0x8, 1, 0x38, 1, 0x0, 0x0, 0x0, 0x0, 0x0, 0x0, false, false⟩,  -- SCH_RLIST
  ⟨0x8, 1, 0x40, 1, 0x0, 0x0, 0x0, 0x0, 0x0, 0x0, false, false⟩,  -- SCH_FLOWQ
  ⟨0x8, 1, 0x48, 1, 0x0, 0x2710, 0x0, 0xfffff, 0x0, 0x0, false, false⟩,  -- SCH_FLOW_WARN
  ⟨0x8, 1, 0x50, 1, 0x0, 0x0, 0x0, 0x0, 0x0, 0x0, false, false⟩,  -- SCH_DLY_OCC
  ⟨0x8, 1, 0x58, 1, 0x0, 0x0, 0x0, 0x0, 0x0, 0x0, true, false⟩,  -- SCH_DLY_MAX
  ⟨0x8, 1, 0x60, 1, 0x0, 0x0, 0x0, 0x0, 0x0, 0x0, true, false⟩,  -- SCH_DLY_FULL
  ⟨0x8, 1, 0x80, 1, 0x0, 0x3ff00, 0x3ff03, 0x0, 0x0, 0x0, false, false⟩,  -- SCH_TRC_CTRL
  ⟨0x8, 1, 0x88, 1, 0x0, 0x0, 0x0, 0xfffffff00001, 0x0, 0x0, false, false⟩,  -- SCH_TRC_BASE
  ⟨0x8, 1, 0x90, 1, 0x0, 0xa10, 0x0, 0x1f1f, 0x0, 0x0, false, false⟩,  -- SCH_TRC_GEOM
  ⟨0x8, 1, 0x98, 1, 0x0, 0x0, 0x0, 0x0, 0x0, 0x0, false, false⟩,  -- SCH_TRC_WR
  ⟨0x8, 1, 0xa0, 1, 0x0, 0x0, 0xffffffffffffffff, 0x0, 0x0, 0x0, false, false⟩,  -- SCH_TRC_RD
  ⟨0x8, 1, 0xa8, 1, 0x0, 0x0, 0x0, 0x0, 0x0, 0x0, true, false⟩,  -- SCH_TRC_LOST
  ⟨0x8, 1, 0xb0, 1, 0x0, 0x0, 0x0, 0x0, 0x0, 0x0, true, false⟩,  -- SCH_TRC_DROP
  ⟨0x8, 1, 0x800, 16, 0x8, 0x0, 0x0, 0x0, 0x0, 0x0, false, false⟩,  -- SCH_QDEPTH
  ⟨0x8, 1, 0x880, 16, 0x8, 0x0, 0x0, 0x0, 0x0, 0x0, false, false⟩,  -- SCH_QWAIT
  ⟨0x8, 1, 0x900, 16, 0x8, 0x0, 0x0, 0x0, 0x0, 0x0, false, false⟩  -- SCH_LOAD
  ]

def regRowsLku : List RegRow := [
  ⟨0x9, 1, 0x0, 1, 0x0, 0x0, 0x3, 0x0, 0x0, 0x0, false, false⟩,  -- LKU_CTRL
  ⟨0x9, 1, 0x8, 1, 0x0, 0x0, 0x0, 0x0, 0x7, 0x0, false, false⟩,  -- LKU_STATUS
  ⟨0x9, 1, 0x10, 1, 0x0, 0x0, 0x0, 0x0, 0x0, 0x0, false, true⟩,  -- LKU_REQ
  ⟨0x9, 1, 0x18, 1, 0x0, 0x0, 0x0, 0x0, 0x0, 0x0, false, false⟩,  -- LKU_RESP
  ⟨0x9, 1, 0x20, 1, 0x0, 0x0, 0x0, 0x0, 0x0, 0x0, false, true⟩,  -- LKU_MRESET
  ⟨0x9, 1, 0x28, 1, 0x0, 0x0, 0x0, 0x0, 0x0, 0x0, false, false⟩,  -- LKU_HELD
  ⟨0x9, 1, 0x30, 1, 0x0, 0x0, 0x0, 0x0, 0x0, 0x0, false, false⟩,  -- LKU_WAITING
  ⟨0x9, 1, 0x38, 1, 0x0, 0x0, 0x0, 0x0, 0x0, 0x0, false, false⟩,  -- LKU_FABPOOL
  ⟨0x9, 1, 0x40, 1, 0x0, 0x0, 0x0, 0x0, 0x0, 0x0, false, false⟩,  -- LKU_ACQS
  ⟨0x9, 1, 0x48, 1, 0x0, 0x0, 0x0, 0x0, 0x0, 0x0, true, false⟩,  -- LKU_CONTEND
  ⟨0x9, 1, 0x50, 1, 0x0, 0x0, 0x0, 0x0, 0x0, 0x0, true, false⟩,  -- LKU_INHERITS
  ⟨0x9, 1, 0x58, 1, 0x0, 0x0, 0x0, 0x0, 0x0, 0x0, true, false⟩,  -- LKU_ABANDONS
  ⟨0x9, 1, 0x60, 1, 0x0, 0x0, 0x0, 0x0, 0x0, 0x0, true, false⟩,  -- LKU_CYCLES
  ⟨0x9, 1, 0x1000, 1024, 0x8, 0x0, 0x0, 0x0, 0x0, 0x0, false, false⟩  -- LKU_LOCK_STATE
  ]

def regRowsChn : List RegRow := [
  ⟨0xa, 1, 0x0, 1, 0x0, 0x0, 0x3, 0x0, 0x0, 0x0, false, false⟩,  -- CHN_CTRL
  ⟨0xa, 1, 0x8, 1, 0x0, 0x0, 0x0, 0x0, 0x1f, 0x0, false, false⟩,  -- CHN_STATUS
  ⟨0xa, 1, 0x10, 1, 0x0, 0x0, 0x0, 0x0, 0x0, 0x0, false, false⟩,  -- CHN_LIVE
  ⟨0xa, 1, 0x18, 1, 0x0, 0x7000, 0x0, 0x0, 0x0, 0x0, false, false⟩,  -- CHN_QRAM_FREE
  ⟨0xa, 1, 0x20, 1, 0x0, 0x0, 0x0, 0xffffffff0001, 0x0, 0x0, false, false⟩,  -- CHN_OVF_BASE
  ⟨0xa, 1, 0x28, 1, 0x0, 0x0, 0x0, 0xffffffff0000, 0x0, 0x0, false, false⟩,  -- CHN_OVF_SIZE
  ⟨0xa, 1, 0x30, 1, 0x0, 0x0, 0x0, 0x0, 0x0, 0x0, false, false⟩,  -- CHN_OVF_FREE
  ⟨0xa, 1, 0x38, 1, 0x0, 0x3e8, 0x0, 0xffff, 0x0, 0x0, false, false⟩,  -- CHN_TSL_LATE
  ⟨0xa, 1, 0x40, 1, 0x0, 0x0, 0xffffffffffffffff, 0x0, 0x0, 0x0, false, false⟩,  -- CHN_ARG0
  ⟨0xa, 1, 0x48, 1, 0x0, 0x0, 0xffffffffffffffff, 0x0, 0x0, 0x0, false, false⟩,  -- CHN_ARG1
  ⟨0xa, 1, 0x50, 1, 0x0, 0x0, 0x0, 0x0, 0x0, 0x0, false, true⟩,  -- CHN_CMD
  ⟨0xa, 1, 0x58, 1, 0x0, 0x0, 0x0, 0x0, 0x0, 0x0, false, false⟩,  -- CHN_RESP
  ⟨0xa, 1, 0x60, 1, 0x0, 0x0, 0x0, 0x0, 0x0, 0x0, false, false⟩,  -- CHN_RESP_DATA
  ⟨0xa, 1, 0x68, 1, 0x0, 0x0, 0x0, 0x0, 0x0, 0x0, true, false⟩,  -- CHN_QRESETS
  ⟨0xa, 1, 0x70, 1, 0x0, 0x0, 0x0, 0x0, 0x0, 0x0, false, false⟩,  -- CHN_QRESET_LAST
  ⟨0xa, 1, 0x78, 1, 0x0, 0x0, 0x0, 0x0, 0x0, 0x0, true, false⟩,  -- CHN_DROPS
  ⟨0xa, 1, 0x80, 1, 0x0, 0x0, 0x0, 0x0, 0x0, 0x0, true, false⟩,  -- CHN_LATE
  ⟨0xa, 1, 0x88, 1, 0x0, 0x0, 0x0, 0x0, 0x0, 0x0, true, false⟩,  -- CHN_ECC_CE
  ⟨0xa, 1, 0x90, 1, 0x0, 0x0, 0x0, 0x0, 0x0, 0x0, false, false⟩,  -- CHN_ECC_LAST
  ⟨0xa, 1, 0x100, 64, 0x8, 0x0, 0x0, 0x0, 0xffffffffffffffff, 0x0, false, false⟩  -- CHN_STALE
  ]

def regRowsTil : List RegRow := [
  ⟨0x10, 16, 0x0, 1, 0x0, 0x0, 0x0, 0x0, 0x0, 0x0, false, false⟩,  -- TIL_ID
  ⟨0x10, 16, 0x8, 1, 0x0, 0x0, 0x1, 0x0, 0x0, 0x0, false, false⟩,  -- TIL_CTRL
  ⟨0x10, 16, 0x10, 1, 0x0, 0x10, 0x0, 0x0, 0x0, 0x0, false, false⟩,  -- TIL_STATUS
  ⟨0x10, 16, 0x18, 1, 0x0, 0xffff, 0x0, 0x0, 0x0, 0x0, false, false⟩,  -- TIL_POOL
  ⟨0x10, 16, 0x20, 1, 0x0, 0x10, 0x0, 0x0, 0x0, 0x0, false, false⟩,  -- TIL_SPARE
  ⟨0x10, 16, 0x28, 1, 0x0, 0x400, 0x0, 0x7ff, 0x0, 0x0, false, false⟩,  -- TIL_DISP_CFG
  ⟨0x10, 16, 0x30, 1, 0x0, 0x0, 0x0, 0x0, 0x0, 0x0, false, false⟩,  -- TIL_READYQ
  ⟨0x10, 16, 0x38, 1, 0x0, 0x0, 0x0, 0x0, 0x0, 0x0, true, false⟩,  -- TIL_READYQ_MAX
  ⟨0x10, 16, 0x40, 1, 0x0, 0x0, 0x0, 0x0, 0x0, 0x0, false, false⟩,  -- TIL_FIRINGS
  ⟨0x10, 16, 0x48, 1, 0x0, 0x0, 0x0, 0x0, 0x0, 0x0, false, false⟩,  -- TIL_LOOKUPS
  ⟨0x10, 16, 0x50, 1, 0x0, 0x0, 0x0, 0x0, 0x0, 0x0, true, false⟩,  -- TIL_ORPHAN
  ⟨0x10, 16, 0x58, 1, 0x0, 0x0, 0x0, 0x0, 0x0, 0x0, true, false⟩,  -- TIL_BADPORT
  ⟨0x10, 16, 0x60, 1, 0x0, 0x0, 0x0, 0x0, 0x0, 0x0, true, false⟩,  -- TIL_QUAR_COUNT
  ⟨0x10, 16, 0x68, 1, 0x0, 0x0, 0x0, 0x0, 0x0, 0x0, false, false⟩,  -- TIL_QUAR_LAST
  ⟨0x10, 16, 0x70, 1, 0x0, 0x0, 0x0, 0x0, 0x0, 0x0, false, false⟩  -- TIL_QUAR_WAFER
  ]

def regRowsMst : List RegRow := [
  ⟨0x10, 16, 0x1000, 1, 0x0, 0x0, 0x3, 0x0, 0x0, 0x0, false, false⟩,  -- MST_CTRL
  ⟨0x10, 16, 0x1008, 1, 0x0, 0x0, 0x0, 0x0, 0xf8, 0x0, false, false⟩,  -- MST_STATUS
  ⟨0x10, 16, 0x1010, 1, 0x0, 0x0, 0x0, 0x0, 0x0, 0x0, false, false⟩,  -- MST_OCC
  ⟨0x10, 16, 0x1018, 1, 0x0, 0x0, 0x0, 0x0, 0x0, 0x0, true, false⟩,  -- MST_OCC_MAX
  ⟨0x10, 16, 0x1020, 1, 0x0, 0x7000, 0x0, 0xffff, 0x0, 0x0, false, false⟩,  -- MST_HIWATER
  ⟨0x10, 16, 0x1028, 1, 0x0, 0x6000, 0x0, 0xffff, 0x0, 0x0, false, false⟩,  -- MST_LOWATER
  ⟨0x10, 16, 0x1030, 1, 0x0, 0x7c00, 0x0, 0xffff, 0x0, 0x0, false, false⟩,  -- MST_SPILL_AT
  ⟨0x10, 16, 0x1038, 1, 0x0, 0x0, 0x0, 0xfff, 0x0, 0x0, false, false⟩,  -- MST_HASH_SEED
  ⟨0x10, 16, 0x1040, 1, 0x0, 0x0, 0x0, 0xfffffc000001, 0x0, 0x0, false, false⟩,  -- MST_SPILL_BASE
  ⟨0x10, 16, 0x1048, 1, 0x0, 0x54000, 0x0, 0x7ffff, 0x0, 0x0, false, false⟩,  -- MST_SPILL_HI
  ⟨0x10, 16, 0x1050, 1, 0x0, 0x3f000, 0x0, 0x7ffff, 0x0, 0x0, false, false⟩,  -- MST_SPILL_LO
  ⟨0x10, 16, 0x1058, 1, 0x0, 0x0, 0x0, 0x0, 0x0, 0x0, false, false⟩,  -- MST_SPILL_OCC
  ⟨0x10, 16, 0x1060, 1, 0x0, 0x0, 0x0, 0x0, 0x0, 0x0, false, false⟩,  -- MST_RSV_OCC
  ⟨0x10, 16, 0x1068, 1, 0x0, 0x0, 0x0, 0x0, 0x0, 0x0, true, false⟩,  -- MST_SPILLS
  ⟨0x10, 16, 0x1070, 1, 0x0, 0x0, 0x0, 0x0, 0x0, 0x0, true, false⟩,  -- MST_FETCHES
  ⟨0x10, 16, 0x1078, 1, 0x0, 0x0, 0x0, 0x0, 0x0, 0x0, true, false⟩,  -- MST_FILTER_FP
  ⟨0x10, 16, 0x1080, 1, 0x0, 0x0, 0x0, 0x0, 0x0, 0x0, true, false⟩,  -- MST_CONFLICT
  ⟨0x10, 16, 0x1088, 1, 0x0, 0x0, 0x0, 0x0, 0x0, 0x0, true, false⟩,  -- MST_OLDEST_CNT
  ⟨0x10, 16, 0x1090, 1, 0x0, 0x64, 0x0, 0x3fff, 0x0, 0x0, false, false⟩,  -- MST_DL_WINDOW
  ⟨0x10, 16, 0x1098, 1, 0x0, 0x0, 0x0, 0x0, 0x0, 0x0, false, false⟩,  -- MST_DL_STATE
  ⟨0x10, 16, 0x10a0, 1, 0x0, 0x0, 0x0, 0x0, 0x0, 0x0, true, false⟩,  -- MST_DL_COUNT
  ⟨0x10, 16, 0x10a8, 1, 0x0, 0x0, 0x0, 0x0, 0x0, 0x0, true, false⟩,  -- MST_ECC_CE
  ⟨0x10, 16, 0x10b0, 1, 0x0, 0x0, 0x0, 0x0, 0x0, 0x0, false, false⟩  -- MST_ECC_LAST
  ]

def regRowsUcs : List RegRow := [
  ⟨0x10, 16, 0x2000, 1, 0x0, 0x1, 0x1, 0x0, 0x0, 0x2, false, false⟩,  -- UCS_CTRL
  ⟨0x10, 16, 0x2008, 1, 0x0, 0x0, 0x0, 0x0, 0xf, 0x0, false, false⟩,  -- UCS_STATUS
  ⟨0x10, 16, 0x2010, 1, 0x0, 0x0, 0x0, 0x0, 0x0, 0x0, false, false⟩,  -- UCS_VERSION
  ⟨0x10, 16, 0x2018, 1, 0x0, 0x0, 0x0, 0x0, 0x0, 0x0, true, false⟩,  -- UCS_PERR
  ⟨0x10, 16, 0x2020, 1, 0x0, 0x0, 0x0, 0x0, 0x0, 0x0, true, false⟩,  -- UCS_PATHERR
  ⟨0x10, 16, 0x2028, 1, 0x0, 0x0, 0x0, 0x0, 0x0, 0x0, true, false⟩,  -- UCS_RELOADS
  ⟨0x10, 16, 0x2030, 1, 0x0, 0x0, 0x0, 0x0, 0x0, 0x0, false, false⟩,  -- UCS_LAST_ERR
  ⟨0x10, 16, 0x2038, 1, 0x0, 0x3e8, 0x0, 0xffff, 0x0, 0x0, false, false⟩,  -- UCS_PERSIST
  ⟨0x10, 16, 0x2040, 1, 0x0, 0x64, 0x0, 0x3fff, 0x0, 0x0, false, false⟩,  -- UCS_SCRUB
  ⟨0x10, 16, 0x2048, 1, 0x0, 0x0, 0x0, 0x0, 0x0, 0x0, false, false⟩,  -- UCS_SCRUB_POS
  ⟨0x10, 16, 0x2050, 1, 0x0, 0x0, 0x0, 0x0, 0x0, 0x0, false, false⟩  -- UCS_UERR_LAST
  ]

def regRowsL2s : List RegRow := [
  ⟨0x10, 16, 0x3000, 1, 0x0, 0x0, 0x0, 0xfff00000fff, 0x0, 0x0, false, false⟩,  -- L2C_LOCK
  ⟨0x10, 16, 0x3008, 1, 0x0, 0xff, 0xf, 0x0, 0x0, 0x0, false, false⟩,  -- L2C_WGPWR
  ⟨0x10, 16, 0x3010, 1, 0x0, 0x0, 0x0, 0x0, 0xf, 0x0, false, false⟩,  -- L2C_SLICE_STATUS
  ⟨0x10, 16, 0x3018, 1, 0x0, 0x0, 0x0, 0x0, 0x0, 0x0, false, false⟩,  -- L2C_WAYDIS
  ⟨0x10, 16, 0x3020, 1, 0x0, 0x0, 0x0, 0x0, 0x0, 0x0, false, false⟩,  -- L2C_HITS
  ⟨0x10, 16, 0x3028, 1, 0x0, 0x0, 0x0, 0x0, 0x0, 0x0, false, false⟩,  -- L2C_MISSES
  ⟨0x10, 16, 0x3030, 1, 0x0, 0x0, 0x0, 0x0, 0x0, 0x0, true, false⟩,  -- L2C_WBACKS
  ⟨0x10, 16, 0x3038, 1, 0x0, 0x0, 0x0, 0x0, 0x0, 0x0, false, false⟩,  -- L2C_DEFER_OCC
  ⟨0x10, 16, 0x3040, 1, 0x0, 0x0, 0x0, 0x0, 0x0, 0x0, true, false⟩,  -- L2C_DEFER_FULL
  ⟨0x10, 16, 0x3048, 1, 0x0, 0x0, 0x0, 0x0, 0x0, 0x0, true, false⟩,  -- L2C_ECC_CE
  ⟨0x10, 16, 0x3050, 1, 0x0, 0x0, 0x0, 0x0, 0x0, 0x0, false, false⟩,  -- L2C_ECC_LAST
  ⟨0x10, 16, 0x3058, 1, 0x0, 0x0, 0x0, 0x0, 0x0, 0x0, false, false⟩  -- L2C_SCRUB_POS
  ]

def regRowsPex : List RegRow := [
  ⟨0x10, 16, 0x4000, 16, 0x100, 0x0, 0x0, 0x0, 0x10000, 0x0, false, false⟩,  -- PEX_STATUS
  ⟨0x10, 16, 0x5000, 1, 0x100, 0x1, 0x0, 0x0, 0x10000, 0x0, false, false⟩,  -- PEX_STATUS16
  ⟨0x10, 16, 0x4008, 17, 0x100, 0x0, 0x0, 0x0, 0x0, 0x1, false, false⟩,  -- PEX_CTRL
  ⟨0x10, 16, 0x4010, 17, 0x100, 0x0, 0x0, 0x0, 0x0, 0x0, false, false⟩,  -- PEX_FIRED
  ⟨0x10, 16, 0x4018, 17, 0x100, 0x0, 0x0, 0x0, 0x0, 0x0, true, false⟩,  -- PEX_RETRY
  ⟨0x10, 16, 0x4020, 17, 0x100, 0x0, 0x0, 0x0, 0x0, 0x0, true, false⟩,  -- PEX_SB_FWD
  ⟨0x10, 16, 0x4028, 17, 0x100, 0x0, 0x0, 0x0, 0x0, 0x0, true, false⟩,  -- PEX_SB_FULL
  ⟨0x10, 16, 0x4030, 17, 0x100, 0x0, 0x0, 0x0, 0x0, 0x0, true, false⟩,  -- PEX_IC_MISS
  ⟨0x10, 16, 0x4038, 17, 0x100, 0x0, 0x0, 0x0, 0x0, 0x0, true, false⟩,  -- PEX_DC_MISS
  ⟨0x10, 16, 0x4040, 17, 0x100, 0x0, 0x0, 0x0, 0x0, 0x0, true, false⟩,  -- PEX_INFLIGHT_MAX
  ⟨0x10, 16, 0x4048, 17, 0x100, 0x0, 0x0, 0x0, 0x0, 0x0, false, false⟩  -- PEX_LAST_ERR
  ]

def regRowsL2c : List RegRow := [
  ⟨0x20, 1, 0x0, 1, 0x0, 0x1, 0x1, 0x0, 0x0, 0x0, false, false⟩,  -- L2C_CTRL
  ⟨0x20, 1, 0x8, 1, 0x0, 0x0, 0x0, 0x0, 0x3, 0x0, false, false⟩,  -- L2C_STATUS
  ⟨0x20, 1, 0x10, 1, 0x0, 0x1, 0x0, 0x7, 0x0, 0x0, false, false⟩,  -- L2C_DEF_ATTR
  ⟨0x20, 1, 0x18, 1, 0x0, 0x2710, 0x0, 0xfffff, 0x0, 0x0, false, false⟩,  -- L2C_SCRUB
  ⟨0x20, 1, 0x20, 1, 0x0, 0x3e8, 0x0, 0xffff, 0x0, 0x0, false, false⟩,  -- L2C_PERSIST
  ⟨0x20, 1, 0x40, 1, 0x0, 0x0, 0xffffffffffc0, 0x0, 0x0, 0x0, false, false⟩,  -- L2C_MNT_ADDR
  ⟨0x20, 1, 0x48, 1, 0x0, 0x0, 0x3fffffffff, 0x0, 0x0, 0x0, false, false⟩,  -- L2C_MNT_LEN
  ⟨0x20, 1, 0x50, 1, 0x0, 0x0, 0x0, 0x0, 0x0, 0x0, false, true⟩,  -- L2C_MNT_CMD
  ⟨0x20, 1, 0x58, 1, 0x0, 0x0, 0x0, 0x0, 0x0, 0x0, false, false⟩,  -- L2C_MNT_STATUS
  ⟨0x20, 1, 0x100, 16, 0x20, 0x0, 0x0, 0xfffffffff000, 0x0, 0x0, false, false⟩,  -- L2C_RGN_BASE
  ⟨0x20, 1, 0x108, 16, 0x20, 0x0, 0x0, 0xfffffffff000, 0x0, 0x0, false, false⟩,  -- L2C_RGN_LIMIT
  ⟨0x20, 1, 0x110, 16, 0x20, 0x0, 0x0, 0x8000000000000007, 0x0, 0x0, false, false⟩  -- L2C_RGN_ATTR
  ]

def regRowsSdc : List RegRow := [
  ⟨0x24, 1, 0x0, 1, 0x0, 0x0, 0x0, 0xcfe01, 0x0, 0x0, false, false⟩,  -- SDC_CFG
  ⟨0x24, 1, 0x8, 1, 0x0, 0x1, 0x1, 0x0, 0x0, 0x0, false, false⟩,  -- SDC_CTRL
  ⟨0x24, 1, 0x10, 1, 0x0, 0x0, 0x0, 0x0, 0xa, 0x0, false, false⟩,  -- SDC_STATUS
  ⟨0x24, 1, 0x18, 1, 0x0, 0x0, 0x0, 0x0, 0x0, 0x0, false, false⟩,  -- SDC_CAPACITY
  ⟨0x24, 1, 0x20, 1, 0x0, 0x7d0, 0x0, 0xfffff, 0x0, 0x0, false, false⟩,  -- SDC_SCRUB
  ⟨0x24, 1, 0x28, 1, 0x0, 0x0, 0x0, 0x0, 0x0, 0x0, false, false⟩,  -- SDC_SCRUB_POS
  ⟨0x24, 1, 0x30, 1, 0x0, 0x0, 0x0, 0x0, 0x0, 0x0, true, false⟩,  -- SDC_ECC_CE
  ⟨0x24, 1, 0x38, 1, 0x0, 0x0, 0x0, 0x0, 0x0, 0x0, true, false⟩,  -- SDC_ECC_UE
  ⟨0x24, 1, 0x40, 1, 0x0, 0x0, 0x0, 0x0, 0x0, 0x0, true, false⟩,  -- SDC_REREAD
  ⟨0x24, 1, 0x48, 1, 0x0, 0x0, 0x0, 0x0, 0x0, 0x0, false, false⟩,  -- SDC_ECC_LAST
  ⟨0x24, 1, 0x1000, 4, 0x100, 0x0, 0x0, 0x0, 0x0, 0x0, false, false⟩,  -- SDC_CH_STATUS
  ⟨0x24, 1, 0x1008, 4, 0x100, 0x0, 0x0, 0x0, 0x0, 0x0, false, false⟩,  -- SDC_CH_RDBYTES
  ⟨0x24, 1, 0x1010, 4, 0x100, 0x0, 0x0, 0x0, 0x0, 0x0, false, false⟩,  -- SDC_CH_WRBYTES
  ⟨0x24, 1, 0x1018, 4, 0x100, 0x0, 0x0, 0x0, 0x0, 0x0, true, false⟩,  -- SDC_CH_CE
  ⟨0x24, 1, 0x1020, 4, 0x100, 0x0, 0x0, 0x0, 0x0, 0x0, false, false⟩  -- SDC_CH_LASTSYM
  ]

def regRowsCen : List RegRow := [
  ⟨0x30, 9, 0x0, 1, 0x0, 0x0, 0x5, 0x0, 0x0, 0x2, false, false⟩,  -- CEN_CTRL
  ⟨0x30, 9, 0x8, 1, 0x0, 0x0, 0x0, 0x0, 0x1e0, 0x0, false, false⟩,  -- CEN_STATUS
  ⟨0x30, 9, 0x10, 1, 0x0, 0x0, 0x0, 0x1fff, 0x0, 0x0, false, false⟩,  -- CEN_ENTRY
  ⟨0x30, 9, 0x18, 1, 0x0, 0x0, 0x1f80, 0x0, 0x0, 0x0, false, false⟩,  -- CEN_EVBASE
  ⟨0x30, 9, 0x20, 1, 0x0, 0x0, 0x0, 0x0, 0x0, 0x0, false, false⟩,  -- CEN_EVPEND
  ⟨0x30, 9, 0x28, 1, 0x0, 0x0, 0xfffffff0, 0x0, 0x0, 0x0, false, false⟩,  -- CEN_EVMASK
  ⟨0x30, 9, 0x30, 1, 0x0, 0x0, 0x0, 0x0, 0x0, 0x0, false, false⟩,  -- CEN_EPC
  ⟨0x30, 9, 0x38, 1, 0x0, 0x0, 0x0, 0x0, 0x0, 0x0, false, false⟩,  -- CEN_CAUSE
  ⟨0x30, 9, 0x40, 1, 0x0, 0x0, 0x0, 0x0, 0x0, 0x0, false, false⟩,  -- CEN_FAULTADDR
  ⟨0x30, 9, 0x48, 1, 0x0, 0x0, 0xffffffff, 0x0, 0x0, 0x0, false, false⟩,  -- CEN_WDOG
  ⟨0x30, 9, 0x50, 1, 0x0, 0x0, 0xffffffffffffffff, 0x0, 0x0, 0x0, false, false⟩,  -- CEN_TIMER
  ⟨0x30, 9, 0x58, 1, 0x0, 0x0, 0x0, 0x0, 0x0, 0xffffffff, false, false⟩,  -- CEN_DOORBELL
  ⟨0x30, 9, 0x60, 1, 0x0, 0x0, 0x0, 0x0, 0xffffffff, 0x0, false, false⟩,  -- CEN_DOORBELL_CLR
  ⟨0x30, 9, 0x68, 1, 0x0, 0x0, 0x1fff8, 0x0, 0x0, 0x0, false, false⟩,  -- CEN_RAMADDR
  ⟨0x30, 9, 0x70, 1, 0x0, 0x0, 0xffffffffffffffff, 0x0, 0x0, 0x0, false, false⟩,  -- CEN_RAMDATA
  ⟨0x30, 9, 0x78, 1, 0x0, 0x0, 0x0, 0x0, 0x0, 0x0, false, false⟩,  -- CEN_BUNDLES
  ⟨0x30, 9, 0x80, 1, 0x0, 0x0, 0x0, 0x0, 0x0, 0x0, true, false⟩,  -- CEN_STALLS
  ⟨0x30, 9, 0x88, 1, 0x0, 0x0, 0x0, 0x0, 0x0, 0x0, true, false⟩,  -- CEN_LBUF
  ⟨0x30, 9, 0x90, 1, 0x0, 0x0, 0x0, 0x0, 0x0, 0x0, true, false⟩,  -- CEN_RESETS
  ⟨0x30, 9, 0x98, 1, 0x0, 0x0, 0x0, 0x0, 0x0, 0x0, true, false⟩,  -- CEN_ECC_CE
  ⟨0x30, 9, 0xa0, 1, 0x0, 0x0, 0x0, 0x0, 0x0, 0x0, false, false⟩,  -- CEN_ECC_LAST
  ⟨0x30, 9, 0xa8, 1, 0x0, 0x10, 0x0, 0x0, 0x0, 0x0, false, false⟩  -- CEN_MASTER
  ]

def regRowsCmp : List RegRow := [
  ⟨0x3a, 2, 0x0, 1, 0x0, 0x1, 0x1, 0x0, 0x0, 0x0, false, false⟩,  -- CMP_CTRL
  ⟨0x3a, 2, 0x8, 1, 0x0, 0x0, 0x0, 0x0, 0x1, 0x0, false, false⟩,  -- CMP_STATUS
  ⟨0x3a, 2, 0x10, 1, 0x0, 0x0, 0x0, 0x0, 0x0, 0x0, false, true⟩,  -- CMP_SUBMIT
  ⟨0x3a, 2, 0x18, 1, 0x0, 0x0, 0x0, 0x0, 0x0, 0x0, false, false⟩,  -- CMP_OUTST
  ⟨0x3a, 2, 0x20, 1, 0x0, 0x0, 0x0, 0x0, 0x0, 0x0, false, false⟩,  -- CMP_JOBS
  ⟨0x3a, 2, 0x28, 1, 0x0, 0x0, 0x0, 0x0, 0x0, 0x0, false, false⟩,  -- CMP_IN_BYTES
  ⟨0x3a, 2, 0x30, 1, 0x0, 0x0, 0x0, 0x0, 0x0, 0x0, false, false⟩,  -- CMP_OUT_BYTES
  ⟨0x3a, 2, 0x38, 1, 0x0, 0x0, 0x0, 0x0, 0x0, 0x0, true, false⟩,  -- CMP_ERRORS
  ⟨0x3a, 2, 0x40, 1, 0x0, 0x0, 0x0, 0x0, 0x0, 0x0, true, false⟩,  -- CMP_ECC_CE
  ⟨0x3a, 2, 0x48, 1, 0x0, 0x0, 0x0, 0x0, 0x0, 0x0, false, false⟩  -- CMP_ECC_LAST
  ]

def regRowsEnc : List RegRow := [
  ⟨0x3c, 2, 0x0, 1, 0x0, 0x1, 0x1, 0x0, 0x0, 0x0, false, false⟩,  -- ENC_CTRL
  ⟨0x3c, 2, 0x8, 1, 0x0, 0x0, 0x0, 0x0, 0x9, 0x0, false, false⟩,  -- ENC_STATUS
  ⟨0x3c, 2, 0x10, 1, 0x0, 0x0, 0x0, 0x0, 0x0, 0x0, false, true⟩,  -- ENC_SUBMIT
  ⟨0x3c, 2, 0x18, 1, 0x0, 0x0, 0x0, 0x0, 0x0, 0x0, false, false⟩,  -- ENC_OUTST
  ⟨0x3c, 2, 0x20, 1, 0x0, 0x0, 0x0, 0x0, 0x0, 0x0, false, false⟩,  -- ENC_JOBS
  ⟨0x3c, 2, 0x28, 1, 0x0, 0x0, 0x0, 0x0, 0x0, 0x0, false, false⟩,  -- ENC_IN_BYTES
  ⟨0x3c, 2, 0x30, 1, 0x0, 0x0, 0x0, 0x0, 0x0, 0x0, false, false⟩,  -- ENC_OUT_BYTES
  ⟨0x3c, 2, 0x38, 1, 0x0, 0x0, 0x0, 0x0, 0x0, 0x0, true, false⟩,  -- ENC_ERRORS
  ⟨0x3c, 2, 0x40, 1, 0x0, 0x0, 0x0, 0x0, 0x0, 0x0, true, false⟩,  -- ENC_ECC_CE
  ⟨0x3c, 2, 0x48, 1, 0x0, 0x0, 0x0, 0x0, 0x0, 0x0, false, false⟩,  -- ENC_ECC_LAST
  ⟨0x3c, 1, 0x100, 1, 0x0, 0x0, 0x0, 0x0, 0x0, 0x0, false, true⟩,  -- ENC_KEYW0
  ⟨0x3c, 1, 0x108, 1, 0x0, 0x0, 0x0, 0x0, 0x0, 0x0, false, true⟩,  -- ENC_KEYW1
  ⟨0x3c, 1, 0x110, 1, 0x0, 0x0, 0x0, 0x0, 0x0, 0x0, false, true⟩,  -- ENC_KEYW2
  ⟨0x3c, 1, 0x118, 1, 0x0, 0x0, 0x0, 0x0, 0x0, 0x0, false, true⟩,  -- ENC_KEYW3
  ⟨0x3c, 1, 0x120, 1, 0x0, 0x0, 0x0, 0x0, 0x0, 0x0, false, true⟩,  -- ENC_KEYCMD
  ⟨0x3c, 1, 0x128, 1, 0x0, 0x0, 0x0, 0x0, 0x0, 0x0, false, true⟩,  -- ENC_ZEROIZE
  ⟨0x3c, 1, 0x200, 32, 0x8, 0x0, 0x0, 0x0, 0x0, 0x0, false, false⟩  -- ENC_SLOT
  ]

def regRowsAfe : List RegRow := [
  ⟨0x40, 1, 0x0, 1, 0x0, 0x2, 0x6, 0x0, 0x0, 0x1, false, false⟩,  -- AFE_CTRL
  ⟨0x40, 1, 0x8, 1, 0x0, 0x10, 0x0, 0x0, 0xf, 0x0, false, false⟩,  -- AFE_STATUS
  ⟨0x40, 1, 0x100, 64, 0x40, 0x0, 0x0, 0x7f01f1f1f7, 0x0, 0x0, false, false⟩,  -- AFE_CH_CFG
  ⟨0x40, 1, 0x108, 64, 0x40, 0x0, 0x1ffff, 0x0, 0x0, 0x0, false, false⟩,  -- AFE_CH_DEST
  ⟨0x40, 1, 0x110, 64, 0x40, 0x0, 0xffffff, 0x0, 0x0, 0x0, false, false⟩,  -- AFE_CH_REF
  ⟨0x40, 1, 0x118, 64, 0x40, 0x4e2036b01f4003e8, 0xffffffffffffffff, 0x0, 0x0, 0x0, false, false⟩,  -- AFE_CH_HTH
  ⟨0x40, 1, 0x120, 64, 0x40, 0x64, 0xffff, 0x0, 0x0, 0x0, false, false⟩,  -- AFE_CH_HQUAL
  ⟨0x40, 1, 0x128, 64, 0x40, 0x0, 0x0, 0x0, 0x0, 0x0, false, false⟩,  -- AFE_CH_HEALTH
  ⟨0x40, 1, 0x130, 64, 0x40, 0x0, 0x0, 0x0, 0x0, 0x0, true, false⟩,  -- AFE_CH_OVR
  ⟨0x40, 1, 0x138, 64, 0x40, 0x0, 0x0, 0x0, 0x0, 0x0, true, false⟩,  -- AFE_CH_PKHOLD
  ⟨0x40, 1, 0x2000, 16, 0x20, 0x0, 0x0, 0xffffffffffff0007, 0x0, 0x0, false, false⟩,  -- AFE_TACH_CFG
  ⟨0x40, 1, 0x2008, 16, 0x20, 0x0, 0x1ffff, 0x0, 0x0, 0x0, false, false⟩,  -- AFE_TACH_DEST
  ⟨0x40, 1, 0x2010, 16, 0x20, 0x0, 0x0, 0x0, 0x0, 0x0, false, false⟩,  -- AFE_TACH_LAST
  ⟨0x40, 1, 0x2018, 16, 0x20, 0x0, 0x0, 0x0, 0x0, 0x0, false, false⟩,  -- AFE_TACH_EDGES
  ⟨0x40, 1, 0x8108, 64, 0x40, 0x0, 0x1ffff, 0x0, 0x0, 0x0, false, false⟩,  -- SHADOW_AFE_CH_DEST
  ⟨0x40, 1, 0x8110, 64, 0x40, 0x0, 0xffffff, 0x0, 0x0, 0x0, false, false⟩,  -- SHADOW_AFE_CH_REF
  ⟨0x40, 1, 0x8118, 64, 0x40, 0x4e2036b01f4003e8, 0xffffffffffffffff, 0x0, 0x0, 0x0, false, false⟩,  -- SHADOW_AFE_CH_HTH
  ⟨0x40, 1, 0x8120, 64, 0x40, 0x64, 0xffff, 0x0, 0x0, 0x0, false, false⟩,  -- SHADOW_AFE_CH_HQUAL
  ⟨0x40, 1, 0xa008, 16, 0x20, 0x0, 0x1ffff, 0x0, 0x0, 0x0, false, false⟩  -- SHADOW_AFE_TACH_DEST
  ]

def regRowsTrp : List RegRow := [
  ⟨0x41, 1, 0x0, 1, 0x0, 0x0, 0x2, 0x0, 0x0, 0x1, false, false⟩,  -- TRP_CTRL
  ⟨0x41, 1, 0x8, 1, 0x0, 0x0, 0x0, 0x0, 0x20f, 0x0, false, false⟩,  -- TRP_STATUS
  ⟨0x41, 1, 0x10, 1, 0x0, 0x0, 0x0, 0x0, 0x0, 0x0, false, false⟩,  -- TRP_OUT
  ⟨0x41, 1, 0x18, 1, 0x0, 0x0, 0x0, 0x0, 0x0, 0x0, false, false⟩,  -- TRP_HW
  ⟨0x41, 1, 0x20, 1, 0x0, 0x0, 0x0, 0x0, 0x0, 0x0, false, false⟩,  -- TRP_GDEM
  ⟨0x41, 1, 0x28, 1, 0x0, 0x0, 0x0, 0x0, 0x0, 0x0, false, false⟩,  -- TRP_DRIVE
  ⟨0x41, 1, 0x30, 1, 0x0, 0x0, 0x0, 0x0, 0x0, 0x0, false, true⟩,  -- TRP_RESET
  ⟨0x41, 1, 0x38, 1, 0x0, 0x0, 0x0, 0x0, 0x0, 0x0, false, false⟩,  -- TRP_FIRST
  ⟨0x41, 1, 0x40, 1, 0x0, 0x0, 0x0, 0x0, 0x0, 0x0, false, false⟩,  -- TRP_FIRST_TIME
  ⟨0x41, 1, 0x48, 1, 0x0, 0x0, 0x0, 0x0, 0x0, 0x0, false, true⟩,  -- TRP_FIRST_CLR
  ⟨0x41, 1, 0x50, 1, 0x0, 0x0, 0x1ffff, 0x0, 0x0, 0x0, false, false⟩,  -- TRP_GSRC
  ⟨0x41, 1, 0x58, 1, 0x0, 0x0, 0x0, 0x0, 0x0, 0x0, true, false⟩,  -- TRP_DIAG
  ⟨0x41, 1, 0x1000, 32, 0x20, 0x0, 0x0, 0xffff000f, 0x0, 0x0, false, false⟩,  -- TRP_OUT_CFG
  ⟨0x41, 1, 0x1008, 32, 0x20, 0x3ff03ff03ff0000, 0x3ff03ff03ff0077, 0x0, 0x0, 0x0, false, false⟩,  -- TRP_OUT_VOTE
  ⟨0x41, 1, 0x1010, 32, 0x20, 0x0, 0x0, 0x0, 0x0, 0x0, false, false⟩,  -- TRP_OUT_TIME
  ⟨0x41, 1, 0x1018, 32, 0x20, 0x0, 0x0, 0x0, 0x0, 0x0, true, false⟩,  -- TRP_OUT_COUNT
  ⟨0x41, 1, 0x2000, 64, 0x40, 0x0, 0xffffffffffffffff, 0x0, 0x0, 0x0, false, false⟩,  -- TRP_CH_PK
  ⟨0x41, 1, 0x2008, 64, 0x40, 0x0, 0xffffffffffffffff, 0x0, 0x0, 0x0, false, false⟩,  -- TRP_CH_PP
  ⟨0x41, 1, 0x2010, 64, 0x40, 0x0, 0xffffffffffffffff, 0x0, 0x0, 0x0, false, false⟩,  -- TRP_CH_RMS
  ⟨0x41, 1, 0x2018, 64, 0x40, 0xaa, 0xfffffffff00ff, 0x0, 0x0, 0x0, false, false⟩,  -- TRP_CH_WIN
  ⟨0x41, 1, 0x2020, 64, 0x40, 0x0, 0x0, 0x0, 0x0, 0x0, false, false⟩,  -- TRP_CH_STATE
  ⟨0x41, 1, 0x3000, 16, 0x10, 0x0, 0xffffffffffffffff, 0x0, 0x0, 0x0, false, false⟩,  -- TRP_TACH_OS
  ⟨0x41, 1, 0x3008, 16, 0x10, 0x0, 0x0, 0x0, 0x0, 0x0, false, false⟩,  -- TRP_TACH_STATE
  ⟨0x41, 1, 0x8050, 1, 0x0, 0x0, 0x1ffff, 0x0, 0x0, 0x0, false, false⟩,  -- SHADOW_TRP_GSRC
  ⟨0x41, 1, 0x9008, 32, 0x20, 0x3ff03ff03ff0000, 0x3ff03ff03ff0077, 0x0, 0x0, 0x0, false, false⟩,  -- SHADOW_TRP_OUT_VOTE
  ⟨0x41, 1, 0xa000, 64, 0x40, 0x0, 0xffffffffffffffff, 0x0, 0x0, 0x0, false, false⟩,  -- SHADOW_TRP_CH_PK
  ⟨0x41, 1, 0xa008, 64, 0x40, 0x0, 0xffffffffffffffff, 0x0, 0x0, 0x0, false, false⟩,  -- SHADOW_TRP_CH_PP
  ⟨0x41, 1, 0xa010, 64, 0x40, 0x0, 0xffffffffffffffff, 0x0, 0x0, 0x0, false, false⟩,  -- SHADOW_TRP_CH_RMS
  ⟨0x41, 1, 0xa018, 64, 0x40, 0xaa, 0xfffffffff00ff, 0x0, 0x0, 0x0, false, false⟩,  -- SHADOW_TRP_CH_WIN
  ⟨0x41, 1, 0xb000, 16, 0x10, 0x0, 0xffffffffffffffff, 0x0, 0x0, 0x0, false, false⟩  -- SHADOW_TRP_TACH_OS
  ]

def regRowsFab : List RegRow := [
  ⟨0x48, 1, 0x0, 1, 0x0, 0x0, 0x3000, 0xf0f, 0x0, 0x0, false, false⟩,  -- FAB_CTRL
  ⟨0x48, 1, 0x8, 1, 0x0, 0x0, 0x0, 0x0, 0x19e3, 0x0, false, false⟩,  -- FAB_STATUS
  ⟨0x48, 1, 0x10, 1, 0x0, 0x0, 0x0, 0x3ff, 0x0, 0x0, false, false⟩,  -- FAB_ID
  ⟨0x48, 1, 0x18, 1, 0x0, 0x0, 0x0, 0x0, 0x0, 0x0, false, false⟩,  -- FAB_SERIAL
  ⟨0x48, 1, 0x20, 1, 0x0, 0x0, 0x0, 0x0, 0x0, 0x0, false, false⟩,  -- FAB_MANAGER
  ⟨0x48, 1, 0x28, 1, 0x0, 0x0, 0x0, 0x0, 0x0, 0x0, false, false⟩,  -- FAB_TMASTER
  ⟨0x48, 1, 0x30, 1, 0x0, 0x0, 0x0, 0x0, 0x0, 0x0, false, false⟩,  -- FAB_TOFFSET
  ⟨0x48, 1, 0x38, 1, 0x0, 0x0, 0x0, 0x0, 0x0, 0x0, false, false⟩,  -- FAB_TBOUND
  ⟨0x48, 1, 0x40, 1, 0x0, 0x0, 0x0, 0x0, 0x0, 0x0, false, false⟩,  -- FAB_DIGEST_LO
  ⟨0x48, 1, 0x48, 1, 0x0, 0x0, 0x0, 0x0, 0x0, 0x0, false, false⟩,  -- FAB_DIGEST_HI
  ⟨0x48, 1, 0x50, 1, 0x0, 0x3e8, 0x0, 0xfffff, 0x0, 0x0, false, false⟩,  -- FAB_LOSS_TMO
  ⟨0x48, 1, 0x58, 1, 0x0, 0x64, 0x0, 0xfffff, 0x0, 0x0, false, false⟩,  -- FAB_VOTE_TMO
  ⟨0x48, 1, 0x60, 1, 0x0, 0x3e8, 0x0, 0xfffff, 0x0, 0x0, false, false⟩,  -- FAB_XTMO
  ⟨0x48, 1, 0x68, 1, 0x0, 0x2710, 0x0, 0xfffff, 0x0, 0x0, false, false⟩,  -- FAB_RSYNC_TMO
  ⟨0x48, 1, 0x70, 1, 0x0, 0x14, 0x0, 0xfffff, 0x0, 0x0, false, false⟩,  -- FAB_E2E_RTO
  ⟨0x48, 1, 0x78, 1, 0x0, 0x0, 0x0, 0x0, 0x0, 0x0, true, false⟩,  -- FAB_E2E_RETX
  ⟨0x48, 1, 0x80, 1, 0x0, 0x0, 0x0, 0x0, 0x0, 0x0, true, false⟩,  -- FAB_RERR
  ⟨0x48, 1, 0x88, 1, 0x0, 0x0, 0x0, 0x0, 0x0, 0x0, true, false⟩,  -- FAB_RS_LOST
  ⟨0x48, 1, 0x90, 1, 0x0, 0x0, 0x0, 0x0, 0x0, 0x0, true, false⟩,  -- FAB_LATE
  ⟨0x48, 1, 0x98, 1, 0x0, 0x0, 0x0, 0x0, 0x0, 0x0, false, false⟩,  -- FAB_RETAIN
  ⟨0x48, 1, 0x100, 8, 0x10, 0x0, 0x0, 0xfffffffff007, 0x0, 0x0, false, false⟩,  -- FAB_RWIN_BASE
  ⟨0x48, 1, 0x108, 8, 0x10, 0x0, 0x0, 0xfffffffff000, 0x0, 0x0, false, false⟩,  -- FAB_RWIN_LIMIT
  ⟨0x48, 1, 0x200, 7, 0x40, 0x0, 0x0, 0x1f03, 0x0, 0x0, false, false⟩,  -- FAB_LINK_CTRL
  ⟨0x48, 1, 0x208, 7, 0x40, 0x0, 0x0, 0x0, 0x0, 0x0, false, false⟩,  -- FAB_LINK_STATUS
  ⟨0x48, 1, 0x210, 7, 0x40, 0x0, 0xffffffff, 0x0, 0x0, 0x0, false, false⟩,  -- FAB_LINK_ASYM
  ⟨0x48, 1, 0x218, 7, 0x40, 0x0, 0x0, 0x0, 0x0, 0x0, false, false⟩,  -- FAB_LINK_PEER
  ⟨0x48, 1, 0x220, 7, 0x40, 0x0, 0x0, 0x0, 0x0, 0x0, true, false⟩,  -- FAB_LINK_CE
  ⟨0x48, 1, 0x228, 7, 0x40, 0x0, 0x0, 0x0, 0x0, 0x0, true, false⟩,  -- FAB_LINK_REPLAY
  ⟨0x48, 1, 0x400, 16, 0x10, 0x0, 0x0, 0x0, 0x0, 0x0, false, false⟩,  -- FAB_GRP_STATUS
  ⟨0x48, 1, 0x408, 16, 0x10, 0x0, 0x0, 0x0, 0x0, 0x0, false, false⟩,  -- FAB_GRP_COUNT
  ⟨0x48, 1, 0x1000, 1024, 0x8, 0x0, 0x0, 0x0, 0x0, 0x0, false, false⟩  -- FAB_ROUTE
  ]

def regRowsPci : List RegRow := [
  ⟨0x50, 1, 0x0, 1, 0x0, 0x3, 0x0, 0x3, 0x0, 0x0, false, false⟩,  -- PCI_CTRL
  ⟨0x50, 1, 0x8, 1, 0x0, 0x0, 0x0, 0x0, 0x600, 0x0, false, false⟩,  -- PCI_STATUS
  ⟨0x50, 1, 0x10, 1, 0x0, 0x0, 0xfffff0000000, 0x0, 0x0, 0x0, false, false⟩,  -- PCI_WIN
  ⟨0x50, 1, 0x18, 1, 0x0, 0x0, 0x0, 0x0, 0x0, 0x0, false, true⟩,  -- PCI_IRQ
  ⟨0x50, 1, 0x20, 1, 0x0, 0x0, 0x0, 0x0, 0x0, 0x0, false, false⟩,  -- PCI_ERR_LAST
  ⟨0x50, 1, 0x28, 1, 0x0, 0x0, 0x0, 0x0, 0x0, 0x0, true, false⟩  -- PCI_CE
  ]

def regRowsEth : List RegRow := [
  ⟨0x52, 2, 0x0, 1, 0x0, 0x0, 0x0, 0xf, 0x0, 0x0, false, false⟩,  -- ETH_CTRL
  ⟨0x52, 2, 0x8, 1, 0x0, 0x0, 0x0, 0x0, 0x1c, 0x0, false, false⟩,  -- ETH_STATUS
  ⟨0x52, 2, 0x10, 1, 0x0, 0x0, 0x0, 0xffffffffffff, 0x0, 0x0, false, false⟩,  -- ETH_MAC
  ⟨0x52, 2, 0x18, 1, 0x0, 0x0, 0x0, 0xfffffffff00f, 0x0, 0x0, false, false⟩,  -- ETH_RXRING
  ⟨0x52, 2, 0x20, 1, 0x0, 0x0, 0x0, 0x0, 0x0, 0x0, false, false⟩,  -- ETH_RXHEAD
  ⟨0x52, 2, 0x28, 1, 0x0, 0x0, 0x3fff, 0x0, 0x0, 0x0, false, false⟩,  -- ETH_RXTAIL
  ⟨0x52, 2, 0x30, 1, 0x0, 0x0, 0x0, 0xfffffffff00f, 0x0, 0x0, false, false⟩,  -- ETH_TXRING
  ⟨0x52, 2, 0x38, 1, 0x0, 0x0, 0x0, 0x0, 0x0, 0x0, false, false⟩,  -- ETH_TXHEAD
  ⟨0x52, 2, 0x40, 1, 0x0, 0x0, 0x3fff, 0x0, 0x0, 0x0, false, false⟩,  -- ETH_TXTAIL
  ⟨0x52, 2, 0x48, 1, 0x0, 0x0, 0x0, 0x0, 0x0, 0x0, true, false⟩,  -- ETH_RXDROP
  ⟨0x52, 2, 0x1000, 256, 0x8, 0x0, 0x800000ffffffffff, 0x0, 0x0, 0x0, false, false⟩  -- ETH_GCL
  ]

def regRowsTsl : List RegRow := [
  ⟨0x60, 16, 0x0, 1, 0x0, 0x0, 0x0, 0x7, 0x0, 0x0, false, false⟩,  -- TSL_CTRL
  ⟨0x60, 16, 0x8, 1, 0x0, 0x0, 0x0, 0x0, 0x1c, 0x0, false, false⟩,  -- TSL_STATUS
  ⟨0x60, 16, 0x10, 1, 0x0, 0x0, 0x0, 0xffffffffffff, 0x0, 0x0, false, false⟩,  -- TSL_MAC
  ⟨0x60, 16, 0x18, 1, 0x0, 0x0, 0x0, 0xfffffffff00f, 0x0, 0x0, false, false⟩,  -- TSL_RXRING
  ⟨0x60, 16, 0x20, 1, 0x0, 0x0, 0x0, 0x0, 0x0, 0x0, false, false⟩,  -- TSL_RXHEAD
  ⟨0x60, 16, 0x28, 1, 0x0, 0x0, 0x3fff, 0x0, 0x0, 0x0, false, false⟩,  -- TSL_RXTAIL
  ⟨0x60, 16, 0x30, 1, 0x0, 0x0, 0x0, 0xfffffffff00f, 0x0, 0x0, false, false⟩,  -- TSL_TXRING
  ⟨0x60, 16, 0x38, 1, 0x0, 0x0, 0x0, 0x0, 0x0, 0x0, false, false⟩,  -- TSL_TXHEAD
  ⟨0x60, 16, 0x40, 1, 0x0, 0x0, 0x3fff, 0x0, 0x0, 0x0, false, false⟩,  -- TSL_TXTAIL
  ⟨0x60, 16, 0x48, 1, 0x0, 0x0, 0x0, 0x0, 0x0, 0x0, true, false⟩,  -- TSL_RXDROP
  ⟨0x60, 16, 0x50, 1, 0x0, 0x0, 0x1ffff, 0x0, 0x0, 0x0, false, false⟩,  -- TSL_DEST
  ⟨0x60, 16, 0x58, 1, 0x0, 0x0, 0x0, 0x0, 0x0, 0x0, true, false⟩  -- TSL_BADFRM
  ]

/-- The rows of the units that share block `b` (Table 8.2); a reserved block has none. -/
def regRowsOf (b : Nat) : List RegRow :=
  if b = 0x0 then regRowsTck
  else if b = 0x1 then regRowsCfg
  else if b = 0x2 then regRowsBoot
  else if b = 0x3 then regRowsFcl
  else if b = 0x4 then regRowsPwr
  else if b = 0x5 then regRowsClk
  else if b = 0x6 then regRowsNoc
  else if b = 0x8 then regRowsSch
  else if b = 0x9 then regRowsLku
  else if b = 0xa then regRowsChn
  else if 0x10 ≤ b ∧ b < 0x20 then regRowsTil ++ regRowsMst ++ regRowsUcs ++ regRowsL2s ++ regRowsPex
  else if b = 0x20 then regRowsL2c
  else if b = 0x24 then regRowsSdc
  else if 0x30 ≤ b ∧ b < 0x39 then regRowsCen
  else if 0x3a ≤ b ∧ b < 0x3c then regRowsCmp
  else if 0x3c ≤ b ∧ b < 0x3e then regRowsEnc
  else if b = 0x40 then regRowsAfe
  else if b = 0x41 then regRowsTrp
  else if b = 0x48 then regRowsFab
  else if b = 0x50 then regRowsPci
  else if 0x52 ≤ b ∧ b < 0x54 then regRowsEth
  else if 0x60 ≤ b ∧ b < 0x70 then regRowsTsl
  else []


end Sys2Proof.Machine
end

