-- ==== Sys2Proof/Machine/Sparse.lean ====
section
/-! DEFINITION. Sparse tables in one canonical form: keys strictly rising, no entry equal to what an unlisted key
reads as.  SDRAM bytes, registers, queue words, control-store words and configuration banks are held so. -/

namespace Sys2Proof.Machine

/-- The entry of key `k`, or `d` where there is none. -/
def smGet {α : Type} : List (Nat × α) → Nat → α → α
  | [], _, d => d
  | e :: m, k, d => if e.1 = k then e.2 else smGet m k d

/-- The table without key `k`. -/
def smErase {α : Type} : List (Nat × α) → Nat → List (Nat × α)
  | [], _ => []
  | e :: m, k => if e.1 = k then smErase m k else e :: smErase m k

/-- The table with `v` listed at key `k`. -/
def smInsert {α : Type} : List (Nat × α) → Nat → α → List (Nat × α)
  | [], k, v => [(k, v)]
  | e :: m, k, v =>
    if k < e.1 then (k, v) :: e :: m else if e.1 = k then (k, v) :: m else e :: smInsert m k v

/-- The table after a write of `v` at `k`, where an unlisted `k` reads as `d`. -/
def smPut {α : Type} [DecidableEq α] (m : List (Nat × α)) (k : Nat) (d v : α) : List (Nat × α) :=
  if v = d then smErase m k else smInsert m k v

/-- Every key of the table is above `k`. -/
def smAbove {α : Type} (k : Nat) (m : List (Nat × α)) : Prop := ∀ e ∈ m, k < e.1

/-- The canonical form: keys strictly rising, and no entry equal to the default of its key. -/
def smWf {α : Type} (d : Nat → α) : List (Nat × α) → Prop
  | [] => True
  | e :: m => e.2 ≠ d e.1 ∧ smAbove e.1 m ∧ smWf d m

/-- The bytes at `a`, `a + 1`, …, `a + n − 1`. -/
def smBytes (m : List (Nat × Byte)) (d : Byte) : Nat → Nat → List Byte
  | _, 0 => []
  | a, n + 1 => smGet m a d :: smBytes m d (a + 1) n

/-- The table with the listed bytes written from `a` upward. -/
def smPutBytes (m : List (Nat × Byte)) (d : Byte) : Nat → List Byte → List (Nat × Byte)
  | _, [] => m
  | a, b :: bs => smPutBytes (smPut m a d b) d (a + 1) bs

end Sys2Proof.Machine
end

