-- ==== Sys2Proof/Machine/State.lean ====
section
/-! DEFINITION. The state of the SZ4160 as plain data, the reasons a step can stop, and the state right after reset. -/

namespace Sys2Proof.Machine

/-- Reasons a step faults.  Every error that the manual describes is an effect on State, so no command raises one. -/
inductive Fault where
  /-- Raised by no command of this model; safe. -/
  | unused
  deriving DecidableEq, Repr

/-- Reasons a step is refused. -/
inductive Refusal where
  /-- A command that has no meaning yet; safe: nothing is claimed of the state after it. -/
  | notModelled (mnemonic : String)
  deriving DecidableEq, Repr

/-- The SZ4160.  `csr` lists the registers that do not hold their reset value, by address (R9, R222). -/
structure State where
  /-- Commands that wait, first in, first out. -/
  pending   : List Instr
  csr       : List (Nat × Word)
  /-- The value that the last read of a register or of memory by a master returned. -/
  lastRead  : Word
  /-- How many free values have been drawn: the model's own, not the spec's. -/
  free      : Nat
  /-- Device time in ns (R32). -/
  now       : Nat
  /-- Time since the last reset in ns, which nothing sets: the time base of the analog die and of the watches, intervals and
  time-outs that count no device time (R309, R463, R479). -/
  clock     : Nat
  tick      : Tick
  slots     : List Slot
  closed    : List ClosedWafer
  /-- Tokens between their forming and their arrival (R38, R57, R61). -/
  net       : List Token
  /-- How many tokens have left their sources (R425). -/
  netSeq    : Nat
  /-- The last packet of each class that reservations serve (R430). -/
  nocSent   : List ClassPkt
  mst       : List MEntry
  mfetch    : List MFetch
  /-- Filter counters that are not 0, keyed by tile × 2^18 + index (R93). -/
  filt      : List (Nat × Nat)
  /-- Spill-table buckets whose OVF bit is set, as tile × 2^16 + bucket (Table 3.4, R92). -/
  spillOvf  : List Nat
  tiles     : List Tile
  throttle  : Bool
  firings   : List Firing
  nextFid   : Nat
  storeBuf  : List SbEntry
  eventBuf  : List EbEntry
  /-- Commit numbers handed out so far, in commit order (R61). -/
  cseq      : Nat
  /-- SEQ of the next start token and of the next token from port X (Table 2.2). -/
  startSeq  : Nat
  xSeq      : Nat
  acts      : List Act
  startReqs : List StartReq
  flowQ     : List StartReq
  arrNo     : Nat
  delays    : List DelayEntry
  delaySeq  : Nat
  locks     : List Lock
  lkuRecs   : List LkuRec
  /-- Effective levels that owners inherit (R283). -/
  levels    : List OwnerLevel
  chans     : List Chan
  chnRecs   : List ChnRec
  openPkts  : List OpenPkt
  /-- The code store's backing: instruction words that are not 0; what a word that nothing loaded holds is left open (R136, R498, R500). -/
  code      : List (Nat × Word)
  staged    : List StagedWord
  oldWords  : List OldWord
  mem       : Mem
  marks     : List ErrMark
  deferred  : List Deferred
  xreqs     : List XReq
  votes     : List VoteMsg
  voteRecs  : List VoteRec
  fclLog    : List FclRec
  /-- The recovery queue, oldest first (R458); the recovery that the sequencer runs; the open recovery intervals (R459). -/
  recQ      : List RecJob
  recCur    : Option RecJob
  recOpen   : List RecJob
  /-- The recovery that completed last, and the interruptions that outlast their recovery (R478, Table 15.7). -/
  recLast   : Option RecJob
  recWait   : List RecWait
  trcLost   : Nat
  /-- Control-store words that are not 0, keyed by tile × 4096 + address: 160 data bits and 5 parity bits (R210). -/
  ucs       : List (Nat × BitVec 165)
  ucsBad    : List UcsBad
  /-- The two master copies of the microcode in the sequencer's memory, by address (R212). -/
  ucsMaster : List (Nat × BitVec 165)
  ucsSecond : List (Nat × BitVec 165)
  /-- Control-store cells, as tile × 4096 + address, whose last rewrite failed its read-back (R212, R216). -/
  ucsDead   : List Nat
  /-- Microsequences in progress, at most one for each PE, and firings that wait for the microsequencer of their PE, in the
  order in which they reached stage 6 (R205). -/
  useqs     : List MicroSeq
  useqWait  : List Nat
  afe       : List AfeChan
  tachs     : List Tach
  trip      : Trip
  engines   : List Engine
  jobs      : List Job
  keys      : List KeySlot
  fab       : Fabric
  /-- Reservation writes that take effect at the next tick (R429). -/
  nocPend   : List (Nat × Word)
  cfg       : Cfg
  power     : Power
  boot      : Boot
  ports     : List Port
  pins      : Pins
  deriving DecidableEq, Repr

namespace Reset

def slot : Slot :=
  { wafer := 0, state := 0, epoch := 0, flags := 0, nd := false, quar := false, wide := false, suspect := false,
    openT := 0, closeT := 0, inc := 0, replays := 0, trcOn := false, trcWrap := false, trcKinds := 0, crumbs := [],
    dropped := 0, journal := [], nojrnl := false, restore := false, rsclosed := false,
    noTiles := 0, flows := [] }

def levels : Levels :=
  { hi := 0x7000, lo := 0x6000, at_ := 0x7C00, shi := 0x54000, slo := 0x3F000, window := 100, base := 0 }

def tile : Tile :=
  { oldest := false, noReserve := false, spilling := false, reload := false, throttle := false,
    rr := 0, det := List.replicate 8 .idle, detT := List.replicate 8 0, rqLimit := 0x400, levels := levels, persist := 1000, scrub := 100, scrubAt := 0,
    reloadPos := 0, shadowErr := [] }

def tick : Tick :=
  { started := false, period := 1000, pend := [], nextWafer := 0, prevClose := 0, heldSince := false, firstOpen := 0, count := 0,
    lastEdge := 0, swapAt := 0, shadowDue := false, synced := false, suspect := false }

def cmp : CmpState := { stA := false, stD := false, runA := 0, runD := 0 }

def afeChan : AfeChan :=
  { mSkip := 0, pSkip := 0, pkt := [], pktT := 0, pktK := 0, pktOvr := false, pktHealth := 0, pktCond := 0, lastT := 0, cuts := [], lastY := 0, win := [], ppFill := 0, rmsFill := 0,
    pk := cmp, pp := cmp, rms := cmp, health := 0, cand := 0, candN := 0 }

def tach : Tach :=
  { level := false, pend := none, lastKept := 0, kept := false, lastOvs := 0, hasOvs := false, stA := false, stD := false }

def tripOut : TripOut :=
  { h := false, g := false, t := false, v := false, cond := false, sensed := false, stuck := false, lastG := 0,
    drvOff := false }

def loop : Loop := { active := false, start := 0, len := 0, left := 0, buffed := false, kept := false }

def engine : Engine :=
  { run := .halted, failed := false, pc := 0, w := [], p1 := false, p2 := false, p3 := false, alu0o := 0, alu0q := [],
    alu1o := 0, alu1q := [], mulo := 0, mulq := [], lsuo := 0, lsuq := [], loads := [], pcuo := 0, link := 0, chpo := [], chpq := [],
    chps := [], ie := false, loop := loop, loopSh := none, sbuf := [],
    iram := [], iramNew := [], image := [], dram := [], evq := [], pend := 0, fault := none, wdogT := 0, timed := 0 }

def link : Link :=
  { state := .down, reason := 0, peer := none, lastHello := 0, fails := [], resends := [], rxFseq := 0, txFseq := 0,
    nak := false, rejecting := false, kept := [], txq := [], rx := [[], [], [], []], freed := [0, 0, 0, 0], used := [0, 0, 0, 0],
    last := none, progT := 0, upT := 0, syncT := 0, ident := 0, signal := false }

def fabric : Fabric :=
  { links := List.replicate 7 link, recs := [], mySeq := 0, newVer := none, newTab := [], curVer := 0, txSeq := [],
    rxSeq := [], retained := [], waiting := [], transit := [], remote := [], items := [], held := [], closes := [], accs := [], binds := [],
    asks := [], granted := [], outs := [], sentK := [], lost := [], boots := [], lastUp := [], runT := 0, startT := none, t2 := 0, t3 := 0, parE := 0, lastX := 0, good10 := 0, good20 := 0,
    teff := 0, weff := 0, nEff := 0, resyncs := [], rsyAsks := [] }

def mem : Mem :=
  { sdram := [], scratch := [], l2 := [], l1d := [], l1i := [], fills := [], maint := none, groupReq := [] }

def cfg : Cfg :=
  { bank := [], old := [], shadow := [], txn := .idle, owner := 0, whenAt := 0, late := false, loads := [], recs := [] }

def power : Power :=
  { doms := List.replicate 134 1, moving := [], waiting := [], doze := 0, wakeHeld := false, low := [], supT := 0,
    park := List.replicate 16 0, parkReq := [] }

def boot : Boot :=
  { held := true, strap := false, count := 0, flash := [], fuseSvn := 0, revoked := 0, keyHash := List.replicate 4 none,
    slot := 0, keyIdx := none, flashOp := none, freed := 0 }

def port : Port := { gate := 0, gateEnd := 0, gateTick := 0, gclPend := [], pauseT := 0, ahead := [], last := [] }

def pins : Pins :=
  { temps := List.replicate 20 0, hot := List.replicate 20 none, jtag := 0, i2c := 0, msix := [],
    alive := false, aliveT := 0, aliveEn := false, aliveSeen := false, kickT := 0,
    pcieData := [], pcieUr := false }

end Reset

/-- The machine right after a power-on reset and before the release of R514. (DESIGN CHOICE, log entries 5, 7, 8 and 9) -/
def State.reset : State :=
  { pending := [], csr := [], lastRead := 0, free := 0, now := 0, clock := 0, tick := Reset.tick,
    slots := List.replicate 8 Reset.slot, closed := [], net := [], netSeq := 0, nocSent := [], mst := [], mfetch := [], filt := [], spillOvf := [],
    tiles := List.replicate 16 Reset.tile, throttle := false, firings := [], nextFid := 0, storeBuf := [],
    eventBuf := [], cseq := 0, startSeq := 0, xSeq := 0, acts := [], startReqs := [], flowQ := [], arrNo := 0, delays := [], delaySeq := 0,
    locks := [], lkuRecs := [], levels := [], chans := [], chnRecs := [], openPkts := [], code := [], staged := [], oldWords := [],
    mem := Reset.mem, marks := [], deferred := [], xreqs := [], votes := [], voteRecs := [], fclLog := [], recQ := [],
    recCur := none, recOpen := [], recLast := none, recWait := [], trcLost := 0, ucs := [], ucsBad := [], ucsMaster := [], ucsSecond := [], ucsDead := [],
    useqs := [], useqWait := [], afe := List.replicate 64 Reset.afeChan,
    tachs := List.replicate 16 Reset.tach,
    trip := { force := .none, rail := true, outs := List.replicate 32 Reset.tripOut },
    engines := List.replicate 9 Reset.engine, jobs := [], keys := List.replicate 32 ⟨false, 0, 0, none⟩, fab := Reset.fabric,
    nocPend := [], cfg := Reset.cfg, power := Reset.power, boot := Reset.boot,
    ports := List.replicate 18 Reset.port, pins := Reset.pins }

end Sys2Proof.Machine
end

