-- ==== Sys2Proof/Machine/Regs.lean ====
section
/-! DEFINITION. The register file: where a register's row is found, its reset value, reads and writes of its bits, the
access codes of Table 0.6 (R9 to R11), and the drawing of free values. -/

namespace Sys2Proof.Machine

/-- The word at offset `o` belongs to the row. -/
def RegRow.covers (r : RegRow) (o : Nat) : Bool :=
  if r.count ≤ 1 then decide (o = r.off)
  else decide (r.off ≤ o ∧ (o - r.off) % r.stride = 0 ∧ (o - r.off) / r.stride < r.count)

/-- Block and offset of a register address (R222); an address outside the register range, 0x7F00_0000_0000 upward, has the
block number 0x100, which no unit has. (DEDUCED, log entry 85) -/
def regBlock (a : Nat) : Nat := if a / 0x1000000 = 0x7F0000 then a / 0x10000 % 0x100 else 0x100
def regOff (a : Nat) : Nat := a % 0x10000

/-- The row of a register address, none where the address holds no register. -/
def regRowAt (a : Nat) : Option RegRow :=
  (regRowsOf (regBlock a)).find? (fun r => r.covers (regOff a))

/-- The reset value of the register at an address (R11); the identity registers hold their unit's number
(Table 2.16, Table 12.12), those of the part its factory values (Table 17.13, Table 17.14). -/
def regReset (a : Nat) : Word :=
  let b := regBlock a
  if 0x10 ≤ b ∧ b < 0x20 ∧ regOff a = 0 then w64 ((b - 0x10) * 256 + (b - 0x10))
  else if 0x30 ≤ b ∧ b < 0x39 ∧ regOff a = 0xA8 then w64 (0x10 + (b - 0x30))
  else if a = Reg.BOOT_ID_SERIAL ∨ a = Reg.FAB_SERIAL then Config.serial
  else if a = Reg.BOOT_ID_PART then w64 (0x4160 * 2 ^ 32 + (if Config.gradeI then 0x49 else 0x43) * 2 ^ 24)
  else if a = Reg.BOOT_ID_JTAG then 0x0416095B
  else if a = Reg.BOOT_ID_MFG then w64 (Config.mfg % 2 ^ 32)
  else match regRowAt a with
    | some r => r.reset
    | none => 0

namespace State

/-- The register's stored value. (DESIGN CHOICE, log entry 75) -/
def rget (s : State) (a : Nat) : Word := smGet s.csr a (regReset a)

/-- The state with the register holding `v`. -/
def rset (s : State) (a : Nat) (v : Word) : State := { s with csr := smPut s.csr a (regReset a) v }

/-- Field [hi:lo] of a register. -/
def rfld (s : State) (a hi lo : Nat) : Nat := fld (s.rget a) hi lo

/-- Bit `i` of a register. -/
def rbit (s : State) (a i : Nat) : Bool := bit (s.rget a) i

/-- The state with field [hi:lo] of a register set. -/
def rsetFld (s : State) (a hi lo v : Nat) : State := s.rset a (setFld (s.rget a) hi lo v)

/-- The state with bit `i` of a register set to `b`. -/
def rsetBit (s : State) (a i : Nat) (b : Bool) : State := s.rset a (setBit (s.rget a) i b)

/-- A counter register one higher, wrapping. -/
def rinc (s : State) (a : Nat) : State := s.rset a (s.rget a + 1)

/-- A counter register `n` higher, wrapping. -/
def radd (s : State) (a n : Nat) : State := s.rset a (s.rget a + w64 n)

/-- A maximum register raised to `v` where `v` is larger (R537). -/
def rmax (s : State) (a v : Nat) : State := if (s.rget a).toNat < v then s.rset a (w64 v) else s

/-- A free value drawn: the value, and the state that has counted it. (DESIGN CHOICE, log entry 6) -/
def drawNat (s : State) : Nat × State := (Config.freeNat s.free, { s with free := s.free + 1 })

/-- A free word drawn. -/
def drawWord (s : State) : Word × State := (Config.freeWord s.free, { s with free := s.free + 1 })

/-- `TCK_CTRL.RUN` (Table 1.4). -/
def running (s : State) : Bool := s.rbit Reg.TCK_CTRL 0

/-- HOLD stands: the supply is not NORMAL (R445, Table 14.16). -/
def hold (s : State) : Bool := decide (s.rfld Reg.PWR_SUPPLY 1 0 ≠ 0)

/-- A power domain is on (R435). -/
def domOn (s : State) (d : Nat) : Bool := decide (nth s.power.doms d 0 = 1)

/-- The device wakes from DOZE or from the entry to it (R443); DOZE reads 0 again. (DESIGN CHOICE, log entry 61) -/
def wake (s : State) : State :=
  if s.power.doze = 2 ∨ s.power.doze = 3 then
    { s.rsetBit Reg.PWR_CTRL 0 false with power.doze := 4, power.wakeHeld := s.hold }
  else s

/-- A wake source of `PWR_DOZE_CFG`: bit 8 trip, 9 fabric, 10 PCIe (R443). -/
def wakeBy (s : State) (src : Nat) : State := if s.rbit Reg.PWR_DOZE_CFG src then s.wake else s

/-- `CFG_LOCK` is set (R506). -/
def locked (s : State) : Bool := s.rbit Reg.CFG_LOCK 0

end State

/-- A register's value after a write of `v` by the access codes of its row (Table 0.6). -/
def RegRow.write (r : RegRow) (lock : Bool) (old v : Word) : Word :=
  let m := if lock then r.rw else r.rw ||| r.rwl
  (((old &&& ~~~m) ||| (v &&& m)) &&& ~~~(v &&& r.w1c)) ||| (v &&& r.w1s)

/-- The state after a plain write of `v` at `a`, by access codes alone. -/
def State.rwrite (s : State) (a : Nat) (v : Word) : State :=
  match regRowAt a with
  | some r => s.rset a (r.write s.locked (s.rget a) v)
  | none => s

/-- The outcome of a command that completes. -/
abbrev Out := Host.Outcome State Fault Refusal

/-- Run `f` on the state where `c` holds; the state unchanged where it does not. (DESIGN CHOICE, log entry 2) -/
def State.onlyIf (s : State) (c : Bool) (f : State → State) : State := if c then f s else s

end Sys2Proof.Machine
end

