-- ==== Sys2Proof/Machine/FaultLog.lean ====
section
/-! DEFINITION. The fault collector: reports, latches, counts, the event log and the recovery queue (R454 to R460,
R486, R538). -/

namespace Sys2Proof.Machine

/-- A report (R454, Table 15.3).  `tagw` is the report's tag word; `hasTag` its HASTAG bit. -/
structure Report where
  cls    : Nat
  src    : Nat
  kind   : Nat
  loc    : Nat
  detail : Nat
  hasTag : Bool
  tagw   : Word
  wafer  : Option Nat
  deriving DecidableEq, Repr

/-- The record of a report (Table 15.3). -/
def Report.word (r : Report) : Word :=
  w64 (2 ^ 63 + r.cls % 8 * 2 ^ 60 + r.src % 4096 * 2 ^ 48 + r.kind % 256 * 2 ^ 40 + b2n r.hasTag * 2 ^ 39 +
    b2n r.wafer.isSome * 2 ^ 38 + r.loc % 64 * 2 ^ 32 + r.detail % 2 ^ 32)

/-- A report without tag and wafer. (DEDUCED, log entry 66) -/
def Report.plain (cls src kind loc detail : Nat) : Report := ⟨cls, src, kind, loc, detail, false, 0, none⟩

/-- Sub-unit codes of the tiles' sources (Table 15.5). -/
def srcTile (t sub : Nat) : Nat := (0x10 + t) * 16 + sub

namespace State

/-- A C4 state stands (R465). -/
def dead (s : State) : Bool := s.rbit Reg.FCL_STATUS 3

/-- MSI-X vector `v` raised; merged while it is pending (R523). (DESIGN CHOICE, log entry 78) -/
def raiseVector (s : State) (v : Nat) : State :=
  if s.pins.msix.contains v then s else { s with pins.msix := s.pins.msix ++ [v] }

/-- The record of a report as it is latched and logged now (Table 15.3). -/
def record (s : State) (r : Report) : FclRec := ⟨r.word, w64 (r.wafer.getD 0), r.tagw, w64 s.now⟩

/-- The first report of its class is latched and raises vector 0; a later one is counted as overflow (R455). -/
def latch (s : State) (c : Nat) (fr : FclRec) : State :=
  if s.rbit (Reg.FCL_FIRST c) 63 then s.rsetBit Reg.FCL_OVF c true
  else
    ((((s.rset (Reg.FCL_FIRST c) fr.word).rset (Reg.FCL_FIRST_WAFER c) fr.wafer).rset (Reg.FCL_FIRST_TAG c)
      fr.tag).rset (Reg.FCL_FIRST_TIME c) fr.time).raiseVector 0

/-- A record appended to the event log; a full log keeps its place for a C4 record alone (R456). -/
def logRecord (s : State) (c : Nat) (fr : FclRec) : State :=
  if s.fclLog.length < 512 then { s with fclLog := s.fclLog ++ [fr] }
  else if c = 4 then { s with fclLog := s.fclLog.dropLast ++ [fr] }
  else s.rinc Reg.FCL_LOG_LOST

/-- The report latched or counted as overflow, counted and logged (R455, R456). (DESIGN CHOICE, log entry 12) -/
def collect (s : State) (r : Report) : State :=
  ((s.latch r.cls (s.record r)).rinc (Reg.FCL_COUNT r.cls)).logRecord r.cls (s.record r)

/-- A C0 event of `src` with its code and argument (R538). -/
def event (s : State) (src loc code arg : Nat) : State :=
  s.collect (Report.plain 0 src 0x10 loc (arg % 65536 * 65536 + code))

/-- A C0 event with a tag and a wafer. -/
def eventTag (s : State) (src loc code arg : Nat) (tag : Tag) (wafer : Option Nat) : State :=
  s.collect ⟨0, src, 0x10, loc, arg % 65536 * 65536 + code, true, tag, wafer⟩

/-- `FCL_RECOV` for a recovery: in progress or completed, with the last interruption (Table 15.14). -/
def recWord (going : Bool) (j : RecJob) (ns : Nat) : Word :=
  w64 (b2n going * 2 ^ 63 + j.cls % 8 * 2 ^ 60 + j.src % 4096 * 2 ^ 48 + j.mech % 256 * 2 ^ 40 + ns)

/-- `FCL_RECOV` shows the recovery that the sequencer runs, else the open one that began first, else `j`, which has
completed (Table 15.14). -/
def showRecovery (s : State) (j : RecJob) (ns : Nat) : State :=
  s.rset Reg.FCL_RECOV (match s.recCur, s.recOpen with
    | some c, _ => recWord true c ns
    | none, x :: _ => recWord true x ns
    | none, [] => recWord false j ns)

/-- A recovery interval completed (R459, R478): the interruption is `ns`. -/
def closeRecovery (s : State) (j : RecJob) (ns : Nat) : State :=
  let i := min ns (2 ^ 32 - 1)
  let s1 := { s with recOpen := s.recOpen.erase j, recLast := some j }
  ((s1.showRecovery j i).rmax Reg.FCL_RECOV_MAX i).rinc Reg.FCL_RECOVERIES

/-- A recovery interval opened at the detection of its fault (R459). -/
def openRecovery (s : State) (j : RecJob) : State :=
  let s1 := { s with recOpen := s.recOpen ++ [j] }
  s1.showRecovery j (s.rfld Reg.FCL_RECOV 31 0)

/-- The open retry of a firing. -/
def retryOf (s : State) (id : Nat) : Option RecJob := s.recOpen.find? (fun j => decide (j.mech = 1 ∧ j.fid = some id))

/-- A firing commits: a retry of it is complete; its interruption ended when it was dispatched again, at once (Table 15.7). -/
def retryDone (s : State) (id : Nat) : State :=
  match s.retryOf id with
  | some j => s.closeRecovery j 0
  | none => s

/-- A firing that a retry or a substitution had set going again is gone: what prevails has a recovery of its own (Table
15.11). -/
def retryGone (s : State) (id : Nat) : State :=
  { s with recOpen := s.recOpen.filter (fun j => decide (¬(j.mech = 1 ∧ j.fid = some id)))
           recWait := s.recWait.map (fun (w : RecWait) => { w with fids := w.fids.filter (fun x => decide (x ≠ id)) }) }

/-- A firing is dispatched: the last one taken from the shadow of a substituted PE ends the interruption (Table 15.7). -/
def redispatched (s : State) (id : Nat) : State :=
  match s.recWait.find? (fun w => w.fids.contains id) with
  | none => s
  | some w =>
    let fids := w.fids.filter (fun x => decide (x ≠ id))
    let rest := s.recWait.erase w
    if fids ≠ [] then { s with recWait := rest ++ [{ w with fids := fids }] }
    else
      let i := min (s.clock - w.job.time) (2 ^ 32 - 1)
      let s1 := { s with recWait := rest }.rmax Reg.FCL_RECOV_MAX i
      if s.recLast = some w.job then s1.rsetFld Reg.FCL_RECOV 31 0 i else s1

end State

end Sys2Proof.Machine
end

