-- ==== Sys2Proof/Machine/TripUnit.lean ====
section
/-! DEFINITION. The trip unit: NOK, the voting matrix, the outputs and FORCE (R299, R305 to R319). -/

namespace Sys2Proof.Machine

namespace State

/-- The analog channel `c`. -/
def afeCh (s : State) (c : Nat) : AfeChan := nth s.afe c Reset.afeChan

def setAfeCh (s : State) (c : Nat) (x : AfeChan) : State := { s with afe := updAt s.afe c (fun _ => x) }

def tachAt (s : State) (t : Nat) : Tach := nth s.tachs t Reset.tach

def setTach (s : State) (t : Nat) (x : Tach) : State := { s with tachs := updAt s.tachs t (fun _ => x) }

/-- The ANALOG PLL is in lock (Table 14.14). -/
def analogLock (s : State) : Bool := s.rbit Reg.CLK_STATUS 10

/-- A channel is NOK (R299). -/
def chanNok (s : State) (c : Nat) : Bool :=
  decide (3 ≤ (s.afeCh c).health) || s.rbit (Reg.TRP_CH_WIN c) 48 || !s.rbit (Reg.AFE_CH_CFG c) 0 || !s.analogLock

/-- A tachometer is NOK (R299). -/
def tachNok (s : State) (t : Nat) : Bool := !s.rbit (Reg.AFE_TACH_CFG t) 0 || !s.analogLock

end State

/-- A vote source (Table 10.7). -/
inductive VoteSrc where
  | none | reserved | chan (kind : Nat) (danger : Bool) (c : Nat) | tach (danger : Bool) (t : Nat)
  deriving DecidableEq, Repr

/-- Table 10.7. -/
def voteSrcOf (x : Nat) : VoteSrc :=
  if x = 0x3FF then .none
  else if x.testBit 9 then
    (if natField x 8 7 = 0 ∧ natField x 5 4 = 0 then .tach (x.testBit 6) (natField x 3 0) else .reserved)
  else if natField x 8 7 = 3 then .reserved
  else .chan (natField x 8 7) (x.testBit 6) (natField x 5 0)

/-- The states of a channel's comparators by kind: 0 PK, 1 PP, 2 RMS. -/
def AfeChan.cmpOf (a : AfeChan) (kind : Nat) : CmpState := if kind = 0 then a.pk else if kind = 1 then a.pp else a.rms

/-- The state that a source names, none where it is NONE or NOK (R306). -/
def voteState (s : State) (x : Nat) : Option Bool :=
  match voteSrcOf x with
  | .none | .reserved => Option.none
  | .chan k d c =>
    if s.chanNok c then Option.none
    else
      let m := (s.afeCh c).cmpOf k
      some (if d then m.stD else m.stA)
  | .tach d t => if s.tachNok t then Option.none else some (if d then (s.tachAt t).stD else (s.tachAt t).stA)

/-- Counts of the sources present and of the votes (R306); `pol` 1 is IGNORE, 2 DEGRADE, every other TRIP. -/
def countVotes (pol : Nat) : List (Option Bool) → Nat × Nat
  | [] => (0, 0)
  | x :: xs =>
    let c := countVotes pol xs
    match x with
    | some b => (c.1 + 1, c.2 + b2n b)
    | Option.none => if pol = 1 then (c.1 + 1, c.2) else if pol = 2 then c else (c.1 + 1, c.2 + 1)

/-- The vote V_k of a group (R306). -/
def voteOf (s : State) (k : Nat) : Bool :=
  let v := s.rget (Reg.TRP_OUT_VOTE k)
  let mode := fld v 2 0
  if mode = 0 ∨ 4 < mode then false
  else
    let m := if mode = 1 then 1 else if mode = 4 then 3 else 2
    let need := if mode ≤ 2 then 1 else 2
    let srcs := ([fld v 25 16, fld v 41 32, fld v 57 48].take m).map (voteState s)
    let c := countVotes (fld v 5 4) srcs
    if c.1 = 0 then bit v 6 else if c.1 < m then decide (1 ≤ c.2) else decide (need ≤ c.2)

/-- T_k of an output (R307, R317). -/
def tripT (en force armed : Bool) (o : TripOut) (h : Bool) : Bool := o.stuck || (en && (force || (armed && (h || o.g))))

/-- conducting_k of an output (R307, R316). -/
def tripCond (cfg : Word) (rail force armed t : Bool) : Bool :=
  rail && bit cfg 0 && (if bit cfg 1 then t else armed && !force && !t)

/-- One output computed (R307): `reset` is set where TRP_RESET names it in this cycle. -/
def tripOne (reset : Bool) (s : State) (k : Nat) : State :=
  let cfg := s.rget (Reg.TRP_OUT_CFG k)
  let o := nth s.trip.outs k Reset.tripOut
  let v := voteOf s k
  let h := if bit cfg 2 then (if reset && !v then false else o.h || v) else v
  let force := decide (s.trip.force ≠ .none)
  let armed := s.rbit Reg.TRP_CTRL 0
  let t := tripT (bit cfg 0) force armed o h
  let c := tripCond cfg s.trip.rail force armed t
  let o' := { o with h := h, v := v, t := t, cond := c, drvOff := o.drvOff && c,
                     sensed := if c = o.cond then o.sensed else c && !o.drvOff }
  let s1 := { s with trip.outs := updAt s.trip.outs k (fun _ => o') }
  if t = o.t then s1
  else
    let s2 := ((s1.wakeBy 8).rset (Reg.TRP_OUT_TIME k) (w64 s.now)).rinc (Reg.TRP_OUT_COUNT k)
    let s3 := if s.rbit Reg.TRP_CTRL 1 then s2.event 0x410 0 0x61 (b2n t * 32 + k) else s2
    if t && !s.rbit Reg.TRP_FIRST 63 then
      (s3.rset Reg.TRP_FIRST (w64 (2 ^ 63 + k))).rset Reg.TRP_FIRST_TIME (w64 s.now)
    else s3

/-- Every output computed; `named` are the outputs whose latches TRP_RESET resets (R307). -/
def tripEval (s : State) (named : Nat) : State :=
  (List.range 32).foldl (fun s k => tripOne (named.testBit k) s k) s

/-- FORCE after a further cause (R313 to R315). -/
def forceAfter (old new : Force) : Force :=
  match old with
  | .none | .supply => new
  | .c4 => .c4
  | .alive => .alive

/-- FORCE set with a cause, and the outputs that follow. -/
def setForce (s : State) (f : Force) : State := tripEval { s with trip.force := forceAfter s.trip.force f } 0

/-- Code of FCAUSE (Table 10.15). -/
def Force.code : Force → Nat
  | .none => 0
  | .c4 => 1
  | .supply => 2
  | .alive => 3

/-- A bit per output. -/
def tripBits (s : State) (f : TripOut → Bool) : Nat :=
  s.trip.outs.foldr (fun o acc => acc * 2 + b2n (f o)) 0

end Sys2Proof.Machine
end

