-- ==== Sys2Proof/Machine/Ops.lean ====
section
/-! DEFINITION. Reports with their reactions: the recovery queue and the C4 reaction (R458, R460, R464, R465). -/

namespace Sys2Proof.Machine

/-- A link that the C4 reaction or a loss has taken down (R389, R464). -/
def Link.downed (l : Link) : Link :=
  { l with state := .down, peer := none, kept := [], txq := [], rx := [[], [], [], []], nak := false, rejecting := false,
           rxFseq := 0, txFseq := 0, freed := [0, 0, 0, 0], used := [0, 0, 0, 0], last := none }

namespace State

/-- The C4 reaction (R464): FORCE, ALIVE stopped, the engines halted, links down, the open recovery abandoned
(R484).  Every command of a stopped unit looks at `dead`. -/
def graveReaction (s : State) : State :=
  let s1 := s.rsetBit Reg.FCL_STATUS 3 true
  let s2 := setForce s1 .c4
  let s3 : State := { s2 with
    pins.aliveEn := false
    engines := s2.engines.map (fun e => { e with run := .halted })
    fab.links := s2.fab.links.map Link.downed
    recQ := []
    recCur := none
    recOpen := []
    recWait := [] }
  s3.rsetBit Reg.FCL_RECOV 63 false

/-- The timers of a slot's detectors start again on every tile (R101). -/
def progress (s : State) (k : Nat) : State :=
  { s with tiles := s.tiles.map (fun x => { x with detT := updAt x.detT k (fun _ => 0) }) }

/-- A retirement of the tile is open: its dispatcher, store and PEs are fenced until the new placement is in force (R475). -/
def tileFenced (s : State) (t : Nat) : Bool := s.recOpen.any (fun j => decide (j.mech = 6 ∧ j.a = t))

/-- What an accepted recovery changes at once: a substitution or a retirement puts its tile in RECOVERING, a substitution
its PE in RETIRING (R468, R475), and the detectors of the slots that it names pause (R102). -/
def beginJob (s : State) (j : RecJob) : State :=
  let s1 := j.slots.foldl progress s
  if j.mech = 2 ∨ j.mech = 6 then
    let s2 := if s1.rfld (Reg.TIL_STATUS j.a) 9 8 = 0 then s1.rsetFld (Reg.TIL_STATUS j.a) 9 8 1 else s1
    if j.mech = 2 ∧ s2.rfld (Reg.PEX_STATUS j.a j.b) 3 0 = 0 then s2.rsetFld (Reg.PEX_STATUS j.a j.b) 3 0 2 else s2
  else s1

/-- A replay of slot `k` more than its wafer may have: seven are done or asked for (R477). -/
def replayLimit (s : State) (k : Nat) : Bool :=
  let x := nth s.slots k Reset.slot
  decide ((x.state = 1 ∨ x.state = 3) ∧
    7 ≤ x.replays + (s.recOpen.filter (fun j => decide (j.mech = 5 ∨ j.mech = 6) && j.slots.contains k)).length)

/-- The report is of class C4 with KIND OVERLOAD and this DETAIL (R458, R477). (DEDUCED, log entry 101) -/
def overload (s : State) (r : Report) (d : Nat) : State :=
  (s.collect { r with cls := 4, kind := 0x11, detail := d }).graveReaction

/-- A report and its reaction.  `job` is the recovery it asks of the sequencer (R458); a report of the sequencer while a
recovery is open is lost (R460, R484). -/
def report (s : State) (r : Report) (job : Option RecJob) : State :=
  if decide (r.src / 16 = 0x38) && !s.recOpen.isEmpty then s
  else if r.cls = 4 then (s.collect r).graveReaction
  else
    match job with
    | none => s.collect r
    | some j =>
      if 16 ≤ s.recQ.length then s.overload r 1
      else if j.slots.any s.replayLimit then s.overload r 2
      else
        let s1 := s.collect r
        ({ s1 with recQ := s1.recQ ++ [j] }.openRecovery j).beginJob j

/-- A register access by a master: after a C4 fault every unit but the readable blocks has stopped, and writes are
ignored (R464, R465); while boot is FAILED the host writes the BOOT block only (R493). -/
def mayWrite (s : State) (m : Nat) : Bool :=
  !s.dead && decide ((m ≤ 0x19 ∧ ¬(m = 0x19 ∧ s.rfld Reg.BOOT_STATUS 63 60 = 6)) ∨ (0x400 ≤ m ∧ m ≤ 0x7FF))

/-- A write of a register of the BOOT block: the host keeps its access to it while boot is FAILED (R493). -/
def mayBoot (s : State) (m : Nat) : Bool := !s.dead && decide (m ≤ 0x19)

/-- A recovery job of the present moment. -/
def newJob (s : State) (mech cls src a b : Nat) (slots : List Nat) : RecJob := ⟨mech, cls, src, a, b, slots, s.clock, none⟩

/-- A C3 report of a unit whose degradation needs no further work of the sequencer: it passes through the recovery
queue (R458). -/
def degrade (s : State) (src kind loc detail : Nat) : State :=
  s.report (Report.plain 3 src kind loc detail) (some (s.newJob 0 3 src 0 0 []))

/-- A C4 report. -/
def grave (s : State) (src kind loc detail : Nat) : State := s.report (Report.plain 4 src kind loc detail) none

/-- A C1 report of a fault that its unit retries in place and that the retry has mended: its recovery interval opens and
closes within the command. (DEDUCED, log entry 65) -/
def retried (s : State) (r : Report) : State :=
  (s.report { r with cls := 1 } none).closeRecovery (s.newJob 1 1 r.src 0 0 []) 0

end State

end Sys2Proof.Machine
end

