-- ==== Sys2Proof/Machine/Memory.lean ====
section
/-! DEFINITION. The local address space, region attributes, the caches and SDRAM: reads, writes, fills, maintenance of
frames (R219 to R245, R253). -/

namespace Sys2Proof.Machine

/-- What a local address holds (Table 8.1). -/
inductive AddrKind where
  | sdram | scratch | qram | code | device | hole
  deriving DecidableEq, Repr

def scratchBase : Nat := 0x400000000000
def qramBase : Nat := 0x410000000000
def codeBase : Nat := 0x420000000000

/-- Home slice of an SDRAM line at local address `a` (R226). -/
def homeSlice (a : Nat) : Nat :=
  natField a 15 12 ^^^ natField a 19 16 ^^^ natField a 23 20 ^^^ natField a 27 24 ^^^ natField a 31 28 ^^^
    natField a 35 32 ^^^ natField a 36 36

/-- Home set of an SDRAM line (R226). -/
def homeSet (a : Nat) : Nat := (natField a 21 16 ^^^ natField a 27 22) * 64 + natField a 11 6

/-- SDRAM channel of a local address (R253). -/
def sdChannel (a : Nat) : Nat := natField a 8 7 ^^^ natField a 16 15 ^^^ natField a 24 23

/-- Slice, way, set of a scratch address (R244). -/
def scratchSlice (a : Nat) : Nat := natField (a - scratchBase) 25 22
def scratchWay (a : Nat) : Nat := natField (a - scratchBase) 21 18

/-- `n` bytes of a line from byte `o` on. -/
def lineBytes (d : BitVec 512) : Nat → Nat → List Byte
  | _, 0 => []
  | o, n + 1 => BitVec.ofNat 8 (natField d.toNat (8 * o + 7) (8 * o)) :: lineBytes d (o + 1) n

/-- A line with bytes written from byte `o` on. -/
def linePut (d : BitVec 512) : Nat → List Byte → BitVec 512
  | _, [] => d
  | o, b :: bs => linePut (setFld d (8 * o + 7) (8 * o) b.toNat) (o + 1) bs

/-- The pieces of an access, one per 64-byte line: address and length. -/
def pieces : Nat → Nat → Nat → List (Nat × Nat)
  | 0, _, _ => []
  | fuel + 1, a, n =>
    if n = 0 then []
    else
      let k := min n (64 - a % 64)
      (a, k) :: pieces fuel (a + k) (n - k)

/-- The pieces of an access of `n` bytes. -/
def piecesOf (a n : Nat) : List (Nat × Nat) := pieces (n / 64 + 2) a n

/-- The canonical form of a memory whose unlisted bytes read as `d`: addresses strictly rising, no entry equal to `d`. -/
def Memory.wf (d : Byte) : List Host.Cell → Bool
  | [] => true
  | e :: m => decide (e.2 ≠ d) && m.all (fun x => decide (e.1 < x.1)) && Memory.wf d m

namespace State

/-- The addressed memories of the device are in their canonical form: SDRAM, scratch windows and flash. -/
def memOk (s : State) : Bool := Memory.wf 0 s.mem.sdram && Memory.wf 0 s.mem.scratch && Memory.wf 0xFF s.boot.flash

/-- First byte above the SDRAM that software reaches: boot sets aside the top 64 MiB (R219, note of R256). -/
def sdramTop (s : State) : Nat := (s.rget Reg.SDC_CAPACITY).toNat - 0x4000000

/-- Way `w` of a slice is locked, and in which mode (Table 8.12). -/
def wayLocked (s : State) (sl w : Nat) : Bool := decide (w < 12) && s.rbit (Reg.L2C_LOCK sl) (32 + w)
def wayScratch (s : State) (sl w : Nat) : Bool := s.wayLocked sl w && !s.rbit (Reg.L2C_LOCK sl) w
def wayPin (s : State) (sl w : Nat) : Bool := s.wayLocked sl w && s.rbit (Reg.L2C_LOCK sl) w

/-- Table 8.1. -/
def addrKind (s : State) (a : Nat) : AddrKind :=
  if a < 0x2000000000 then (if a < s.sdramTop then .sdram else .hole)
  else if scratchBase ≤ a ∧ a < scratchBase + 0x4000000 then
    (if s.wayScratch (scratchSlice a) (scratchWay a) then .scratch else .hole)
  else if qramBase ≤ a ∧ a < qramBase + 0x800000 then .qram
  else if codeBase ≤ a ∧ a < codeBase + 0x100000000 then .code
  else if csrBase ≤ a ∧ a < csrBase + 0x1000000 then .device
  else .hole

/-- Every byte of an access lies in the range that its first byte lies in (R221). -/
def accessKind (s : State) (a n : Nat) : AddrKind :=
  let k := s.addrKind a
  if (piecesOf a n).all (fun p => decide (s.addrKind p.1 = k ∧ s.addrKind (p.1 + p.2 - 1) = k)) then k else .hole

/-- POLICY and WALLOC of a region attribute, reserved encodings as R230 takes them: 0 WB, 1 WT, 2 UC. -/
def attrOfWord (w : Word) : Nat × Bool :=
  let p := fld w 2 1
  (if p = 3 then 0 else p, bit w 0 && decide (p ≠ 2))

/-- The attribute of an SDRAM address: the enabled region of lowest number, or the default (R228). -/
def sdramAttr (s : State) (a : Nat) : Nat × Bool :=
  let hit (n : Nat) : Bool :=
    s.rbit (Reg.L2C_RGN_ATTR n) 63 && decide ((s.rfld (Reg.L2C_RGN_BASE n) 47 12) ≤ a / 4096 ∧
      a / 4096 ≤ s.rfld (Reg.L2C_RGN_LIMIT n) 47 12)
  match (List.range 16).find? hit with
  | some n => attrOfWord (s.rget (Reg.L2C_RGN_ATTR n))
  | none => attrOfWord (s.rget Reg.L2C_DEF_ATTR)

/-- The attribute of an address as R133's check compares it: five for SDRAM, one for each other window (R230). -/
def attrCode (s : State) (a : Nat) : Nat :=
  match s.addrKind a with
  | .sdram => let x := s.sdramAttr a; if x.1 = 2 then 4 else x.1 * 2 + b2n x.2
  | .scratch => 5
  | .qram => 6
  | .code => 7
  | .device => 8
  | .hole => 9

/-- Bytes read from SDRAM, counted on its channel. (DESIGN CHOICE, log entry 8) -/
def sdRead (s : State) (a n : Nat) : List Byte × State :=
  (smBytes s.mem.sdram 0 a n, s.radd (Reg.SDC_CH_RDBYTES (sdChannel a)) n)

/-- Codewords of 16 bytes that a write of `n` bytes at `a` touches, and how many of them it covers in part (R231). -/
def codewords (a n : Nat) : Nat × Nat :=
  let k := (a + n + 15) / 16 - a / 16
  (k, min k ((if a % 16 = 0 then 0 else 1) + if (a + n) % 16 = 0 then 0 else 1))

/-- Bytes written to SDRAM, counted on its channel: a codeword that the write covers in part is read, changed and written
back in one action (R231). (DEDUCED, log entry 94) -/
def sdWrite (s : State) (a : Nat) (bs : List Byte) : State :=
  let k := codewords a bs.length
  let c := sdChannel a
  ({ s with mem.sdram := smPutBytes s.mem.sdram 0 a bs }.radd (Reg.SDC_CH_RDBYTES c) (16 * k.2)).radd
    (Reg.SDC_CH_WRBYTES c) (16 * k.1)

/-- The line of the code-store backing that an SDRAM line is: the backing lies at the start of the system area, the top
64 MiB of installed SDRAM (R226, R497). (DESIGN CHOICE, log entry 44) -/
def codeLineOf (s : State) (line : Nat) : Option Nat :=
  let b := s.sdramTop / 64
  if s.rget Reg.SDC_CAPACITY ≠ 0 ∧ b ≤ line ∧ line < b + 0x80000 then some (line - b) else none

/-- The eight instruction words of line `j` of the backing. -/
def codeLine (s : State) (j : Nat) : BitVec 512 :=
  BitVec.ofNat 512 ((List.range 8).foldr (fun i x => (smGet s.code (8 * j + i) 0).toNat + x * 2 ^ 64) 0)

/-- The line read from SDRAM. -/
def sdLine (s : State) (line : Nat) : BitVec 512 × State :=
  match s.codeLineOf line with
  | some j => (s.codeLine j, s.radd (Reg.SDC_CH_RDBYTES (sdChannel (line * 64))) 64)
  | none =>
    let r := s.sdRead (line * 64) 64
    (BitVec.ofNat 512 (bytesToNat r.1), r.2)

/-- The frame that holds a line. -/
def l2Get (s : State) (line : Nat) : Option L2Line := s.mem.l2.find? (fun f => f.valid && decide (f.line = line))

/-- The frame that is bound to a line (R243). -/
def l2Bound (s : State) (line : Nat) : Option L2Line := s.mem.l2.find? (fun f => f.bound && decide (f.line = line))

/-- The frame at a place. -/
def l2At (s : State) (sl set w : Nat) : Option L2Line :=
  s.mem.l2.find? (fun f => decide (f.slice = sl ∧ f.set = set ∧ f.way = w))

/-- The frame written at its place. -/
def l2Set (s : State) (f : L2Line) : State :=
  { s with mem.l2 := f :: s.mem.l2.filter (fun g => decide (¬(g.slice = f.slice ∧ g.set = f.set ∧ g.way = f.way))) }

/-- The place without a frame. -/
def l2Clear (s : State) (f : L2Line) : State :=
  { s with mem.l2 := s.mem.l2.filter (fun g => decide (¬(g.slice = f.slice ∧ g.set = f.set ∧ g.way = f.way))) }

/-- L1 D and L1 I copies of a line dropped in every PE but the one named (R232, R237). -/
def l1Invalidate (s : State) (line : Nat) (but : Option (Nat × Nat)) : State :=
  { s with mem.l1d := s.mem.l1d.filter (fun x => decide (x.line ≠ line ∨ some (x.tile, x.pe) = but))
           mem.l1i := s.mem.l1i.filter (fun x => decide (s.sdramTop / 64 + x.2.2 ≠ line)) }

/-- Dirty data of a frame written back; the frame becomes clean (R237). -/
def l2Clean (s : State) (f : L2Line) : State :=
  if f.valid && f.dirty then
    ((s.sdWrite (f.line * 64) (natToBytes 64 f.data.toNat)).rinc (Reg.L2C_WBACKS f.slice)).l2Set { f with dirty := false }
  else s

/-- A frame's data dropped, its L1 copies too; a binding stays (R237, R241). -/
def l2Inval (s : State) (f : L2Line) : State :=
  let s1 := s.l1Invalidate f.line none
  if f.bound then s1.l2Set { f with valid := false, dirty := false, data := 0 } else s1.l2Clear f

/-- CLEAN, then INVAL. -/
def l2CleanInval (s : State) (f : L2Line) : State := (s.l2Clean f).l2Inval { f with dirty := false }

/-- Group `g` of a slice is powered and takes fills (R245). -/
def groupFills (s : State) (sl g : Nat) : Bool :=
  s.rbit (Reg.L2C_WGPWR sl) (4 + g) && !s.mem.groupReq.contains (sl, g, true)

/-- Ways of a slice in which a fill may land (R243, R245, R250). -/
def fillWays (s : State) (sl : Nat) : List Nat :=
  (List.range 16).filter (fun w => s.groupFills sl (w / 4) && !s.rbit (Reg.L2C_WAYDIS sl) w && !s.wayLocked sl w)

/-- A line placed in its set: in its bound frame, in an empty way, or in place of a victim that only timing chooses
(R223, R241, R243). -/
def l2Install (s : State) (line : Nat) (d : BitVec 512) (dirty : Bool) : State :=
  let sl := homeSlice (line * 64)
  let set := homeSet (line * 64)
  match s.l2Bound line with
  | some f => s.l2Set { f with data := d, valid := true, dirty := dirty }
  | none =>
    let ways := s.fillWays sl
    let fresh : L2Line := { slice := sl, set := set, way := 0, line := line, data := d, valid := true, dirty := dirty,
                            bound := false }
    match ways.find? (fun w => (s.l2At sl set w).isNone) with
    | some w => s.l2Set { fresh with way := w }
    | none =>
      if ways.isEmpty then (if dirty then s.sdWrite (line * 64) (natToBytes 64 d.toNat) else s)
      else
        let r := s.drawNat
        let w := nth ways (r.1 % ways.length) 0
        match r.2.l2At sl set w with
        | some f => (r.2.l2Clean f).l2Set { fresh with way := w }
        | none => r.2.l2Set { fresh with way := w }

/-- A store that is performed, within one line: Table 8.4 for SDRAM, the window for scratch; `own` is the PE whose L1
copy is updated, every other copy is dropped (R224, R229, R232, R245). -/
def storeLine (s : State) (own : Option (Nat × Nat)) (a : Nat) (bs : List Byte) : State :=
  let line := a / 64
  let l1 (s : State) : State :=
    let s' := s.l1Invalidate line own
    { s' with mem.l1d := s'.mem.l1d.map (fun x => if x.line = line then { x with data := linePut x.data (a % 64) bs } else x) }
  match s.addrKind a with
  | .scratch => l1 { s with mem.scratch := smPutBytes s.mem.scratch 0 a bs }
  | .sdram =>
    let at' := s.sdramAttr a
    let sl := homeSlice a
    let miss (s : State) : State :=
      if at'.2 = false then (s.sdWrite a bs).rinc (Reg.L2C_MISSES sl)
      else
        let r := s.sdLine line
        let d := linePut r.1 (a % 64) bs
        let s' := (r.2.l2Install line d (decide (at'.1 = 0))).rinc (Reg.L2C_MISSES sl)
        if at'.1 = 1 then s'.sdWrite a bs else s'
    if at'.1 = 2 then l1 (s.sdWrite a bs)
    else
      match s.l2Get line with
      | some f =>
        if s.groupFills sl (f.way / 4) then
          let s' := (s.l2Set { f with data := linePut f.data (a % 64) bs, dirty := f.dirty || decide (at'.1 = 0) }).rinc
            (Reg.L2C_HITS sl)
          l1 (if at'.1 = 1 then s'.sdWrite a bs else s')
        else l1 (miss ((s.l2Clean f).l2Inval { f with dirty := false }))
      | none => l1 (miss s)
  | _ => s

/-- A store of any length, line by line. -/
def memWrite (s : State) (own : Option (Nat × Nat)) (a : Nat) (bs : List Byte) : State :=
  ((piecesOf a bs.length).foldl (fun (x : State × List Byte) p =>
    (x.1.storeLine own p.1 (x.2.take p.2), x.2.drop p.2)) (s, bs)).1

/-- A valid image entry of a bank holds an IADDR (R498). -/
def bankLoaded (b : List (Nat × Word)) (iaddr : Nat) : Bool :=
  (List.range 64).any (fun j =>
    let w := smGet b (0x1A00 + j * 8) 0
    bit w 63 && decide (fld w 53 32 ≤ iaddr ∧ iaddr ≤ fld w 21 0))

/-- A word of the code store window: instruction words, and the placement and descriptor ranges of the bank in force
(Table 4.13, R136, R497). -/
def codeWord (s : State) (n : Nat) : Word :=
  if n < 0x400000 then (if bankLoaded s.cfg.bank n then smGet s.code n 0 else 0xE800000000000000)
  else if n < 0x400800 then smGet s.cfg.bank (n - 0x400000 + 0x2000) 0
  else if 0x800000 ≤ n ∧ n < 0x810000 then smGet s.cfg.bank (n - 0x800000 + 0x4000) 0
  else 0

/-- L1 and L2 copies of the lines `lo` up to but not including `hi` of the code-store backing are invalidated (R225). -/
def codeDrop (s : State) (lo hi : Nat) : State :=
  let b := s.sdramTop / 64
  { s with mem.l1i := s.mem.l1i.filter (fun x => decide (x.2.2 < lo ∨ hi ≤ x.2.2))
           mem.l2 := s.mem.l2.filter (fun f => decide (f.line < b + lo ∨ b + hi ≤ f.line)) }

/-- A fetch of line `j` of the code-store backing through its home L2 slice, which a miss fills (R135, R223, R226). -/
def codeFetch (s : State) (j : Nat) : State :=
  let line := s.sdramTop / 64 + j
  if s.rget Reg.SDC_CAPACITY = 0 then s
  else
    match s.l2Get line with
    | some f => s.rinc (Reg.L2C_HITS f.slice)
    | none =>
      let r := s.sdLine line
      (r.2.l2Install line r.1 false).rinc (Reg.L2C_MISSES (homeSlice (line * 64)))

/-- The bytes that a snooped load within one line returns, without effect on the caches. -/
def viewLine (s : State) (a n : Nat) : List Byte :=
  match s.addrKind a with
  | .scratch => smBytes s.mem.scratch 0 a n
  | .sdram =>
    match (if (s.sdramAttr a).1 = 2 then none else s.l2Get (a / 64)) with
    | some f => lineBytes f.data (a % 64) n
    | none => smBytes s.mem.sdram 0 a n
  | .code => (List.range n).map (fun i =>
      let o := a - codeBase + i
      BitVec.ofNat 8 (natField (s.codeWord (o / 8)).toNat (o % 8 * 8 + 7) (o % 8 * 8)))
  | _ => List.replicate n 0

/-- The bytes that a snooped load of any length returns (R232). -/
def memView (s : State) (a n : Nat) : List Byte := ((piecesOf a n).map (fun p => s.viewLine p.1 p.2)).flatten

/-- A snooped load of a master other than a PE, within one line: a miss of a WB or WT address fills the L2 (R229). -/
def readLine (s : State) (a n : Nat) : List Byte × State :=
  match s.addrKind a with
  | .sdram =>
    let sl := homeSlice a
    if (s.sdramAttr a).1 = 2 then s.sdRead a n
    else
      match s.l2Get (a / 64) with
      | some f => (lineBytes f.data (a % 64) n, s.rinc (Reg.L2C_HITS sl))
      | none =>
        let r := s.sdLine (a / 64)
        (lineBytes r.1 (a % 64) n, (r.2.l2Install (a / 64) r.1 false).rinc (Reg.L2C_MISSES sl))
  | _ => (s.viewLine a n, s)

/-- A snooped load of a master other than a PE. -/
def memRead (s : State) (a n : Nat) : List Byte × State :=
  (piecesOf a n).foldl (fun (x : List Byte × State) p => let r := x.2.readLine p.1 p.2; (x.1 ++ r.1, r.2)) ([], s)

/-- An L1 D line filled in a PE, in place of one that only timing chooses when its set is full (R223, R224). -/
def l1Fill (s : State) (t p line : Nat) (d : BitVec 512) : State :=
  let mine (x : L1Line) : Bool := decide (x.tile = t ∧ x.pe = p)
  let inSet := s.mem.l1d.filter (fun x => mine x && decide (x.line % 64 = line % 64))
  let fresh : L1Line := ⟨t, p, line, d⟩
  if inSet.any (fun x => decide (x.line = line)) then s
  else if inSet.length < 8 then { s with mem.l1d := fresh :: s.mem.l1d }
  else
    let r := s.drawNat
    let v := (nth inSet (r.1 % inSet.length) fresh).line
    { r.2 with mem.l1d := fresh :: r.2.mem.l1d.filter (fun x => !(mine x && decide (x.line = v))) }

/-- A PE's load within one line: the bytes, or none where an L2 fill must complete first (R224, R229). -/
def peLoadLine (s : State) (t p a n : Nat) : Option (List Byte) × State :=
  let line := a / 64
  match s.addrKind a with
  | .scratch | .sdram =>
    let uc := decide (s.addrKind a = .sdram) && decide ((s.sdramAttr a).1 = 2)
    if uc then let r := s.sdRead a n; (some r.1, r.2)
    else
      match s.mem.l1d.find? (fun x => decide (x.tile = t ∧ x.pe = p ∧ x.line = line)) with
      | some x => (some (lineBytes x.data (a % 64) n), s)
      | none =>
        let s1 := s.rinc (Reg.PEX_DC_MISS t p)
        if s.addrKind a = .scratch then
          let d := BitVec.ofNat 512 (bytesToNat (smBytes s.mem.scratch 0 (line * 64) 64))
          (some (lineBytes d (a % 64) n), s1.l1Fill t p line d)
        else
          match s.l2Get line with
          | some f => (some (lineBytes f.data (a % 64) n), (s1.l1Fill t p line f.data).rinc (Reg.L2C_HITS f.slice))
          | none =>
            let s2 := s1.rinc (Reg.L2C_MISSES (homeSlice a))
            if s.mem.fills.any (fun f => decide (f.line = line ∧ f.tile = t ∧ f.pe = p)) then (none, s2)
            else (none, { s2 with mem.fills := s2.mem.fills ++ [⟨line, t, p, true⟩] })
  | _ => (some (List.replicate n 0), s)

/-- A PE's load of any length: none where a fill must complete first. -/
def peLoad (s : State) (t p a n : Nat) : Option (List Byte) × State :=
  (piecesOf a n).foldl (fun (x : Option (List Byte) × State) q =>
    let r := x.2.peLoadLine t p q.1 q.2
    (match x.1, r.1 with
     | some b, some c => some (b ++ c)
     | _, _ => none, r.2)) (some [], s)

end State

end Sys2Proof.Machine
end

