-- ==== Sys2Proof/Machine/Trace.lean ====
section
/-! DEFINITION. Slots, activations, crumbs and the trace ring (R272 to R278), and the signalling of engine events
(R371). -/

namespace Sys2Proof.Machine

namespace State

/-- Slot `k`. -/
def slotAt (s : State) (k : Nat) : Slot := nth s.slots k Reset.slot

def updSlot (s : State) (k : Nat) (f : Slot → Slot) : State := { s with slots := updAt s.slots k f }

/-- Tile `t`. -/
def tileAt (s : State) (t : Nat) : Tile := nth s.tiles t Reset.tile

def updTile (s : State) (t : Nat) (f : Tile → Tile) : State := { s with tiles := updAt s.tiles t f }

/-- The activation that holds an ID, none where the ID is FREE (Table 2.5). -/
def act? (s : State) (id : Nat) : Option Act := s.acts.find? (fun a => decide (a.id = id))

def updAct (s : State) (id : Nat) (f : Act → Act) : State :=
  { s with acts := s.acts.map (fun a => if a.id = id then f a else a) }

/-- Engine `n`; 8 is the recovery sequencer. -/
def engineAt (s : State) (n : Nat) : Engine := nth s.engines n Reset.engine

def updEngine (s : State) (n : Nat) (f : Engine → Engine) : State := { s with engines := updAt s.engines n f }

/-- An event cause becomes pending in an engine (Table 12.5). -/
def raiseEvent (s : State) (n cause : Nat) : State := s.updEngine n (fun e => { e with pend := e.pend ||| 2 ^ cause })

/-- log₂ of the ring and segment sizes in crumbs (R274, Table 9.8). -/
def trcRing (s : State) : Nat := clampNat 10 24 (s.rfld Reg.SCH_TRC_GEOM 4 0)
def trcSeg (s : State) : Nat := min (clampNat 8 16 (s.rfld Reg.SCH_TRC_GEOM 12 8)) (s.trcRing - 1)

/-- `SCH_TRC_BASE.EN` as it reads: the whole area lies within installed SDRAM (R274). -/
def trcArea (s : State) : Bool :=
  let base := s.rfld Reg.SCH_TRC_BASE 47 20 * 2 ^ 20
  s.rbit Reg.SCH_TRC_BASE 0 && decide (base + 2 ^ s.trcRing * 16 + 8 * 2 ^ s.trcSeg * 16 ≤ s.sdramTop)

/-- Crumbs written at the ring's next places (R274, R276). (DESIGN CHOICE, log entry 67) -/
def ringWrite (s : State) (cs : List (BitVec 128)) : State :=
  let base := s.rfld Reg.SCH_TRC_BASE 47 20 * 2 ^ 20
  cs.foldl (fun (s : State) c =>
    let wr := (s.rget Reg.SCH_TRC_WR).toNat
    (s.sdWrite (base + wr % 2 ^ s.trcRing * 16) (natToBytes 16 c.toNat)).rset Reg.SCH_TRC_WR (w64 (wr + 1))) s

/-- A crumb from its fields (Table 9.2). -/
def mkCrumb (kind inc slot p : Nat) (d : Word) : BitVec 128 :=
  BitVec.ofNat 128 (kind % 64 * 2 ^ 122 + inc % 16 * 2 ^ 118 + slot % 8 * 2 ^ 115 + p % 2 ^ 51 * 2 ^ 64 + d.toNat)

/-- An item of crumbs recorded, or lost, under a mode (R276). -/
def ringItem (s : State) (wrap : Bool) (cs : List (BitVec 128)) : State :=
  let size := 2 ^ s.trcRing
  let used := (s.rget Reg.SCH_TRC_WR - s.rget Reg.SCH_TRC_RD).toNat
  let all := if s.trcLost = 0 then cs else mkCrumb 0x3F 0 0 0 (w64 s.trcLost) :: cs
  if wrap then
    let s1 := { s with trcLost := 0 }.ringWrite all
    if size < used + all.length then
      (s1.rset Reg.SCH_TRC_RD (s1.rget Reg.SCH_TRC_WR - w64 size)).rsetBit Reg.SCH_STATUS 2 true
    else s1
  else if used + all.length ≤ size then { s with trcLost := 0 }.ringWrite all
  else
    ({ s with trcLost := s.trcLost + cs.length }.radd Reg.SCH_TRC_LOST cs.length).rsetBit Reg.SCH_STATUS 1 true

/-- Enable bit of a crumb kind in `SCH_TRC_CTRL` (Table 9.8). -/
def kindBit (kind : Nat) : Nat :=
  if kind = 0x02 then 8 else if kind = 0x03 then 9 else if kind = 0x04 then 10 else if kind = 0x10 then 11
  else if kind = 0x11 then 12 else if 0x18 ≤ kind ∧ kind ≤ 0x1C then kind - 0x18 + 13 else 18

/-- A decision crumb (R273, R275, R278): `low` is P[18:0]. -/
def decision (s : State) (kind inc slot low : Nat) (d : Word) : State :=
  if s.rbit Reg.SCH_TRC_CTRL 0 && s.trcArea && s.rbit Reg.SCH_TRC_CTRL (kindBit kind) then
    s.ringItem (s.rbit Reg.SCH_TRC_CTRL 1) [mkCrumb kind inc slot (s.now % 2 ^ 32 * 2 ^ 19 + low) d]
  else s

/-- A wafer crumb staged in its slot's segment of the trace area (R274, R275, R278). -/
def waferCrumb (s : State) (kind slot p : Nat) (d : Word) : State :=
  let x := s.slotAt slot
  if x.trcOn && x.trcKinds.testBit (kindBit kind) then
    if x.crumbs.length < 2 ^ s.trcSeg - 1 then
      let s1 := s.updSlot slot (fun y => { y with crumbs := y.crumbs ++ [mkCrumb kind x.inc slot p d] })
      if s1.trcArea then
        s1.sdWrite (s1.rfld Reg.SCH_TRC_BASE 47 20 * 2 ^ 20 + (2 ^ s1.trcRing + slot * 2 ^ s1.trcSeg + x.crumbs.length) * 16)
          (natToBytes 16 (mkCrumb kind x.inc slot p d).toNat)
      else s1
    else (s.updSlot slot (fun y => { y with dropped := y.dropped + 1 })).rinc Reg.SCH_TRC_DROP
  else s

end State

end Sys2Proof.Machine
end

