-- ==== Sys2Proof/Machine/LockUnit.lean ====
section
/-! DEFINITION. The lock unit (R167, R280 to R289). -/

namespace Sys2Proof.Machine

/-- A lock in its reset state. -/
def Lock.fresh (k : Nat) : Lock :=
  { k := k, holder := none, base := 0, resv := false, aband := false, abandBefore := false, withheld := false,
    forSlot := 0, waiters := [] }

/-- Codes of `LKU_RESP.RSTAT` (Table 9.10). -/
def rsAcquired : Nat := 0
def rsAbandoned : Nat := 1
def rsBusy : Nat := 2
def rsCycle : Nat := 3
def rsReleased : Nat := 4
def rsHanded : Nat := 5
def rsOwnerErr : Nat := 6
def rsCancelled : Nat := 7
def rsBadReq : Nat := 8

namespace State

def lockAt (s : State) (k : Nat) : Lock := (s.locks.find? (fun l => decide (l.k = k))).getD (Lock.fresh k)

/-- A lock written; a lock in its reset state is not listed. -/
def setLock (s : State) (l : Lock) : State :=
  let rest := s.locks.filter (fun x => decide (x.k ≠ l.k))
  { s with locks := if l = Lock.fresh l.k then rest else l :: rest }

/-- A master's request record. -/
def lkuRec (s : State) (m : Nat) : LkuRec :=
  (s.lkuRecs.find? (fun r => decide (r.master = m))).getD ⟨m, 0, 0, 0, 0, 0, 0⟩

def setLkuRec (s : State) (r : LkuRec) : State :=
  { s with lkuRecs := r :: s.lkuRecs.filter (fun x => decide (x.master ≠ r.master)) }

/-- An owner's base level: the activation's, or the level that a request carries (R257). -/
def ownerBase (s : State) (o : Owner) (dflt : Nat) : Nat :=
  if o.master < 16 then (match s.act? o.ctx with
    | some a => a.base
    | none => dflt)
  else dflt

/-- The effective level of an owner, through chains of waiting requests (R258, R283).  `n` bounds the chain, which
R284 keeps free of cycles. -/
def effLevel : Nat → State → Owner → Nat → Nat
  | 0, s, o, b => s.ownerBase o b
  | n + 1, s, o, b =>
    (s.locks.filter (fun l => decide (l.holder = some o))).foldl (fun acc l =>
      l.waiters.foldl (fun acc w => min acc (effLevel n s w.owner w.base)) acc) (s.ownerBase o b)

/-- Longest chain of holders and waiters that the state can hold. -/
def chainMax (s : State) : Nat := s.locks.length + 1

def eff (s : State) (o : Owner) (b : Nat) : Nat := effLevel s.chainMax s o b

/-- An owner record of a lock crumb (R273). -/
def ownerWord (k : Nat) (o : Owner) : Word := w64 (k % 1024 * 2 ^ 48 + o.master % 4096 * 2 ^ 32 + o.ctx % 65536)

/-- A lock crumb: SLOT and INC are those of an owner that is an activation (R273). -/
def lockCrumb (s : State) (kind k low : Nat) (o : Owner) : State :=
  let si : Nat × Nat := if o.master < 16 then (match s.act? o.ctx with
    | some a => (a.slot, a.inc)
    | none => (0, 0)) else (0, 0)
  s.decision kind si.2 si.1 low (ownerWord k o)

/-- Base level of an owner that holds or has held a lock (R257): the activation's; for another master that of its request record
where the record's context is the owner's, else that of its acquisition. (DEDUCED, log entry 87) -/
def heldBase (s : State) (o : Owner) : Nat :=
  if o.master < 16 then s.ownerBase o 15
  else
    match s.lkuRecs.find? (fun r => decide (r.master = o.master ∧ r.ctx = o.ctx)) with
    | some r => r.prio
    | none => ((s.locks.find? (fun l => decide (l.holder = some o))).map (·.base)).getD 15

/-- The level last signalled of an owner. -/
def levelOf (s : State) (o : Owner) : Nat :=
  ((s.levels.find? (fun x => decide (x.owner = o))).map (·.level)).getD (s.heldBase o)

/-- The level of an owner noted; an owner at its base level is not listed. -/
def noteLevel (s : State) (o : Owner) (e : Nat) : State :=
  let rest := s.levels.filter (fun x => decide (x.owner ≠ o))
  { s with levels := if e = s.heldBase o then rest else ⟨o, e⟩ :: rest }

/-- An activation's level in the priority table: the most urgent of its owners', which differ by tile (R258, R280). -/
def actRelevel (s : State) (id : Nat) : State :=
  let ls := s.levels.filter (fun x => decide (x.owner.master < 16 ∧ x.owner.ctx = id))
  s.updAct id (fun a => { a with eff := ls.foldl (fun n x => min n x.level) a.base })

/-- The level of one owner recomputed after an event of lock `k`; a change has its INHERIT crumb and is signalled (R283). -/
def relevelOne (s : State) (k : Nat) (o : Owner) : State :=
  if o.master < 16 ∧ (s.act? o.ctx).isNone then { s with levels := s.levels.filter (fun x => decide (x.owner ≠ o)) }
  else
    let e := s.eff o (s.heldBase o)
    let old := s.levelOf o
    if e = old then s
    else
      let s1 := ((s.noteLevel o e).lockCrumb 0x1A k (old * 16 + e) o).rinc Reg.LKU_INHERITS
      if o.master < 16 then s1.actRelevel o.ctx
      else
        let r := s1.lkuRec o.master
        let s2 := if r.ctx = o.ctx ∧ r.state ≠ 0 then s1.setLkuRec { r with eff := e } else s1
        if 0x10 ≤ o.master ∧ o.master ≤ 0x18 then s2.raiseEvent (o.master - 0x10) 10 else s2

/-- Effective levels recomputed after an event of lock `k`, of every owner that has one to lose or to gain (R283). -/
def relevel (s : State) (k : Nat) : State :=
  ((s.levels.map (·.owner) ++ s.locks.filterMap (·.holder)).eraseDups).foldl (fun (s : State) o => s.relevelOne k o) s

/-- A record that has ended DONE. -/
def lkuDone (s : State) (r : LkuRec) (st : Nat) : State := s.setLkuRec { r with state := 2, rstat := st }

/-- The lock given to an owner: a reservation for a firing, otherwise held, its ABANDONED mark cleared (R167, R282).
`fid` is the firing of a graph owner plus 1, 0 for another master. -/
def lockGive (s : State) (l : Lock) (o : Owner) (b fid : Nat) : State :=
  let st := b2n l.aband
  let s1 := (s.setLock { l with holder := some o, base := b, resv := decide (fid ≠ 0), abandBefore := l.aband,
                                aband := l.aband && decide (fid ≠ 0) }).rinc Reg.LKU_ACQS
  let s2 := s1.lockCrumb 0x19 l.k st o
  if fid ≠ 0 then
    { s2 with firings := s2.firings.map (fun f =>
        if f.id + 1 = fid then { f with granted := some st, wait := .none } else f) }
  else
    let r := s2.lkuRec o.master
    let s3 := s2.lkuDone r st
    if 0x10 ≤ o.master ∧ o.master ≤ 0x18 then s3.raiseEvent (o.master - 0x10) 9 else s3

/-- The most urgent waiting request, the earliest among equals (R282). -/
def bestWaiter (s : State) (ws : List LockWait) : Option LockWait :=
  ws.foldl (fun (acc : Option LockWait) w =>
    match acc with
    | none => some w
    | some x => if s.eff w.owner w.base < s.eff x.owner x.base then some w else acc) none

/-- A free lock goes to its next waiter, whose acquisition has then waited (Table 9.9), unless a journal restoration withholds it (R282, R473). -/
def lockGrantNext (s : State) (k : Nat) : State :=
  let l := s.lockAt k
  if l.holder.isSome || l.withheld then s
  else
    match s.bestWaiter l.waiters with
    | none => s
    | some w =>
      (s.rinc Reg.LKU_CONTEND).lockGive { l with waiters := l.waiters.filter (fun x => decide (x ≠ w)) } w.owner w.base w.firing

/-- The lock freed and granted to its next waiter (R282). -/
def lockFree (s : State) (k : Nat) : State :=
  let l := s.lockAt k
  ((s.setLock { l with holder := none, base := 0, resv := false }).lockGrantNext k).relevel k

/-- A lock marked ABANDONED (R285, R286): cause 0 master reset, 1 quarantine, 2 activation freed. -/
def markAbandoned (s : State) (k cause : Nat) (o : Owner) : State :=
  let l := s.lockAt k
  let s1 := (s.setLock { l with holder := none, base := 0, resv := false, aband := true }).lockCrumb 0x1B k cause o
  let s2 := (s1.rinc Reg.LKU_ABANDONS).rsetBit Reg.LKU_STATUS 0 true
  if s.rbit Reg.LKU_CTRL 0 then s2.event 0x090 0 0x52 k else s2

/-- Every lock that a chosen owner holds is freed, marked and granted (R52, R285, R286). -/
def abandonAll (s : State) (mine : Owner → Bool) (cause : Nat) : State :=
  let held := s.locks.filter (fun l => match l.holder with
    | some o => mine o
    | none => false)
  let s1 := held.foldl (fun (s : State) l => s.markAbandoned l.k cause (l.holder.getD ⟨0, 0⟩)) s
  held.foldl (fun (s : State) l => (s.lockGrantNext l.k).relevel l.k) s1

/-- Waiting requests of chosen owners withdrawn. -/
def withdrawWaits (s : State) (mine : Owner → Bool) : State :=
  let ks := (s.locks.filter (fun l => l.waiters.any (fun w => mine w.owner))).map (·.k)
  ks.foldl (fun (s : State) k =>
    let l := s.lockAt k
    (s.setLock { l with waiters := l.waiters.filter (fun w => !mine w.owner) }).relevel k) s

/-- Following holder, the lock it waits on, that lock's holder … from lock `k` leads back to `o` (R284).
(DEDUCED, log entry 87) -/
def lockCycle : Nat → State → Nat → Owner → Bool
  | 0, _, _, _ => false
  | n + 1, s, k, o =>
    match (s.lockAt k).holder with
    | none => false
    | some h =>
      if h = o then true
      else (s.locks.filter (fun l => l.waiters.any (fun w => decide (w.owner = h)))).any (fun l => lockCycle n s l.k o)

/-- A request refused as a cycle (R284). -/
def noteCycle (s : State) (k : Nat) (o : Owner) (b : Nat) : State :=
  let s1 := ((s.lockCrumb 0x1C k (s.eff o b) o).rinc Reg.LKU_CYCLES).rsetBit Reg.LKU_STATUS 1 true
  if s.rbit Reg.LKU_CTRL 1 then s1.event 0x090 0 0x51 k else s1

/-- A request waits in a lock's queue (R282, R283). -/
def lockWait (s : State) (k : Nat) (w : LockWait) : State :=
  let l := s.lockAt k
  let s1 := s.setLock { l with waiters := l.waiters ++ [w] }
  (s1.lockCrumb 0x18 k (s1.eff w.owner w.base) w.owner).relevel k

/-- Wait records of the fabric pool in use (R287). -/
def fabricWaits (s : State) : Nat :=
  s.locks.foldl (fun n l => n + (l.waiters.filter (fun w => decide (0x400 ≤ w.owner.master))).length) 0

/-- A master's request as its record starts (R281): ignored while the record is PENDING. -/
def lkuStart (s : State) (m : Nat) (v : Word) (f : State → LkuRec → State) : State :=
  let r := s.lkuRec m
  if r.state = 1 then s.rsetBit Reg.LKU_STATUS 2 true
  else
    let b := fld v 31 28
    let r' : LkuRec := { master := m, state := 1, prio := b, eff := b, rstat := 0, lock := fld v 25 16, ctx := fld v 15 0 }
    let s1 := s.setLkuRec r'
    let e := s1.eff ⟨m, r'.ctx⟩ b
    f ((s1.setLkuRec { r' with eff := e }).noteLevel ⟨m, r'.ctx⟩ e) { r' with eff := e }

/-- ACQ (R281, R282, R284, R287). -/
def lkuAcq (s : State) (m : Nat) (v : Word) : State :=
  s.lkuStart m v (fun s r =>
    let k := r.lock
    let o : Owner := ⟨m, r.ctx⟩
    let l := s.lockAt k
    if l.holder = some o then s.lkuDone r rsOwnerErr
    else if l.holder.isNone && !l.withheld && l.waiters.isEmpty then s.lockGive l o r.prio 0
    else if lockCycle s.chainMax s k o then (s.noteCycle k o r.prio).lkuDone r rsCycle
    else if 0x400 ≤ m ∧ 2048 ≤ s.fabricWaits then s.lkuDone r rsBusy
    else s.lockWait k ⟨o, r.prio, 0⟩)

/-- TRY (R281). -/
def lkuTry (s : State) (m : Nat) (v : Word) : State :=
  s.lkuStart m v (fun s r =>
    let o : Owner := ⟨m, r.ctx⟩
    let l := s.lockAt r.lock
    if l.holder = some o then s.lkuDone r rsOwnerErr
    else if l.holder.isNone && !l.withheld then s.lockGive l o r.prio 0
    else s.lkuDone r rsBusy)

/-- REL (R281). -/
def lkuRel (s : State) (m : Nat) (v : Word) : State :=
  s.lkuStart m v (fun s r =>
    if (s.lockAt r.lock).holder = some ⟨m, r.ctx⟩ then (s.lkuDone r rsReleased).lockFree r.lock
    else s.lkuDone r rsOwnerErr)

/-- HAND moves the lock within the master (R281, R282). -/
def lkuHand (s : State) (m : Nat) (v : Word) : State :=
  s.lkuStart m v (fun s r =>
    let l := s.lockAt r.lock
    if l.holder = some ⟨m, r.ctx⟩ then
      ((s.lkuDone r rsHanded).setLock { l with holder := some ⟨m, fld v 63 48⟩ }).relevel r.lock
    else s.lkuDone r rsOwnerErr)

/-- CANCEL withdraws the master's pending ACQ; without one it is ignored (R281). -/
def lkuCancel (s : State) (m : Nat) : State :=
  let r := s.lkuRec m
  if r.state = 1 then (s.withdrawWaits (fun o => decide (o = ⟨m, r.ctx⟩))).lkuDone { r with state := 2 } rsCancelled else s

/-- The answer to a reserved command (Table 9.10). -/
def lkuBad (s : State) (m : Nat) (v : Word) : State := s.lkuStart m v (fun s r => s.lkuDone r rsBadReq)

/-- A write to `LKU_REQ`, by its CMD (R281). -/
def lkuRequest (s : State) (m : Nat) (v : Word) : State :=
  let c := fld v 35 32
  if c = 1 then s.lkuAcq m v else if c = 2 then s.lkuTry m v else if c = 3 then s.lkuRel m v
  else if c = 4 then s.lkuHand m v else if c = 5 then s.lkuCancel m else s.lkuBad m v

/-- A reset of a master in the lock unit (R285). -/
def masterReset (s : State) (m : Nat) : State :=
  let mine (o : Owner) : Bool := decide (o.master = m)
  let held := s.locks.filter (fun l => match l.holder with
    | some o => mine o
    | none => false)
  let s1 := held.foldl (fun (s : State) l => s.markAbandoned l.k 0 (l.holder.getD ⟨0, 0⟩)) s
  let s2 := s1.withdrawWaits mine
  let s3 := { s2 with lkuRecs := s2.lkuRecs.filter (fun r => decide (r.master ≠ m))
                      levels := s2.levels.filter (fun x => decide (x.owner.master ≠ m)) }
  held.foldl (fun (s : State) l => (s.lockGrantNext l.k).relevel l.k) s3

/-- A write to `LKU_MRESET` (R285). -/
def lkuMreset (s : State) (m : Nat) (v : Word) : State :=
  let t := fld v 11 0
  if (m = 0x18 ∨ m = 0x19) ∧ 16 ≤ t then s.masterReset t else s

/-- The locks of an old incarnation freed without a mark and withheld until the journal is restored (R286, R473). -/
def lockReplay (s : State) (slot : Nat) (mine : Nat → Bool) : State :=
  let own (o : Owner) : Bool := decide (o.master < 16) && mine o.ctx
  let s1 := s.withdrawWaits own
  let ks := (s1.locks.filter (fun l => match l.holder with
    | some o => own o
    | none => false)).map (·.k)
  ks.foldl (fun (s : State) k =>
    let l := s.lockAt k
    (s.setLock { l with holder := none, base := 0, resv := false, aband := l.abandBefore, withheld := true,
                        forSlot := slot }).relevel k) s1

/-- Withheld locks of a slot released to their waiters (R473). -/
def lockUnhold (s : State) (slot : Nat) : State :=
  let ks := (s.locks.filter (fun l => l.withheld && decide (l.forSlot = slot))).map (·.k)
  ks.foldl (fun (s : State) k =>
    ((s.setLock { s.lockAt k with withheld := false, forSlot := 0 }).lockGrantNext k).relevel k) s

/-- `LKU_RESP` of a master (Table 9.10). -/
def lkuResp (s : State) (m : Nat) : Word :=
  match s.lkuRecs.find? (fun r => decide (r.master = m)) with
  | none => 0
  | some r => w64 (2 ^ 63 + r.state * 2 ^ 60 + r.eff * 2 ^ 52 + r.rstat * 2 ^ 32 + r.lock * 2 ^ 16 + r.ctx)

/-- `LKU_LOCKk_STATE` (Table 9.10). -/
def lockState (s : State) (k : Nat) : Word :=
  let l := s.lockAt k
  let top := match s.bestWaiter l.waiters with
    | some w => s.eff w.owner w.base
    | none => 0
  let h := l.holder.getD ⟨0, 0⟩
  w64 (b2n l.holder.isSome * 2 ^ 63 + b2n l.aband * 2 ^ 62 + l.waiters.length % 2 ^ 14 * 2 ^ 48 + top * 2 ^ 44 +
    h.master * 2 ^ 32 + h.ctx)

end State

def execLkuAcq (m : Nat) (v : Word) (s : State) : Out := .next (s.onlyIf (s.mayWrite m) (·.lkuAcq m v))
def execLkuTry (m : Nat) (v : Word) (s : State) : Out := .next (s.onlyIf (s.mayWrite m) (·.lkuTry m v))
def execLkuRel (m : Nat) (v : Word) (s : State) : Out := .next (s.onlyIf (s.mayWrite m) (·.lkuRel m v))
def execLkuHand (m : Nat) (v : Word) (s : State) : Out := .next (s.onlyIf (s.mayWrite m) (·.lkuHand m v))
def execLkuCancel (m : Nat) (_v : Word) (s : State) : Out := .next (s.onlyIf (s.mayWrite m) (·.lkuCancel m))
def execLkuMreset (m : Nat) (v : Word) (s : State) : Out := .next (s.onlyIf (s.mayWrite m) (·.lkuMreset m v))

end Sys2Proof.Machine
end

