-- ==== Sys2Proof/Machine/Tokens.lean ====
section
/-! DEFINITION. The token network: the oldest wafer in flight, the virtual channel on which a token leaves its source, the
end-to-end credits, and the order within a channel (R39, R61, R89, R97, R234, R425, R426). -/

namespace Sys2Proof.Machine

/-- A reservation's fields (Table 14.12). -/
def rsvOn (w : Word) : Bool := bit w 63
def rsvClass (w : Word) : Nat := fld w 62 61
def rsvSrc (w : Word) : Nat := fld w 53 48
def rsvDst (w : Word) : Nat := fld w 45 40

namespace State

/-- A hole touched by a master other than a graph (R221, R538): the tag word holds the address. -/
def holeEvent (s : State) (m a : Nat) : State :=
  s.collect { Report.plain 0 0x060 0x10 0 (m % 4096 * 65536 + 0x40) with tagw := w64 a }

/-- The virtual channel of a packet of class `cls` (0 TRIP, 1 SAMPLE, 2 TIME) from endpoint `src` to `dst`: VC0 where an
enabled reservation matches and `NOC_CTRL.RSVEN` is 1, VC3 otherwise (R430). -/
def packetVc (s : State) (cls src dst : Nat) : Nat :=
  if s.rbit Reg.NOC_CTRL 0 && (List.range 64).any (fun r =>
      let w := s.rget (Reg.NOC_RSV r)
      rsvOn w && decide (rsvClass w = cls ∧ rsvSrc w = src ∧ rsvDst w = dst)) then 0
  else 3

/-- A packet of a class that reservations serve crosses the network (R430). -/
def classSent (s : State) (cls src dst : Nat) : State :=
  { s with nocSent := ⟨cls, src, dst, s.packetVc cls src dst⟩ :: s.nocSent.filter (fun p => decide (p.cls ≠ cls)) }

/-- The lowest-numbered wafer in flight (R89). -/
def oldestWafer (s : State) : Option Nat :=
  (s.slots.filter (fun k => decide (k.state ≠ 0))).foldl
    (fun acc k => match acc with
      | none => some k.wafer
      | some w => some (min w k.wafer)) none

/-- The wafer in a slot is the oldest in flight. -/
def isOldest (s : State) (slot : Nat) : Bool :=
  decide ((s.slotAt slot).state ≠ 0) && decide (s.oldestWafer = some (s.slotAt slot).wafer)

/-- The wafer of an entry or firing is the oldest in flight. -/
def isOldestWafer (s : State) (w : Nat) : Bool := decide (s.oldestWafer = some w)

/-- The stores that a token's PE committed before it are performed (R234), and the sends and lock operations of its firing
have taken effect (R61). (DEDUCED, log entry 92) -/
def forwardable (s : State) (k : Token) : Bool :=
  !s.storeBuf.any (fun b => decide (b.tile = k.srcTile ∧ b.pe = k.srcPe ∧ b.seq ≤ k.barrier)) &&
  !s.eventBuf.any (fun b => decide (b.tile = k.srcTile ∧ b.pe = k.srcPe ∧ b.seq ≤ k.barrier))

/-- The source holds a credit for the token's destination tile and slot (R426). -/
def tokenCredit (s : State) (k : Token) : Bool :=
  decide ((s.net.filter (fun x => decide (x.vc = 2 ∧ x.src = k.src ∧ x.dtile = k.dtile ∧ tagSlot x.tag = tagSlot k.tag))).length < 8)

/-- The virtual channel that a token that waits at its source may leave on now, 0 where it stays there (R97, R426). -/
def leavesOn (s : State) (k : Token) : Nat :=
  if !s.forwardable k then 0
  else if s.isOldest (tagSlot k.tag) then 1
  else if k.egress && (s.tileAt k.srcTile).oldest then 0
  else if s.tokenCredit k then 2
  else 0

/-- The `i`-th token of the network leaves its source, where it may. -/
def injectOne (s : State) (i : Nat) : State :=
  match s.net[i]? with
  | none => s
  | some k =>
    let c := if k.vc = 0 then s.leavesOn k else 0
    if c = 0 then s
    else { s with net := updAt s.net i (fun x => { x with vc := c, sent := s.netSeq }), netSeq := s.netSeq + 1 }

/-- Every token that may leave its source leaves it, in the order in which they were formed (R426). (DEDUCED, log entry 96) -/
def inject (s : State) : State :=
  if s.net.all (fun k => decide (k.vc ≠ 0)) then s else (List.range s.net.length).foldl injectOne s

/-- Tokens join the network at their sources. -/
def sendTokens (s : State) (ks : List Token) : State := { s with net := s.net ++ ks }.inject

/-- The token has left its source, and none that left before it on its channel between the same two units is still on the
way; the ingress buffers of VC2 are apart by slot (R425, R426). (DEDUCED, log entry 96) -/
def firstOnVc (s : State) (k : Token) : Bool :=
  decide (k.vc ≠ 0) &&
    !s.net.any (fun x => decide (x.vc = k.vc ∧ x.src = k.src ∧ x.dtile = k.dtile ∧ x.sent < k.sent ∧
      (k.vc = 1 ∨ tagSlot x.tag = tagSlot k.tag)))

/-- Tokens of a tile that wait in its egress buffer for a credit (R426). -/
def egressUsed (s : State) (t : Nat) : Nat :=
  (s.net.filter (fun k => decide (k.vc = 0 ∧ k.src = t) && s.forwardable k)).length

end State

end Sys2Proof.Machine
end

