-- ==== Sys2Proof/Machine/Banks.lean ====
section
/-! DEFINITION. Look-ups in the configuration banks (R496, R497): every look-up of a wafer uses the bank of its epoch. -/

namespace Sys2Proof.Machine

/-- 64 bits of a bank at a byte offset that is a multiple of 8 (R496). -/
def bankWord (b : List (Nat × Word)) (off : Nat) : Word := smGet b (off / 8) 0

/-- 32 bits of a bank at a byte offset that is a multiple of 4. -/
def bank32 (b : List (Nat × Word)) (off : Nat) : Nat :=
  if off % 8 < 4 then fld (bankWord b off) 31 0 else fld (bankWord b off) 63 32

/-- 16 bits of a bank at a byte offset that is a multiple of 2. -/
def bank16 (b : List (Nat × Word)) (off : Nat) : Nat :=
  natField (bank32 b (off / 4 * 4)) (off % 4 * 8 + 15) (off % 4 * 8)

/-- A byte of a bank. -/
def bank8 (b : List (Nat × Word)) (off : Nat) : Nat :=
  natField (bank32 b (off / 4 * 4)) (off % 4 * 8 + 7) (off % 4 * 8)

namespace State

/-- The epoch in force (R31). -/
def epochNow (s : State) : Nat := s.rfld Reg.TCK_EPOCH 31 0

/-- The bank of an epoch: the one in force, or one kept for an uncommitted wafer (R497). -/
def bankOf (s : State) (e : Nat) : List (Nat × Word) :=
  if e = s.epochNow then s.cfg.bank
  else match s.cfg.old.find? (fun x => decide (x.1 = e)) with
    | some x => x.2
    | none => s.cfg.bank

/-- Input and output bindings (R342): the handle, none where the entry is not valid. -/
def inBinding (s : State) (e n : Nat) : Option Nat :=
  let x := bank32 (s.bankOf e) (n * 4)
  if x.testBit 31 then some (x % 65536) else none
def outBinding (s : State) (e n : Nat) : Option Nat :=
  let x := bank32 (s.bankOf e) (0x4000 + n * 4)
  if x.testBit 31 then some (x % 65536) else none

/-- A bank binds a channel handle as input or output. -/
def bankBinds (b : List (Nat × Word)) (h : Nat) : Bool :=
  b.any (fun e => decide (e.1 < 0x1000) &&
    (decide (fld e.2 31 0 = 2 ^ 31 + h) || decide (fld e.2 63 32 = 2 ^ 31 + h)))

/-- An inbound entry of a bank names a channel handle (R404). -/
def bankInbound (b : List (Nat × Word)) (h : Nat) : Bool :=
  b.any (fun e => decide (0x1800 ≤ e.1 ∧ e.1 < 0x1900) && bit e.2 63 && decide (fld e.2 55 40 = h))

/-- Some bank in use, or the shadow of an open transaction, binds the handle (R344). -/
def isBound (s : State) (h : Nat) : Bool :=
  let any (b : List (Nat × Word)) : Bool := bankBinds b h || bankInbound b h
  any s.cfg.bank || s.cfg.old.any (fun x => any x.2) || (decide (s.cfg.txn ≠ .idle) && any s.cfg.shadow)

end State

end Sys2Proof.Machine
end

