-- ==== Sys2Proof/Machine/Channels.lean ====
section
/-! DEFINITION. Channels and queues (R324 to R355). -/

namespace Sys2Proof.Machine

/-- Producer and consumer kinds (Table 11.1). -/
def pkGraph : Nat := 0
def pkEngine : Nat := 1
def pkAfe : Nat := 2
def pkTach : Nat := 3
def pkTsl : Nat := 4
def pkFabric : Nat := 5
def ckWafer : Nat := 0
def ckEngine : Nat := 1
def ckPoll : Nat := 2
def ckTrip : Nat := 3

/-- A handle's channel (R324). -/
def Chan.handle (c : Chan) : Nat := c.gen * 4096 + c.index

/-- Words of the data ring and entries of the descriptor ring (R328). -/
def Chan.capWords (c : Chan) : Nat := (c.qblk * 256 + c.ovf * 65536) / c.width
def Chan.capDesc (c : Chan) : Nat := 2 ^ c.ndlog

/-- Words and descriptors that stored items use; the words of a partly read packet that are already removed are free. -/
def Chan.usedWords (c : Chan) : Nat := c.items.foldl (fun n i => n + i.words.length) 0 - c.readPos
def Chan.usedDesc (c : Chan) : Nat := c.items.length

/-- Queue RAM blocks and overflow units that a channel takes (R328). -/
def Chan.blocks (c : Chan) : Nat := (c.qblk + (2 ^ c.ndlog * 8 + 255) / 256) * (if c.tcls then 2 else 1)
def Chan.units (c : Chan) : Nat := c.ovf * (if c.tcls then 2 else 1)

/-- The complement copy of the ring pointers (R351). -/
def QPtrs.inverse (p : QPtrs) : QPtrs :=
  { head := 2 ^ 32 - 1 - p.head, tail := 2 ^ 32 - 1 - p.tail, dhead := 2 ^ 32 - 1 - p.dhead, dtail := 2 ^ 32 - 1 - p.dtail,
    rd := 2 ^ 32 - 1 - p.rd }

/-- The two copies agree (R351). -/
def Chan.ptrsAgree (c : Chan) : Bool := decide (c.ptrsInv = c.ptrs.inverse)

/-- The pointers with the bits of `x` changed in one of them. -/
def QPtrs.flipped (q : QPtrs) (p x : Nat) : QPtrs :=
  if p = 0 then { q with head := q.head ^^^ x } else if p = 1 then { q with tail := q.tail ^^^ x }
  else if p = 2 then { q with dhead := q.dhead ^^^ x } else if p = 3 then { q with dtail := q.dtail ^^^ x }
  else { q with rd := q.rd ^^^ x }

/-- The ring pointers of `c`, which was `old`: the heads move past what left, the tails past what came (R351). -/
def Chan.repoint (old c : Chan) : Chan :=
  let head := (old.ptrs.head + (old.usedWords - c.usedWords)) % c.capWords
  let dhead := (old.ptrs.dhead + (old.usedDesc - c.usedDesc)) % c.capDesc
  let p : QPtrs := { head := head, tail := (head + c.usedWords) % c.capWords, dhead := dhead,
                     dtail := (dhead + c.usedDesc) % c.capDesc, rd := (head + c.readPos) % c.capWords }
  { c with ptrs := p, ptrsInv := p.inverse }

/-- A gap marker awaits the consumer of an empty or waiting queue (R335). -/
def Chan.gapCount (c : Chan) : Nat :=
  match c.items with
  | [] => (c.iseq + 2 ^ 32 - c.last) % 2 ^ 32
  | i :: _ => if c.readPos = 0 then (i.iseq + 2 ^ 32 - c.last) % 2 ^ 32 else 0

def Firing.act (f : Firing) : Nat := tagAct f.tag
def Firing.slot (f : Firing) : Nat := tagSlot f.tag
def Firing.iaddr (f : Firing) : Nat := tagIaddr f.tag

namespace State

/-- The live channel of a handle (R324). -/
def chan? (s : State) (h : Nat) : Option Chan :=
  s.chans.find? (fun c => c.live && decide (c.handle = h % 65536))

/-- The channel at `c`'s index becomes `c`, with the ring pointers that follow. -/
def setChan (s : State) (c : Chan) : State :=
  { s with chans := s.chans.map (fun x => if x.index = c.index then x.repoint c else x) }

/-- The index is free and the handle carries its last generation (R324). -/
def chanDestroyed (s : State) (h : Nat) : Bool :=
  s.chans.any (fun c => !c.live && decide (c.handle = h % 65536))

/-- Free ring blocks and free overflow units (R328, R329, Table 11.9). -/
def qramFree (s : State) : Nat := 28672 - (s.chans.filter (·.live)).foldl (fun n c => n + c.blocks) 0
def ovfPool (s : State) : Nat :=
  let base := s.rfld Reg.CHN_OVF_BASE 47 16 * 65536
  let size := s.rfld Reg.CHN_OVF_SIZE 47 16
  if s.rbit Reg.CHN_OVF_BASE 0 && decide (base + size * 65536 ≤ s.sdramTop) then size else 0
def ovfFree (s : State) : Nat := s.ovfPool - (s.chans.filter (·.live)).foldl (fun n c => n + c.units) 0

/-- Blocks of the assembly area that an AFE packet of `n` samples takes (R328, R331). -/
def afeBlocks (n : Nat) : Nat := if n = 0 then 0 else ((4 + n) * 4 + 255) / 256

/-- Blocks of the assembly area in use (R328, R331): open packets of graphs and engines, the sample packets in progress, and
the items that the fabric unit holds (R406). -/
def asmUsed (s : State) : Nat :=
  s.openPkts.foldl (fun n p =>
    let w := match s.chan? p.handle with
      | some c => c.width
      | none => 32
    n + max 1 ((p.words.length * w + 255) / 256)) 0 +
  s.afe.foldl (fun n a => n + afeBlocks a.pkt.length) 0 + s.fab.items.length

/-- Firings that wait on a channel look again (R340, R165). -/
def wakeChannel (s : State) : State :=
  { s with firings := s.firings.map (fun f => if f.wait = .channel then { f with wait := .none } else f) }

/-- An entry for an engine's event queue: kinds 1 to 4 merge per handle, and a full channel part loses the entry
(R370). -/
def engineEntry (s : State) (n kind handle data : Nat) : State :=
  let e := s.engineAt n
  let same (x : EvqEntry) : Bool := decide (x.kind = kind ∧ x.handle = handle)
  if decide (1 ≤ kind ∧ kind ≤ 4) && e.evq.any same then
    s.updEngine n (fun e => { e with evq := e.evq.map (fun x =>
      if same x then (if kind = 4 then { x with data := min (x.data + data) (2 ^ 32 - 1) } else { x with data := data }) else x) })
  else if kind ≠ 6 ∧ 64 ≤ (e.evq.filter (fun x => decide (x.kind ≠ 6))).length then s.rsetBit (Reg.CEN_STATUS n) 8 true
  else s.updEngine n (fun e => { e with evq := e.evq ++ [⟨kind, handle, data⟩] })

/-- An event to the consumer of an ENGINE channel. -/
def consumerEvent (s : State) (c : Chan) (kind data : Nat) : State :=
  if c.ckind = ckEngine then s.engineEntry c.cunit kind c.handle data else s

/-- The acknowledgement of `n` T-class packets to an engine producer (R337, R370). -/
def ackProducer (s : State) (c : Chan) (n : Nat) : State :=
  if c.tcls && decide (c.pkind = pkEngine) && decide (n ≠ 0) then s.engineEntry c.punit 4 c.handle n else s

/-- Sends of graphs to a channel that are still to be performed: activation, and whether the send closes its packet; those
that have committed come first. -/
def pendingSends (s : State) (h : Nat) : List (Nat × Bool) :=
  s.eventBuf.filterMap (fun b => match b.ev with
    | .chSend k _ close _ => if k = h then some (b.act, close) else none
    | _ => none) ++
  (s.firings.flatMap (fun f => f.effects.filterMap (fun e => match e with
    | .chSend k _ close _ => if k = h then some (f.act, close) else none
    | _ => none)))

/-- Words that open packets and sends still to be performed hold in reserve (R336). -/
def reservedWords (s : State) (c : Chan) : Nat :=
  (s.openPkts.filter (fun p => decide (p.handle = c.handle))).foldl (fun n p => n + p.words.length) 0 +
    (s.pendingSends c.handle).length + c.granted

/-- An activation has an open packet on a channel (R331). -/
def graphOpen (s : State) (h act : Nat) : Bool :=
  s.openPkts.any (fun p => decide (p.handle = h) && (match p.owner with
    | .graph a _ _ => decide (a = act)
    | _ => false))

/-- Packets that the sends of one activation will still open, and whether one is open after them. -/
def opensOf : Bool → List Bool → Nat × Bool
  | o, [] => (0, o)
  | o, close :: rest =>
    let r := opensOf (!close) rest
    (b2n (!o) + r.1, r.2)

/-- The pending sends of one activation. -/
def sendsOf (s : State) (h act : Nat) : List Bool :=
  ((s.pendingSends h).filter (fun x => decide (x.1 = act))).map (·.2)

/-- Descriptors in reserve: one for each open packet and one for each packet that a pending send will open (R336). -/
def reservedDesc (s : State) (c : Chan) : Nat :=
  (s.openPkts.filter (fun p => decide (p.handle = c.handle))).length +
    (((s.pendingSends c.handle).map (·.1)).eraseDups.foldl (fun n a =>
      n + (opensOf (s.graphOpen c.handle a) (s.sendsOf c.handle a)).1) 0) + c.granted

/-- The open packet of an owner on a channel (R331). -/
def openPkt? (s : State) (h : Nat) (o : PktOwner) : Option OpenPkt :=
  s.openPkts.find? (fun p => decide (p.handle = h ∧ p.owner = o))

/-- A word may be appended now: assembly space, and for T-class a credit (R332, R336). -/
def canAppend (s : State) (c : Chan) (o : PktOwner) : Bool :=
  let isOpen := match o with
    | .graph act _ _ => (opensOf (s.graphOpen c.handle act) (s.sendsOf c.handle act)).2
    | _ => (s.openPkt? c.handle o).isSome
  decide (s.asmUsed < 4096) &&
    (!c.tcls ||
      (decide (c.usedWords + s.reservedWords c + 1 ≤ c.capWords) &&
        (isOpen || decide (c.usedDesc + s.reservedDesc c + 2 ≤ c.capDesc))))

/-- The item would lie in a window that is complete, or before the open time of the channel's first window (R17, R339). -/
def isLate (s : State) (c : Chan) (t : Nat) : Bool :=
  match c.doneT with
  | some d => decide (t < d)
  | none => !s.tick.started || decide (t < max s.tick.firstOpen c.openT)

/-- A packet dropped: its ISEQ is used up (R333, R334); an empty queue shows the gap at once (R335). -/
def dropPacket (s : State) (c : Chan) : State :=
  let c' := { c with iseq := (c.iseq + 1) % 2 ^ 32 }
  let s1 := (s.setChan c').rinc Reg.CHN_DROPS
  if c.items.isEmpty && decide (c.ckind ≠ ckWafer ∧ c.gapCount = 0) then s1.consumerEvent c' 1 0 else s1

/-- Words of items that lie in queue RAM. -/
def ramWords (c : Chan) : Nat := (c.items.filter (fun i => !i.ovf)).foldl (fun n i => n + i.words.length) 0

/-- A packet stored: in queue RAM while it fits, in overflow otherwise (R329, R333), with the consumer's events. -/
def storePacket (s : State) (c : Chan) (ws : List Nat) (t : Nat) (ctx : Bool) (src : Option Nat) : State :=
  let ovf := c.items.any (·.ovf) || decide (c.qblk * 256 / c.width < ramWords c + ws.length)
  let it : Item := { iseq := c.iseq, words := ws, time := t, ovf := ovf, ctx := ctx, src := src, win := none }
  let wasEmpty := c.items.isEmpty
  let c' := { c with iseq := (c.iseq + 1) % 2 ^ 32, items := c.items ++ [it],
                     tailT := if wasEmpty then s.clock else c.tailT }
  let s1 := s.setChan c'
  let s2 := if wasEmpty then s1.consumerEvent c' 1 0 else s1
  if c.evlvl ≠ 0 ∧ c.usedWords < c.evlvl ∧ c.evlvl ≤ c'.usedWords then s2.consumerEvent c' 3 c'.usedWords else s2

/-- A packet that commits to a channel (R331 to R339): duplicates of any incarnation of a graph producer are discarded, late
S-class items and S-class packets without room are dropped, every other packet is stored. -/
def commitPacket (s : State) (c : Chan) (o : PktOwner) (ws : List Nat) (t : Nat) (ctx : Bool) : State :=
  let fresh (s : State) (c : Chan) (src : Option Nat) : State :=
    if c.tcls then s.storePacket c ws t ctx src
    else if decide (c.ckind = ckWafer) && s.isLate c t then
      let s1 := ((s.dropPacket c).rinc Reg.CHN_LATE).rsetBit Reg.CHN_STATUS 2 true
      if s.rbit Reg.CHN_CTRL 1 then s1.event 0x0A0 0 0x70 c.handle else s1
    else if c.usedWords + ws.length ≤ c.capWords ∧ c.usedDesc + 2 ≤ c.capDesc then s.storePacket c ws t ctx src
    else s.dropPacket c
  match o with
  | .graph _ slot inc =>
    let sl := s.slotAt slot
    let src := if c.tcls then some sl.wafer else none
    let k := smGet c.kth (slot * 16 + inc) 0
    let c1 := { c with kth := smPut c.kth (slot * 16 + inc) 0 (k + 1) }
    if k < nth c.acc slot 0 then s.setChan c1
    else
      let c2 := { c1 with acc := updAt c1.acc slot (fun n => n + 1) }
      fresh (s.setChan c2) c2 src
  | _ => fresh s c none

/-- A word appended to the owner's open packet, which commits with `close` (R331); one that would make it longer than MAXLEN
is refused (R332). -/
def appendWord (s : State) (h : Nat) (o : PktOwner) (word : Nat) (t : Nat) (close ctx : Bool) : State :=
  match s.chan? h with
  | none => s
  | some c =>
    let p := (s.openPkt? h o).getD ⟨h, o, [], t, ctx⟩
    let rest := s.openPkts.filter (fun q => !decide (q.handle = h ∧ q.owner = o))
    let ws := p.words ++ [word]
    if c.maxlen < ws.length then s
    else if close then { s with openPkts := rest }.commitPacket c o ws t ctx
    else { s with openPkts := rest ++ [{ p with words := ws }] }

/-- A whole packet of a unit other than a graph or an engine (R296, R301): dropped when longer than MAXLEN (R332). -/
def unitPacket (s : State) (c : Chan) (ws : List Nat) (t : Nat) : State :=
  if c.maxlen < ws.length then s.dropPacket c else s.commitPacket c .unit ws t false

/-- Open packets that a choice names vanish (R332). -/
def rewind (s : State) (p : OpenPkt → Bool) : State := { s with openPkts := s.openPkts.filter (fun x => !p x) }.wakeChannel

/-- A replay of the slot's wafer is asked for and not yet complete. -/
def replayPending (s : State) (k : Nat) : Bool :=
  let names (j : RecJob) : Bool := j.slots.contains k
  s.recQ.any names || s.recCur.any names || (s.slotAt k).restore

/-- The wafer in a slot is COMPLETE (R27, R168). -/
def isComplete (s : State) (k : Nat) : Bool :=
  let x := s.slotAt k
  let mine (f : Firing) : Bool := decide (f.slot = k ∧ f.inc = x.inc)
  !s.acts.any (fun a => decide (a.slot = k ∧ a.wafer = x.wafer ∧ a.inc = x.inc ∧ a.state = .live)) &&
  !s.startReqs.any (fun r => decide (r.slot = k)) && !s.flowQ.any (fun r => decide (r.slot = k)) &&
  !s.firings.any (fun f => mine f && decide (f.stage = .executed) && (!f.stores.isEmpty || !f.effects.isEmpty)) &&
  !s.storeBuf.any (fun b => decide (b.slot = k ∧ b.wafer = x.wafer)) &&
  !s.eventBuf.any (fun b => decide (b.slot = k ∧ b.wafer = x.wafer)) &&
  !s.delays.any (fun d => decide (d.slot = k ∧ d.inc = x.inc)) &&
  !s.chans.any (fun c => c.items.any (fun i => decide (i.src = some x.wafer))) &&
  !s.fab.outs.any (fun o => decide (o.wafer = x.wafer)) && !s.replayPending k

/-- What can follow any change: tokens leave their sources (R426), and wafers have become COMPLETE; their journal segments
are emptied (R27, R473). (DEDUCED, log entry 32) -/
def settle (s0 : State) : State :=
  let s := s0.inject
  (List.range 8).foldl (fun (s : State) k =>
    let st := (s.slotAt k).state
    if (st = 1 ∨ st = 3) ∧ s.isComplete k then s.updSlot k (fun x => { x with state := 2, journal := [], nojrnl := false }) else s) s

/-- What a consumer other than WAFER takes next (R166, R335, R367). -/
inductive Taken where
  | empty
  | gap (n : Nat)
  | word (v iseq : Nat) (first last ctx : Bool)
  deriving DecidableEq, Repr

/-- The next word, gap or nothing, and the channel after it (R335, R337, R367). -/
def chanTake (c : Chan) : Taken × Chan × Nat :=
  let g := c.gapCount
  if g ≠ 0 then
    (.gap g, { c with last := match c.items with
                 | [] => c.iseq
                 | i :: _ => i.iseq }, 0)
  else
    match c.items with
    | [] => (.empty, c, 0)
    | i :: rest =>
      let v := nth i.words c.readPos 0
      let isLast := decide (c.readPos + 1 ≥ i.words.length)
      let r : Taken := .word v i.iseq (decide (c.readPos = 0)) isLast i.ctx
      if isLast then (r, { c with items := rest, readPos := 0, last := (i.iseq + 1) % 2 ^ 32 }, b2n c.tcls)
      else (r, { c with readPos := c.readPos + 1 }, 0)

/-- The consumer's removal of the next word (R335, R337, R349). -/
def takeNext (s : State) (c : Chan) : Taken × State :=
  let r := chanTake c
  let c' := { r.2.1 with tailT := s.clock }
  (r.1, ((s.setChan c').ackProducer c' r.2.2).wakeChannel.settle)

/-- DROP_PACKET (R347). -/
def dropPartly (s : State) (c : Chan) : State :=
  if c.readPos = 0 then s
  else
    match c.items with
    | [] => s
    | i :: rest =>
      let c' := { c with items := rest, readPos := 0, last := (i.iseq + 1) % 2 ^ 32, tailT := s.clock }
      ((s.setChan c').ackProducer c' (b2n c.tcls)).wakeChannel.settle

/-- FLUSH (R348). -/
def flushChan (s : State) (c : Chan) : State :=
  let n := c.items.length
  let c' := { c with items := [], readPos := 0, last := c.iseq, tailT := s.clock }
  ((s.setChan c').ackProducer c' n).wakeChannel.settle

/-- Fields of a CREATE (Table 11.10). -/
def chanOfArgs (a0 a1 : Word) : Chan :=
  let nd := fld a1 31 28
  { index := 0, gen := 0, live := true, freedAt := 0, tcls := bit a0 63, width := 4 * 2 ^ fld a0 59 58,
    maxlen := fld a0 57 46 + 1, pkind := fld a0 45 42, punit := fld a0 41 36, ckind := fld a0 35 32, cunit := fld a0 31 26,
    qblk := fld a1 15 0, ovf := fld a1 27 16, ndlog := if nd = 0 then 16 else nd, tmo := fld a1 63 48, evlvl := fld a1 47 32,
    iseq := 0, items := [], readPos := 0, last := 0, tailT := 0, stale := false, wasRst := false, resetting := false,
    windows := [], doneT := none, recHi := 0, acc := List.replicate 8 0, kth := [], granted := 0, openT := 0,
    ptrs := ⟨0, 0, 0, 0, 0⟩, ptrsInv := (⟨0, 0, 0, 0, 0⟩ : QPtrs).inverse }

/-- Table 11.2 and the ranges of Table 11.10. -/
def chanOk (c : Chan) : Bool :=
  decide (c.pkind ≤ 5 ∧ c.ckind ≤ 3 ∧ 4 ≤ c.ndlog ∧ 1 ≤ c.qblk ∧ c.qblk ≤ 28672) &&
  (decide (c.pkind ≠ pkAfe) || (!c.tcls && decide (c.width = 4))) &&
  (decide (c.pkind ≠ pkTach) || (!c.tcls && decide (c.width = 8 ∧ c.maxlen = 1))) &&
  (decide (c.pkind ≠ pkTsl) || !c.tcls) &&
  decide (¬(c.pkind = pkGraph ∧ c.ckind = ckWafer)) &&
  (decide (c.ckind ≠ ckTrip) || (c.tcls && decide (c.width = 8 ∧ c.maxlen = 1 ∧ c.pkind = pkGraph))) &&
  (decide (c.ckind ≠ ckPoll) || decide (c.maxlen = 1)) &&
  (decide (c.ckind = ckEngine) || decide (c.tmo = 0 ∧ c.evlvl = 0)) &&
  (!c.tcls || decide (c.maxlen ≤ c.capWords)) &&
  decide (c.punit < (if c.pkind = pkEngine then 8 else if c.pkind = pkAfe then 64 else if c.pkind = pkTach then 16
    else if c.pkind = pkTsl then 16 else 1)) &&
  decide (c.cunit < (if c.ckind = ckEngine then 8 else 1))

/-- The free index that has been free the longest, with its last generation (R325): an index never used before one
that was freed. (DEDUCED, log entry 34) -/
def freeIndex (s : State) : Option (Nat × Nat) :=
  if s.chans.length < 4096 then some (s.chans.length, 0)
  else
    (s.chans.filter (fun c => !c.live)).foldl (fun (acc : Option Chan) c => match acc with
      | none => some c
      | some x => if c.freedAt < x.freedAt then some c else some x) none |>.map (fun c => (c.index, c.gen))

/-- A channel created: RSTAT and handle (R325 to R328). -/
def createChan (s : State) (a0 a1 : Word) : Nat × Nat × State :=
  let c := chanOfArgs a0 a1
  if !chanOk c then (1, 0, s)
  else
    match s.freeIndex with
    | none => (6, 0, s)
    | some (i, g) =>
      if s.qramFree < c.blocks ∨ s.ovfFree < c.units then (2, 0, s)
      else
        let c' := { c with index := i, gen := if g = 15 then 1 else g + 1, tailT := s.clock,
                           openT := if s.tick.started then s.tick.prevClose else 0 }
        (0, c'.handle, { s with chans := (s.chans.filter (fun x => decide (x.index ≠ i))) ++ [c'] })

/-- Sample packets in progress that a choice of analog channels names vanish (R332). -/
def rewindAfe (s : State) (p : Nat → Bool) : State :=
  { s with afe := (List.range s.afe.length).map (fun n =>
      let a := nth s.afe n Reset.afeChan
      if p n then { a with pkt := [], pktOvr := false } else a) }

/-- Items that the fabric unit holds for inbound entries of the channel (R406). -/
def heldFor (s : State) (h : Nat) (x : RsItem) : Bool :=
  let w := bankWord s.cfg.bank (0xC000 + x.entry * 8)
  bit w 63 && decide (fld w 55 40 = h)

/-- A channel destroyed: its open packets of every producer vanish with its items (R332, R344). -/
def destroyChan (s : State) (c : Chan) : State :=
  let s0 := { s with openPkts := s.openPkts.filter (fun p => decide (p.handle ≠ c.handle))
                     fab.items := s.fab.items.filter (fun x => !s.heldFor c.handle x) }
  let s1 := s0.rewindAfe (fun n => decide (s0.rfld (Reg.AFE_CH_DEST n) 15 0 = c.handle))
  let s1' := s1.setChan
    { c with live := false, freedAt := s.arrNo, items := [], readPos := 0, windows := [], granted := 0 }
  let s2 := { s1' with arrNo := s.arrNo + 1 }
  let s3 := if c.ckind = ckEngine then s2.engineEntry c.cunit 5 c.handle 0 else s2
  s3.wakeChannel.settle

/-- A master's command record. -/
def chnRec (s : State) (m : Nat) : ChnRec := (s.chnRecs.find? (fun r => decide (r.master = m))).getD ⟨m, 0, 0, 0, 0, 0⟩

def setChnRec (s : State) (r : ChnRec) : State :=
  { s with chnRecs := r :: s.chnRecs.filter (fun x => decide (x.master ≠ r.master)) }

/-- A command's end: RSTAT and handle in `CHN_RESP` (Table 11.10). (DESIGN CHOICE, log entry 31) -/
def chnDone (s : State) (m rstat h : Nat) : State :=
  s.setChnRec { s.chnRec m with op := 0, resp := w64 (2 ^ 63 + 2 * 2 ^ 60 + rstat * 2 ^ 32 + h) }

/-- Masters that may issue channel commands (R354). -/
def chnMaster (m : Nat) : Bool := decide (0x10 ≤ m ∧ m ≤ 0x19)

/-- A command on the channel that the master's ARG0 names (R345). -/
def onChan (s : State) (m : Nat) (f : Chan → Nat × State) : State :=
  let h := fld (s.chnRec m).arg0 15 0
  match s.chan? h with
  | none => s.chnDone m 3 h
  | some c => let r := f c; r.2.chnDone m r.1 h

/-- The master is the consumer of an ENGINE channel (R346). -/
def isConsumer (m : Nat) (c : Chan) : Bool := decide (c.ckind = ckEngine ∧ m = 0x10 + c.cunit)

def chnCreate (s : State) (m : Nat) : State :=
  let r := s.chnRec m
  let x := s.createChan r.arg0 r.arg1
  x.2.2.chnDone m x.1 (if x.1 = 0 then x.2.1 else 0)

def chnDestroy (s : State) (m : Nat) : State :=
  s.onChan m (fun c => if s.isBound c.handle then (4, s) else (0, s.destroyChan c))

def chnFlush (s : State) (m : Nat) : State :=
  s.onChan m (fun c => if isConsumer m c then (0, s.flushChan c) else (5, s))

def chnDropPacket (s : State) (m : Nat) : State :=
  s.onChan m (fun c => if isConsumer m c then (0, s.dropPartly c) else (5, s))

/-- QUERY (R354, Table 11.10): STALE and RESET start again. -/
def chnQuery (s : State) (m : Nat) : State :=
  s.onChan m (fun c =>
    let d := w64 (c.usedWords * 2 ^ 36 + b2n (c.items.any (·.ovf)) * 2 ^ 35 + b2n c.stale * 2 ^ 34 +
      b2n (decide (c.ckind ≠ ckWafer) && decide (c.gapCount ≠ 0)) * 2 ^ 33 + b2n c.wasRst * 2 ^ 32 + c.iseq)
    let s1 := s.setChan { c with stale := false, wasRst := false }
    (0, s1.setChnRec { s1.chnRec m with data := d }))

/-- A write to `CHN_CMD` by its OP: the record is PENDING until the command of its OP is carried out; an OP that is none is
answered at once, and a write while PENDING is ignored (R354). -/
def chnCommand (s : State) (m : Nat) (v : Word) : State :=
  let op := fld v 3 0
  let r := s.chnRec m
  let h := fld r.arg0 15 0
  if r.op ≠ 0 then s.rsetBit Reg.CHN_STATUS 4 true
  else if op = 0 ∨ 5 < op then s.chnDone m 7 h
  else s.setChnRec { r with op := op, resp := w64 (2 ^ 63 + 2 ^ 60 + (if op = 1 then 0 else h)) }

/-- The command of a master with the given OP: the write of `CHN_CMD`, where it is not PENDING yet, and its completion
(R354). -/
def chnRun (s : State) (m op : Nat) (f : State → State) : State :=
  let r := s.chnRec m
  if r.op ≠ 0 ∧ r.op ≠ op then s.rsetBit Reg.CHN_STATUS 4 true else f s

/-- A closing tick ends a window of every live WAFER channel (R339). -/
def openWindows (s : State) (wafer openT closeT : Nat) : State :=
  { s with chans := s.chans.map (fun c =>
      if c.live && decide (c.ckind = ckWafer) then
        { c with windows := c.windows ++ [⟨wafer, openT, closeT, 0, 0, false⟩] }
      else c) }

/-- A wafer that is closed and not committed (R340). -/
def waferOpen (s : State) (w : Nat) : Bool :=
  s.closed.any (fun c => decide (c.num = w)) || s.slots.any (fun k => decide (k.state ≠ 0 ∧ k.wafer = w))

/-- The oldest incomplete window of a channel completes: its items and its ISEQ bounds are recorded, T-class items are
acknowledged, and CHN reads that wait go on (R337, R339, R340). (DEDUCED, log entry 33) -/
def completeWindow (s : State) (c : Chan) : State :=
  match c.windows.find? (fun w => !w.done) with
  | none => s
  | some w =>
    let mine (i : Item) : Bool := i.win.isNone && decide (i.time < w.closeT)
    let n := (c.items.filter mine).length
    let items := c.items.map (fun i => if mine i then { i with win := some w.wafer, src := none } else i)
    let ws := c.windows.map (fun x => if x = w then { x with lo := c.recHi, hi := c.iseq, done := true } else x)
    let keep := s.waferOpen w.wafer
    let c' := { c with items := if keep then items else items.filter (fun i => decide (i.win ≠ some w.wafer)),
                       windows := if keep then ws else ws.filter (fun x => decide (x.wafer ≠ w.wafer)),
                       doneT := some w.closeT, recHi := c.iseq }
    ((s.setChan c').ackProducer c' (if c.tcls then n else 0)).wakeChannel

/-- The producer of a channel can commit no more items of a window that closes at `t` (Table 11.3); a FABRIC window is
judged by the fabric (R406). -/
def windowDue (s : State) (c : Chan) (t : Nat) : Bool :=
  if c.pkind = pkAfe then decide (t ≤ (s.afeCh c.punit).lastT)
  else if c.pkind = pkTach then decide (t + s.rfld (Reg.AFE_TACH_CFG c.punit) 63 48 + 100 ≤ s.now)
  else if c.pkind = pkTsl then decide (t + max 1 (s.rfld Reg.CHN_TSL_LATE 15 0) * 1000 ≤ s.now)
  else decide (t ≤ s.now)

/-- Words of a wafer's view of a channel, HEAD excluded: items and gaps in ISEQ order from relative ISEQ `cur` with
`gap` missing so far (R341).  An ISEQ is missing where no stored item holds it. -/
def viewBody (w : Window) : List Item → Nat → Nat → List Nat
  | [], cur, gap =>
    let g := gap + ((w.hi + 2 ^ 32 - w.lo) % 2 ^ 32 - cur)
    if g = 0 then [] else [2 * 2 ^ 30 + min g (2 ^ 30 - 1)]
  | i :: rest, cur, gap =>
    let span := (w.hi + 2 ^ 32 - w.lo) % 2 ^ 32
    let r := (i.iseq + 2 ^ 32 - w.lo) % 2 ^ 32
    let g := if r < span then gap + (r - cur) else gap
    let cur' := if r < span then r + 1 else cur
    if i.win = some w.wafer then
      (if g = 0 then [] else [2 * 2 ^ 30 + min g (2 ^ 30 - 1)]) ++ (2 ^ 30 + i.words.length) :: i.words ++
        viewBody w rest cur' 0
    else viewBody w rest cur' g

/-- A wafer's view of a channel: none while its window is not complete (R340, R341). -/
def waferView (_s : State) (c : Chan) (wafer : Nat) : Option (List Nat) :=
  match c.windows.find? (fun w => decide (w.wafer = wafer)) with
  | none => some [1]
  | some w =>
    if w.done then
      let b := viewBody w c.items 0 0
      some ((b.length + 1) :: b)
    else none

/-- Missing ISEQs of all of a wafer's windows (R341). -/
def waferGaps (s : State) (wafer : Nat) : Nat :=
  s.chans.foldl (fun n c =>
    c.windows.foldl (fun n w =>
      if w.wafer = wafer ∧ w.done then
        n + ((w.hi + 2 ^ 32 - w.lo) % 2 ^ 32 -
          (c.items.filter (fun i => decide ((i.iseq + 2 ^ 32 - w.lo) % 2 ^ 32 < (w.hi + 2 ^ 32 - w.lo) % 2 ^ 32))).length)
      else n) n) 0

/-- A committed wafer's windows and counts released (R29, R336, R338, R340). -/
def releaseWindows (s : State) (wafer slot : Nat) : State :=
  { s with chans := s.chans.map (fun (c : Chan) =>
      c.repoint { c with
               items := c.items.filter (fun i => decide (i.win ≠ some wafer)),
               windows := c.windows.filter (fun w => !(w.done && decide (w.wafer = wafer))),
               acc := updAt c.acc slot (fun _ => 0), kth := c.kth.filter (fun e => decide (e.1 / 16 ≠ slot)) }) }.wakeChannel

/-- The queue reset (R352): causes of Table 11.10. -/
def queueReset (s : State) (c : Chan) (cause : Nat) : State :=
  let keep := c.items.filter (fun i => i.win.isSome || c.tcls)
  let c' := { c with items := if c.ckind = ckWafer ∨ c.tcls then keep else [], readPos := 0, wasRst := true }
  let s1 := (((s.setChan c').rinc Reg.CHN_QRESETS).rset Reg.CHN_QRESET_LAST
    (w64 (2 ^ 63 + cause * 2 ^ 32 + c.handle))).rsetBit Reg.CHN_STATUS 3 true
  let j : RecJob := ⟨4, 2, 0x0A0, c.index, 0, [], s.clock, none⟩
  let s2 := s1.report (Report.plain 2 0x0A0 0x0B 0 c.handle) none
  let s3 := if s2.dead then s2 else s2.closeRecovery j 0
  (if c'.items.isEmpty && decide (c'.gapCount ≠ 0) then s3.consumerEvent c' 1 0 else s3).wakeChannel.settle

/-- An access reads a pointer of a channel: a mismatch of its binary copy with the complement resets the queue (R351). -/
def pointerRead (s : State) (c : Chan) (e : PtrFault) : State :=
  if ({ c with ptrs := c.ptrs.flipped e.ptr (e.bits % 2 ^ 32) } : Chan).ptrsAgree then s else s.queueReset c 1

/-- The stale-tail timer's expiry (R349). -/
def staleTail (s : State) (c : Chan) : State :=
  if c.tmo ≠ 0 ∧ c.items ≠ [] ∧ c.tailT + c.tmo * 1000 ≤ s.clock then
    let s1 := (s.setChan { c with stale := true, tailT := s.clock }).consumerEvent c 2 0
    let s2 := (s1.rsetBit (Reg.CHN_STALE (c.index / 64)) (c.index % 64) true).rsetBit Reg.CHN_STATUS 1 true
    if s.rbit Reg.CHN_CTRL 0 then s2.event 0x0A0 0 0x71 c.handle else s2
  else s

/-- The oldest item in overflow moves back when queue RAM has room (R329). -/
def moveBack (s : State) (c : Chan) : State :=
  match c.items.find? (·.ovf) with
  | none => s
  | some i =>
    if ramWords c + i.words.length ≤ c.qblk * 256 / c.width then
      s.setChan { c with items := c.items.map (fun x => if x.iseq = i.iseq then { x with ovf := false } else x) }
    else s

/-- A command on the live channel at index `i`. -/
def atIndex (s : State) (i : Nat) (f : State → Chan → State) : State :=
  match s.chans.find? (fun c => c.live && decide (c.index = i)) with
  | some c => f s c
  | none => s

/-- Analog channels with a packet in progress. -/
def afeOpen (s : State) : List Nat :=
  (List.range s.afe.length).filter (fun n => !(nth s.afe n Reset.afeChan).pkt.isEmpty)

/-- An uncorrectable error in the `n`-th packet of the assembly area (Table 11.6): open packets of graphs and engines come
first, then the sample packets in progress, then the items that the fabric unit holds. -/
def asmError (s : State) (n : Nat) (r : Report) : State :=
  match s.openPkts[n]? with
  | some p =>
    let s1 := { s with openPkts := s.openPkts.eraseIdx n }.wakeChannel
    (match p.owner with
     | .graph _ slot _ => s1.report { r with cls := 2 } (some (s1.newJob 5 2 r.src 0 0 [slot]))
     | .engine k => (s1.updEngine k (fun x => { x with fault := some (3, p.handle) })).report r none
     | .unit => s1.report r none)
  | none =>
    let n1 := n - s.openPkts.length
    match s.afeOpen[n1]? with
    | some c => ((s.rewindAfe (fun k => decide (k = c))).wakeChannel).report r none
    | none =>
      let n2 := n1 - s.afeOpen.length
      if n2 < s.fab.items.length then ({ s with fab.items := s.fab.items.eraseIdx n2 }.wakeChannel).report r none else s

/-- A queue RAM error on channel index `i` (Table 11.6): `kind` 0 ring word or descriptor outside completed windows,
1 word of a completed window, 2 retained copy (`both`: the ring copy has failed as well), 3 assembly area (`n` the
packet), 4 both copies of a channel descriptor. -/
def qramError (s : State) (i kind n : Nat) (both : Bool) (e : Codeword) : State :=
  let r := Report.plain 0 0x0A0 1 0 (eccDetail e)
  let slot : Bool := match s.openPkts[n]? with
    | some ⟨_, .graph .., _, _, _⟩ => true
    | _ => false
  let cls := if kind = 1 ∨ kind = 4 then 4 else if kind = 0 ∨ (kind = 2 ∧ both) ∨ (kind = 3 ∧ slot) then 2 else 0
  let known := decide (kind ≠ 3) || decide (n < s.openPkts.length + s.afeOpen.length + s.fab.items.length)
  let last (s : State) (c : Nat) : State := s.rset Reg.CHN_ECC_LAST ({ r with cls := c } : Report).word
  match d144Check e with
  | .clean => s
  | .corrected _ _ => ((last s 0).rinc Reg.CHN_ECC_CE).report r none
  | .uncorrectable =>
    if !known then s
    else if kind = 0 then (last s cls).atIndex i (fun s c => s.queueReset c 2)
    else if kind = 1 ∨ kind = 4 then (last s cls).report { r with cls := 4 } none
    else if kind = 2 then (if both then (last s cls).atIndex i (fun s c => s.queueReset c 3) else (last s cls).report r none)
    else (last s cls).asmError n r

end State

def execChnCreate (m : Nat) (s : State) : Out := .next (s.onlyIf (s.mayWrite m && State.chnMaster m) (fun s => s.chnRun m 1 (·.chnCreate m)))
def execChnDestroy (m : Nat) (s : State) : Out := .next (s.onlyIf (s.mayWrite m && State.chnMaster m) (fun s => s.chnRun m 2 (·.chnDestroy m)))
def execChnFlush (m : Nat) (s : State) : Out := .next (s.onlyIf (s.mayWrite m && State.chnMaster m) (fun s => s.chnRun m 3 (·.chnFlush m)))
def execChnDropPacket (m : Nat) (s : State) : Out :=
  .next (s.onlyIf (s.mayWrite m && State.chnMaster m) (fun s => s.chnRun m 4 (·.chnDropPacket m)))
def execChnQuery (m : Nat) (s : State) : Out := .next (s.onlyIf (s.mayWrite m && State.chnMaster m) (fun s => s.chnRun m 5 (·.chnQuery m)))
def execStaleTailExpiry (i : Nat) (s : State) : Out := .next (s.atIndex i State.staleTail)
def execQueueReset (e : PtrFault) (s : State) : Out := .next (s.atIndex e.chan (fun s c => s.pointerRead c e))
def execQramEccError (i kind n : Nat) (both : Bool) (e : Codeword) (s : State) : Out := .next (s.qramError i kind n both e)
def execOverflowMoveBack (i : Nat) (s : State) : Out := .next (s.atIndex i State.moveBack)

end Sys2Proof.Machine
end

