-- ==== Sys2Proof/Machine/Afe.lean ====
section
/-! DEFINITION. The measurement front end, the comparators and the trip outputs (R290 to R323, R521). -/

namespace Sys2Proof.Machine

/-- A level after one sample (R302): `full` is the window's, `dly` the delay. (DEDUCED, log entry 36) -/
def levelStep (full met clear : Bool) (dly : Nat) (st : Bool) (run : Nat) : Bool × Nat :=
  if !full then (st, run)
  else if !st then (if met then (if dly < run + 1 then (true, run + 1) else (false, run + 1)) else (false, 0))
  else if clear then (false, 0)
  else (st, run)

/-- One kind after one sample (R302, R303): `lim` its limits register, `en` its enable bit, `ge n` whether its measure
reaches `n` codes. -/
def kindStep (lim : Word) (en full : Bool) (dlyA dlyD : Nat) (ge : Nat → Bool) (m : CmpState) : CmpState :=
  if !en then { stA := false, stD := false, runA := 0, runD := 0 }
  else
    let c (l : Nat) : Nat := max (l - 16 * fld lim 63 48) 1
    let la := fld lim 23 0
    let ld := fld lim 47 24
    let a := if la = 0 then (false, 0) else levelStep full (ge la) (!ge (c la)) dlyA m.stA m.runA
    let d := if ld = 0 then (false, 0) else levelStep full (ge ld) (!ge (c ld)) dlyD m.stD m.runD
    { stA := a.1, stD := d.1, runA := a.2, runD := d.2 }

/-- Comparator states as COND shows them (Table 10.15). -/
def AfeChan.cond (a : AfeChan) : Nat :=
  b2n a.rms.stD * 32 + b2n a.rms.stA * 16 + b2n a.pp.stD * 8 + b2n a.pp.stA * 4 + b2n a.pk.stD * 2 + b2n a.pk.stA

/-- Largest and least of a list of samples. -/
def listMax (xs : List Int) : Int := xs.foldl max (xs.headD 0)
def listMin (xs : List Int) : Int := xs.foldl min (xs.headD 0)

/-- Rate in S/s of a rate code (Table 10.2). -/
def rateOf (code : Nat) : Nat := 1000 * 2 ^ code

/-- Samples that a path discards while its filter settles (R295). -/
def settleOf (fast : Bool) : Nat := if fast then 8 else 80

/-- Codes at the ends of a range (Table 10.1). -/
def rangeHi (r : Bool) : Int := if r then 699050 else 8388607
def rangeLo : Int := -8388608

/-- Health codes in order of classification (Table 10.5). -/
def healthClass (compl : Bool) (v flo wlo whi fhi : Int) : Nat :=
  if compl then 5 else if v < flo then 3 else if fhi < v then 4 else if v < wlo then 1 else if whi < v then 2 else 0

/-- A sample with timestamp `ts` leaves the measurement filter: the ticks that it has reached are behind it (R297). -/
def AfeChan.reached (a : AfeChan) (ts : Nat) : AfeChan :=
  { a with lastT := ts, cuts := a.cuts.filter (fun x => decide (ts < x)) }

/-- Shadowed registers (Tables 10.12 and 10.14). -/
def shadowedRegs : List Nat :=
  (List.range 64).flatMap (fun c => [Reg.AFE_CH_DEST c, Reg.AFE_CH_REF c, Reg.AFE_CH_HTH c, Reg.AFE_CH_HQUAL c,
    Reg.TRP_CH_PK c, Reg.TRP_CH_PP c, Reg.TRP_CH_RMS c, Reg.TRP_CH_WIN c]) ++
  (List.range 16).flatMap (fun t => [Reg.AFE_TACH_DEST t, Reg.TRP_TACH_OS t]) ++
  (List.range 32).map Reg.TRP_OUT_VOTE ++ [Reg.TRP_GSRC]

/-- Address of a register's shadow (R320). -/
def shadowOf (a : Nat) : Nat := a + 0x8000

/-- A shadowed register, given its own address or its shadow's. -/
def shadowBase (a : Nat) : Option Nat :=
  if shadowedRegs.contains a then some a
  else if shadowedRegs.contains (a - 0x8000) ∧ 0x8000 ≤ a then some (a - 0x8000)
  else none

/-- The value that a write of a shadowed register takes: reserved bits 0, fields clamped (Tables 10.13 and 10.15). -/
def shadowValue (a : Nat) (v : Word) : Word :=
  let m := match regRowAt a with
    | some r => v &&& r.rw
    | none => 0
  if regBlock a = 0x40 ∧ regOff a % 0x40 = 0x20 ∧ regOff a < 0x2000 then setFld m 15 0 (clampNat 1 10000 (fld m 15 0))
  else if regBlock a = 0x41 ∧ 0x2000 ≤ regOff a ∧ regOff a < 0x3000 ∧ regOff a % 0x40 = 0x18 then
    setFld (setFld m 7 4 (clampNat 1 12 (fld m 7 4))) 3 0 (clampNat 1 12 (fld m 3 0))
  else m

namespace State

/-- A shadowed register's value comes into force: windows restart, and the run counts of their kinds with them, where REF,
PPW or RMSW changes, a kind that it disables takes state 0, and a reserved vote source sets CFGERR (R305, R321). -/
def enforce (s : State) (a : Nat) (v : Word) : State :=
  let old := s.rget a
  let s1 := s.rset a v
  if old = v then s1
  else if regBlock a = 0x40 ∧ regOff a < 0x2000 ∧ regOff a % 0x40 = 0x10 then
    let c := (regOff a - 0x100) / 0x40
    let x := s1.afeCh c
    s1.setAfeCh c { x with win := [], ppFill := 0, rmsFill := 0,
                           pp := { x.pp with runA := 0, runD := 0 }, rms := { x.rms with runA := 0, runD := 0 } }
  else if regBlock a = 0x41 ∧ 0x2000 ≤ regOff a ∧ regOff a < 0x3000 ∧ regOff a % 0x40 = 0x18 then
    let c := (regOff a - 0x2000) / 0x40
    let x := s1.afeCh c
    let off : CmpState := { stA := false, stD := false, runA := 0, runD := 0 }
    let pp1 := if fld old 3 0 = fld v 3 0 then x.pp else { x.pp with runA := 0, runD := 0 }
    let rm1 := if fld old 7 4 = fld v 7 4 then x.rms else { x.rms with runA := 0, runD := 0 }
    s1.setAfeCh c { x with ppFill := if fld old 3 0 = fld v 3 0 then x.ppFill else 0,
                           rmsFill := if fld old 7 4 = fld v 7 4 then x.rmsFill else 0,
                           pk := if bit v 49 then x.pk else off, pp := if bit v 50 then pp1 else off,
                           rms := if bit v 51 then rm1 else off }
  else if regBlock a = 0x41 ∧ 0x1000 ≤ regOff a ∧ regOff a < 0x2000 then
    (if [fld v 25 16, fld v 41 32, fld v 57 48].any (fun x => decide (voteSrcOf x = .reserved)) then
      s1.rsetBit Reg.TRP_STATUS 3 true else s1)
  else s1

/-- A write to a shadowed register or its shadow (R320). -/
def shadowWrite (s : State) (a : Nat) (v : Word) : State :=
  match shadowBase a with
  | none => s
  | some b =>
    let w := shadowValue b v
    if s.running then s.rset (shadowOf b) w
    else tripEval ((s.enforce b w).rset (shadowOf b) w) 0

/-- Every shadow comes into force (R320). -/
def shadowApply (s : State) : State :=
  tripEval (shadowedRegs.foldl (fun (s : State) a =>
    let v := s.rget (shadowOf a)
    if s.rget a = v then s else s.enforce a v) s) 0

/-- A write to `AFE_CTRL` (Table 10.13): START begins settling and starts the windows (R295, R303). -/
def afeCtrl (s : State) (v : Word) : State :=
  let s1 := s.rwrite Reg.AFE_CTRL v
  if bit v 0 && !s.rbit Reg.AFE_CTRL 0 then
    { s1 with afe := s1.afe.map (fun a => { Reset.afeChan with health := a.health, cand := a.cand, candN := a.candN })
              tachs := s1.tachs.map (fun _ => Reset.tach) }
  else s1

/-- A write to `AFE_CHc_CFG` (R292). -/
def afeChannelCfg (s : State) (c : Nat) (v : Word) : State :=
  if s.rbit Reg.AFE_CTRL 0 then s.rsetBit Reg.AFE_STATUS 0 true
  else if s.locked then s
  else
    let bad := (bit v 2 && (bit v 1 || decide (fld v 8 4 < 4 ∨ 20 < fld v 8 4))) || decide (8 < fld v 15 12) ||
      decide (8 < fld v 23 20)
    let s1 := s.rwrite (Reg.AFE_CH_CFG c) v
    tripEval (if bad then (s1.rsetBit (Reg.AFE_CH_CFG c) 0 false).rsetBit Reg.AFE_STATUS 1 true else s1) 0

/-- A write to `AFE_TACHt_CFG` (R292, R300). -/
def afeTachCfg (s : State) (t : Nat) (v : Word) : State :=
  if s.rbit Reg.AFE_CTRL 0 then s.rsetBit Reg.AFE_STATUS 0 true
  else if s.locked then s
  else
    let thr := signedOf 16 (fld v 31 16)
    let bad := decide (fld v 47 32 < 50 ∨ 5000 < fld v 47 32 ∨ thr < -25000 ∨ 25000 < thr ∨ 10000 < fld v 63 48)
    let s1 := s.rwrite (Reg.AFE_TACH_CFG t) v
    tripEval (if bad then (s1.rsetBit (Reg.AFE_TACH_CFG t) 0 false).rsetBit Reg.AFE_STATUS 1 true else s1) 0

/-- A settled protection-path sample of channel `c` (R302). -/
def protect (s : State) (c : Nat) (x : Int) : State :=
  let a := s.afeCh c
  let ref := signedOf 24 (s.rfld (Reg.AFE_CH_REF c) 23 0)
  let wr := s.rget (Reg.TRP_CH_WIN c)
  let ppN := 2 ^ clampNat 1 12 (fld wr 3 0)
  let rmN := 2 ^ clampNat 1 12 (fld wr 7 4)
  let win := (x :: a.win).take 4096
  let ppFill := min (a.ppFill + 1) ppN
  let rmsFill := min (a.rmsFill + 1) rmN
  let y := x - ref
  let ppv := listMax (win.take ppN) - listMin (win.take ppN)
  let ss := ((win.take rmN).map (fun z => (z - ref) * (z - ref))).foldl (· + ·) 0
  let dA := fld wr 31 16
  let dD := fld wr 47 32
  let pk := kindStep (s.rget (Reg.TRP_CH_PK c)) (bit wr 49) true dA dD (fun n => decide ((n : Int) ≤ y.natAbs)) a.pk
  let pp := kindStep (s.rget (Reg.TRP_CH_PP c)) (bit wr 50) (decide (ppFill = ppN)) dA dD
    (fun n => decide ((n : Int) ≤ ppv)) a.pp
  let rms := kindStep (s.rget (Reg.TRP_CH_RMS c)) (bit wr 51) (decide (rmsFill = rmN)) dA dD
    (fun n => decide (((rmN * n * n : Nat) : Int) ≤ ss)) a.rms
  let s1 := s.setAfeCh c { a with win := win, ppFill := ppFill, rmsFill := rmsFill, pk := pk, pp := pp, rms := rms,
                                  lastY := y.natAbs }
  tripEval (s1.rmax (Reg.AFE_CH_PKHOLD c) y.natAbs) 0

/-- A protection-path output sample: the first ones are discarded while the filter settles (R295).
(DESIGN CHOICE, log entry 35) -/
def protectionSample (s : State) (c : Nat) (x : Int) : State :=
  let cfg := s.rget (Reg.AFE_CH_CFG c)
  if s.analogLock && s.rbit Reg.AFE_CTRL 0 && bit cfg 0 then
    let a := s.afeCh c
    if a.pSkip < settleOf (bit cfg 24) then s.setAfeCh c { a with pSkip := a.pSkip + 1 }
    else s.protect c (clampInt rangeLo (rangeHi (bit cfg 1)) x)
  else s

/-- The channel of a destination register that names one of the unit's class and width, with BADCFG where it does not
(R297, R301, R327). -/
def destChan (s : State) (dest : Word) (width pkind punit : Nat) : Option Chan × State :=
  if !bit dest 16 then (none, s)
  else
    match s.chan? (fld dest 15 0) with
    | some c => if !c.tcls && decide (c.width = width ∧ c.pkind = pkind ∧ c.punit = punit) then (some c, s)
                else (none, s.rsetBit Reg.AFE_STATUS 1 true)
    | none => (none, s.rsetBit Reg.AFE_STATUS 1 true)

/-- The packet in progress ends and is committed or discarded (R296, R297). -/
def endPacket (s : State) (c : Nat) : State :=
  let a := s.afeCh c
  if a.pkt.isEmpty then s
  else
    let cfg := s.rget (Reg.AFE_CH_CFG c)
    let w2 := c * 2 ^ 26 + fld cfg 15 12 * 2 ^ 22 + b2n (bit cfg 16) * 2 ^ 21 + a.pktHealth * 2 ^ 18 +
      a.pktCond * 2 ^ 12 +
      b2n a.pktOvr * 2 ^ 11 + a.pkt.length
    let ws := [a.pktT % 2 ^ 32, a.pktT / 2 ^ 32 % 2 ^ 32, w2, a.pktK % 2 ^ 32] ++ a.pkt.map (wrapInt 32)
    let s1 := s.setAfeCh c { a with pkt := [], pktOvr := false }
    if s.rbit Reg.AFE_CTRL 1 && s.rbit Reg.AFE_STATUS 4 then
      let d := s1.destChan (s.rget (Reg.AFE_CH_DEST c)) 4 pkAfe c
      match d.1 with
      | some ch => d.2.unitPacket ch ws a.pktT
      | none => d.2
    else s1

/-- The time at which a packet that starts at `t` must end (R297): the first tick after `t`, passed or next. -/
def packetEnd (s : State) (c t : Nat) : Nat :=
  ((s.afeCh c).cuts.filter (fun x => decide (t < x))).foldl min (s.rget Reg.TCK_NEXT).toNat

/-- A tick passes for the channels whose paths run (R297). -/
def cutPackets (s : State) (t : Nat) : State :=
  { s with afe := (List.range s.afe.length).map (fun c =>
      let a := s.afeCh c
      if s.rbit Reg.AFE_CTRL 0 && s.rbit (Reg.AFE_CH_CFG c) 0 then { a with cuts := a.cuts ++ [t] } else a) }

/-- A measurement-path output sample with grid index `k` (R294 to R297).  One that finds the assembly area full waits: the
command changes nothing then (R332). -/
def measurementSample (s : State) (c k : Nat) (x : Int) : State :=
  let cfg := s.rget (Reg.AFE_CH_CFG c)
  if s.analogLock && s.rbit Reg.AFE_CTRL 0 && bit cfg 0 then
    let a := s.afeCh c
    let ts := k * 10 ^ 9 / rateOf (fld cfg 15 12)
    if a.mSkip < settleOf (bit cfg 16) then s.setAfeCh c { a.reached ts with mSkip := a.mSkip + 1 }
    else
      let v := clampInt rangeLo (rangeHi (bit cfg 1)) x
      let clipped := decide (v ≠ x)
      let count (s : State) : State := if clipped then s.rinc (Reg.AFE_CH_OVR c) else s
      if !s.tick.started || decide (ts < s.tick.firstOpen) then (count s).setAfeCh c (a.reached ts)
      else
        let s1 := if a.pkt.isEmpty || decide (ts < s.packetEnd c a.pktT) then s else s.endPacket c
        let b := s1.afeCh c
        let n := b.pkt.length
        if 4096 < s1.asmUsed + (afeBlocks (n + 1) - afeBlocks n) then s1
        else
          let b1 := { b.reached ts with pkt := b.pkt ++ [v], pktHealth := b.health, pktCond := b.cond }
          let b2 := if n = 0 then { b1 with pktT := ts, pktK := k, pktOvr := clipped }
                    else { b1 with pktOvr := b.pktOvr || clipped }
          let s2 := (count s1).setAfeCh c b2
          let blk := if fld cfg 38 32 = 0 ∨ 64 < fld cfg 38 32 then 64 else fld cfg 38 32
          if n + 1 ≥ blk then s2.endPacket c else s2
  else s

/-- The tachometer pin stands at `v` mV: where it crosses THR + HYST ÷ 2 upward or THR − HYST ÷ 2 downward, the glitch wait
begins (R300). -/
def tachCrossing (s : State) (t : Nat) (v : Int) : State :=
  let cfg := s.rget (Reg.AFE_TACH_CFG t)
  if s.rbit Reg.AFE_CTRL 0 && bit cfg 0 then
    let x := s.tachAt t
    let thr := 2 * signedOf 16 (fld cfg 31 16)
    let hyst : Int := fld cfg 47 32
    if !x.level && decide (thr + hyst ≤ 2 * v) then s.setTach t { x with level := true, pend := some (true, s.now) }
    else if x.level && decide (2 * v ≤ thr - hyst) then s.setTach t { x with level := false, pend := some (false, s.now) }
    else s
  else s

/-- One overspeed level after an interval (R304). -/
def ovsLevel (l iv : Nat) (st : Bool) : Bool :=
  if l = 0 then false else if iv ≤ l then true else if l + l / 64 < iv then false else st

/-- A tachometer's comparator states in its register (Table 10.14). -/
def tachState (s : State) (t : Nat) (x : Tach) : State :=
  (s.setTach t x).rsetFld (Reg.TRP_TACH_STATE t) 1 0 (b2n x.stD * 2 + b2n x.stA)

/-- An edge whose level has held for GLITCH ns is qualified, kept or merged, queued and compared (R300, R301, R304). -/
def tachQualify (s : State) (t : Nat) : State :=
  let x := s.tachAt t
  let cfg := s.rget (Reg.AFE_TACH_CFG t)
  match x.pend with
  | none => s
  | some (r, t0) =>
    if s.now < t0 + fld cfg 63 48 then s
    else
      let sel := if r then bit cfg 1 else bit cfg 2
      let s1 := s.setTach t { x with pend := none }
      if !sel then s1
      else
        let s2 := s1.rinc (Reg.AFE_TACH_EDGES t)
        if x.kept && decide (t0 < x.lastKept + 500) then s2
        else
          let s3 := s2.rset (Reg.AFE_TACH_LAST t) (w64 t0)
          let ovs := if fld cfg 2 1 = 2 then !r else r
          let os := s.rget (Reg.TRP_TACH_OS t)
          let iv := t0 - x.lastOvs
          let y : Tach := { x with pend := none, kept := true, lastKept := t0 }
          let y1 : Tach := if ovs then
              { y with lastOvs := t0, hasOvs := true,
                       stA := if x.hasOvs then ovsLevel (fld os 31 0) iv x.stA else x.stA,
                       stD := if x.hasOvs then ovsLevel (fld os 63 32) iv x.stD else x.stD }
            else y
          let s4 := s3.tachState t y1
          let s5 := if ovs && x.hasOvs then s4.rsetFld (Reg.TRP_TACH_STATE t) 63 32 (min iv (2 ^ 32 - 1)) else s4
          let s6 :=
            if s.rbit Reg.AFE_STATUS 4 then
              let d := s5.destChan (s.rget (Reg.AFE_TACH_DEST t)) 8 pkTach t
              match d.1 with
              | some ch => d.2.unitPacket ch [b2n r * 2 ^ 63 + t0 % 2 ^ 63] t0
              | none => d.2
            else s5
          tripEval s6 0

/-- A level clears when its time passes with no further edge (R304). -/
def overspeedTimeout (s : State) (t : Nat) : State :=
  let x := s.tachAt t
  let os := s.rget (Reg.TRP_TACH_OS t)
  let past (l : Nat) : Bool := decide (x.lastOvs + l + l / 64 < s.now)
  tripEval (s.tachState t { x with stA := x.stA && !past (fld os 31 0), stD := x.stD && !past (fld os 63 32) }) 0

/-- A bias reading in mV (R298); `lost` says that the pin stands within 1.5 V of the IEPE rail, which sets COMPL only while
the channel's source is on (R291). -/
def biasReading (s : State) (c : Nat) (v : Int) (lost : Bool) : State :=
  let a := s.afeCh c
  let compl := lost && s.rbit (Reg.AFE_CH_CFG c) 2
  let th (w : Word) : Int × Int × Int × Int :=
    (signedOf 16 (fld w 15 0), signedOf 16 (fld w 31 16), signedOf 16 (fld w 47 32), signedOf 16 (fld w 63 48))
  let t0 := th (s.rget (Reg.AFE_CH_HTH c))
  let ok := decide (t0.1 ≤ t0.2.1 ∧ t0.2.1 ≤ t0.2.2.1 ∧ t0.2.2.1 ≤ t0.2.2.2)
  let t1 := if ok then t0 else th (regReset (Reg.AFE_CH_HTH c))
  let s0 := if ok then s else s.rsetBit Reg.AFE_STATUS 1 true
  let k := healthClass compl v t1.1 t1.2.1 t1.2.2.1 t1.2.2.2
  let n := if k = a.cand then a.candN + 1 else 1
  let change := decide (clampNat 1 10000 (s.rfld (Reg.AFE_CH_HQUAL c) 15 0) ≤ n ∧ k ≠ a.health)
  let h := if change then k else a.health
  let s1 := s0.setAfeCh c { a with cand := k, candN := n, health := h }
  let s2 := s1.rset (Reg.AFE_CH_HEALTH c) (w64 (wrapInt 16 v * 2 ^ 16 + b2n compl * 16 + h))
  let s3 := if change then s2.rsetBit Reg.AFE_STATUS 2 true else s2
  tripEval (if change && s.rbit Reg.AFE_CTRL 2 then s3.event 0x400 c 0x60 k else s3) 0

/-- A graph-demand word applied: G_k ← DEM[k] where SEL[k] is 1 (R308). -/
def demandWord (s : State) (v : Nat) : State :=
  let outs := (List.range 32).map (fun k =>
    let o := nth s.trip.outs k Reset.tripOut
    if v.testBit (32 + k) then { o with g := v.testBit k, lastG := s.clock } else o)
  tripEval { s with trip.outs := outs } 0

/-- The next word of the channel that `TRP_GSRC` in force names (R308); nothing crosses a lost link (R319). -/
def demandApply (s : State) : State :=
  let g := s.rget Reg.TRP_GSRC
  if !bit g 16 || !s.rbit Reg.AFE_STATUS 4 then s
  else
    match s.chan? (fld g 15 0) with
    | none => s
    | some c =>
      if c.ckind ≠ ckTrip then s
      else
        let r := s.takeNext c
        match r.1 with
        | .word v _ _ _ _ => r.2.demandWord v
        | _ => s

/-- A word of a TRIP channel that `TRP_GSRC` does not name with EN 1 (R308). -/
def demandDiscard (s : State) (i : Nat) : State :=
  s.atIndex i (fun s c =>
    let g := s.rget Reg.TRP_GSRC
    if c.ckind ≠ ckTrip ∨ (bit g 16 ∧ fld g 15 0 = c.handle) ∨ c.items = [] ∨ !s.rbit Reg.AFE_STATUS 4 then s
    else (s.takeNext c).2.rsetBit Reg.TRP_STATUS 9 true)

/-- The graph-demand watch of output `k` expires, by the analog die's own time base (R309). -/
def demandTimeout (s : State) (k : Nat) : State :=
  let cfg := s.rget (Reg.TRP_OUT_CFG k)
  let o := nth s.trip.outs k Reset.tripOut
  if fld cfg 31 16 ≠ 0 ∧ s.rbit Reg.TRP_CTRL 0 ∧ o.lastG + fld cfg 31 16 * 10 ^ 6 ≤ s.clock then
    let s1 := (s.rsetBit Reg.TRP_STATUS 1 true).event 0x410 0 0x62 k
    tripEval { s1 with trip.outs := updAt s1.trip.outs k (fun o => { o with g := o.g || bit cfg 3, lastG := s.clock }) } 0
  else s

/-- A write to `TRP_CTRL` (R310, R313, R314, R465, R485). -/
def trpCtrl (s : State) (v : Word) : State :=
  let s0 := s.rsetBit Reg.TRP_CTRL 1 (bit v 1)
  let refused := decide (s.trip.force = .c4 ∨ s.trip.force = .alive) || s.dead || s.rbit Reg.FCL_STATUS 4
  if !bit v 0 || refused then s0
  else
    let first := !s.rbit Reg.TRP_CTRL 0
    let s1 := { s0.rsetBit Reg.TRP_CTRL 0 true with trip.force := .none }
    tripEval (if first then { s1 with trip.outs := s1.trip.outs.map (fun o => { o with lastG := s.clock }) } else s1) 0

/-- A write to `TRP_OUTk_CFG` (R323). -/
def trpOutCfg (s : State) (k : Nat) (v : Word) : State :=
  if s.rbit Reg.TRP_CTRL 0 then s.rsetBit Reg.TRP_STATUS 0 true else tripEval (s.rwrite (Reg.TRP_OUT_CFG k) v) 0

/-- The group of output `k` names channel `c` (`tach` false) or tachometer `c`. -/
def groupNames (s : State) (k c : Nat) (tach : Bool) : Bool :=
  let v := s.rget (Reg.TRP_OUT_VOTE k)
  [fld v 25 16, fld v 41 32, fld v 57 48].any (fun x => match voteSrcOf x with
    | .chan _ _ d => !tach && decide (d = c)
    | .tach _ d => tach && decide (d = c)
    | _ => false)

/-- The two copies of a trip register differ: `kind` 0 an output's, 1 a channel's, 2 a tachometer's (R317). -/
def configMismatch (s : State) (kind i : Nat) : State :=
  let hit (k : Nat) : Bool := if kind = 0 then decide (k = i) else s.groupNames k i (decide (kind = 2))
  let outs := (List.range 32).map (fun k =>
    let o := nth s.trip.outs k Reset.tripOut
    { o with stuck := o.stuck || hit k })
  (tripEval { s with trip.outs := outs } 0).rsetBit Reg.TRP_STATUS 3 true |>.degrade 0x410 0x0C 0 (kind * 64 + i)

/-- A change of one output's driver, by a function of the output. -/
def updOut (s : State) (k : Nat) (f : TripOut → TripOut) : State :=
  { s with trip.outs := updAt s.trip.outs k f }

/-- The trip unit as at first application of its rail: FORCE, FCAUSE, ARM and every `TRP_OUTk_CFG` (R314). -/
def tripFirst (s : State) : State :=
  (List.range 32).foldl (fun (s : State) k => s.rset (Reg.TRP_OUT_CFG k) 0)
    ({ s with trip.force := .none }.rsetBit Reg.TRP_CTRL 0 false)

/-- The trip-driver rail leaves its range (R316, Table 15.16).  Before the device has reached READY, what a reset holds
in the trip unit is lost with it (R314). (DEDUCED, log entry 37) -/
def tripRailLoss (s : State) (mv : Nat) : State :=
  if !s.trip.rail then s
  else
    let s1 := if s.rfld Reg.BOOT_STATUS 63 60 < 5 then s.tripFirst else s
    (tripEval { s1 with trip.rail := false } 0).degrade 0x410 7 0 mv

end State

def execAfeStart (m : Nat) (v : Word) (s : State) : Out :=
  .next (s.onlyIf (s.mayWrite m) (·.afeCtrl (v ||| 1)))
def execAfeChannelConfig (m c : Nat) (v : Word) (s : State) : Out := .next (s.onlyIf (s.mayWrite m) (·.afeChannelCfg c v))
def execAfeTachConfig (m t : Nat) (v : Word) (s : State) : Out := .next (s.onlyIf (s.mayWrite m) (·.afeTachCfg t v))
def execShadowWrite (m a : Nat) (v : Word) (s : State) : Out := .next (s.onlyIf (s.mayWrite m) (·.shadowWrite a v))
def execProtectionSample (c : Nat) (x : Int) (s : State) : Out := .next (s.protectionSample c x)
def execMeasurementSample (c k : Nat) (x : Int) (s : State) : Out := .next (s.measurementSample c k x)
def execTachCrossing (t : Nat) (v : Int) (s : State) : Out := .next (s.tachCrossing t v)
def execTachEdgeQualify (t : Nat) (s : State) : Out := .next (s.tachQualify t)
def execOverspeedTimeout (t : Nat) (s : State) : Out := .next (s.overspeedTimeout t)
def execBiasReading (c : Nat) (v : Int) (compl : Bool) (s : State) : Out := .next (s.biasReading c v compl)
def execGraphDemandApply (s : State) : Out := .next s.demandApply
def execGraphDemandDiscard (i : Nat) (s : State) : Out := .next (s.demandDiscard i)
def execGraphDemandTimeout (k : Nat) (s : State) : Out := .next (s.demandTimeout k)

/-- TRP_RESET names the outputs of bits [31:0] (R307). -/
def execTrpReset (m : Nat) (v : Word) (s : State) : Out := .next (s.onlyIf (s.mayWrite m) (fun s => tripEval s (fld v 31 0)))

/-- TRP_FIRST_CLR clears VALID (Table 10.14). -/
def execTrpFirstClr (m : Nat) (v : Word) (s : State) : Out :=
  .next (s.onlyIf (s.mayWrite m && bit v 0) (fun s => s.rsetBit Reg.TRP_FIRST 63 false))

def execTrpArm (m : Nat) (v : Word) (s : State) : Out := .next (s.onlyIf (s.mayWrite m) (·.trpCtrl (v ||| 1)))

/-- The analog die sees no transition of ALIVE for 150 µs (R313, R461). -/
def execAliveSilenceForce (s : State) : Out :=
  .next (s.onlyIf (s.pins.aliveSeen && decide (s.pins.aliveT + 150000 ≤ s.clock)) (setForce · .alive))

def execTripRailLoss (mv : Nat) (s : State) : Out := .next (s.tripRailLoss mv)
def execTripRailRestore (s : State) : Out := .next (tripEval { s with trip.rail := true } 0)
def execTripConfigMismatch (kind i : Nat) (s : State) : Out := .next (s.configMismatch kind i)

/-- A sensed drain state that differs for more than 10 µs (R318). -/
def execDriverSenseMismatch (k : Nat) (s : State) : Out :=
  .next ((((s.updOut k (fun o => { o with sensed := !o.cond })).rsetBit Reg.TRP_DIAG k true).rsetBit Reg.TRP_STATUS 2
    true).event 0x410 0 0x63 k)

/-- A driver in current limit for 2 ms turns itself off (R521). -/
def execDriverCurrentLimit (k : Nat) (s : State) : Out :=
  .next (s.updOut k (fun o => if o.cond then { o with drvOff := true, sensed := false } else o))

/-- A driver that turned itself off tries again while conducting_k is 1 (R521). -/
def execDriverRetry (k : Nat) (s : State) : Out :=
  .next (s.updOut k (fun o => if o.cond && o.drvOff then { o with drvOff := false, sensed := true } else o))

/-- The die-to-die link is lost (R319). -/
def execDieLinkLoss (s : State) : Out := .next ((s.rsetBit Reg.AFE_STATUS 4 false).degrade 0x400 5 0 4)

/-- A codeword of the die-to-die link with its error pattern: a corrected one is C0 (R319). -/
def execDieLinkCorrection (e : Codeword) (s : State) : Out :=
  .next (match d144Check e with
    | .corrected _ _ => (s.rsetBit Reg.AFE_STATUS 3 true).report (Report.plain 0 0x400 1 0 (eccDetail e)) none
    | _ => s)

/-- A read leaves |y| of the latest protection-path sample in the register (R537). -/
def execAfePkholdRead (_m c : Nat) (s : State) : Out :=
  .next { s.rset (Reg.AFE_CH_PKHOLD c) (w64 (s.afeCh c).lastY) with lastRead := s.rget (Reg.AFE_CH_PKHOLD c) }

end Sys2Proof.Machine
end

