-- ==== Sys2Proof/Machine/Crypto.lean ====
section
/-! DEFINITION. The cryptographic functions that the spec names: SHA-384 (FIPS 180-4; R488, R492, R498,
R504), AES-256-GCM (FIPS 197 and SP 800-38D, R381) and the verification of ECDSA P-384 (FIPS 186-5, R489). -/

namespace Sys2Proof.Machine

def shaK0 : List Word :=
  [0x428A2F98D728AE22, 0x7137449123EF65CD, 0xB5C0FBCFEC4D3B2F, 0xE9B5DBA58189DBBC,
   0x3956C25BF348B538, 0x59F111F1B605D019, 0x923F82A4AF194F9B, 0xAB1C5ED5DA6D8118,
   0xD807AA98A3030242, 0x12835B0145706FBE, 0x243185BE4EE4B28C, 0x550C7DC3D5FFB4E2,
   0x72BE5D74F27B896F, 0x80DEB1FE3B1696B1, 0x9BDC06A725C71235, 0xC19BF174CF692694]
def shaK1 : List Word :=
  [0xE49B69C19EF14AD2, 0xEFBE4786384F25E3, 0x0FC19DC68B8CD5B5, 0x240CA1CC77AC9C65,
   0x2DE92C6F592B0275, 0x4A7484AA6EA6E483, 0x5CB0A9DCBD41FBD4, 0x76F988DA831153B5,
   0x983E5152EE66DFAB, 0xA831C66D2DB43210, 0xB00327C898FB213F, 0xBF597FC7BEEF0EE4,
   0xC6E00BF33DA88FC2, 0xD5A79147930AA725, 0x06CA6351E003826F, 0x142929670A0E6E70]
def shaK2 : List Word :=
  [0x27B70A8546D22FFC, 0x2E1B21385C26C926, 0x4D2C6DFC5AC42AED, 0x53380D139D95B3DF,
   0x650A73548BAF63DE, 0x766A0ABB3C77B2A8, 0x81C2C92E47EDAEE6, 0x92722C851482353B,
   0xA2BFE8A14CF10364, 0xA81A664BBC423001, 0xC24B8B70D0F89791, 0xC76C51A30654BE30,
   0xD192E819D6EF5218, 0xD69906245565A910, 0xF40E35855771202A, 0x106AA07032BBD1B8]
def shaK3 : List Word :=
  [0x19A4C116B8D2D0C8, 0x1E376C085141AB53, 0x2748774CDF8EEB99, 0x34B0BCB5E19B48A8,
   0x391C0CB3C5C95A63, 0x4ED8AA4AE3418ACB, 0x5B9CCA4F7763E373, 0x682E6FF3D6B2B8A3,
   0x748F82EE5DEFB2FC, 0x78A5636F43172F60, 0x84C87814A1F0AB72, 0x8CC702081A6439EC,
   0x90BEFFFA23631E28, 0xA4506CEBDE82BDE9, 0xBEF9A3F7B2C67915, 0xC67178F2E372532B]
def shaK4 : List Word :=
  [0xCA273ECEEA26619C, 0xD186B8C721C0C207, 0xEADA7DD6CDE0EB1E, 0xF57D4F7FEE6ED178,
   0x06F067AA72176FBA, 0x0A637DC5A2C898A6, 0x113F9804BEF90DAE, 0x1B710B35131C471B,
   0x28DB77F523047D84, 0x32CAAB7B40C72493, 0x3C9EBE0A15C9BEBC, 0x431D67C49C100D4C,
   0x4CC5D4BECB3E42B6, 0x597F299CFC657E2A, 0x5FCB6FAB3AD6FAEC, 0x6C44198C4A475817]
def shaK : List Word := shaK0 ++ shaK1 ++ shaK2 ++ shaK3 ++ shaK4

def shaInit : List Word :=
  [0xCBBB9D5DC1059ED8, 0x629A292A367CD507, 0x9159015A3070DD17, 0x152FECD8F70E5939,
   0x67332667FFC00B31, 0x8EB44A8768581511, 0xDB0C2E0D64F98FA7, 0x47B5481DBEFA4FA4]

/-- Eight bytes, most significant first. -/
def beWord (bs : List Byte) : Word := bs.foldl (fun a b => a * 256 + b.setWidth 64) 0

/-- A number's low `n` bytes, most significant first. -/
def beBytes (n x : Nat) : List Byte := (natToBytes n x).reverse

/-- A number from bytes, most significant first. -/
def beNat (bs : List Byte) : Nat := bs.foldl (fun a b => a * 256 + b.toNat) 0

/-- `n` groups of `k` bytes. -/
def groupsOf (k : Nat) : Nat → List Byte → List (List Byte)
  | 0, _ => []
  | n + 1, bs => bs.take k :: groupsOf k n (bs.drop k)

/-- The message schedule, held newest first: `n` further words. -/
def shaSched : Nat → List Word → List Word
  | 0, w => w
  | n + 1, w =>
    let s0 (x : Word) : Word := x.rotateRight 1 ^^^ x.rotateRight 8 ^^^ (x >>> 7)
    let s1 (x : Word) : Word := x.rotateRight 19 ^^^ x.rotateRight 61 ^^^ (x >>> 6)
    shaSched n ((s1 (nth w 1 0) + nth w 6 0 + s0 (nth w 14 0) + nth w 15 0) :: w)

/-- The eight working variables. -/
structure ShaSt where
  a : Word
  b : Word
  c : Word
  d : Word
  e : Word
  f : Word
  g : Word
  h : Word
  deriving DecidableEq, Repr

def shaRound (v : ShaSt) (kw : Word × Word) : ShaSt :=
  let s1 := v.e.rotateRight 14 ^^^ v.e.rotateRight 18 ^^^ v.e.rotateRight 41
  let ch := (v.e &&& v.f) ^^^ (~~~v.e &&& v.g)
  let t1 := v.h + s1 + ch + kw.1 + kw.2
  let s0 := v.a.rotateRight 28 ^^^ v.a.rotateRight 34 ^^^ v.a.rotateRight 39
  let mj := (v.a &&& v.b) ^^^ (v.a &&& v.c) ^^^ (v.b &&& v.c)
  ⟨t1 + s0 + mj, v.a, v.b, v.c, v.d + t1, v.e, v.f, v.g⟩

def shaBlock (v : ShaSt) (bs : List Byte) : ShaSt :=
  let w := (shaSched 64 ((groupsOf 8 16 bs).map beWord).reverse).reverse
  let r := (shaK.zip w).foldl shaRound v
  ⟨v.a + r.a, v.b + r.b, v.c + r.c, v.d + r.d, v.e + r.e, v.f + r.f, v.g + r.g, v.h + r.h⟩

/-- The padded message. -/
def shaPad (m : List Byte) : List Byte :=
  let n := m.length
  m ++ [0x80] ++ List.replicate ((239 - n % 128) % 128) 0 ++ beBytes 16 (n * 8)

/-- SHA-384, its first byte most significant (R490). -/
def sha384 (m : List Byte) : BitVec 384 :=
  let p := shaPad m
  let i := shaInit
  let v := (groupsOf 128 (p.length / 128) p).foldl shaBlock
    ⟨nth i 0 0, nth i 1 0, nth i 2 0, nth i 3 0, nth i 4 0, nth i 5 0, nth i 6 0, nth i 7 0⟩
  v.a ++ v.b ++ v.c ++ v.d ++ v.e ++ v.f

/-- The bytes of a digest in their order. -/
def digestBytes (d : BitVec 384) : List Byte := beBytes 48 d.toNat

/-- Multiplication by x in the field of AES. -/
def aesX2 (a : Byte) : Byte := (a <<< 1) ^^^ (if a.getLsbD 7 then 0x1B else 0)

def aesMulGo : Nat → Byte → Byte → Byte → Byte
  | 0, _, _, r => r
  | n + 1, a, b, r => aesMulGo n (aesX2 a) (b >>> 1) (if b.getLsbD 0 then r ^^^ a else r)

/-- Multiplication in the field of AES. -/
def aesMul (a b : Byte) : Byte := aesMulGo 8 a b 0

/-- The S-box of AES: the inverse (the power 254), then the affine map. -/
def aesSbox (a : Byte) : Byte :=
  let a2 := aesMul a a
  let a3 := aesMul a2 a
  let a6 := aesMul a3 a3
  let a12 := aesMul a6 a6
  let a15 := aesMul a12 a3
  let a30 := aesMul a15 a15
  let a60 := aesMul a30 a30
  let a120 := aesMul a60 a60
  let a126 := aesMul a120 a6
  let a127 := aesMul a126 a
  let i := aesMul a127 a127
  i ^^^ i.rotateLeft 1 ^^^ i.rotateLeft 2 ^^^ i.rotateLeft 3 ^^^ i.rotateLeft 4 ^^^ 0x63

/-- XOR of byte lists. -/
def xorBytes (a b : List Byte) : List Byte := List.zipWith (· ^^^ ·) a b

/-- The round keys of AES-256 as words of 4 bytes, newest first; `n` further words, `i` the index of the next. -/
def aesExpand : Nat → Nat → Byte → List (List Byte) → List (List Byte)
  | 0, _, _, ws => ws
  | n + 1, i, rc, ws =>
    let t := nth ws 0 []
    let b := nth ws 7 []
    let t' :=
      if i % 8 = 0 then
        xorBytes ([nth t 1 0, nth t 2 0, nth t 3 0, nth t 0 0].map aesSbox) [rc, 0, 0, 0]
      else if i % 8 = 4 then t.map aesSbox else t
    aesExpand n (i + 1) (if i % 8 = 0 then aesX2 rc else rc) (xorBytes b t' :: ws)

def aesRoundKeys (key : List Byte) : List (List Byte) :=
  let ws := (aesExpand 52 8 1 (groupsOf 4 8 key).reverse).reverse
  (List.range 15).map (fun r => (List.range 4).flatMap (fun j => nth ws (4 * r + j) []))

def aesShift (s : List Byte) : List Byte := (List.range 16).map (fun i => nth s ((i + 4 * (i % 4)) % 16) 0)

def aesMix (s : List Byte) : List Byte :=
  (List.range 16).map (fun i =>
    let c := i / 4 * 4
    let g (k : Nat) : Byte := nth s (c + (i + k) % 4) 0
    aesX2 (g 0) ^^^ (aesX2 (g 1) ^^^ g 1) ^^^ g 2 ^^^ g 3)

/-- AES-256 of one block under expanded keys. -/
def aesBlock (ks : List (List Byte)) (m : List Byte) : List Byte :=
  let s0 := xorBytes m (nth ks 0 [])
  let s1 := (List.range 13).foldl (fun s r => xorBytes (aesMix (aesShift (s.map aesSbox))) (nth ks (r + 1) [])) s0
  xorBytes (aesShift (s1.map aesSbox)) (nth ks 14 [])

/-- Multiplication in the field of GCM, bit 127 the coefficient of 1. -/
def gcmMulGo : Nat → BitVec 128 → BitVec 128 → BitVec 128 → BitVec 128
  | 0, _, _, z => z
  | n + 1, x, v, z =>
    gcmMulGo n (x <<< 1) ((v >>> 1) ^^^ (if v.getLsbD 0 then (0xE1 : BitVec 128) <<< 120 else 0))
      (if x.getLsbD 127 then z ^^^ v else z)

def gcmMul (x y : BitVec 128) : BitVec 128 := gcmMulGo 128 x y 0

def block128 (bs : List Byte) : BitVec 128 := BitVec.ofNat 128 (beNat (bs ++ List.replicate (16 - bs.length) 0))

/-- GHASH of whole and partial blocks. -/
def ghash (h : BitVec 128) (blocks : List (BitVec 128)) : BitVec 128 := blocks.foldl (fun y b => gcmMul (y ^^^ b) h) 0

def blocksOf (bs : List Byte) : List (List Byte) := groupsOf 16 ((bs.length + 15) / 16) bs

/-- The key stream XORed onto data, from counter `c` on. -/
def gcmCtr (ks : List (List Byte)) (iv : List Byte) : Nat → List (List Byte) → List Byte
  | _, [] => []
  | c, b :: bs => xorBytes b (aesBlock ks (iv ++ beBytes 4 (c % 2 ^ 32))) ++ gcmCtr ks iv (c + 1) bs

/-- The tag over additional data and ciphertext. -/
def gcmTag (ks : List (List Byte)) (iv aad ct : List Byte) : List Byte :=
  let h := block128 (aesBlock ks (List.replicate 16 0))
  let s := ghash h ((blocksOf aad).map block128 ++ (blocksOf ct).map block128 ++
    [BitVec.ofNat 128 (aad.length * 8 * 2 ^ 64 + ct.length * 8)])
  xorBytes (beBytes 16 s.toNat) (aesBlock ks (iv ++ [0, 0, 0, 1]))

/-- AES-256-GCM encryption with a 12-byte IV: ciphertext and tag (R381). -/
def gcmSeal (key iv aad pt : List Byte) : List Byte × List Byte :=
  let ks := aesRoundKeys key
  let ct := gcmCtr ks iv 2 (blocksOf pt)
  (ct, gcmTag ks iv aad ct)

/-- AES-256-GCM decryption: the plaintext where the tag agrees (R381). -/
def gcmOpen (key iv aad ct tag : List Byte) : Option (List Byte) :=
  let ks := aesRoundKeys key
  if gcmTag ks iv aad ct = tag then some (gcmCtr ks iv 2 (blocksOf ct)) else none

/-- The field prime, the order and the base point of P-384. -/
def p384p : Nat := 2 ^ 384 - 2 ^ 128 - 2 ^ 96 + 2 ^ 32 - 1
def p384n : Nat := 0xffffffffffffffffffffffffffffffffffffffffffffffffc7634d81f4372ddf581a0db248b0a77aecec196accc52973
def p384b : Nat := 0xb3312fa7e23ee7e4988e056be3f82d19181d9c6efe8141120314088f5013875ac656398d8a2ed19d2a85c8edd3ec2aef
def p384x : Nat := 0xaa87ca22be8b05378eb1c71ef320ad746e1d3b628ba79b9859f741e082542a385502f25dbf55296c3a545e3872760ab7
def p384y : Nat := 0x3617de4a96262c6f5d9e98bf9292dc29f8f41dbd289a147ce9da3113b5f0b8c00a60b1ce1d7e819d7a431d7c90ea0e5f

/-- Square and multiply over the bits of the exponent from bit `k − 1` down. -/
def powModGo (m b e : Nat) : Nat → Nat → Nat
  | 0, r => r
  | k + 1, r =>
    let r2 := r * r % m
    powModGo m b e k (if e.testBit k then r2 * b % m else r2)

/-- Inverse modulo a prime. -/
def invMod (m a : Nat) : Nat := powModGo m (a % m) (m - 2) 384 1

/-- A point in Jacobian coordinates; z = 0 is the point at infinity. -/
abbrev P384 := Nat × Nat × Nat

def p384Double (q : P384) : P384 :=
  let (x, y, z) := q
  let p := p384p
  if z = 0 ∨ y = 0 then (1, 1, 0)
  else
    let y2 := y * y % p
    let s := 4 * x * y2 % p
    let z2 := z * z % p
    let m := 3 * ((x + p - z2) % p) * ((x + z2) % p) % p
    let x' := (m * m + 2 * (p - s)) % p
    (x', (m * (s + p - x') + 8 * (p - y2 * y2 % p)) % p, 2 * y * z % p)

def p384Add (a b : P384) : P384 :=
  let (x1, y1, z1) := a
  let (x2, y2, z2) := b
  let p := p384p
  if z1 = 0 then b
  else if z2 = 0 then a
  else
    let zz1 := z1 * z1 % p
    let zz2 := z2 * z2 % p
    let u1 := x1 * zz2 % p
    let u2 := x2 * zz1 % p
    let s1 := y1 * zz2 % p * z2 % p
    let s2 := y2 * zz1 % p * z1 % p
    if u1 = u2 then (if s1 = s2 then p384Double a else (1, 1, 0))
    else
      let h := (u2 + p - u1) % p
      let r := (s2 + p - s1) % p
      let hh := h * h % p
      let hhh := hh * h % p
      let v := u1 * hh % p
      let x3 := (r * r + (p - hhh) + 2 * (p - v)) % p
      (x3, (r * (v + p - x3) + (p - s1 * hhh % p)) % p, h * z1 % p * z2 % p)

def p384MulGo (k : Nat) (q : P384) : Nat → P384 → P384
  | 0, r => r
  | i + 1, r =>
    let d := p384Double r
    p384MulGo k q i (if k.testBit i then p384Add d q else d)

/-- A signature (r, s) over a digest verifies under an uncompressed public point (FIPS 186-5). -/
def ecdsaVerify (x y : Nat) (digest : BitVec 384) (r s : Nat) : Bool :=
  let n := p384n
  let p := p384p
  if r = 0 ∨ n ≤ r ∨ s = 0 ∨ n ≤ s ∨ p ≤ x ∨ p ≤ y ∨ y * y % p ≠ (x * x % p * x + 3 * (p - x) + p384b) % p then false
  else
    let w := invMod n s
    let u1 := digest.toNat * w % n
    let u2 := r * w % n
    let q := p384Add (p384MulGo u1 (p384x, p384y, 1) 384 (1, 1, 0)) (p384MulGo u2 (x, y, 1) 384 (1, 1, 0))
    if q.2.2 = 0 then false
    else
      let zi := invMod p q.2.2
      decide (q.1 * (zi * zi % p) % p % n = r)

end Sys2Proof.Machine
end

