-- ==== Sys2Proof/Machine/Cache.lean ====
section
/-! DEFINITION. The commands of the caches and of the SDRAM controller (R237 to R256). -/

namespace Sys2Proof.Machine

namespace State

/-- RESULT and NEXT of an operation that has ended (Table 8.12). -/
def mntEnd (s : State) (next result : Nat) : State :=
  { s with mem.maint := none }.rset Reg.L2C_MNT_STATUS (w64 (next % 2 ^ 42 * 64 + result))

/-- Every SDRAM address from `lo` to below `hi` lies in a WB or WT region: the attribute changes only at a region's
bounds (R228, R238). -/
def cachedRange (s : State) (lo hi : Nat) : Bool :=
  let cuts := lo :: ((List.range 16).flatMap (fun n =>
    [s.rfld (Reg.L2C_RGN_BASE n) 47 12 * 4096, (s.rfld (Reg.L2C_RGN_LIMIT n) 47 12 + 1) * 4096]))
  cuts.all (fun c => decide (c < lo ∨ hi ≤ c) || decide ((s.sdramAttr c).1 ≠ 2))

/-- A write to `L2C_MNT_CMD`: refused while BUSY, checked as a whole, then in progress (R238, R242). -/
def mntStart (s : State) (v : Word) : State :=
  if s.rbit Reg.L2C_MNT_STATUS 63 then s.rsetBit Reg.L2C_STATUS 1 true
  else
    let op := fld v 3 0
    let scope := fld v 7 4
    let addr := s.rfld Reg.L2C_MNT_ADDR 47 6 * 64
    let len := s.rfld Reg.L2C_MNT_LEN 37 0
    let hi := if scope = 0 then addr + 64 else addr + len
    let okAddr := scope = 2 || (scope = 1 && len = 0) || decide (hi ≤ s.sdramTop)
    let pinned := decide (op = 4 ∨ op = 5)
    let ok := decide (1 ≤ op ∧ op ≤ 5 ∧ scope ≤ 2) && okAddr && (!pinned || (decide (scope ≠ 2) && s.cachedRange addr hi))
    if !ok then s.mntEnd (addr / 64) 2
    else
      let m : Maint :=
        if scope = 2 then ⟨op, 0, 0, some (fld v 35 32, fld v 51 40, fld v 39 36)⟩
        else if scope = 1 && len = 0 then ⟨op, addr / 64, addr / 64, none⟩
        else ⟨op, addr / 64, (hi + 63) / 64, none⟩
      { s with mem.maint := some m }.rset Reg.L2C_MNT_STATUS (w64 (2 ^ 63 + addr))

/-- One operation on one frame (Table 8.5). -/
def mntFrame (s : State) (op : Nat) (f : L2Line) : State :=
  if op = 1 then s.l2Clean f
  else if op = 2 then s.l2Inval { f with dirty := false }
  else if op = 3 then s.l2CleanInval f
  else if op = 5 then
    (if f.bound then
      let s1 := s.l2Clean f
      (s1.l1Invalidate f.line none).l2Clear f
    else s)
  else s

/-- One line bound into the lowest PIN way of its set that has an unbound frame; none where there is no such frame
(R243). -/
def pinLine (s : State) (line : Nat) : Option State :=
  let sl := homeSlice (line * 64)
  let set := homeSet (line * 64)
  if (s.l2Bound line).isSome then some s
  else
    match ((List.range 12).find? (fun w => s.wayPin sl w && (s.l2At sl set w).isNone)) with
    | none => none
    | some w =>
      match s.l2Get line with
      | some f => some ((s.l2Clear f).l2Set { f with way := w, bound := true })
      | none =>
        let r := s.sdLine line
        some (r.2.l2Set { slice := sl, set := set, way := w, line := line, data := r.1, valid := true, dirty := false,
                          bound := true })

/-- PIN of up to `n` lines upward from `line`: the state, and the line that did not fit. -/
def pinLines : Nat → State → Nat → State × Option Nat
  | 0, s, _ => (s, none)
  | n + 1, s, line =>
    match s.pinLine line with
    | none => (s, some line)
    | some s' => pinLines n s' (line + 1)

/-- A maintenance operation goes on to its end, or up to a line whose fill is in progress (R239, R240). -/
def mntRun (s : State) : State :=
  match s.mem.maint with
  | none => s
  | some m =>
    match m.frame with
    | some (sl, set, w) =>
      (match s.l2At sl set w with
       | some f => s.mntFrame m.op f
       | none => s).mntEnd 0 0
    | none =>
      let blocked := (s.mem.fills.map (·.line)).filter (fun l => decide (m.lo ≤ l ∧ l < m.hi))
      let stop := blocked.foldl min m.hi
      let r : State × Option Nat :=
        if m.op = 4 then pinLines (min (stop - m.lo) 786433) s m.lo
        else ((s.mem.l2.filter (fun f => decide (m.lo ≤ f.line ∧ f.line < stop))).foldl
          (fun s f => s.mntFrame m.op f) s, none)
      match r.2 with
      | some l => r.1.mntEnd l 1
      | none =>
        if blocked.isEmpty then r.1.mntEnd m.hi 0
        else { r.1 with mem.maint := some { m with lo := stop } }.rsetFld Reg.L2C_MNT_STATUS 47 6 stop

/-- A way cleaned and invalidated with its bindings (R243, R250). -/
def flushWay (s : State) (sl w : Nat) : State :=
  (s.mem.l2.filter (fun f => decide (f.slice = sl ∧ f.way = w))).foldl
    (fun s f => ((s.l2Clean f).l1Invalidate f.line none).l2Clear f) s

/-- The scratch contents of a way discarded (R243, R244). -/
def zeroScratch (s : State) (sl w : Nat) : State :=
  let inWay (a : Nat) : Bool := decide (scratchBase ≤ a ∧ a < scratchBase + 0x4000000) &&
    decide (scratchSlice a = sl) && decide (scratchWay a = w)
  { s with mem.scratch := s.mem.scratch.filter (fun e => !inWay e.1)
           mem.l1d := s.mem.l1d.filter (fun x => !inWay (x.line * 64)) }

/-- A write to `L2C_LOCK` (R243). -/
def lockWays (s : State) (t : Nat) (v : Word) : State :=
  if s.running then s.rsetBit (Reg.L2C_SLICE_STATUS t) 3 true
  else if s.locked then s
  else
    let old := s.rget (Reg.L2C_LOCK t)
    let new := v &&& 0x00000FFF00000FFF
    let s1 := (List.range 12).foldl (fun (s : State) w =>
      if bit old (32 + w) = bit new (32 + w) ∧ bit old w = bit new w then s
      else (s.flushWay t w).zeroScratch t w) s
    s1.rset (Reg.L2C_LOCK t) new

/-- Powered, unlocked and unretired ways that a slice would keep without group `g` (R245). -/
def waysWithout (s : State) (t g : Nat) : List Nat := (s.fillWays t).filter (fun w => decide (w / 4 ≠ g))

/-- Domain of way group `g` of tile `t`; group 3 lies in cluster B (Table 14.7). -/
def groupDomain (t g : Nat) : Nat := if g < 3 then 7 * t + 4 + g else 7 * t + 1

/-- A power-up request of a domain: deferred during HOLD (R445). -/
def powerUp (s : State) (d : Nat) : State :=
  if s.hold then { s with power.waiting := s.power.waiting ++ [d] }
  else { s with power.moving := s.power.moving ++ [(d, true)] }

/-- A write to `L2C_WGPWR.REQ` (R245, R438). -/
def groupPower (s : State) (t : Nat) (v : Word) : State :=
  (List.range 3).foldl (fun (s : State) g =>
    let old := s.rbit (Reg.L2C_WGPWR t) g
    if old = bit v g then s
    else if bit v g then (s.rsetBit (Reg.L2C_WGPWR t) g true).powerUp (groupDomain t g)
    else if (List.range 4).any (fun i => s.wayLocked t (4 * g + i)) || (s.waysWithout t g).isEmpty then
      (s.rsetBit (Reg.L2C_SLICE_STATUS t) 0 true).rsetBit Reg.PWR_STATUS 2 true
    else { s.rsetBit (Reg.L2C_WGPWR t) g false with
           mem.groupReq := s.mem.groupReq ++ [(t, g, true)], power.moving := s.power.moving ++ [(groupDomain t g, false)] }) s

/-- A way group cleaned, invalidated and switched off (R245). -/
def groupOff (s : State) (t g : Nat) : State :=
  let s1 := (List.range 4).foldl (fun (s : State) i => s.flushWay t (4 * g + i)) s
  { s1 with mem.groupReq := s1.mem.groupReq.filter (fun r => decide (r ≠ (t, g, true)))
            power.moving := s1.power.moving.erase (groupDomain t g, false)
            power.doms := if g < 3 then updAt s1.power.doms (groupDomain t g) (fun _ => 0) else s1.power.doms }.rsetBit
    (Reg.L2C_WGPWR t) (4 + g) false

/-- A report's record kept in a unit's last-error register. -/
def lastErr (s : State) (a : Nat) (r : Report) : State := s.rset a r.word

/-- An error time noted, and whether the same place had one within `ns` before (R250, R216, R475). -/
def noteError (s : State) (kind a b ns : Nat) : Bool × State :=
  let hit (m : ErrMark) : Bool := decide (m.kind = kind ∧ m.a = a ∧ m.b = b)
  (s.marks.any (fun m => hit m && decide (s.clock < m.time + ns + 1)),
   { s with marks := ⟨kind, a, b, s.clock⟩ :: s.marks.filter (fun m => !hit m) })

/-- A corrected error in an L2 frame: counted, logged, and its way retired when it persists (R249, R250). -/
def l2Corrected (s : State) (t set w : Nat) (e : Codeword) : State :=
  let r := Report.plain 0 (srcTile t 4) 1 w (eccDetail e)
  let s1 := ((s.rinc (Reg.L2C_ECC_CE t)).lastErr (Reg.L2C_ECC_LAST t) r).report r none
  let m := s1.noteError 1 t (w * 4096 + set) (s.rfld Reg.L2C_PERSIST 15 0 * 1000000)
  if !m.1 then m.2
  else if m.2.wayLocked t w then m.2.rsetBit (Reg.L2C_SLICE_STATUS t) 1 true
  else
    (((m.2.flushWay t w).rsetBit (Reg.L2C_WAYDIS t) w true).rsetBit (Reg.L2C_SLICE_STATUS t) 2 true).degrade
      (srcTile t 4) 9 w 3

/-- An error in an L2 frame's data (Table 8.6). -/
def l2DataError (s : State) (t set w : Nat) (e : Codeword) : State :=
  match d144Check e with
  | .clean => s
  | .corrected _ _ => s.l2Corrected t set w e
  | .uncorrectable =>
    let dirty := s.wayScratch t w || (match s.l2At t set w with
      | some f => f.valid && f.dirty
      | none => false)
    let r := Report.plain 1 (srcTile t 4) 1 w (eccDetail e)
    let s1 := s.lastErr (Reg.L2C_ECC_LAST t) (if dirty then { r with cls := 4 } else r)
    if dirty then s1.report { r with cls := 4 } none
    else
      match s1.l2At t set w with
      | some f =>
        let d := s1.sdLine f.line
        (if f.valid then d.2.l2Set { f with data := d.1 } else s1).retried r
      | none => s1

/-- A wafer's replay asked for by a C2 report (R452, R458). -/
def askReplay (s : State) (r : Report) (slots : List Nat) : State :=
  s.report { r with cls := 2 } (some (s.newJob 5 2 r.src 0 0 slots))

/-- Slots that hold a RUNNING or REPLAY wafer. -/
def activeSlots (s : State) : List Nat :=
  (List.range 8).filter (fun k => let st := (nth s.slots k Reset.slot).state; decide (st = 1 ∨ st = 3))

/-- The firing that met an L1 error is retried: the firing of the PE that was dispatched first and has not executed (R249,
R467). (DESIGN CHOICE, log entry 95) -/
def l1Retry (s : State) (t p : Nat) : State :=
  match s.firings.find? (fun f => decide (f.tile = t ∧ f.pe = p ∧ f.stage = .dispatched ∧ f.wait ≠ .alloc)) with
  | none => s
  | some f =>
    s.rinc (Reg.PEX_RETRY t f.pe)

/-- An L1, L2, tag or deferred-record error (Table 8.6): `kind` 0 L1 I, 1 L1 D, 2 L2 data, 3 L2 tag, 4 deferred record;
`i` is a PE or a way, `x` a line or a set. -/
def cacheError (s : State) (kind t i x : Nat) (e : Codeword) : State :=
  if kind ≤ 1 then
    let r := Report.plain 0 (srcTile t 0) 1 i (eccDetail e)
    match d144Check e with
    | .clean => s
    | .corrected _ _ => (s.lastErr (Reg.PEX_LAST_ERR t i) r).report r none
    | .uncorrectable =>
      let s1 := s.lastErr (Reg.PEX_LAST_ERR t i) { r with cls := 1 }
      ((if kind = 0 then { s1 with mem.l1i := s1.mem.l1i.filter (fun y => decide (y ≠ (t, i, x))) }
        else { s1 with mem.l1d := s1.mem.l1d.filter (fun y => decide (¬(y.tile = t ∧ y.pe = i ∧ y.line = x))) }).retried
        r).l1Retry t i
  else if kind = 2 then s.l2DataError t x i e
  else
    let r := Report.plain 0 (srcTile t 4) 1 i (eccDetail e)
    match d144Check e with
    | .clean => s
    | .corrected _ _ => if kind = 3 then s.l2Corrected t x i e
                        else ((s.rinc (Reg.L2C_ECC_CE t)).lastErr (Reg.L2C_ECC_LAST t) r).report r none
    | .uncorrectable =>
      let s1 := s.lastErr (Reg.L2C_ECC_LAST t) { r with cls := if kind = 3 then 4 else 2 }
      if kind = 3 then s1.report { r with cls := 4 } none
      else
        s1.askReplay r ((List.range 8).filter (fun k =>
          s.deferred.any (fun d => decide (d.slice = t ∧ tagSlot d.tag = k))))

/-- The first frame from `q` on that lies in a powered group, if there is one (R251). -/
def scrubFrom (s : State) (t q : Nat) : Option Nat :=
  match (List.range 4).find? (fun i => s.rbit (Reg.L2C_WGPWR t) (4 + (q / 16384 + i) % 4)) with
  | some 0 => some q
  | some i => some ((q / 16384 + i) % 4 * 16384)
  | none => none

/-- Capacity of one channel in GiB for a population, 0 where it is not allowed (R252, Table 8.8). -/
def channelGiB (v : Word) : Nat :=
  if fld v 19 18 = 3 ∨ 1 < fld v 15 14 ∨ 1 < fld v 13 12 ∨ fld v 11 10 = 3 then 0
  else
    let g := (fld v 13 12 + 1) * (if fld v 15 14 = 0 then 16 else 8) * 2 ^ fld v 11 10
    if g ≤ 32 then g else 0

/-- A write to `SDC_CFG`: the channels are down until they are trained; a configuration that is not allowed leaves EN at 0
(R252, R256). -/
def sdcConfig (s : State) (v : Word) : State :=
  if s.running || s.locked then s
  else
    let w := v &&& 0x00000000000CFE01
    let bad := decide (channelGiB v = 0)
    let s1 := (s.rset Reg.SDC_CFG (if bad then setBit w 0 false else w)).rset Reg.SDC_CAPACITY 0
    let s2 := (s1.rsetFld Reg.SDC_STATUS 7 4 0).rsetBit Reg.SDC_STATUS 0 false
    let s3 := if bad then s2.rsetBit Reg.SDC_STATUS 3 true else s2
    (List.range 4).foldl (fun (s : State) c => s.rsetFld (Reg.SDC_CH_STATUS c) 1 0 0) s3

/-- Training completed on every channel (R252). -/
def sdcTrained (s : State) : State :=
  if s.rbit Reg.SDC_CFG 0 && !s.rbit Reg.SDC_STATUS 0 then
    let s1 := (s.rsetFld Reg.SDC_STATUS 7 4 15).rsetBit Reg.SDC_STATUS 0 true
    let s2 := s1.rset Reg.SDC_CAPACITY (w64 (4 * channelGiB (s.rget Reg.SDC_CFG) * 2 ^ 30))
    (List.range 4).foldl (fun (s : State) c => s.rsetFld (Reg.SDC_CH_STATUS c) 1 0 3) s2
  else s

/-- A correctable error of an SDRAM codeword on channel `c` (R249). -/
def sdCorrected (s : State) (c sym : Nat) (e : Codeword) : State :=
  let r := Report.plain 0 0x240 1 c (eccDetail e)
  ((((s.rinc Reg.SDC_ECC_CE).rinc (Reg.SDC_CH_CE c)).rset (Reg.SDC_CH_LASTSYM c) (w64 sym)).lastErr Reg.SDC_ECC_LAST
    r).report r none

/-- One step of the patrol: the next block of every channel is read; channel `c` finds pattern `e` (R251). -/
def sdPatrol (s : State) (c : Nat) (e : Codeword) : State :=
  if s.rbit Reg.SDC_CTRL 0 && s.rbit Reg.SDC_STATUS 0 && decide (s.power.doze < 3) then
    let r := Report.plain 0 0x240 1 c (eccDetail e)
    let s1 :=
      match d144Check e with
      | .clean => s
      | .corrected j _ => s.sdCorrected c j e
      | .uncorrectable =>
        ((((s.rinc Reg.SDC_ECC_UE).rsetBit Reg.SDC_STATUS 1 true).lastErr Reg.SDC_ECC_LAST r).report r none)
    let top := (s.rget Reg.SDC_CAPACITY).toNat / 4
    let p := (s.rget Reg.SDC_SCRUB_POS).toNat + 128
    s1.rset Reg.SDC_SCRUB_POS (w64 (if p < top then p else 0))
  else s

end State

def execMntClean (m : Nat) (v : Word) (s : State) : Out := .next (s.onlyIf (s.mayWrite m) (·.mntStart (setFld v 3 0 1)))
def execMntInval (m : Nat) (v : Word) (s : State) : Out := .next (s.onlyIf (s.mayWrite m) (·.mntStart (setFld v 3 0 2)))
def execMntClinv (m : Nat) (v : Word) (s : State) : Out := .next (s.onlyIf (s.mayWrite m) (·.mntStart (setFld v 3 0 3)))
def execMntPin (m : Nat) (v : Word) (s : State) : Out := .next (s.onlyIf (s.mayWrite m) (·.mntStart (setFld v 3 0 4)))
def execMntUnpin (m : Nat) (v : Word) (s : State) : Out := .next (s.onlyIf (s.mayWrite m) (·.mntStart (setFld v 3 0 5)))

/-- The maintenance operation in progress completes (R239). -/
def execMntComplete (s : State) : Out := .next s.mntRun

def execL2cLockWrite (m t : Nat) (v : Word) (s : State) : Out := .next (s.onlyIf (s.mayWrite m) (·.lockWays t v))
def execWayGroupPowerRequest (m t : Nat) (v : Word) (s : State) : Out := .next (s.onlyIf (s.mayWrite m) (·.groupPower t v))

/-- A requested way group is switched off once its lines are cleaned and invalidated (R245). -/
def execWayGroupPowerDownDone (t g : Nat) (s : State) : Out :=
  .next (s.onlyIf (s.mem.groupReq.contains (t, g, true)) (·.groupOff t g))

/-- The `n`-th fill in progress completes; the loads that wait for it go on (R229, R240). -/
def execL2FillComplete (n : Nat) (s : State) : Out :=
  .next (match s.mem.fills[n]? with
    | none => s
    | some f =>
      let d : BitVec 512 × State := match s.l2Get f.line with
        | some g => (g.data, s)
        | none => let r := s.sdLine f.line; (r.1, r.2.l2Install f.line r.1 false)
      let s1 := if f.l1 then d.2.l1Fill f.tile f.pe f.line d.1 else d.2
      { s1 with mem.fills := s1.mem.fills.eraseIdx n
                firings := s1.firings.map (fun x =>
                  if x.tile = f.tile ∧ x.pe = f.pe ∧ x.wait = .fill then { x with wait := .none } else x) })

/-- The slice's next frame is read and checked; codeword pattern `e` (R251). -/
def execL2ScrubRead (t : Nat) (e : Codeword) (s : State) : Out :=
  .next (s.onlyIf (s.rbit Reg.L2C_CTRL 0 && decide (s.power.doze < 3)) (fun s =>
    match s.scrubFrom t (s.rget (Reg.L2C_SCRUB_POS t)).toNat with
    | none => s
    | some p =>
      let s1 := s.l2DataError t (p % 4096) (p / 4096) e
      let q := (p + 1) % 65536
      s1.rset (Reg.L2C_SCRUB_POS t) (w64 ((s1.scrubFrom t q).getD q))))

def execSdramPatrolRead (c : Nat) (e : Codeword) (s : State) : Out := .next (s.sdPatrol c e)
def execL2EccError (kind t i x : Nat) (e : Codeword) (s : State) : Out := .next (s.cacheError kind t i x e)
def execSdcCfgWrite (m : Nat) (v : Word) (s : State) : Out := .next (s.onlyIf (s.mayWrite m) (·.sdcConfig v))
def execSdramTrainingDone (s : State) : Out := .next s.sdcTrained

/-- A refresh: it delays accesses and changes no state (R254). -/
def execSdramRefresh (_c : Nat) (s : State) : Out := .next s

/-- MR4 asks for the doubled or the normal rate (R254). -/
def execSdramRefreshRateChange (c : Nat) (doubled : Bool) (s : State) : Out :=
  let s1 := s.rsetFld (Reg.SDC_CH_STATUS c) 3 2 (b2n doubled)
  .next (s1.rsetBit Reg.SDC_STATUS 2 ((List.range 4).any (fun i => decide (s1.rfld (Reg.SDC_CH_STATUS i) 3 2 = 1))))

end Sys2Proof.Machine
end

