-- ==== Sys2Proof/Machine/Code.lean ====
section
/-! DEFINITION. The code store as a wafer sees it: instruction words, extension arity, entry descriptors, placement, and
the dispatch of a tag to its tile (R118 to R121, R135 to R141, R177, R259). -/

namespace Sys2Proof.Machine

/-- Offset of entry descriptor `n` in a bank (Table 16.6). -/
def descOff (n : Nat) : Nat := 0x20000 + n * 0x80

/-- An entry descriptor (Table 4.8, Table 9.1). -/
structure Entry where
  mode    : BitVec 16
  entry   : Nat
  handler : Nat
  frame   : Nat
  root    : Bool
  fen     : Bool
  flow    : Nat
  prio    : Nat
  bases   : List (Word × Word)
  deriving DecidableEq, Repr

/-- Descriptor `n` of a bank, none where its 128 bytes are 0 (R121). -/
def bankEntry (b : List (Nat × Word)) (n : Nat) : Option Entry :=
  let w (i : Nat) : Word := bankWord b (descOff n + i * 8)
  if (List.range 16).all (fun i => decide (w i = 0)) then none
  else some
    { mode := BitVec.ofNat 16 (fld (w 0) 47 32), entry := fld (w 0) 21 0, handler := fld (w 1) 53 32,
      frame := fld (w 1) 31 0, root := bit (w 2) 63, fen := bit (w 2) 62, flow := fld (w 2) 51 40,
      prio := fld (w 2) 35 32, bases := (List.range 4).map (fun k => (w (4 + 2 * k), w (5 + 2 * k))) }

/-- Descriptors of a bank whose ROOT bit is set, in ascending number (R260). -/
def bankRoots (b : List (Nat × Word)) : List Nat :=
  (b.filter (fun e => decide (0x4000 ≤ e.1 ∧ e.1 < 0x14000) && decide (e.1 % 16 = 2) && bit e.2 63)).map
    (fun e => (e.1 - 0x4000) / 16)

/-- The valid placement entry of an IADDR (Table 4.14). -/
def bankPlace (b : List (Nat × Word)) (iaddr : Nat) : Option Word :=
  (b.find? (fun e => decide (0x2000 ≤ e.1 ∧ e.1 < 0x2800) && decide (e.1 % 2 = 1) && bit e.2 63 &&
    decide (fld e.2 43 22 ≤ iaddr ∧ iaddr ≤ fld e.2 21 0))).map (fun e => smGet b (e.1 - 1) 0)

/-- NIN of an extension opcode (R421); 0 for every other opcode. -/
def bankArity (b : List (Nat × Word)) (opc : Nat) : Nat :=
  if opc < 0x3C0 then 0
  else let x := opc - 0x3C0; fld (bankWord b (0xCA00 + x / 32 * 8)) (2 * (x % 32) + 1) (2 * (x % 32))

namespace State

/-- STATE of a tile: 0 IN_SERVICE, 1 RECOVERING, 2 RETIRED, 3 PARKED (Table 2.18). -/
def tileState (s : State) (t : Nat) : Nat := s.rfld (Reg.TIL_STATUS t) 9 8

/-- A tile counts as in service for a wafer of a slot: neither retired nor parked or parking at its admission
(R138, R440). -/
def tileFor (s : State) (slot t : Nat) : Bool :=
  decide (s.tileState t < 2) && !(s.slotAt slot).noTiles.testBit t

/-- The destination tile of an IADDR for the wafer of a slot (R138). -/
def placeOf (s : State) (slot epoch iaddr : Nat) : Nat :=
  let ok := s.tileFor slot
  match bankPlace (s.bankOf epoch) iaddr with
  | some w =>
    (match [fld w 15 12, fld w 11 8, fld w 7 4].find? ok with
     | some t => t
     | none => ((List.range 16).find? ok).getD 0)
  | none => (((List.range 16).map (fun k => (iaddr % 16 + k) % 16)).find? ok).getD (iaddr % 16)

/-- The word that a wafer of an epoch fetches: words outside every image of its bank are unloaded (R136, R141, R498). -/
def fetchWord (s : State) (epoch iaddr : Nat) : Word :=
  if bankLoaded (s.bankOf epoch) iaddr then
    match s.oldWords.find? (fun o => decide (o.iaddr = iaddr) && o.epochs.contains epoch) with
    | some o => o.word
    | none => smGet s.code iaddr 0
  else unloadedWord

/-- NIN of the word's opcode in an epoch (R177). -/
def arityOf (s : State) (epoch : Nat) (w : Word) : Nat := bankArity (s.bankOf epoch) (decodeIWord w).opc

/-- How the store treats a token for the instruction at an address (R84). -/
def matchOf (s : State) (epoch iaddr : Nat) : MatchKind :=
  let w := s.fetchWord epoch iaddr
  matchKind w (s.arityOf epoch w)

/-- The local device's ID (R43). -/
def localId (s : State) : Nat := s.rfld Reg.FAB_ID 9 0

/-- A token for the network, with its destination tile (R38, R61, R138). -/
def mkToken (s : State) (o : OutTok) (epoch inc seq srcTile srcPe cls barrier : Nat) (egress : Bool) : Token :=
  { tag := o.tag, tv := o.tv, inc := inc, seq := seq, srcTile := srcTile, srcPe := srcPe,
    dtile := s.placeOf (tagSlot o.tag) epoch (tagIaddr o.tag), cls := cls, barrier := barrier, egress := egress,
    src := srcTile, vc := 0, sent := 0, stray := false }

/-- A start token's source is the scheduler (R426); one whose ENTRY lies in no valid placement range is stray (R163). -/
def asStart (s : State) (k : Token) (epoch : Nat) : Token :=
  { k with src := 16, stray := (bankPlace (s.bankOf epoch) (tagIaddr k.tag)).isNone }

end State

end Sys2Proof.Machine
end

