-- ==== Sys2Proof/Machine/Store.lean ====
section
/-! DEFINITION. The matching store as a table: hash, filter, spill table, reserve, occupancy, throttle, spill engine and
oldest-wafer mode (R77 to R99). -/

namespace Sys2Proof.Machine

/-- Fields of a key, tag [63:2] (Table 3.1). -/
def keyAct (k : Nat) : Nat := natField k 51 36
def keySlot (k : Nat) : Nat := natField k 35 33
def keyIter (k : Nat) : Nat := natField k 32 22
def keyIaddr (k : Nat) : Nat := natField k 21 0

/-- A key from its fields. -/
def mkKey (device act slot iter iaddr : Nat) : Nat :=
  device % 1024 * 2 ^ 52 + act % 65536 * 2 ^ 36 + slot % 8 * 2 ^ 33 + iter % 2048 * 2 ^ 22 + iaddr % 2 ^ 22

/-- h of R81. -/
def keyHash (seed k : Nat) : Nat :=
  let ia := keyIaddr k
  natField ia 11 0 ^^^ natField ia 21 12 ^^^ keyIter k ^^^ natField (keyAct k) 11 0 ^^^
    (natField (keyAct k) 15 12 * 256 + keySlot k * 32) ^^^ seed % 4096

/-- H16 of R92. -/
def keyH16 (k : Nat) : Nat :=
  let ia := keyIaddr k
  natField ia 15 0 ^^^ natField ia 21 16 ^^^ (keyIter k * 32 + keySlot k * 4) ^^^
    (natField (keyAct k) 7 0 * 256 + natField (keyAct k) 15 8)

/-- The home bucket of R92. -/
def homeBucket (k : Nat) : Nat := keyH16 k * 15 / 16

/-- The filter indices f1 and f2 of R93. -/
def filterIdx (seed k : Nat) : Nat × Nat :=
  let h := keyHash seed k
  let x := keyH16 k
  (natField h 11 10 * 65536 + x, natField h 1 0 * 65536 + ((natField x 7 0 * 256 + natField x 15 8) ^^^ h))

/-- The entry lies in a way of the store. -/
def MEntry.inStore (e : MEntry) : Bool := match e.place with
  | .way .. => true
  | _ => false

/-- The entry lies in the spill table or its transit buffer. -/
def MEntry.inTable (e : MEntry) : Bool := match e.place with
  | .table .. => true
  | _ => false

/-- The entry lies in the reserve. -/
def MEntry.inReserve (e : MEntry) : Bool := match e.place with
  | .reserve .. => true
  | _ => false

/-- The entry lies at a bank and set. -/
def MEntry.inSet (e : MEntry) (b st : Nat) : Bool := match e.place with
  | .way b' s' _ => decide (b' = b ∧ s' = st)
  | _ => false

/-- Way of an entry in the store. -/
def MEntry.way (e : MEntry) : Nat := match e.place with
  | .way _ _ w => w
  | _ => 0

/-- The entry waits in the transit buffer (R94). -/
def MEntry.transit (e : MEntry) : Bool := match e.place with
  | .table _ _ t => t
  | _ => false

/-- The code of a kind (Table 3.1). -/
def kindCode : MKind → Nat
  | .operand => 0
  | .complete => 1
  | .gateState => 2
  | .held => 3

/-- The data bits of an entry's header codeword (Table 3.1). -/
def entryHeader (e : MEntry) : Nat :=
  e.key % 2 ^ 62 * 2 ^ 66 + kindCode e.kind * 2 ^ 64 + e.v0.st.toNat * 2 ^ 48 + e.v1.st.toNat * 2 ^ 32 + e.p0 % 4 * 2 ^ 30 +
    e.p1 % 4 * 2 ^ 28 + (e.need % 2 * 4 + e.need / 2 % 2 * 2 + e.need / 4 % 2) * 2 ^ 25 + e.count % 4 * 2 ^ 23 + e.inc % 16 * 2 ^ 19 + 1

/-- The image of an entry in SDRAM: its five codewords' data (R79, R80, Table 3.4). -/
def entryImage (e : MEntry) : List Byte :=
  natToBytes 16 (entryHeader e) ++ (match e.kind with
    | .gateState => natToBytes 64 (e.live % 2048 + e.head % 2 ^ 21 * 2 ^ 32 + e.tail % 2 ^ 21 * 2 ^ 64)
    | .held => natToBytes 32 e.v0.v.toNat ++ natToBytes 32 (e.heldIter % 2048)
    | _ => natToBytes 32 e.v0.v.toNat ++ natToBytes 32 e.v1.v.toNat)

namespace State

/-- `MST_OCC`, `MST_SPILL_OCC` and `MST_RSV_OCC` (R87, R92, R97). (DESIGN CHOICE, log entry 104) -/
def mstOcc (s : State) (t : Nat) : Nat := (s.mst.filter (fun e => decide (e.tile = t) && e.inStore)).length
def spillOcc (s : State) (t : Nat) : Nat := (s.mst.filter (fun e => decide (e.tile = t) && e.inTable)).length
def rsvOcc (s : State) (t : Nat) : Nat := (s.mst.filter (fun e => decide (e.tile = t) && e.inReserve)).length

def hashSeed (s : State) (t : Nat) : Nat := s.rfld (Reg.MST_HASH_SEED t) 11 0

/-- Bank and set of a key (R81). -/
def bankSet (s : State) (t k : Nat) : Nat × Nat :=
  let h := keyHash (s.hashSeed t) k
  (h % 16, h / 16)

/-- The spill area in force is enabled and lies within installed SDRAM (R91). -/
def spillEn (s : State) (t : Nat) : Bool :=
  let b := (s.tileAt t).levels.base
  bit b 0 && decide (fld b 47 26 * 0x4000000 + 0x4000000 ≤ s.sdramTop)

/-- Start of a tile's spill area (R91). -/
def spillBase (s : State) (t : Nat) : Nat := fld (s.tileAt t).levels.base 47 26 * 0x4000000

/-- The levels of a tile as its registers give them (R88, R99, R106): inconsistent ones give way to the reset values. -/
def loadLevels (s : State) (t : Nat) : State :=
  let hi := s.rfld (Reg.MST_HIWATER t) 15 0
  let lo := s.rfld (Reg.MST_LOWATER t) 15 0
  let at' := s.rfld (Reg.MST_SPILL_AT t) 15 0
  let shi := s.rfld (Reg.MST_SPILL_HI t) 18 0
  let slo := s.rfld (Reg.MST_SPILL_LO t) 18 0
  let ok1 := decide (lo < hi ∧ hi ≤ at' ∧ at' ≤ 32512)
  let ok2 := decide (slo < shi ∧ shi ≤ 430080)
  let d := Reset.levels
  let l : Levels :=
    { hi := if ok1 then hi else d.hi, lo := if ok1 then lo else d.lo, at_ := if ok1 then at' else d.at_,
      shi := if ok2 then shi else d.shi, slo := if ok2 then slo else d.slo,
      window := clampNat 100 10000 (s.rfld (Reg.MST_DL_WINDOW t) 13 0), base := s.rget (Reg.MST_SPILL_BASE t) }
  let s1 := s.updTile t (fun x => { x with
    levels := l, rqLimit := clampNat 64 1024 (s.rfld (Reg.TIL_DISP_CFG t) 10 0),
    persist := clampNat 10 60000 (s.rfld (Reg.UCS_PERSIST t) 15 0), scrub := clampNat 10 10000 (s.rfld (Reg.UCS_SCRUB t) 13 0) })
  if ok1 && ok2 then s1 else s1.rsetBit (Reg.MST_STATUS t) 6 true

/-- A tile that takes part: IN_SERVICE or RECOVERING. (DESIGN CHOICE, log entry 103) -/
def tileLive (s : State) (t : Nat) : Bool := decide (s.tileState t < 2)

/-- Oldest-wafer mode is entered (R91, R96); the detectors of the other wafers pause (R102). -/
def enterOldest (s : State) (t : Nat) : State :=
  if (s.tileAt t).oldest then s
  else
    let en := s.spillEn t
    let s1 := s.updTile t (fun x => { x with oldest := true, noReserve := !en })
    let s2 := if en then s1 else (s1.rsetBit (Reg.MST_STATUS t) 7 true).event (srcTile t 2) 0 0x22 0
    let s3 := (List.range 8).foldl (fun (s : State) k => if s.isOldest k then s else s.progress k) s2
    ((s3.rsetBit (Reg.MST_STATUS t) 5 true).rinc (Reg.MST_OLDEST_CNT t)).event (srcTile t 2) 0 0x23 0

/-- Oldest-wafer mode is left (R99). -/
def leaveOldest (s : State) (t : Nat) : State :=
  let x := s.tileAt t
  if x.oldest && decide (s.spillOcc t ≤ x.levels.slo) && decide (s.rsvOcc t = 0) &&
      (!x.noReserve || decide (s.mstOcc t ≤ x.levels.hi)) then
    s.updTile t (fun x => { x with oldest := false, noReserve := false, reload := false })
  else s

/-- The admission throttle after a change of tile `t`'s occupancy (R88). -/
def throttleEval (s : State) (t : Nat) : State :=
  if s.throttle then
    (if (List.range 16).all (fun u => !s.tileLive u || decide (s.mstOcc u ≤ (s.tileAt u).levels.lo)) then
      { s with throttle := false }
    else s)
  else if s.tileLive t && decide ((s.tileAt t).levels.hi ≤ s.mstOcc t) then
    let s1 := { s with throttle := true }.rsetBit (Reg.MST_STATUS t) 3 true
    if s.rbit (Reg.MST_CTRL t) 0 then s1.event (srcTile t 2) 0 0x20 0 else s1
  else s

/-- The spill engine starts and stops by occupancy (R90, R91). -/
def spillEval (s : State) (t : Nat) : State :=
  let x := s.tileAt t
  if x.spilling then
    (if s.mstOcc t ≤ x.levels.hi then s.updTile t (fun x => { x with spilling := false }) else s)
  else if x.levels.at_ ≤ s.mstOcc t then
    (if s.spillEn t then
      let s1 := (s.updTile t (fun x => { x with spilling := true })).rsetBit (Reg.MST_STATUS t) 4 true
      if s.rbit (Reg.MST_CTRL t) 1 then s1.event (srcTile t 2) 0 0x21 0 else s1
    else s.enterOldest t)
  else s

/-- Levels newly in force are compared with the occupancies at once (R88, R90, R96, R99). -/
def levelsChanged (s : State) (t : Nat) : State :=
  let s1 := (s.throttleEval t).spillEval t
  (if (s1.tileAt t).levels.shi ≤ s1.spillOcc t then s1.enterOldest t else s1).leaveOldest t

/-- What follows a change of a tile's occupancy (R88, R90, R99). -/
def occChanged (s : State) (t : Nat) : State :=
  (((s.rmax (Reg.MST_OCC_MAX t) (s.mstOcc t)).throttleEval t).spillEval t).leaveOldest t

/-- The detector of a slot sees an entry appear: the slot's first entry on the tile starts its timer (Table 3.6). -/
def dlAppear (s : State) (t k : Nat) : State :=
  let first := (s.mst.filter (fun e => decide (e.tile = t ∧ keySlot e.key = k))).length ≤ 1
  s.updTile t (fun x => if nth x.det k .idle = .idle ∨ first then
    { x with det := updAt x.det k (fun _ => .watch), detT := updAt x.detT k (fun _ => 0) } else x)

/-- An entry without its place removed from the table of entries. -/
def mstDrop (s : State) (e : MEntry) : State := { s with mst := s.mst.filter (fun x => decide (x ≠ e)) }

/-- A filter counter changed by one, saturating: at 3 it stays (R93). -/
def filterBump (s : State) (t i : Nat) (up : Bool) : State :=
  let a := t * 262144 + i
  let v := smGet s.filt a 0
  { s with filt := smPut s.filt a 0 (if up then min 3 (v + 1) else if v = 3 then 3 else v - 1) }

/-- Both filter counters of a key. -/
def filterKey (s : State) (t k : Nat) (up : Bool) : State :=
  let f := filterIdx (s.hashSeed t) k
  (s.filterBump t f.1 up).filterBump t f.2 up

/-- Both counters of the key are non-zero (R93). -/
def filterHit (s : State) (t k : Nat) : Bool :=
  let f := filterIdx (s.hashSeed t) k
  decide (smGet s.filt (t * 262144 + f.1) 0 ≠ 0 ∧ smGet s.filt (t * 262144 + f.2) 0 ≠ 0)

/-- Slots of a bucket in use. -/
def bucketSlots (s : State) (t b : Nat) : List Nat :=
  s.mst.filterMap (fun e => match e.place with
    | .table b' n _ => if e.tile = t ∧ b' = b then some n else none
    | _ => none)

/-- A bucket's word (Table 3.4): OVF, and a USED bit for each slot whose entry is written. -/
def bucketWord (s : State) (t b : Nat) : Nat :=
  (if s.spillOvf.contains (t * 65536 + b) then 128 else 0) +
    ((List.range 7).filter (fun n => s.mst.any (fun e => decide (e.tile = t ∧ e.place = .table b n false)))).foldl
      (fun x n => x + 2 ^ n) 0

/-- A bucket's word written to the spill area, which bypasses L2 (R91). -/
def bucketSync (s : State) (t b : Nat) : State :=
  if s.spillEn t then s.sdWrite (s.spillBase t + b * 1024 + 0x38) (natToBytes 8 (s.bucketWord t b)) else s

/-- The write of an entry in transit completes: its key word, its image and its bucket's word (R94, Table 3.4). -/
def tableWritten (s : State) (t : Nat) (e : MEntry) : State :=
  match e.place with
  | .table b n _ =>
    let s1 := { s with mst := s.mst.map (fun x => if x = e then { e with place := .table b n false } else x) }
    if s1.spillEn t then
      ((s1.sdWrite (s1.spillBase t + b * 1024 + n * 8) (natToBytes 8 (e.key * 4 + kindCode e.kind))).sdWrite
        (s1.spillBase t + b * 1024 + 0x40 + n * 0x80) (entryImage e)).bucketSync t b
    else s1
  | _ => s

/-- The full buckets that a probe from `b` on passes within `fuel` buckets, and the bucket and slot that it finds (R92). -/
def probe (s : State) (t : Nat) : Nat → Nat → List Nat → List Nat × Option (Nat × Nat)
  | 0, _, passed => (passed, none)
  | n + 1, b, passed =>
    match (List.range 7).find? (fun k => !(s.bucketSlots t b).contains k) with
    | some k => (passed, some (b, k))
    | none => probe s t n ((b + 1) % 61440) (b :: passed)

/-- The oldest write of a full transit buffer completes (R94). -/
def transitRoom (s : State) (t : Nat) : State :=
  let waiting := s.mst.filter (fun e => decide (e.tile = t) && e.transit)
  if waiting.length < 8 then s
  else
    match waiting with
    | [] => s
    | e :: _ => s.tableWritten t e

/-- Full buckets that a probe has passed get OVF (R92). -/
def passedFull (s : State) (t : Nat) (passed : List Nat) : State :=
  passed.foldl (fun (s : State) x => s.bucketSync t x)
    { s with spillOvf := passed.map (fun x => t * 65536 + x) ++ s.spillOvf }

/-- An entry goes to the spill table, out of its way where it lies in one; false where the probe gives up (R90, R92). -/
def putTable (s : State) (t : Nat) (e : MEntry) (limit : Nat) : Bool × State :=
  let p := s.probe t limit (homeBucket e.key) []
  match p.2 with
  | none => (false, s.passedFull t p.1)
  | some (b, n) =>
    let s1 := (s.mstDrop e).transitRoom t
    let s2 := { s1 with mst := s1.mst ++ [{ e with place := .table b n true }] }.passedFull t p.1
    let s3 := (s2.filterKey t e.key true).rinc (Reg.MST_SPILLS t)
    (true, if (s3.tileAt t).levels.shi ≤ s3.spillOcc t then s3.enterOldest t else s3)

/-- An entry removed from the spill table (R92, R93): its slot is freed; a write that is still in transit is cancelled. -/
def takeTable (s : State) (t : Nat) (e : MEntry) : State :=
  let s0 := (s.mstDrop e).filterKey t e.key false
  let s1 := match e.place with
    | .table b _ false => s0.bucketSync t b
    | _ => s0
  if s1.spillOcc t = 0 then
    (s1.spillOvf.filter (fun x => decide (x / 65536 = t))).eraseDups.foldl (fun (s : State) x => s.bucketSync t (x % 65536))
      { s1 with filt := s1.filt.filter (fun x => decide (x.1 / 262144 ≠ t)),
                spillOvf := s1.spillOvf.filter (fun x => decide (x / 65536 ≠ t)) }
  else s1

/-- An entry, already out of its way, goes to the lowest free reserve slot, where its image is written (R97, Table 3.3). -/
def putReserve (s : State) (t : Nat) (e : MEntry) : State :=
  let used := s.mst.filterMap (fun x => match x.place with
    | .reserve r => if x.tile = t then some r else none
    | _ => none)
  let r := ((List.range (used.length + 1)).find? (fun k => !used.contains k)).getD 0
  let s1 := { s with mst := s.mst ++ [{ e with place := .reserve r }] }.rinc (Reg.MST_SPILLS t)
  if s1.spillEn t then s1.sdWrite (s1.spillBase t + 0x3C00000 + r * 0x80) (entryImage e) else s1

/-- An entry put into a way. -/
def putWay (s : State) (t b st w : Nat) (e : MEntry) : State :=
  (({ s with mst := s.mst ++ [{ e with place := .way b st w }] }.dlAppear t (keySlot e.key)).occChanged t)

/-- The entry of the youngest wafer among some, the lowest way among equals (R86, R97). -/
def youngest (es : List MEntry) : Option MEntry :=
  es.foldl (fun (acc : Option MEntry) e => match acc with
    | none => some e
    | some x => if x.wafer < e.wafer ∨ (x.wafer = e.wafer ∧ e.way < x.way) then some e else some x) none

/-- Item 3 of R97: the entry is placed in oldest-wafer mode; false where it must wait.  `busy` has the entries that the
lookup uses. -/
def placeOldest (s : State) (t b st : Nat) (e : MEntry) (isNew : Bool) (busy : MEntry → Bool) : Bool × State :=
  let here := s.mst.filter (fun x => decide (x.tile = t) && x.inSet b st)
  if (s.tileAt t).noReserve then (false, s)
  else if s.isOldestWafer e.wafer then
    match youngest (here.filter (fun x => !s.isOldestWafer x.wafer)) with
    | some v => (true, ((s.mstDrop v).putReserve t v).putWay t b st v.way e)
    | none =>
      if isNew then
        let r := s.putTable t e 61440
        (r.1, if r.1 then r.2.dlAppear t (keySlot e.key) else r.2)
      else
        match (List.range 8).findSome? (fun w => here.find? (fun x => decide (x.way = w) && !busy x)) with
        | some v =>
          let r := s.putTable t v 61440
          (r.1, if r.1 then r.2.putWay t b st v.way e else r.2)
        | none => (false, s)
  else (true, (s.putReserve t e).dlAppear t (keySlot e.key))

/-- An entry inserted into its set, making room under R86 and R97; false where the insert must wait.  The candidates are
the ways that are not COMPLETE and not in use by the lookup, with the incoming entry when it is new; without such a way the
insert waits. (DEDUCED, log entry 93) -/
def insertEntry (s : State) (t : Nat) (e : MEntry) (isNew : Bool) (busy : MEntry → Bool) : Bool × State :=
  let bs := s.bankSet t e.key
  let here := s.mst.filter (fun x => decide (x.tile = t) && x.inSet bs.1 bs.2)
  match (List.range 8).find? (fun w => !here.any (fun x => decide (x.way = w))) with
  | some w => (true, s.putWay t bs.1 bs.2 w e)
  | none =>
    if (s.tileAt t).oldest then s.placeOldest t bs.1 bs.2 e isNew busy
    else
      match youngest (here.filter (fun x => decide (x.kind ≠ .complete) && !busy x)) with
      | none => (false, s)
      | some v =>
        let own := isNew && decide (v.wafer ≤ e.wafer)
        let r := if s.spillEn t then s.putTable t (if own then e else v) 8 else (false, s)
        if r.1 then (true, if own then r.2.dlAppear t (keySlot e.key) else r.2.putWay t bs.1 bs.2 v.way e)
        else (r.2.enterOldest t).placeOldest t bs.1 bs.2 e isNew busy

/-- One victim of the spill engine, which one of the youngest wafer's eligible entries being left open (R90): without
one to pick, the oldest write in transit completes. -/
def spillOne (s : State) (t : Nat) : State :=
  let elig := s.mst.filter (fun e => decide (e.tile = t) && e.inStore && decide (e.kind ≠ .complete))
  let top := elig.foldl (fun m e => max m e.wafer) 0
  let c := elig.filter (fun e => decide (e.wafer = top))
  if (s.tileAt t).spilling && !(s.tileAt t).oldest && !c.isEmpty then
    let r := s.drawNat
    match nth (c.map some) (r.1 % c.length) none with
    | none => s
    | some v =>
      let p := r.2.putTable t v 8
      if p.1 then p.2.occChanged t else p.2.enterOldest t
  else
    match s.mst.find? (fun e => decide (e.tile = t) && e.transit) with
    | none => s
    | some e => s.tableWritten t e

end State

end Sys2Proof.Machine
end

