-- ==== Sys2Proof/Machine/Acts.lean ====
section
/-! DEFINITION. Activations, frames, start requests, atomic flows, delay entries, wafer completion and quarantine
(R27, R42 to R52, R118 to R121, R257 to R271). -/

namespace Sys2Proof.Machine

/-- The firing occupies a firing context of its PE: a waiting NEWACT does not (R46, R53). -/
def Firing.inPe (f : Firing) : Bool := decide (f.stage ≠ .ready) && decide (f.wait ≠ .alloc)

namespace State

/-- A token of the activation exists anywhere (R49, R168); a deferred read stands for the tokens that it will form.
(DEDUCED, log entry 22) -/
def hasTokens (s : State) (id : Nat) : Bool :=
  s.net.any (fun t => decide (tagAct t.tag = id)) || s.mst.any (fun e => decide (keyAct e.key = id)) ||
  s.mfetch.any (fun m => decide (tagAct m.tok.tag = id)) || s.firings.any (fun f => decide (f.act = id)) ||
  s.delays.any (fun d => decide (d.act = id)) || s.deferred.any (fun d => decide (tagAct d.tag = id))

/-- Effective level of an activation (R258). -/
def actLevel (s : State) (id : Nat) : Nat := match s.act? id with
  | some a => a.eff
  | none => 15

/-- The firing with a number. -/
def firing? (s : State) (f : Nat) : Option Firing := s.firings.find? (fun x => decide (x.id = f))

def updFiring (s : State) (f : Nat) (g : Firing → Firing) : State :=
  { s with firings := s.firings.map (fun x => if x.id = f then g x else x) }

/-- Firings in flight on a PE, and entries of its two buffers in use, uncommitted ones included (R53, R62). -/
def inflight (s : State) (t p : Nat) : Nat :=
  (s.firings.filter (fun f => decide (f.tile = t ∧ f.pe = p) && f.inPe)).length

/-- Effects that pass through the event buffer (R58). -/
def inEvents (e : Effect) : Bool := match e with
  | .chSend .. | .lockHold _ | .lockRel _ | .lockHand .. | .crumb .. | .freeAct | .rsend .. | .rsLost _ => true
  | _ => false

def sbUsed (s : State) (t p : Nat) : Nat :=
  (s.storeBuf.filter (fun b => decide (b.tile = t ∧ b.pe = p))).length +
    (s.firings.filter (fun f => decide (f.tile = t ∧ f.pe = p ∧ f.stage = .executed))).foldl
      (fun n f => n + f.stores.length) 0

def ebUsed (s : State) (t p : Nat) : Nat :=
  (s.eventBuf.filter (fun b => decide (b.tile = t ∧ b.pe = p))).length +
    (s.firings.filter (fun f => decide (f.tile = t ∧ f.pe = p ∧ f.stage = .executed))).foldl
      (fun n f => n + (f.effects.filter inEvents).length) 0


/-- A packet of an activation that has left LIVE, or whose wafer has replayed, vanishes once no committed send for it
is left in an event buffer (R52, R165, R332). -/
def rewindDead (s : State) : State :=
  s.rewind (fun p => match p.owner with
    | .graph act slot inc =>
      !(s.acts.any (fun a => decide (a.id = act ∧ a.slot = slot ∧ a.inc = inc ∧ a.state = .live)) &&
        decide ((s.slotAt slot).inc = inc)) &&
      !s.eventBuf.any (fun b => decide (b.act = act ∧ b.inc = inc) && (match b.ev with
        | .chSend h _ _ _ => decide (h = p.handle)
        | _ => false))
    | _ => false)

/-- An uncommitted firing discarded with all that it holds outside the PE: its reservation, its deferred read, its
request on port X (R52, R127, R167, R181). -/
def dropFiring (s0 : State) (f : Firing) : State :=
  let s := s0.retryGone f.id
  let s1 := { s with
    firings := s.firings.filter (fun x => decide (x.id ≠ f.id))
    startReqs := s.startReqs.filter (fun r => r.root || decide (r.firing ≠ f.id))
    flowQ := s.flowQ.filter (fun r => r.root || decide (r.firing ≠ f.id))
    deferred := s.deferred.filter (fun d => !f.effects.contains (.deferred d.id))
    useqs := s.useqs.filter (fun q => decide (q.firing ≠ f.id))
    useqWait := s.useqWait.filter (fun i => decide (i ≠ f.id))
    fab.remote := s.fab.remote.filter (fun r => decide (r.firing ≠ some f.id))
    xreqs := s.xreqs.map (fun (x : XReq) => if x.firing = f.id then { x with aband := true } else x) }
  let s2 := ((s.locks.filter (fun l => l.waiters.any (fun w => decide (w.firing = f.id + 1)))).map (·.k)).foldl (fun (s : State) k =>
    let l := s.lockAt k
    (s.setLock { l with waiters := l.waiters.filter (fun w => decide (w.firing ≠ f.id + 1)) }).relevel k) s1
  match f.granted with
  | none => s2
  | some _ =>
    let k := (decodeIWord f.word).lit % 1024
    let l := s2.lockAt k
    if l.resv && decide (l.holder = some ⟨f.tile, f.act⟩) then (s2.lockFree k) else s2

/-- END crumb of an activation, with its accumulator ORed into its wafer's summary (R42, Table 9.3). -/
def endWord (a : Act) : Nat × Word :=
  (a.id * 2 ^ 35 + a.flags.toNat * 2 ^ 28 + b2n a.nd * 2 ^ 27, w64 a.desc)

def sumFlags (s : State) (a : Act) : State :=
  let x := s.slotAt a.slot
  if x.state ≠ 0 ∧ x.wafer = a.wafer ∧ x.inc = a.inc then
    s.updSlot a.slot (fun y => { y with flags := y.flags ||| a.flags })
  else s

/-- Quarantine (R52) with its cause (Table 2.8), ordered by tile `t` for the instruction at `iaddr`. -/
def quarantine (s : State) (id cause t sub iaddr : Nat) : State :=
  match s.act? id with
  | none => s
  | some a =>
    if a.state = .quarantined then s
    else
      let s1 := s.updAct id (fun x => { x with state := .quarantined })
      let s2 := (s1.firings.filter (fun f => decide (f.act = id))).foldl (fun s f => s.dropFiring f) s1
      let tiles := ((s2.mst.filter (fun e => decide (keyAct e.key = id))).map (·.tile)).eraseDups
      let s3 := (s2.mst.filter (fun e => decide (keyAct e.key = id))).foldl (fun (s : State) e =>
        if e.inTable then s.takeTable e.tile e else s.mstDrop e) s2
      let s4 := tiles.foldl (fun (s : State) u => s.occChanged u) s3
      let s5 := { s4 with
        mfetch := s4.mfetch.filter (fun m => decide (tagAct m.tok.tag ≠ id))
        delays := s4.delays.filter (fun d => decide (d.act ≠ id))
        deferred := s4.deferred.filter (fun d => decide (tagAct d.tag ≠ id) || d.done) }
      let mine (o : Owner) : Bool := decide (o.master < 16 ∧ o.ctx = id)
      let s6 := ((s5.withdrawWaits mine).abandonAll mine 1).rewindDead
      let s7 := s6.waferCrumb 0x03 a.slot (id * 2 ^ 35 + cause * 2 ^ 31 + iaddr * 2 ^ 9) (w64 t)
      let s8 := if a.state = .live then (s7.waferCrumb 0x02 a.slot (endWord a).1 (endWord a).2).sumFlags a else s7
      let s9 := ((s8.rset (Reg.TIL_QUAR_LAST t) (w64 (2 ^ 63 + cause * 2 ^ 32 + a.slot * 2 ^ 22 + iaddr))).rset
        (Reg.TIL_QUAR_WAFER t) (w64 a.wafer)).rinc (Reg.TIL_QUAR_COUNT t)
      let s10 := s9.event (srcTile t sub) 0 0x12 cause
      let x := s10.slotAt a.slot
      (if x.state ≠ 0 ∧ x.wafer = a.wafer ∧ x.inc = a.inc then
        s10.updSlot a.slot (fun y => { y with quar := true }) else s10).settle

/-- The frame pool that is set (R262): base and size, 0 where there is none. (DEDUCED, log entry 24) -/
def framePool (s : State) : Nat × Nat :=
  let b := s.rfld Reg.SCH_FPOOL_BASE 47 16 * 65536
  let n := s.rfld Reg.SCH_FPOOL_SIZE 47 16 * 65536
  if b + n ≤ s.sdramTop then (b, n) else (b, 0)

/-- Frames in use: address and size, by rising address. -/
def frames (s : State) : List (Nat × Nat) :=
  (s.acts.foldl (fun m a => smInsert m a.fa a.frame) [])

/-- Free runs of the pool between the frames in use. -/
def gapsOf : Nat → Nat → List (Nat × Nat) → List (Nat × Nat)
  | lo, hi, [] => if lo < hi then [(lo, hi)] else []
  | lo, hi, f :: fs => (if lo < f.1 then [(lo, f.1)] else []) ++ gapsOf (f.1 + f.2) hi fs

def frameGaps (s : State) : List (Nat × Nat) :=
  let p := s.framePool
  gapsOf p.1 (p.1 + p.2) s.frames

/-- Places for a frame of `n` bytes in a run, at 64-byte steps. -/
def placesIn (n : Nat) (g : Nat × Nat) : Nat := if n ≤ g.2 - g.1 then (g.2 - g.1 - n) / 64 + 1 else 0

/-- The `k`-th place for a frame among the free runs. (DESIGN CHOICE, log entry 23) -/
def nthPlace (n : Nat) : List (Nat × Nat) → Nat → Nat
  | [], _ => 0
  | g :: gs, k => if k < placesIn n g then g.1 + 64 * k else nthPlace n gs (k - placesIn n g)

/-- How many places a frame of `n` bytes has. -/
def framePlaces (s : State) (n : Nat) : Nat := (s.frameGaps.map (placesIn n)).foldl (· + ·) 0

/-- Lowest number that no activation holds (R261). -/
def lowestFree (s : State) : Nat → Nat → Nat
  | 0, k => k
  | n + 1, k => if (s.act? k).isSome then lowestFree s n (k + 1) else k

/-- Level of the ready list of a request (R261). -/
def reqLevel (s : State) (r : StartReq) : Nat := if r.root then r.prio else s.actLevel r.act

/-- A NEWACT request is held by the throttle, in every wafer but the oldest (R89), or while its tile is fenced (R475). -/
def reqHeld (s : State) (r : StartReq) : Bool :=
  !r.root && (s.throttle && !s.isOldestWafer r.wafer ||
    (match s.firing? r.firing with
     | some f => s.tileFenced f.tile
     | none => false))

/-- The entry descriptor of a request. -/
def reqEntry (s : State) (r : StartReq) : Option Entry := bankEntry (s.bankOf r.epoch) r.desc

/-- A free ID and a free run both exist for a request (R261). -/
def reqFits (s : State) (r : StartReq) : Bool :=
  match s.reqEntry r with
  | none => false
  | some e => decide (s.acts.length < 65536) && decide (s.framePlaces e.frame ≠ 0)

/-- First request of the most urgent level among some, in list order. -/
def firstReq (s : State) (rs : List StartReq) : Option StartReq :=
  rs.foldl (fun (acc : Option StartReq) r => match acc with
    | none => some r
    | some x => if s.reqLevel r < s.reqLevel x then some r else some x) none

/-- The request that is granted in this cycle (R261). -/
def grantee (s : State) : Option StartReq :=
  match s.firstReq (s.startReqs.filter (fun r => !s.reqHeld r)) with
  | none => none
  | some r =>
    if s.reqFits r then some r
    else s.firstReq (s.startReqs.filter (fun x => s.isOldestWafer x.wafer && s.reqFits x))

/-- The frame header of Table 4.7, and zeros to the frame's end (R120). -/
def frameBytes (wafer epoch : Nat) (mode : BitVec 16) (openT closeT size : Nat) : List Byte :=
  natToBytes 8 wafer ++ natToBytes 8 (epoch % 2 ^ 32 + mode.toNat * 2 ^ 32) ++ natToBytes 8 openT ++ natToBytes 8 closeT ++
    List.replicate (size - 32) 0

/-- An activation created for a request (R46, R118, R120, R261): its ID, and the state with its frame initialised. -/
def createAct (s : State) (r : StartReq) (e : Entry) : Nat × State :=
  let id := s.lowestFree s.acts.length 0
  let d := s.drawNat
  let fa := nthPlace e.frame s.frameGaps (d.1 % s.framePlaces e.frame)
  let a : Act :=
    { id := id, state := .live, slot := r.slot, inc := r.inc, wafer := r.wafer, epoch := r.epoch, desc := r.desc,
      base := e.prio, eff := e.prio, mode := e.mode, handler := e.handler, bases := e.bases, fa := fa, frame := e.frame,
      flags := 0, nd := false, flow := r.flow }
  let x := s.slotAt r.slot
  let s1 := d.2.memWrite none fa (frameBytes r.wafer r.epoch e.mode x.openT x.closeT e.frame)
  let s2 := { s1 with acts := a :: s1.acts, startReqs := s1.startReqs.filter (fun q => decide (q ≠ r)) }.updSlot r.slot (fun y =>
    { y with flows := (r.flow.toList ++ y.flows).eraseDups })
  (id, s2.rmax Reg.SCH_ACT_MAX s2.acts.length)

/-- The start token of a new activation (R163, R260). -/
def startTok (s : State) (id slot : Nat) (e : Entry) (tv : TVal) : OutTok :=
  ⟨mkTag s.localId id slot 0 e.entry 0, tv⟩

/-- The root's start token is sent, with the scheduler's SEQ (R260, Table 2.2). -/
def sendRoot (s : State) (r : StartReq) (e : Entry) (id : Nat) : State :=
  let o := s.startTok id r.slot e ⟨BitVec.ofNat 256 (r.wafer % 2 ^ 64), mkStatus 3 false false false 0⟩
  { s with startSeq := (s.startSeq + 1) % 65536 }.sendTokens
    [s.asStart (s.mkToken o r.epoch r.inc s.startSeq 0 0 0 0 false) r.epoch]

/-- The request joins its flow's queue or its ready list (R261, R265); its slot is excused from now on (R102). -/
def placeReq (s : State) (r0 : StartReq) : State :=
  let r := { r0 with no := s.arrNo }
  let s1 := { s.progress r.slot with arrNo := s.arrNo + 1 }
  if r.flow.isSome then { s1 with flowQ := s1.flowQ ++ [r] } else { s1 with startReqs := s1.startReqs ++ [r] }

/-- Root start requests of the wafer in a slot, in ascending descriptor number (R260). -/
def placeRoots (s : State) (k : Nat) : State :=
  let x := s.slotAt k
  let b := s.bankOf x.epoch
  (bankRoots b).foldl (fun (s : State) n =>
    match bankEntry b n with
    | none => s
    | some e =>
      s.placeReq { root := true, desc := n, slot := k, inc := x.inc, wafer := x.wafer, epoch := x.epoch, prio := e.prio,
                   act := 0, firing := 0, flow := if e.fen then some e.flow else none, arr := s.now, no := 0, warned := false }) s

/-- An item of the flow is in service: from its entry into a ready list until its ID is FREE and its stores are performed, remote
ones among them (R264). -/
def flowBusy (s : State) (fl : Nat) : Bool :=
  s.startReqs.any (fun r => decide (r.flow = some fl)) || s.acts.any (fun a => decide (a.flow = some fl)) ||
    s.fab.remote.any (fun r => r.store && decide (r.flow = some fl))

/-- A request joins the ready lists at its place by arrival (R261). -/
def readyAt (r : StartReq) : List StartReq → List StartReq
  | [] => [r]
  | x :: xs => if r.no < x.no then r :: x :: xs else x :: readyAt r xs

/-- A resynchronisation holds the flow (R419). -/
def flowHeld (s : State) (fl : Nat) : Bool := s.fab.resyncs.any (fun y => y.holding && decide (y.flow = fl))

/-- The next item of a flow moves to its ready list where R265 and R419 allow it. -/
def flowRelease (s : State) (fl : Nat) : State :=
  let q := s.flowQ.filter (fun r => decide (r.flow = some fl))
  let best := q.foldl (fun (acc : Option StartReq) r => match acc with
    | none => some r
    | some x => if r.wafer < x.wafer then some r else some x) none
  match best with
  | none => s
  | some r =>
    if !s.flowBusy fl && !s.flowHeld fl && s.slots.all (fun k => decide (k.state = 0 ∨ r.wafer ≤ k.wafer ∨ k.state = 2)) then
      { s with flowQ := s.flowQ.filter (fun x => decide (x ≠ r)), startReqs := readyAt r s.startReqs }
    else s

/-- The warning of an item that waits in a flow queue (R267). -/
def flowWarn (s : State) (n : Nat) : State :=
  match s.flowQ[n]? with
  | none => s
  | some r =>
    if !r.warned && decide (r.arr + clampNat 100 1000000 (s.rfld Reg.SCH_FLOW_WARN 19 0) * 1000 ≤ s.now) then
      let s1 := { s with flowQ := s.flowQ.map (fun x => if x = r then { x with warned := true } else x) }
      let s2 := s1.rsetBit Reg.SCH_STATUS 3 true
      if s.rbit Reg.SCH_CTRL 0 then s2.collect { Report.plain 0 0x080 0x10 0 0x50 with wafer := some r.wafer } else s2
    else s

/-- An ID returns to FREE with its frame; locks that it still holds are abandoned (R49, R120, R286). -/
def returnId (s : State) (id : Nat) : State :=
  match s.act? id with
  | none => s
  | some a =>
    if a.state = .live || s.hasTokens id || s.storeBuf.any (fun b => decide (b.act = id)) ||
        s.eventBuf.any (fun b => decide (b.act = id)) then s
    else
      let mine (o : Owner) : Bool := decide (o.master < 16 ∧ o.ctx = id)
      let s1 := s.abandonAll mine 2
      { s1 with acts := s1.acts.filter (fun x => decide (x.id ≠ id))
                levels := s1.levels.filter (fun x => !mine x.owner) }.rewindDead.settle

/-- Entries of the delay lists in use and reserved (R268). -/
def delayUsed (s : State) : Nat := s.delays.length + s.firings.foldl (fun n f => n + f.reserved) 0

/-- Tokens of some delay entries leave the lists in the order given (R269, R270); the entries of old incarnations were
freed before (R271). -/
def releaseDelays (s : State) (ds : List DelayEntry) : State :=
  { s with delays := s.delays.filter (fun d => !ds.contains d) }.sendTokens (ds.map DelayEntry.tok)

/-- Insertion of a delay entry by due time, then commit order. -/
def insertDelay (d : DelayEntry) : List DelayEntry → List DelayEntry
  | [] => [d]
  | x :: xs => if d.due < x.due then d :: x :: xs else x :: insertDelay d xs

/-- The DELAY tokens that are due at a sub-tick edge, in order (R269). -/
def delaysDue (s : State) : List DelayEntry :=
  (s.delays.filter (fun d => !d.ticks && decide (d.due ≤ s.now))).foldl (fun acc d => insertDelay d acc) []

/-- A tick: every TICKWAIT entry counts down, and those at 0 are released in commit order (R270). -/
def tickDelays (s : State) : State :=
  let s1 := { s with delays := s.delays.map (fun (d : DelayEntry) => if d.ticks then { d with due := d.due - 1 } else d) }
  s1.releaseDelays (s1.delays.filter (fun d => d.ticks && decide (d.due = 0)))

end State

/-- An ID whose live-token count is 0 returns to FREE. -/
def execActIdReturn (a : Nat) (s : State) : Out := .next (s.onlyIf (!s.dead) (·.returnId a))

def execFlowItemRelease (fl : Nat) (s : State) : Out := .next (s.onlyIf (!s.dead) (·.flowRelease fl))

def execFlowWaitWarning (n : Nat) (s : State) : Out := .next (s.onlyIf (!s.dead) (·.flowWarn n))

end Sys2Proof.Machine
end

