-- ==== Sys2Proof/Machine/EvalOps.lean ====
section
/-! DEFINITION. The operations that compute a value from their inputs alone (R148 to R154, R157 to R161): lane by lane,
with the flags of each lane or step, which decide the lane an exception token reports (R197, R199). -/

namespace Sys2Proof.Machine

/-- A computed result: its value, its TYPE and the flags of each lane, or of each step of a reduction. -/
structure OpRes where
  val   : Value
  ty    : Nat
  flags : List Flags7
  deriving DecidableEq, Repr

/-- The inputs of a computing operation: environment, instruction TYPE, parameter, L's status TYPE, and L, R and C. -/
structure OpIn where
  env : FEnv
  ty  : Nat
  lit : Nat
  lty : Nat
  l   : Value
  r   : Value
  c   : Value
  deriving DecidableEq, Repr

/-- The numbers of the lanes of a value. -/
def lanesOf (w n : Nat) (v : Value) : List Nat := (List.range n).map (fun k => lane w k v)

/-- A result lane by lane of one input (R148). -/
def map1 (x : OpIn) (f : Nat → LaneRes) : OpRes :=
  let t := tyInfo x.ty
  let rs := (List.range t.lanes).map (fun k => f (lane t.w k x.l))
  ⟨ofLanes t.w (rs.map (·.bits)), x.ty, rs.map (·.flags)⟩

/-- A result lane by lane of two inputs (R148). -/
def map2 (x : OpIn) (f : Nat → Nat → LaneRes) : OpRes :=
  let t := tyInfo x.ty
  let rs := (List.range t.lanes).map (fun k => f (lane t.w k x.l) (lane t.w k x.r))
  ⟨ofLanes t.w (rs.map (·.bits)), x.ty, rs.map (·.flags)⟩

/-- A result lane by lane of three inputs (R151). -/
def map3 (x : OpIn) (f : Nat → Nat → Nat → LaneRes) : OpRes :=
  let t := tyInfo x.ty
  let rs := (List.range t.lanes).map (fun k => f (lane t.w k x.l) (lane t.w k x.r) (lane t.w k x.c))
  ⟨ofLanes t.w (rs.map (·.bits)), x.ty, rs.map (·.flags)⟩

/-- A floating result as a lane result. -/
def ofF (r : FRes) : LaneRes := ⟨r.bits, r.flags⟩

/-- The lane type is signed. -/
def laneSigned (ty : Nat) : Bool := decide ((tyInfo ty).kind = .sint)

/-- An integer operation of two inputs. -/
def int2 (x : OpIn) (f : Bool → Nat → Nat → Nat → LaneRes) : Option OpRes :=
  some (map2 x (f (laneSigned x.ty) (tyInfo x.ty).w))

/-- An integer operation of one input. -/
def int1 (x : OpIn) (f : Bool → Nat → Nat → LaneRes) : Option OpRes :=
  some (map1 x (f (laneSigned x.ty) (tyInfo x.ty).w))

/-- A floating operation of two inputs. -/
def flt2 (x : OpIn) (f : Fmt → FEnv → Nat → Nat → FRes) : Option OpRes :=
  some (map2 x (fun a b => ofF (f (tyFmt x.ty) x.env a b)))

/-- A floating operation of one input. -/
def flt1 (x : OpIn) (f : Fmt → FEnv → Nat → FRes) : Option OpRes :=
  some (map1 x (fun a => ofF (f (tyFmt x.ty) x.env a)))

/-- A floating operation of three inputs. -/
def flt3 (x : OpIn) (f : Fmt → FEnv → Nat → Nat → Nat → FRes) : Option OpRes :=
  some (map3 x (fun a b d => ofF (f (tyFmt x.ty) x.env a b d)))

def opAdd (x : OpIn) : Option OpRes := int2 x intAdd
def opSub (x : OpIn) : Option OpRes := int2 x intSub
def opAdds (x : OpIn) : Option OpRes := int2 x intAdds
def opSubs (x : OpIn) : Option OpRes := int2 x intSubs
def opNeg (x : OpIn) : Option OpRes := int1 x intNeg
def opNegs (x : OpIn) : Option OpRes := int1 x intNegs
def opAbs (x : OpIn) : Option OpRes := int1 x intAbs
def opAbss (x : OpIn) : Option OpRes := int1 x intAbss
def opMul (x : OpIn) : Option OpRes := int2 x intMul
def opMulh (x : OpIn) : Option OpRes := int2 x intMulh
def opMuls (x : OpIn) : Option OpRes := int2 x intMuls
def opDiv (x : OpIn) : Option OpRes := int2 x intDiv
def opRem (x : OpIn) : Option OpRes := int2 x intRem
def opMin (x : OpIn) : Option OpRes := int2 x intMin
def opMax (x : OpIn) : Option OpRes := int2 x intMax
def opAnd (x : OpIn) : Option OpRes := int2 x intAnd
def opOr (x : OpIn) : Option OpRes := int2 x intOr
def opXor (x : OpIn) : Option OpRes := int2 x intXor
def opNot (x : OpIn) : Option OpRes := int1 x intNot
def opAndn (x : OpIn) : Option OpRes := int2 x intAndn
def opShl (x : OpIn) : Option OpRes := int2 x intShl
def opShr (x : OpIn) : Option OpRes := int2 x intShr
def opSar (x : OpIn) : Option OpRes := int2 x intSar
def opRol (x : OpIn) : Option OpRes := int2 x intRol
def opRor (x : OpIn) : Option OpRes := int2 x intRor
def opClz (x : OpIn) : Option OpRes := int1 x intClz
def opPopc (x : OpIn) : Option OpRes := int1 x intPopc

/-- The relation of one lane (R150). -/
def cmpLane (x : OpIn) (c : FCmp) (a b : Nat) : Bool × Flags7 :=
  let t := tyInfo x.ty
  match t.kind with
  | .flt | .cpx => fCompare (tyFmt x.ty) x.env c a b
  | _ =>
    let p := laneInt (laneSigned x.ty) t.w a
    let q := laneInt (laneSigned x.ty) t.w b
    (match c with
     | .eq => decide (p = q)
     | .ne => decide (p ≠ q)
     | .lt => decide (p < q)
     | .le => decide (p ≤ q)
     | .un => false, 0)

/-- The relation of a moved lane: both parts of a complex one (R150). -/
def cmpMoved (x : OpIn) (c : FCmp) (k : Nat) : Bool × Flags7 :=
  let t := tyInfo x.ty
  if t.kind = .cpx then
    let a := cmpLane x c (lane 32 (2 * k) x.l) (lane 32 (2 * k) x.r)
    let b := cmpLane x c (lane 32 (2 * k + 1) x.l) (lane 32 (2 * k + 1) x.r)
    (if c = .ne then a.1 || b.1 else a.1 && b.1, a.2 ||| b.2)
  else cmpLane x c (lane t.w k x.l) (lane t.w k x.r)

/-- A compare: u32 1 or 0 for a scalar type, lane masks as v8u32 for a vector type (R150). -/
def opCmp (c : FCmp) (x : OpIn) : Option OpRes :=
  let ml := moveLane x.ty
  let rs := (List.range ml.2).map (cmpMoved x c)
  if ml.2 = 1 then some ⟨ofLanes 32 (rs.map (fun r => b2n r.1)), 1, rs.map (·.2)⟩
  else some ⟨ofLanes ml.1 (rs.map (fun r => if r.1 then 2 ^ ml.1 - 1 else 0)), 7, rs.map (·.2)⟩

def opCmpeq (x : OpIn) : Option OpRes := opCmp .eq x
def opCmpne (x : OpIn) : Option OpRes := opCmp .ne x
def opCmplt (x : OpIn) : Option OpRes := opCmp .lt x
def opCmple (x : OpIn) : Option OpRes := opCmp .le x
def opCmpun (x : OpIn) : Option OpRes := opCmp .un x

def opFadd (x : OpIn) : Option OpRes := flt2 x fAdd
def opFsub (x : OpIn) : Option OpRes := flt2 x fSub
def opFmul (x : OpIn) : Option OpRes := flt2 x fMul
def opFdiv (x : OpIn) : Option OpRes := flt2 x fDiv
def opFneg (x : OpIn) : Option OpRes := flt1 x (fun f _ a => ⟨fNeg f a, 0⟩)
def opFabs (x : OpIn) : Option OpRes := flt1 x (fun f _ a => ⟨fAbs f a, 0⟩)
def opFmin (x : OpIn) : Option OpRes := flt2 x (fun f e => fMinMax f e false)
def opFmax (x : OpIn) : Option OpRes := flt2 x (fun f e => fMinMax f e true)
def opFma (x : OpIn) : Option OpRes := flt3 x fFma
def opFms (x : OpIn) : Option OpRes := flt3 x fFms
def opFnma (x : OpIn) : Option OpRes := flt3 x fFnma
def opFsqrt (x : OpIn) : Option OpRes := flt1 x fSqrt
def opFrsqrt (x : OpIn) : Option OpRes := flt1 x fRsqrt
def opFrint (x : OpIn) : Option OpRes := flt1 x fRint

/-- One lane of CVT from type `src` to type `dst` (R152, R193). -/
def cvtLane (env : FEnv) (src dst : Ty) (a : Nat) : LaneRes :=
  let sf := if src.w = 64 then fmt64 else fmt32
  let df := if dst.w = 64 then fmt64 else fmt32
  match src.kind, dst.kind with
  | .flt, .flt => ofF (fConvert sf df env a)
  | .flt, k => ofF (fToInt sf env (decide (k = .sint)) dst.w a)
  | k, .flt => ofF (fOfInt df env (laneInt (decide (k = .sint)) src.w a))
  | k, k' => intConvert (decide (k = .sint)) src.w (decide (k' = .sint)) dst.w a

/-- CVT (R152): the permitted pairs, equal pairs copied unchanged; any other pair raises ILLOP. -/
def opCvt (x : OpIn) : Option OpRes :=
  let scal (t : Nat) : Bool := decide (t ≤ 5)
  let vec (t : Nat) : Bool := decide (6 ≤ t ∧ t ≤ 8)
  if (scal x.lty && scal x.ty) || (vec x.lty && vec x.ty) then
    if x.lty = x.ty then some ⟨tyMask x.ty x.l, x.ty, []⟩
    else
      let s := tyInfo x.lty
      let d := tyInfo x.ty
      let rs := (List.range d.lanes).map (fun k => cvtLane x.env s d (lane s.w k x.l))
      some ⟨ofLanes d.w (rs.map (·.bits)), x.ty, rs.map (·.flags)⟩
  else none

/-- FCLASS: a u32 class mask (R152). -/
def opFclass (x : OpIn) : Option OpRes :=
  some ⟨ofLanes 32 [fClass (tyFmt x.ty) (lane (tyInfo x.ty).w 0 x.l)], 1, []⟩

/-- SPLAT; L's status TYPE must be the lane type (R153, Table 5.6). -/
def opSplat (x : OpIn) : Option OpRes :=
  let ml := moveLane x.ty
  if x.lty = laneType x.ty then some ⟨ofLanes ml.1 (List.replicate ml.2 (lane ml.1 0 x.l)), x.ty, []⟩ else none

/-- XLANE: lane k, sign-extended to an i32 for v16i16 and v32i8 (R153). -/
def opXlane (x : OpIn) : Option OpRes :=
  let ml := moveLane x.ty
  let a := lane ml.1 (x.lit % 32) x.l
  let v := if ml.1 < 32 then wrapInt 32 (signedOf ml.1 a) else a
  some ⟨BitVec.ofNat 256 v, laneType x.ty, []⟩

/-- INSLANE: L with lane k replaced by R (R153). -/
def opInslane (x : OpIn) : Option OpRes :=
  let ml := moveLane x.ty
  some ⟨ofLanes ml.1 (updAt (lanesOf ml.1 ml.2 x.l) (x.lit % 32) (fun _ => lane ml.1 0 x.r)), x.ty, []⟩

/-- PERM: lane j from lane (R lane j mod n) of L (Table 5.6). -/
def opPerm (x : OpIn) : Option OpRes :=
  let ml := moveLane x.ty
  some ⟨ofLanes ml.1 ((List.range ml.2).map (fun j => lane ml.1 (lane ml.1 j x.r % ml.2) x.l)), x.ty, []⟩

/-- VSEL: bit by bit, L where C is 1 and R where C is 0 (Table 5.6). -/
def opVsel (x : OpIn) : Option OpRes :=
  some ⟨tyMask x.ty ((x.l &&& x.c) ||| (x.r &&& ~~~x.c)), x.ty, []⟩

/-- A reduction in lane order: the result, and the flags of each step (R154). -/
def foldSteps (f : Nat → Nat → LaneRes) : List Nat → LaneRes × List Flags7 → LaneRes × List Flags7
  | [], acc => acc
  | a :: as, acc =>
    let r := f acc.1.bits a
    foldSteps f as (r, acc.2 ++ [r.flags])

/-- The ordered reduction of the lanes of L by `f`, lane 0 first. -/
def reduce (w n : Nat) (v : Value) (f : Nat → Nat → LaneRes) : LaneRes × List Flags7 :=
  match lanesOf w n v with
  | [] => (⟨0, 0⟩, [])
  | a :: as => foldSteps f as (⟨a, 0⟩, [0])

/-- HSUM (R154): as the lane type; narrow lanes sum as i32; v4c32 part by part. -/
def opHsum (x : OpIn) : Option OpRes :=
  let t := tyInfo x.ty
  match t.kind with
  | .cpx =>
    let re := (List.range 4).map (fun k => lane 32 (2 * k) x.l)
    let im := (List.range 4).map (fun k => lane 32 (2 * k + 1) x.l)
    let a := reduce 32 4 (ofLanes 32 re) (fun p q => ofF (fAdd fmt32 x.env p q))
    let b := reduce 32 4 (ofLanes 32 im) (fun p q => ofF (fAdd fmt32 x.env p q))
    some ⟨ofLanes 32 [a.1.bits, b.1.bits], 0xC, List.zipWith (· ||| ·) a.2 b.2⟩
  | .flt =>
    let a := reduce t.w t.lanes x.l (fun p q => ofF (fAdd (tyFmt x.ty) x.env p q))
    some ⟨ofLanes t.w [a.1.bits], laneType x.ty, a.2⟩
  | k =>
    if t.w < 32 then
      let s : Int := ((lanesOf t.w t.lanes x.l).map (signedOf t.w)).foldl (· + ·) 0
      some ⟨ofLanes 32 [wrapInt 32 s], 0, []⟩
    else
      let a := reduce t.w t.lanes x.l (intAdd (decide (k = .sint)) t.w)
      some ⟨ofLanes t.w [a.1.bits], laneType x.ty, a.2⟩

/-- HMIN and HMAX (R154). -/
def opHminmax (wantMax : Bool) (x : OpIn) : Option OpRes :=
  let t := tyInfo x.ty
  match t.kind with
  | .flt =>
    let a := reduce t.w t.lanes x.l (fun p q => ofF (fMinMax (tyFmt x.ty) x.env wantMax p q))
    some ⟨ofLanes t.w [a.1.bits], laneType x.ty, a.2⟩
  | k =>
    let sgn := decide (k = .sint)
    let a := reduce t.w t.lanes x.l (if wantMax then intMax sgn t.w else intMin sgn t.w)
    let v := if t.w < 32 then wrapInt 32 (signedOf t.w a.1.bits) else a.1.bits
    some ⟨BitVec.ofNat 256 v, laneType x.ty, a.2⟩

def opHmin (x : OpIn) : Option OpRes := opHminmax false x
def opHmax (x : OpIn) : Option OpRes := opHminmax true x

/-- DOT (R154): a product, then fused steps in lane order. -/
def opDot (x : OpIn) : Option OpRes :=
  let t := tyInfo x.ty
  let f := tyFmt x.ty
  let p := fMul f x.env (lane t.w 0 x.l) (lane t.w 0 x.r)
  let rest := (List.range (t.lanes - 1)).map (fun j => j + 1)
  let a := rest.foldl
    (fun (acc : FRes × List Flags7) j =>
      let r := fFma f x.env (lane t.w j x.l) (lane t.w j x.r) acc.1.bits
      (r, acc.2 ++ [r.flags])) (p, [p.flags])
  some ⟨ofLanes t.w [a.1.bits], laneType x.ty, a.2⟩

/-- CMUL, lane by lane for v4c32 (R158). -/
def opCmul (x : OpIn) : Option OpRes :=
  let n := (tyInfo x.ty).lanes / 2
  let rs := (List.range n).map (fun k => cMul x.env (cLane k x.l) (cLane k x.r))
  some ⟨ofCpx (rs.map (·.val)), x.ty, rs.map (·.flags)⟩

/-- The 4-point transform of the four lanes, with the flags of each lane (R158). (DEDUCED, log entry 84) -/
def opFft4 (x : OpIn) : Option OpRes :=
  let r := fft4 x.env false x.l x.r
  some ⟨r.val, x.ty, r.flags⟩
def opIfft4 (x : OpIn) : Option OpRes :=
  let r := fft4 x.env true x.l x.r
  some ⟨r.val, x.ty, r.flags⟩

/-- CMAG and CPHASE, lane by lane, imaginary part +0 (R207). -/
def opPolar (phase : Bool) (x : OpIn) : Option OpRes :=
  let n := (tyInfo x.ty).lanes / 2
  let rs := (List.range n).map (fun k => (if phase then cPhase else cMag) x.env (cLane k x.l))
  some ⟨ofCpx (rs.map (fun r => ⟨r.bits, 0⟩)), x.ty, rs.map (·.flags)⟩

def opCmag (x : OpIn) : Option OpRes := opPolar false x
def opCphase (x : OpIn) : Option OpRes := opPolar true x

def opHilb (x : OpIn) : Option OpRes :=
  let r := hilb x.env x.l x.r x.c
  some ⟨r.val, x.ty, r.flags⟩

/-- RESAMP: L must carry TYPE f64; the result is an f32 token (R160). -/
def opResamp (x : OpIn) : Option OpRes :=
  if x.lty = 5 then
    let r := resamp x.env (lane 64 0 x.l) x.r
    some ⟨ofLanes 32 [r.bits], 4, [r.flags]⟩
  else none

/-- MOMENT: L must carry TYPE f64; the result is the new state (R161). -/
def opMoment (x : OpIn) : Option OpRes :=
  if x.lty = 5 then
    let r := moment x.env (lane 64 0 x.l) x.r
    some ⟨r.val, x.ty, r.flags⟩
  else none

end Sys2Proof.Machine
end

