-- ==== Sys2Proof/Machine/Traps.lean ====
section
/-! DEFINITION. Trap causes, their priority, and the exception token (R48, R134, R147, R198 to R203). -/

namespace Sys2Proof.Machine

/-- Cause codes of Table 6.8. -/
def cNV : Nat := 0x01
def cDZ : Nat := 0x02
def cOF : Nat := 0x03
def cUF : Nat := 0x04
def cNX : Nat := 0x05
def cIDZ : Nat := 0x06
def cCTX : Nat := 0x08
def cCSRACC : Nat := 0x09
def cMEMRANGE : Nat := 0x0A
def cATTRSPLIT : Nat := 0x0B
def cREWRITE : Nat := 0x0C
def cISTATE : Nat := 0x0D
def cCODEFULL : Nat := 0x0E
def cILLOP : Nat := 0x0F
def cCHBIND : Nat := 0x10
def cLKOWNER : Nat := 0x11
def cVOTEGRP : Nat := 0x12
def cVOTEDUP : Nat := 0x13
def cXERR : Nat := 0x14

/-- Priority of a cause, 1 first (Table 6.8; the memory causes in the order of Table 4.11, which lists CSRACC with
them and which Table 6.8 ranks above). -/
def causeRank (c : Nat) : Nat :=
  if c = cILLOP then 1 else if c = cCTX then 2 else if c = cCSRACC then 3
  else if 0x0A ≤ c ∧ c ≤ 0x0E then c - 6 else if 0x10 ≤ c ∧ c ≤ 0x14 then c - 7
  else if c = cIDZ then 14 else 14 + c

/-- The cause that a firing reports among several (R199). (DEDUCED, log entry 15) -/
def firstCause (cs : List Nat) : Option Nat :=
  cs.foldl (fun (acc : Option Nat) c => match acc with
    | none => some c
    | some x => if causeRank c < causeRank x then some c else some x) none

/-- Flags whose trap a mode word enables for an operation: an integer divide by zero traps by TIDZ, a floating-point
flag by its TFP bit (Table 2.6, R198). -/
def enabledCauses (mode : BitVec 16) (isInt : Bool) (fl : Flags7) : List Nat :=
  (if isInt && decide (fl &&& flDZ ≠ 0) && bit mode 10 then [cIDZ] else []) ++
  (if isInt then [] else
    (if decide (fl &&& flNV ≠ 0) && bit mode 9 then [cNV] else []) ++
    (if decide (fl &&& flDZ ≠ 0) && bit mode 8 then [cDZ] else []) ++
    (if decide (fl &&& flOF ≠ 0) && bit mode 7 then [cOF] else []) ++
    (if decide (fl &&& flUF ≠ 0) && bit mode 6 then [cUF] else []) ++
    (if decide (fl &&& flNX ≠ 0) && bit mode 5 then [cNX] else []))

/-- The flag of an arithmetic cause. -/
def causeFlag (c : Nat) : Flags7 :=
  if c = cNV then flNV else if c = cDZ ∨ c = cIDZ then flDZ else if c = cOF then flOF else if c = cUF then flUF
  else if c = cNX then flNX else 0

/-- The reported lane: the first lane or step that raises the cause; the two parts of a complex lane count as one
(R199). -/
def causeLane (ty c : Nat) (fls : List Flags7) : Nat :=
  let n := (moveLane ty).2
  let i := (fls.findIdx? (fun f => decide (f &&& causeFlag c ≠ 0))).getD 0
  if (tyInfo ty).kind = .cpx ∧ n < fls.length then i / 2 else i

/-- An operand field of the exception token: the reported lane, or a scalar's low 64 bits (R200). -/
def opField (ty k : Nat) (v : Value) : Nat :=
  let ml := moveLane ty
  if ml.2 = 1 then v.toNat % 2 ^ 64 else lane ml.1 k v

/-- A trap: its cause, the flags raised, the lane and the three operand fields (Table 6.9). -/
structure TrapInfo where
  cause  : Nat
  raised : Flags7
  lane   : Nat
  opl    : Nat
  opr    : Nat
  opc    : Nat
  deriving DecidableEq, Repr

/-- The value of an exception token (Table 6.9). -/
def excValue (tag : Tag) (word : Word) (x : TrapInfo) : Value :=
  let i := decodeIWord word
  let l0 := x.cause % 32 * 2 ^ 27 + x.raised.toNat * 2 ^ 20 + x.lane % 32 * 2 ^ 15 + tagIter tag * 2 ^ 4 + i.ty
  let l1 := i.opc * 2 ^ 22 + tagIaddr tag
  BitVec.ofNat 256 (l0 + l1 * 2 ^ 32 + x.opl % 2 ^ 64 * 2 ^ 64 + x.opr % 2 ^ 64 * 2 ^ 128 + x.opc % 2 ^ 64 * 2 ^ 192)

/-- The exception token (R200): `inh` and `nd` are the flags and ND of the operands. -/
def excToken (tag : Tag) (word : Word) (handler : Nat) (inh : Flags7) (nd : Bool) (x : TrapInfo) : OutTok :=
  ⟨mkTag (tagDevice tag) (tagAct tag) (tagSlot tag) (tagIter tag) handler 0,
   ⟨excValue tag word x, mkStatus 7 true false nd (inh ||| x.raised)⟩⟩

/-- The trap of an activation goes to its handler; otherwise it quarantines with NOHANDLER (R202, R203). -/
def Act.delivers (a : Act) (exc : Bool) : Bool := bit a.mode 2 && !exc

namespace Firing

def toks (f : Firing) : List TVal := f.inL.toList ++ f.inR.toList ++ f.inC.toList

/-- A token input carries EXC (R203). -/
def excIn (f : Firing) : Bool := f.toks.any (fun t => stExc t.st)

/-- Flags and ND of the operand tokens (R41). -/
def inhFlags (f : Firing) : Flags7 := orFlags (f.toks.map (fun t => stFlags t.st))
def inhNd (f : Firing) : Bool := f.toks.any (fun t => stNd t.st)

/-- The instruction's fields. -/
def iw (f : Firing) : IWord := decodeIWord f.word

end Firing

end Sys2Proof.Machine
end

