-- ==== Sys2Proof/Machine/Match.lean ====
section
/-! DEFINITION. Arrival of tokens, matching, FAN and LOOPGATE, spilling and reload, deadlock detection, purge, errors of
the matching store, and dispatch (R39, R44, R49 to R56, R65, R67, R83 to R105). -/

namespace Sys2Proof.Machine

/-- The value that an entry holds for a port (Table 3.1). -/
def MEntry.at (e : MEntry) (p : Nat) : Option TVal :=
  if 0 < e.count ∧ e.p0 = p then some e.v0
  else if 1 < e.count ∧ e.p1 = p then some e.v1
  else if 2 < e.count ∧ e.p2 = p then some e.v2
  else none

/-- The entry with a value stored in the next free position. (DESIGN CHOICE, log entry 104) -/
def MEntry.add (e : MEntry) (p : Nat) (v : TVal) : MEntry :=
  if e.count = 0 then { e with p0 := p, v0 := v, count := 1 }
  else if e.count = 1 then { e with p1 := p, v1 := v, count := 2 }
  else { e with p2 := p, v2 := v, count := e.count + 1 }

/-- An entry that holds no value yet. -/
def MEntry.fresh (t key : Nat) (kind : MKind) (need inc wafer : Nat) : MEntry :=
  let z : TVal := ⟨0, 0⟩
  { tile := t, place := .way 0 0 0, key := key, kind := kind, p0 := 0, v0 := z, p1 := 0, v1 := z, p2 := 0, v2 := z,
    need := need, count := 0, inc := inc, wafer := wafer, live := 0, head := 0, tail := 0, heldIter := 0 }

/-- Every port of NEED is present. -/
def MEntry.full (e : MEntry) : Bool := (List.range 3).all (fun p => !e.need.testBit p || (e.at p).isSome)

namespace State

/-- Firings in a tile's ready queue (R54). -/
def readyCount (s : State) (t : Nat) : Nat := (s.firings.filter (fun f => decide (f.tile = t ∧ f.stage = .ready))).length

def readyRoom (s : State) (t : Nat) : Bool := decide (s.readyCount t < (s.tileAt t).rqLimit)

/-- A firing of a word joins the ready queue. -/
def enqueueWord (s : State) (word : Word) (t : Nat) (tag : Tag) (a : Act) (l r c : Option TVal) : State :=
  let f : Firing :=
    { id := s.nextFid, tile := t, pe := 0, tag := tag &&& ~~~3, inc := a.inc, wafer := a.wafer, epoch := a.epoch,
      word := word, inL := l, inR := r, inC := c, stage := .ready, wait := .none, outs := [],
      stores := [], effects := [], raised := 0, nd := false, attempt := 0, reserved := 0, granted := none, fenceSeq := 0,
      since := s.now }
  let s1 := { s with firings := s.firings ++ [f], nextFid := s.nextFid + 1 }
  s1.rmax (Reg.TIL_READYQ_MAX t) (s1.readyCount t)

/-- A matched firing joins the ready queue. -/
def enqueue (s : State) (t : Nat) (tag : Tag) (a : Act) (l r c : Option TVal) : State :=
  s.enqueueWord (s.fetchWord a.epoch (tagIaddr tag)) t tag a l r c

/-- A token formed outside a PE's commit: by the router or by the store. -/
def emitTok (s : State) (o : OutTok) (a : Act) (t pe : Nat) : State :=
  let egress := (s.tileAt t).oldest && !s.isOldestWafer a.wafer
  s.sendTokens [s.mkToken o a.epoch a.inc 0 t pe 0 0 egress]

/-- Flags of result tokens ORed into the activation's accumulator (R42). -/
def accumulate (s : State) (id : Nat) (fl : Flags7) (nd : Bool) : State :=
  s.updAct id (fun a => { a with flags := a.flags ||| fl, nd := a.nd || nd })

/-- The token may enter the store input now: it is the first on its channel (R425), the tile takes part and is not fenced
(R475), and oldest-wafer mode lets it pass (R97, R98). -/
def mayArrive (s : State) (t : Nat) (k : Token) : Bool :=
  let x := s.tileAt t
  s.firstOnVc k && s.tileLive t && !s.tileFenced t && (!x.oldest || (s.isOldest (tagSlot k.tag) && !x.reload))

/-- A discarded token quarantines its activation with COLLIDE or BADPORT (R51). -/
def badToken (s : State) (t cause : Nat) (k : Token) : State :=
  (s.rinc (Reg.TIL_BADPORT t)).quarantine (tagAct k.tag) cause t 2 (tagIaddr k.tag)

/-- FAN copies its token to A and B in the router (R41, R65). -/
def fanOut (s : State) (t : Nat) (k : Token) (a : Act) : State :=
  let i := decodeIWord (s.fetchWord a.epoch (tagIaddr k.tag))
  let out (x : Nat) : List OutTok := match destOf (tagIaddr k.tag) x with
    | none => []
    | some d => [⟨mkTag (tagDevice k.tag) (tagAct k.tag) (tagSlot k.tag) (tagIter k.tag) d.1 d.2, k.tv⟩]
  let os := out i.da ++ out i.db
  let s1 := os.foldl (fun (s : State) o => s.emitTok o a t k.srcPe) s
  let s2 := if os.isEmpty then s1 else s1.accumulate a.id (stFlags k.tv.st) (stNd k.tv.st)
  (s2.rinc (Reg.TIL_FIRINGS t)).progress (tagSlot k.tag)

/-- An entry with a new content, where it lies. -/
def mstPut (s : State) (old new : MEntry) : State := { s with mst := s.mst.map (fun x => if x = old then new else x) }

/-- A current entry of some kind with a key on a tile, wherever it lies. -/
def mstFind (s : State) (t key inc : Nat) (gate : MKind → Bool) : Option MEntry :=
  s.mst.find? (fun e => decide (e.tile = t ∧ e.key = key ∧ e.inc = inc) && gate e.kind)

def isPair (k : MKind) : Bool := decide (k = .operand ∨ k = .complete)
def isGate (k : MKind) : Bool := decide (k = .gateState)
def isHeld (k : MKind) : Bool := decide (k = .held)

/-- Entries that match a key with a stale INC are freed when they are found (R85). -/
def freeStale (s : State) (t key inc : Nat) : State :=
  let old := s.mst.filter (fun e => decide (e.tile = t ∧ e.key = key ∧ e.inc ≠ inc))
  if old.isEmpty then s
  else (old.foldl (fun (s : State) e => if e.inTable then s.takeTable t e else s.mstDrop e) s).occChanged t

/-- No entry is in use by the lookup. -/
def noneBusy (_ : MEntry) : Bool := false

/-- An entry in the table or the reserve comes back to a way for its lookup (R94); false where it must wait.  One that comes
from the transit buffer was not fetched. -/
def bringBack (s : State) (t : Nat) (e : MEntry) (busy : MEntry → Bool) : Bool × State :=
  if e.inStore then (true, s)
  else
    let r := (if e.inTable then s.takeTable t e else s.mstDrop e).insertEntry t e false busy
    if r.1 then (true, (if e.transit then r.2 else r.2.rinc (Reg.MST_FETCHES t)).progress (keySlot e.key))
    else (false, if (r.2.tileAt t).oldest then s.enterOldest t else s)

/-- A complete entry moves to the ready queue if it has room (R55, R85). -/
def entryReady (s : State) (t : Nat) (e : MEntry) : State :=
  match s.act? (keyAct e.key) with
  | none => (s.mstDrop e).occChanged t
  | some a =>
    if s.readyRoom t then
      ((s.enqueue t (BitVec.ofNat 64 (e.key * 4)) a (e.at 0) (e.at 1) (e.at 2)).mstDrop e).occChanged t
    else s

/-- A token meets its entry (R51, R85). -/
def meet (s : State) (t : Nat) (k : Token) (e : MEntry) : State :=
  let p := tagPort k.tag
  if (e.at p).isSome then s.badToken t 2 k
  else if !e.need.testBit p then s.badToken t 3 k
  else
    let e1 := e.add p k.tv
    if e1.full then
      let e2 := { e1 with kind := .complete }
      (s.mstPut e e2).entryReady t e2
    else s.mstPut e e1

/-- The lookup of a dyadic or triadic token (R85); false where the token must stay at the input. -/
def lookup (s : State) (t mask : Nat) (k : Token) (a : Act) : Bool × State :=
  let key := tagKey k.tag
  let s0 := s.freeStale t key a.inc
  let s1 := (s0.rinc (Reg.TIL_LOOKUPS t)).rset (Reg.MST_CONFLICT t) 1
  if s.mfetch.any (fun m => decide (m.tile = t ∧ tagKey m.tok.tag = key)) then
    (true, ({ s1 with mfetch := s1.mfetch ++ [⟨t, k⟩] } : State).progress (tagSlot k.tag))
  else
    match s0.mstFind t key a.inc isPair with
    | some e =>
      if e.inStore then (true, s1.meet t k e)
      else if e.transit then
        let r := s1.bringBack t e noneBusy
        if r.1 then
          (true, match r.2.mstFind t key a.inc isPair with
            | some e' => r.2.meet t k e'
            | none => r.2)
        else (true, ({ r.2 with mfetch := r.2.mfetch ++ [⟨t, k⟩] } : State).progress (tagSlot k.tag))
      else (true, ({ s1 with mfetch := s1.mfetch ++ [⟨t, k⟩] } : State).progress (tagSlot k.tag))
    | none =>
      let s2 := if s1.filterHit t key then s1.rinc (Reg.MST_FILTER_FP t) else s1
      let fits := mask.testBit (tagPort k.tag)
      let e0 := MEntry.fresh t key .operand mask a.inc a.wafer
      let e := if fits then e0.add (tagPort k.tag) k.tv else e0
      let r := s2.insertEntry t e true noneBusy
      if r.1 then (true, if fits then r.2 else r.2.badToken t 3 k) else (false, (s0.insertEntry t e true noneBusy).2)

/-- A trap that the store raises for a token commits its exception token, or quarantines (R48, R202, R203). -/
def storeTrap (s : State) (t cause : Nat) (k : Token) (a : Act) : State :=
  let w := s.fetchWord a.epoch (tagIaddr k.tag)
  let p := tagPort k.tag
  let v := opField (decodeIWord w).ty 0 k.tv.v
  let x : TrapInfo := ⟨cause, 0, 0, if p = 0 then v else 0, 0, if p = 2 then v else 0⟩
  if a.delivers (stExc k.tv.st) then
    let o := excToken k.tag w a.handler (stFlags k.tv.st) (stNd k.tv.st) x
    (s.emitTok o a t 0).accumulate a.id (stFlags k.tv.st) (stNd k.tv.st)
  else s.quarantine a.id 4 t 2 (tagIaddr k.tag)

/-- Key of LOOPGATE's state entry and of its held token `n` (R67, R80). -/
def gateKey (k : Tag) : Nat := mkKey (tagDevice k) (tagAct k) (tagSlot k) 0 (tagIaddr k)
def heldKey (k : Tag) (n : Nat) : Nat := mkKey (n / 2048) (tagAct k) (tagSlot k) (n % 2048) (tagIaddr k)

/-- The two entries have one key and kind: the lookup that uses the one uses the other. -/
def sameEntry (g x : MEntry) : Bool := decide (x.key = g.key ∧ x.kind = g.kind)

/-- LOOPGATE's first held token is released and sent to A (R67, R80): an entry of the table comes back to its set first
(R94); false where it must wait. -/
def gateRelease (s0 : State) (t : Nat) (k : Token) (a : Act) (g : MEntry) (da : Nat) : Bool × State :=
  let key := heldKey k.tag g.head
  let back : Bool × State := match s0.mstFind t key a.inc isHeld with
    | some h => s0.bringBack t h (sameEntry g)
    | none => (true, s0)
  let s := back.2
  if !back.1 then back
  else
    match s.mstFind t key a.inc isHeld with
    | none => (true, s)
    | some h =>
      let s2 := (s.mstDrop h).mstPut g { g with head := (g.head + 1) % 2097152 }
      let s3 := match destOf (tagIaddr k.tag) da with
        | none => s2
        | some d =>
          (s2.emitTok ⟨mkTag (tagDevice k.tag) (tagAct k.tag) (tagSlot k.tag) h.heldIter d.1 d.2, h.v0⟩ a t 0).accumulate
            a.id (stFlags h.v0.st) (stNd h.v0.st)
      (true, (s3.progress (tagSlot k.tag)).occChanged t)

/-- LOOPGATE on an arriving token (R67); false where the token must stay at the input. (DESIGN CHOICE, log entry 103) -/
def loopgate (s : State) (t : Nat) (k : Token) (a : Act) : Bool × State :=
  let i := decodeIWord (s.fetchWord a.epoch (tagIaddr k.tag))
  let lim := i.lit % 2048
  let key := gateKey k.tag
  let s0 := s.freeStale t key a.inc
  let s1 := (s0.rinc (Reg.TIL_LOOKUPS t)).rset (Reg.MST_CONFLICT t) 1
  let p := tagPort k.tag
  if p = 1 then (true, s1.badToken t 3 k)
  else if stCtx k.tv.st then (true, s1.storeTrap t cCTX k a)
  else
    let ready : Bool × State := match s1.mstFind t key a.inc isGate with
      | some g => s1.bringBack t g noneBusy
      | none =>
        let s2 := if s1.filterHit t key then s1.rinc (Reg.MST_FILTER_FP t) else s1
        if p = 0 then s2.insertEntry t (MEntry.fresh t key .gateState 0 a.inc a.wafer) true noneBusy else (true, s2)
    let undo (x : State) : Bool × State :=
      (false, (x.rset (Reg.TIL_LOOKUPS t) (s.rget (Reg.TIL_LOOKUPS t))).rset (Reg.MST_FILTER_FP t) (s.rget (Reg.MST_FILTER_FP t)))
    if !ready.1 then undo ready.2
    else
      let s2 := ready.2
      match s2.mstFind t key a.inc isGate with
      | none => (true, s2.quarantine a.id 5 t 2 (tagIaddr k.tag))
      | some g =>
        if p = 0 then
          if g.live < lim then
            let s3 := s2.mstPut g { g with live := g.live + 1 }
            (true, match destOf (tagIaddr k.tag) i.da with
              | none => s3
              | some d =>
                (s3.emitTok ⟨mkTag (tagDevice k.tag) (tagAct k.tag) (tagSlot k.tag) (tagIter k.tag) d.1 d.2, k.tv⟩ a t
                  0).accumulate a.id (stFlags k.tv.st) (stNd k.tv.st))
          else
            let h := { (MEntry.fresh t (heldKey k.tag g.tail) .held 0 a.inc a.wafer).add 0 k.tv with
                       heldIter := tagIter k.tag }
            let r := (s2.mstPut g { g with tail := (g.tail + 1) % 2097152 }).insertEntry t h true (sameEntry g)
            if r.1 then r else undo (s2.insertEntry t h true (sameEntry g)).2
        else if g.live = 0 then (true, s2.quarantine a.id 5 t 2 (tagIaddr k.tag))
        else
          let held := decide (g.head ≠ g.tail)
          if held then
            let r := s2.gateRelease t k a g i.da
            if r.1 then r else undo r.2
          else
            let g1 := { g with live := g.live - 1 }
            if g1.live = 0 then (true, ((s2.mstPut g g1).mstDrop g1).occChanged t) else (true, s2.mstPut g g1)

/-- How the store treats a token (R84); a stray start token is one that reaches an unloaded word (R146, R163). -/
def tokenMatch (s : State) (a : Act) (k : Token) : MatchKind :=
  if k.stray then .illegal else s.matchOf a.epoch (tagIaddr k.tag)

/-- A token at the store input (R39, R44, R49, R85); false where it must stay at the input. -/
def arrive (s : State) (t : Nat) (k : Token) : Bool × State :=
  if k.inc ≠ (s.slotAt (tagSlot k.tag)).inc then (true, s)
  else if tagPort k.tag = 3 ∨ tagDevice k.tag ≠ s.localId then
    (true, (s.rinc (Reg.TIL_BADPORT t)).eventTag (srcTile t 5) 0 0x10 0 k.tag none)
  else
    let orphan (_ : Unit) : State :=
      let s1 := s.rinc (Reg.TIL_ORPHAN t)
      if s.rbit (Reg.TIL_CTRL t) 0 then s1.eventTag (srcTile t 5) 0 0x11 0 k.tag none else s1
    match s.act? (tagAct k.tag) with
    | none => (true, orphan ())
    | some a =>
      match a.state with
      | .ending => (true, orphan ())
      | .quarantined => (true, s)
      | .live =>
        let p := tagPort k.tag
        let word := if k.stray then unloadedWord else s.fetchWord a.epoch (tagIaddr k.tag)
        let alone (ok : Bool) : Bool × State :=
          if !ok then (true, s.badToken t 3 k)
          else if s.readyRoom t then
            (true, s.enqueueWord word t k.tag a (if p = 0 then some k.tv else none) (if p = 1 then some k.tv else none)
              (if p = 2 then some k.tv else none))
          else (false, s)
        match s.tokenMatch a k with
        | .illegal => alone true
        | .merge => alone (decide (p ≤ 1))
        | .fan => if p = 0 then (true, s.fanOut t k a) else (true, s.badToken t 3 k)
        | .loopgate => s.loopgate t k a
        | .need m =>
          if m = 1 ∨ m = 2 ∨ m = 4 then alone (m.testBit p)
          else s.lookup t m k a

/-- The `n`-th token in the network for a tile. -/
def netTok (s : State) (t n : Nat) : Option Token := (s.net.filter (fun k => decide (k.dtile = t)))[n]?

/-- The network without the `n`-th token for a tile. -/
def netErase (t : Nat) : Nat → List Token → List Token
  | _, [] => []
  | n, k :: ks =>
    if k.dtile = t then (match n with
      | 0 => ks
      | n + 1 => k :: netErase t n ks)
    else k :: netErase t n ks

/-- The `n`-th token for a tile arrives where it may and where `c` accepts it. -/
def tokenIn (s : State) (t n : Nat) (c : State → Token → Bool) : State :=
  match s.netTok t n with
  | none => s
  | some k =>
    if s.mayArrive t k && c s k then
      let s0 := { s with net := netErase t n s.net }
      let r := s0.arrive t k
      if r.1 then r.2.settle else { r.2 with net := s.net, netSeq := s.netSeq }
    else s

/-- The kind of match of a token's instruction, none for a token of an activation that is not LIVE. -/
def tokKind (s : State) (k : Token) : Option MatchKind :=
  match s.act? (tagAct k.tag) with
  | some a => if a.state = .live then some (s.tokenMatch a k) else none
  | none => none

/-- A fetch from the spill table completes for the `n`-th waiting lookup of a tile, in order of arrival within a key
(R83, R94). -/
def spillFetch (s : State) (t n : Nat) : State :=
  match (s.mfetch.filter (fun m => decide (m.tile = t)))[n]? with
  | none => s
  | some m =>
    let key := tagKey m.tok.tag
    let first := (s.mfetch.filter (fun x => decide (x.tile = t ∧ tagKey x.tok.tag = key))).head?
    if first ≠ some m then s
    else
      let s0 := { s with mfetch := s.mfetch.filter (fun x => decide (x ≠ m)) }
      let inc := (s.slotAt (tagSlot m.tok.tag)).inc
      match s.act? (tagAct m.tok.tag) with
      | none => s0
      | some a =>
        if m.tok.inc ≠ inc ∨ a.state ≠ .live then s0
        else
          match s0.mstFind t key a.inc isPair with
          | none =>
            (match s0.lookup t (match s0.matchOf a.epoch (tagIaddr m.tok.tag) with
              | .need x => x
              | _ => 0) m.tok a with
             | (true, s') => s'
             | (false, s') => { s' with mfetch := s.mfetch })
          | some e =>
            let r := s0.bringBack t e noneBusy
            if r.1 then
              ((match r.2.mstFind t key a.inc isPair with
                | some e' => r.2.meet t m.tok e'
                | none => r.2).leaveOldest t).settle
            else { r.2 with mfetch := s.mfetch }

/-- Reserve entries of the new oldest wafer are reloaded, one at a time, until none is left (R98, R99). -/
def reserveReload (s : State) (t : Nat) : State :=
  if (s.tileAt t).oldest then
    match s.mst.find? (fun e => decide (e.tile = t) && e.inReserve && s.isOldestWafer e.wafer) with
    | none => (s.updTile t (fun x => { x with reload := false })).leaveOldest t
    | some e => (s.bringBack t e noneBusy).2.leaveOldest t
  else s

/-- A new oldest wafer: tiles whose reserve holds its entries reload them before they accept its tokens (R98). -/
def newOldest (s : State) : State :=
  ((List.range 16).foldl (fun (s : State) t =>
    if (s.tileAt t).oldest then
      let s1 := s.updTile t (fun x => { x with reload := s.mst.any (fun e =>
        decide (e.tile = t) && e.inReserve && s.isOldestWafer e.wafer) })
      ((s1.activeSlots.filter s1.isOldest).foldl State.progress s1).leaveOldest t
    else s) s).inject

/-- Entries of a slot on a tile (Table 3.6). -/
def slotEntries (s : State) (t k : Nat) : List MEntry :=
  s.mst.filter (fun e => decide (e.tile = t ∧ keySlot e.key = k))

/-- Admission is paused by ADMIT, the supply monitor or DOZE (R23, R26). -/
def admitPaused (s : State) : Bool := !s.rbit Reg.TCK_CTRL 2 || s.hold || decide (2 ≤ s.power.doze)

/-- Where admission is paused, no detector's timer runs (R102). -/
def pauseDetectors (s : State) : State := if s.admitPaused then (List.range 8).foldl State.progress s else s

/-- A recovery that affects the slot is in progress (R102). -/
def recovering (s : State) (k : Nat) : Bool := s.replayPending k || s.recOpen.any (fun j => j.slots.contains k)

/-- An excusing condition of the slot holds (R102, R263). (DEDUCED, log entry 25) -/
def excused (s : State) (k : Nat) : Bool :=
  s.firings.any (fun f => decide (f.slot = k) &&
    decide (f.wait = .channel ∨ f.wait = .lock ∨ f.wait = .delay ∨ f.wait = .alloc ∨ f.wait = .xreply ∨ f.wait = .vote)) ||
  s.startReqs.any (fun r => decide (r.slot = k)) || s.flowQ.any (fun r => decide (r.slot = k)) ||
  s.delays.any (fun d => decide (d.slot = k)) ||
  (!s.isOldest k && s.tiles.any (·.oldest)) ||
  s.admitPaused || s.recovering k ||
  s.mfetch.any (fun m => decide (tagSlot m.tok.tag = k)) || (s.isOldest k && s.tiles.any (·.reload))

/-- State of a detector (Table 3.6). -/
def dlState (s : State) (t k : Nat) : DlState :=
  let d := nth (s.tileAt t).det k .idle
  if (s.slotEntries t k).isEmpty then .idle
  else if d = .confirm ∨ d = .declare then d
  else if s.excused k then .paused
  else .watch

/-- The detectors at a sub-tick edge: the timers count, and are held at 0 while excused (Table 3.6). -/
def dlSubtick (s : State) : State :=
  (List.range 16).foldl (fun (s : State) t =>
    (List.range 8).foldl (fun (s : State) k =>
      let d := s.dlState t k
      s.updTile t (fun x => { x with
        det := updAt x.det k (fun _ => d),
        detT := updAt x.detT k (fun n => if d = .watch then n + 1 else if d = .confirm then n else 0) })) s) s

/-- The timer of a watching detector has reached the window (R101). -/
def dlExpire (s : State) (t k : Nat) : State :=
  if s.dlState t k = .watch ∧ (s.tileAt t).levels.window ≤ nth (s.tileAt t).detT k 0 then
    s.updTile t (fun x => { x with det := updAt x.det k (fun _ => .confirm) })
  else s

/-- A token or firing of the slot exists outside the stores (R103). -/
def slotBusy (s : State) (k : Nat) : Bool :=
  s.net.any (fun x => decide (tagSlot x.tag = k)) || s.firings.any (fun f => decide (f.slot = k)) ||
    s.mfetch.any (fun m => decide (tagSlot m.tok.tag = k))

/-- The quiescence check ends: WATCH again, or the declaration (R103). -/
def dlConfirm (s : State) (t k : Nat) : State :=
  if s.dlState t k = .confirm then
    let s1 := s.updTile t (fun x => { x with det := updAt x.det k (fun _ => .watch), detT := updAt x.detT k (fun _ => 0) })
    if s.slotBusy k then s1
    else
      let acts := ((s.slotEntries t k).map (fun e => keyAct e.key)).eraseDups
      (acts.foldl (fun (s : State) a => s.quarantine a 1 t 2 0) s1).rinc (Reg.MST_DL_COUNT t)
  else s

/-- The walk that frees a slot's stale entries, the table's and the reserve's with them (R105). (DESIGN CHOICE, log entry 104) -/
def purgeWalk (s : State) (t k : Nat) : State :=
  let old := (s.slotEntries t k).filter (fun e => decide (e.inc ≠ (s.slotAt k).inc))
  ((old.foldl (fun (s : State) e => if e.inTable then s.takeTable t e else s.mstDrop e) s).occChanged t).leaveOldest t

/-- Slots of active wafers that have entries on a tile. -/
def tileSlots (s : State) (t : Nat) : List Nat := s.activeSlots.filter (fun k => !(s.slotEntries t k).isEmpty)

/-- A replay that an error in a tile's store has asked for is open. -/
def storeReplays (s : State) (t : Nat) : Bool := s.recOpen.any (fun j => decide (j.mech = 5 ∧ j.src = srcTile t 2))

/-- A D144 error in codeword `c` of the `n`-th entry of a tile (R104, R454): codeword 0 holds the key, so its uncorrectable
error leaves the report without tag and wafer.  A second one at the same place after the replay retires the tile. -/
def mstError (s : State) (t n c : Nat) (e : Codeword) : State :=
  match (s.mst.filter (fun x => decide (x.tile = t)))[n]? with
  | none => s
  | some x =>
    let r0 := Report.plain 0 (srcTile t 2) 1 (match x.place with
      | .way b _ _ => b
      | _ => 0) (eccDetail e)
    let r := if decide (c = 0) && decide (d144Check e = .uncorrectable) then r0
      else { r0 with hasTag := true, tagw := w64 (x.key * 4), wafer := some x.wafer }
    match d144Check e with
    | .clean => s
    | .corrected _ _ => ((s.rinc (Reg.MST_ECC_CE t)).lastErr (Reg.MST_ECC_LAST t) r).report r none
    | .uncorrectable =>
      let s1 := s.lastErr (Reg.MST_ECC_LAST t) { r with cls := 2 }
      let m := match x.place with
        | .way b st w => s1.noteError 2 t (b * 2048 + st * 8 + w) (2 ^ 64)
        | _ => (false, s1)
      if m.1 && !s.storeReplays t then
        m.2.report (Report.plain 3 (srcTile t 2) 9 0 2) (some (m.2.newJob 6 3 (srcTile t 2) t 0 (m.2.activeSlots)))
      else if c = 0 then m.2.askReplay r (s.tileSlots t)
      else m.2.askReplay r [keySlot x.key]

/-- What an SDRAM address in a tile's spill area in force holds (R104, Tables 3.3 and 3.4): the tile, whether the codeword is
a key word or a header, and the slot of the entry that it belongs to. -/
def spillImage (s : State) (a : Nat) : Option (Nat × Bool × List Nat) :=
  match (List.range 16).find? (fun t => s.spillEn t && decide (s.spillBase t ≤ a ∧ a < s.spillBase t + 0x4000000)) with
  | none => none
  | some t =>
    let o := a - s.spillBase t
    let entry (p : MEntry → Bool) : List Nat :=
      ((s.mst.filter (fun e => decide (e.tile = t) && p e)).map (fun e => keySlot e.key)).eraseDups
    if o < 0x3C00000 then
      let i := o % 0x400
      if i < 0x40 then some (t, true, [])
      else
        some (t, decide ((i - 0x40) % 0x80 < 16),
          entry (fun e => decide (e.place = .table (o / 0x400) ((i - 0x40) / 0x80) false)))
    else
      some (t, decide (o % 0x80 < 16), entry (fun e => decide (e.place = .reserve ((o - 0x3C00000) / 0x80))))

/-- An SDRAM read error at address `a` with the error patterns of the first and the second read (R249, Table 8.6): in a spill
or reserve image it leads to a replay (R104). -/
def sdReadError (s : State) (a : Nat) (e e2 : Codeword) : State :=
  let c := sdChannel a
  let r := Report.plain 1 0x240 1 c (eccDetail e)
  match d144Check e with
  | .clean => s
  | .corrected j _ => s.sdCorrected c j e
  | .uncorrectable =>
    match d144Check e2 with
    | .uncorrectable =>
      let s1 := s.rinc Reg.SDC_ECC_UE
      (match s.spillImage a with
       | some (t, header, slots) =>
         (s1.lastErr Reg.SDC_ECC_LAST { r with cls := 2 }).askReplay r (if header then s.tileSlots t else slots)
       | none => (s1.lastErr Reg.SDC_ECC_LAST { r with cls := 4 }).report { r with cls := 4 } none)
    | .corrected j _ => (((s.lastErr Reg.SDC_ECC_LAST r).rinc Reg.SDC_REREAD).retried r).sdCorrected c j e2
    | .clean => ((s.lastErr Reg.SDC_ECC_LAST r).rinc Reg.SDC_REREAD).retried r

/-- The L1 instruction line of a firing is fetched into its PE through L2 (R84, R135, R223): a miss is counted, and a full set
gives up a line that only timing chooses. -/
def fetchLine (s : State) (t p iaddr : Nat) : State :=
  let line := iaddr / 8
  if s.mem.l1i.contains (t, p, line) then s
  else
    let s1 := (s.rinc (Reg.PEX_IC_MISS t p)).codeFetch line
    let same := s1.mem.l1i.filter (fun x => decide (x.1 = t ∧ x.2.1 = p ∧ x.2.2 % 64 = line % 64))
    if same.length < 4 then { s1 with mem.l1i := (t, p, line) :: s1.mem.l1i }
    else
      let r := s1.drawNat
      let v := nth same (r.1 % same.length) (t, p, line)
      { r.2 with mem.l1i := (t, p, line) :: r.2.mem.l1i.filter (fun x => decide (x ≠ v)) }

/-- PEs that ask for a firing: in the pool, IN_SERVICE, with a free firing context (R53). -/
def asking (s : State) (t p : Nat) : Bool :=
  s.rbit (Reg.TIL_POOL t) p && decide (s.rfld (Reg.PEX_STATUS t p) 3 0 = 0) && decide (s.inflight t p < 16)

/-- The firing that the dispatcher grants next (R54, R97): the most urgent level, then the order of entry. -/
def nextReady (s : State) (t : Nat) : Option Firing :=
  (s.firings.filter (fun f => decide (f.tile = t ∧ f.stage = .ready) &&
    (!(s.tileAt t).oldest || s.isOldestWafer f.wafer))).foldl
    (fun (acc : Option Firing) f => match acc with
      | none => some f
      | some x => if s.actLevel f.act < s.actLevel x.act then some f else some x) none

/-- In oldest-wafer mode, a COMPLETE entry of the oldest wafer where the queue holds none of its firings (R97). -/
def completeOldest (s : State) (t : Nat) : State :=
  if (s.tileAt t).oldest && (s.nextReady t).isNone then
    match s.mst.find? (fun e => decide (e.tile = t ∧ e.kind = .complete) && e.inStore && s.isOldestWafer e.wafer) with
    | none => s
    | some e =>
      match s.act? (keyAct e.key) with
      | none => s
      | some a => ((s.enqueue t (BitVec.ofNat 64 (e.key * 4)) a (e.at 0) (e.at 1) (e.at 2)).mstDrop e).occChanged t
  else s

/-- One grant to PE `p`: ready firings of an activation that is not LIVE are discarded (R45, R53, R54).  Dispatched firings
stand in the order of their dispatch (R468). -/
def grantOne : Nat → Nat → Nat → State → State
  | 0, _, _, s => s
  | n + 1, t, p, s0 =>
    let s := s0.completeOldest t
    match s.nextReady t with
    | none => s
    | some f =>
      if s.acts.any (fun a => decide (a.id = f.act ∧ a.state = .live)) then
        let s1 := { s with firings := s.firings.filter (fun (x : Firing) => decide (x.id ≠ f.id)) ++
                                        [{ f with stage := .dispatched, pe := p, wait := .none }] }
        let s2 := (s1.updTile t (fun x => { x with rr := p + 1 })).fetchLine t p f.iaddr
        (s2.rmax (Reg.PEX_INFLIGHT_MAX t p) (s2.inflight t p)).redispatched f.id
      else grantOne n t p (s.dropFiring f)

/-- One cycle of a tile's dispatcher (R53): every asking PE in turn from the round-robin position on. -/
def dispatch (s : State) (t : Nat) : State :=
  if s.tileLive t && !s.tileFenced t then
    let rr := (s.tileAt t).rr
    let ps := ((List.range 17).map (fun k => (rr + k) % 17)).filter (s.asking t)
    ps.foldl (fun (s : State) p => grantOne (s.firings.length + 1) t p s) s
  else s

/-- A held complete entry enters the ready queue (R55). -/
def admitReady (s : State) (t : Nat) : State :=
  if s.readyRoom t then
    match s.mst.find? (fun e => decide (e.tile = t ∧ e.kind = .complete) && e.inStore) with
    | none => s
    | some e => (s.entryReady t e).leaveOldest t
  else s

end State

def execTokenArrival (t n : Nat) (s : State) : Out := .next (s.onlyIf (!s.dead) (·.tokenIn t n (fun _ _ => true)))

/-- FAN of the `n`-th token for the tile. -/
def execFireFan (t n : Nat) (s : State) : Out :=
  .next (s.onlyIf (!s.dead) (·.tokenIn t n (fun s k => decide (s.tokKind k = some .fan))))

/-- LOOPGATE of the `n`-th token for the tile. -/
def execFireLoopgate (t n : Nat) (s : State) : Out :=
  .next (s.onlyIf (!s.dead) (·.tokenIn t n (fun s k => decide (s.tokKind k = some .loopgate))))

def execSpillWrite (t : Nat) (s : State) : Out := .next (s.onlyIf (!s.dead) (·.spillOne t))
def execSpillFetch (t n : Nat) (s : State) : Out := .next (s.onlyIf (!s.dead) (·.spillFetch t n))
def execReserveReload (t : Nat) (s : State) : Out := .next (s.onlyIf (!s.dead) (·.reserveReload t))
def execDeadlockWindowExpiry (t k : Nat) (s : State) : Out := .next (s.onlyIf (!s.dead) (·.dlExpire t k))
def execDeadlockConfirm (t k : Nat) (s : State) : Out := .next (s.onlyIf (!s.dead) (·.dlConfirm t k))
def execMstPurgeWalk (t k : Nat) (s : State) : Out := .next (s.onlyIf (!s.dead) (·.purgeWalk t k))
def execSdramEccError (a : Nat) (e e2 : Codeword) (s : State) : Out := .next (s.sdReadError a e e2)
def execMstEccError (t n c : Nat) (e : Codeword) (s : State) : Out := .next (s.onlyIf (!s.dead) (·.mstError t n c e))
def execDispatchGrant (t : Nat) (s : State) : Out := .next (s.onlyIf (!s.dead) (·.dispatch t))
def execReadyQueueAdmit (t : Nat) (s : State) : Out := .next (s.onlyIf (!s.dead) (·.admitReady t))

end Sys2Proof.Machine
end

