-- ==== Sys2Proof/Machine/FabSend.lean ====
section
/-! DEFINITION. Sending on the fabric: headers, routes, retention, frames and the link word (R387, R388, R395 to R398),
and the checks and queues of remote access (R401, R402). -/

namespace Sys2Proof.Machine

/-- The header codeword of a message (Table 13.6). -/
def Msg.header (m : Msg) : BitVec 128 :=
  BitVec.ofNat 128 (m.dst % 1024 * 2 ^ 118 + m.src % 1024 * 2 ^ 108 + m.kind % 64 * 2 ^ 102 + m.ncw % 16 * 2 ^ 98 +
    m.vc % 4 * 2 ^ 96 + m.eseq % 65536 * 2 ^ 80 + m.aux % 65536 * 2 ^ 64 + m.arg % 2 ^ 64)

/-- The codewords of a message, header first (R396). -/
def Msg.words (m : Msg) : List (BitVec 128) := m.header :: m.body

/-- A message read from its codewords. -/
def msgOf (h : BitVec 128) (body : List (BitVec 128)) : Msg :=
  { dst := fld h 127 118, src := fld h 117 108, kind := fld h 107 102, ncw := fld h 101 98, vc := fld h 97 96,
    eseq := fld h 95 80, aux := fld h 79 64, arg := fld h 63 0, body := body }

/-- CRC-8 of the link word over [31:8], most significant bit first (Table 13.1). -/
def crc8Go : Nat → Nat → Nat → Nat
  | 0, _, c => c
  | n + 1, w, c =>
    let inb := b2n (w.testBit n)
    let top := c / 128 % 2
    let c1 := c * 2 % 256
    crc8Go n w (if (inb + top) % 2 = 1 then c1 ^^^ 0x07 else c1)

def crc8 (w : Nat) : Nat := crc8Go 24 w 0xFF

/-- A link word from its fields (Table 13.1). -/
def linkWord (v0 : Bool) (vc0 : Nat) (v1 : Bool) (vc1 fseq ack : Nat) (nak : Bool) (cvc cred : Nat) : BitVec 32 :=
  let hi := b2n v0 * 2 ^ 23 + vc0 % 4 * 2 ^ 21 + b2n v1 * 2 ^ 20 + vc1 % 4 * 2 ^ 18 + fseq % 64 * 2 ^ 12 + ack % 64 * 2 ^ 6 +
    b2n nak * 2 ^ 5 + cvc % 4 * 2 ^ 3 + cred % 8
  BitVec.ofNat 32 (hi * 256 + crc8 hi)

/-- The flits that go next: one of VC0 ahead of every other (R400). -/
def nextFlit (q : List (Nat × Codeword)) : Option ((Nat × Codeword) × List (Nat × Codeword)) :=
  match q.findIdx? (fun x => decide (x.1 = 0)) with
  | some i => (q[i]?).map (fun x => (x, q.eraseIdx i))
  | none => match q with
    | [] => none
    | x :: xs => some (x, xs)

/-- The credits that the next frame returns: up to 7, of the lowest virtual channel that has any (Table 13.1).
(DESIGN CHOICE, log entry 97) -/
def Link.credit (l : Link) : Nat × Nat :=
  match (List.range 4).find? (fun v => decide (nth l.freed v 0 ≠ 0)) with
  | some v => (v, min 7 (nth l.freed v 0))
  | none => (0, 0)

/-- Credits in use after a flit has been sent. -/
def useCredit (used : List Nat) (a : Option (Nat × Codeword)) : List Nat :=
  match a with
  | some x => updAt used x.1 (· + 1)
  | none => used

/-- A frame with up to two flits, sent with ACK, NAK and credits as they stand; one without a flit repeats FSEQ (R387, R388). -/
def Link.frame (l : Link) (a b : Option (Nat × Codeword)) (fseq : Nat) : Link × Frame :=
  let c := l.credit
  let fr : Frame := ⟨(a.map (·.2)).getD 0, (b.map (·.2)).getD 0,
    linkWord a.isSome ((a.map (·.1)).getD 0) b.isSome ((b.map (·.1)).getD 0) fseq l.rxFseq l.nak c.1 c.2⟩
  ({ l with freed := updAt l.freed c.1 (fun x => x - c.2), used := useCredit (useCredit l.used a) b, last := some fr }, fr)

/-- Frames with flits sent while fewer than 32 wait for ACK; the first of them starts the time of ACK's progress (R387,
R388). -/
def Link.pump (now : Nat) : Nat → Link → Link
  | 0, l => l
  | n + 1, l =>
    if 32 ≤ l.kept.length then l
    else
      match nextFlit l.txq with
      | none => l
      | some (a, q1) =>
        let f := (l.txFseq + 1) % 64
        let b := nextFlit q1
        let r := l.frame (some a) (b.map (·.1)) f
        Link.pump now n { r.1 with
          txFseq := f, kept := l.kept ++ [(f, r.2)], progT := if l.kept.isEmpty then now else l.progT
          txq := match b with
            | some (_, q2) => q2
            | none => q1 }

/-- Codewords queued on a link's virtual channel. -/
def Link.push (l : Link) (now vc : Nat) (ws : List (BitVec 128)) : Link :=
  let q := l.txq ++ ws.map (fun w => (vc, d144Encode w))
  Link.pump now (q.length + 1) { l with txq := q }

/-- The frame that a link sends next: one with flits where any may go, else one without (R387). -/
def Link.answer (l : Link) (now : Nat) : Link :=
  if l.txq.isEmpty ∨ 32 ≤ l.kept.length then (l.frame none none l.txFseq).1 else l.pump now (l.txq.length + 1)

/-- Kinds that travel end to end (Table 13.7). -/
def kindE2e (k : Nat) : Bool := decide (k ≠ 0x01 ∧ k ≠ 0x03 ∧ k ≠ 0x30)

/-- Kinds that a RESTRICTED or sleeping link carries (Table 13.2). -/
def kindLow (k : Nat) : Bool := decide (k = 0x01 ∨ k = 0x02 ∨ k = 0x03 ∨ k = 0x04)

namespace State

def linkAt (s : State) (p : Nat) : Link := nth s.fab.links p Reset.link

def updLink (s : State) (p : Nat) (f : Link → Link) : State := { s with fab.links := updAt s.fab.links p f }

/-- The link carries a message of a kind (Table 13.2). -/
def linkCarries (s : State) (p kind : Nat) : Bool :=
  let st := (s.linkAt p).state
  decide (st = .up) || (kindLow kind && decide (st = .restricted ∨ st = .sleep))

/-- The port by which a message leaves for a device (R395, R398). -/
def routeOut (s : State) (dst kind : Nat) : Option Nat :=
  let e := s.rget (Reg.FAB_ROUTE dst)
  let pri := fld e 14 12
  let alt := fld e 11 9
  if !bit e 15 then none
  else if pri < 6 ∧ s.linkCarries pri kind then some pri
  else if alt < 6 ∧ s.linkCarries alt kind then some alt
  else none

/-- A message put on its link, none where no link is UP for it. -/
def forward (s : State) (m : Msg) : Option State :=
  (s.routeOut m.dst m.kind).map (fun p => s.updLink p (fun l => l.push s.clock m.vc m.words))

/-- Codewords that the retention buffer holds (R398). -/
def retainUsed (s : State) : Nat := s.fab.retained.foldl (fun n r => n + 1 + r.msg.body.length) 0

/-- An end-to-end message is numbered, retained and forwarded, or waits for retention space (R398). -/
def sendMsg (s : State) (dst kind vc aux arg : Nat) (body : List (BitVec 128)) : State :=
  let m : Msg := { dst := dst, src := s.localId, kind := kind, ncw := body.length, vc := vc, eseq := 0, aux := aux, arg := arg,
                   body := body }
  if 16384 < s.retainUsed + 1 + body.length ∨ !s.fab.waiting.isEmpty then
    { s with fab.waiting := s.fab.waiting ++ [m] }.rsetBit Reg.FAB_STATUS 11 true
  else
    let k := dst * 4 + vc
    let n := smGet s.fab.txSeq k 0
    let m' := { m with eseq := n }
    let s1 := { s with fab.txSeq := smPut s.fab.txSeq k 0 ((n + 1) % 65536) }
    match s1.forward m' with
    | some s2 => { s2 with fab.retained := s2.fab.retained ++ [⟨m', s.clock, true⟩] }
    | none => { s1 with fab.retained := s1.fab.retained ++ [⟨m', s.clock, false⟩] }

/-- A link-local message on port `p`. -/
def sendLocal (s : State) (p dst kind vc aux arg : Nat) (body : List (BitVec 128)) : State :=
  let m : Msg := { dst := dst, src := s.localId, kind := kind, ncw := body.length, vc := vc, eseq := 0, aux := aux, arg := arg,
                   body := body }
  s.updLink p (fun l => l.push s.clock vc m.words)

/-- A device is lost (R399). -/
def deviceLost (s : State) (d : Nat) : Bool := s.fab.lost.contains d

/-- Bytes as 128-bit codewords, zero-filled. -/
def packCws : Nat → List Byte → List (BitVec 128)
  | 0, _ => []
  | n + 1, bs => if bs.isEmpty then [] else BitVec.ofNat 128 (bytesToNat (bs.take 16)) :: packCws n (bs.drop 16)

/-- A remote request (R401): RDREQ or WRREQ with the local address of the home in ARG and the length in AUX. -/
def sendRemote (s : State) (device addr len : Nat) (data : Option (List Byte)) : State :=
  match data with
  | none => s.sendMsg device 0x08 2 len addr []
  | some bs => s.sendMsg device 0x0A 2 len addr (packCws 2 bs)

/-- A remote access is recorded under the ESEQ of its request. -/
def remoteIssue (s : State) (device addr len : Nat) (data : Option (List Byte)) (firing engine : Option Nat) (seq : Nat) (flow : Option Nat := none) :
    State :=
  let e := smGet s.fab.txSeq (device * 4 + 2) 0
  let s1 := s.sendRemote device addr len data
  { s1 with fab.remote := s1.fab.remote ++
      [{ device := device, eseq := e, store := data.isSome, addr := addr, len := len, firing := firing, engine := engine,
         data := none, failed := false, seq := seq, flow := flow }] }

/-- A remote store is refused or lost: counted and logged (R402). -/
def remoteStoreFailed (s : State) (d : Nat) : State :=
  ((s.rinc Reg.FAB_RERR).rsetBit Reg.FAB_STATUS 7 true).event 0x480 0 0x92 d

end State

end Sys2Proof.Machine
end

