-- ==== Sys2Proof/Machine/Exec.lean ====
section
/-! DEFINITION. Executing a firing: effective addresses, memory inputs, the checks of memory results, traps, and the
staging of results (R58 to R64, R114 to R134, R139, R146, R147, R198 to R203, R401, R402). -/

namespace Sys2Proof.Machine

/-- What a stage of a firing answers: a value, a trap cause, or a wait. -/
inductive Ans (α : Type) where
  | ok (x : α)
  | trap (c : Nat)
  | wait (w : Wait)
  deriving DecidableEq, Repr

/-- A global address: device and local address (R119, R220); `nd` where it was formed from an indeterminate value (R70). -/
structure Loc where
  device : Nat
  addr   : Nat
  nd     : Bool
  deriving DecidableEq, Repr

/-- A loaded value, and whether it is indeterminate (R70). -/
structure Got where
  v  : Nat
  nd : Bool
  deriving DecidableEq, Repr

/-- A 58-bit address field under R119: local where it is frame-relative or not global, and then [57:48] must be 0. -/
def fieldLoc (me fa x : Nat) (rel glob : Bool) : Option Loc :=
  let dev := x / 2 ^ 48
  if rel || !glob then (if dev = 0 then some ⟨me, (if rel then fa else 0) + x % 2 ^ 48, false⟩ else none)
  else some ⟨dev, x % 2 ^ 48, false⟩

/-- Offset from the base of a descriptor of mode FR, FI, RING, STR or TAG (Table 4.9); none for a RING with LEN 0. -/
def descOffset (x : Desc) (w1 : Word) (size wafer iter slot i : Nat) : Option Int :=
  let stride := signedOf 32 (fld w1 63 32)
  if x.m = dFI then some (((x.d + i) * size : Nat) + iter * stride)
  else if x.m = dRING then
    let len := fld w1 63 48
    if len = 0 then none
    else
      let k := ((wafer * fld w1 47 32 + iter + i : Nat) : Int) - x.d
      if len * size ≤ fld w1 31 0 then some ((k % (len : Int)) * size) else none
  else if x.m = dTAG then
    some ((if tagSel x = 0 then iter else slot : Nat) * stride + ((tagOff x + i) * size : Nat))
  else some (((x.d + i) * size : Nat) : Int)

/-- The address `off` above a base of `limit` bytes, for an access of `n` bytes that must lie within it (R125). -/
def within (b : Loc) (off : Int) (n limit : Nat) : Option Loc :=
  if 0 ≤ off ∧ off + n ≤ limit ∧ (b.addr : Int) + off + n ≤ (2 ^ 48 : Nat) then some ⟨b.device, ((b.addr : Int) + off).toNat, b.nd⟩
  else none

/-- The access touches the register range. -/
def touchesCsr (a n : Nat) : Bool := decide (csrBase < a + n ∧ a < csrBase + 0x1000000)

/-- A remote access that can reach SDRAM or the scratch window (R125, R401). (DEDUCED, log entry 18) -/
def remoteRange (a n : Nat) : Bool :=
  decide (a + n ≤ 0x2000000000) || decide (scratchBase ≤ a ∧ a + n ≤ scratchBase + 0x4000000)

/-- The halves of an access (R132): one where it is aligned. -/
def halves (a n : Nat) : List (Nat × Nat) :=
  if a % n = 0 then [(a, n)]
  else let b := (a / n + 1) * n; [(a, b - a), (b, a + n - b)]

/-- Two ranges of bytes meet, and one covers the other. -/
def meets (a n b m : Nat) : Bool := decide (a < b + m ∧ b < a + n)
def covers (a n b m : Nat) : Bool := decide (b ≤ a ∧ a + n ≤ b + m)

namespace State

/-- The resolved address of a base, none where it is not usable (R118, R119, R125). -/
def baseLoc (s : State) (a : Act) (n : Nat) : Option Loc :=
  let w := (nth a.bases n (0, 0)).1
  if bit w 63 then fieldLoc s.localId a.fa (fld w 57 0) (bit w 62) (bit w 61) else none

def baseParam (a : Act) (n : Nat) : Word := (nth a.bases n (0, 0)).2

/-- The registers that a graph may load (R70, R71), with their values. -/
def statReg (s : State) (a : Nat) : Option Nat :=
  if a = Reg.TCK_TIME then some s.now
  else if a = Reg.TCK_SUBTICK then some (s.now / 1000)
  else if (List.range 16).any (fun k => decide (a = Reg.SCH_QDEPTH k ∨ a = Reg.SCH_QWAIT k ∨ a = Reg.SCH_LOAD k)) then
    some (s.rget a).toNat
  else none

/-- Attributes of the two halves differ (R133). -/
def splitDiffers (s : State) (a n : Nat) : Bool :=
  match halves a n with
  | [x, y] => decide (s.attrCode x.1 ≠ s.attrCode y.1)
  | _ => false

/-- The youngest committed store of the firing's PE that meets a load (R60). -/
def sbHit (s : State) (f : Firing) (l : Loc) (n : Nat) : Option SbEntry :=
  (s.storeBuf.filter (fun b => decide (b.tile = f.tile ∧ b.pe = f.pe ∧ b.st.device = l.device) &&
    meets l.addr n b.st.addr b.st.bytes.length)).getLast?

/-- A remote load: its requests are sent, and it waits for their replies (R401, R402). -/
def remoteLoad (s : State) (f : Firing) (l : Loc) (n : Nat) : Ans Got × State :=
  if !remoteRange l.addr n || s.deviceLost l.device then (.trap cMEMRANGE, s)
  else
    let found (h : Nat × Nat) : Option RemAcc := s.fab.remote.find? (fun r =>
      decide (r.firing = some f.id ∧ r.device = l.device ∧ r.addr = h.1 ∧ r.len = h.2) && !r.store)
    let hs := halves l.addr n
    let rs := hs.filterMap found
    if rs.length < hs.length then
      (.wait .fill, (hs.filter (fun h => (found h).isNone)).foldl (fun (s : State) h =>
        s.remoteIssue l.device h.1 h.2 none (some f.id) none 0) s)
    else if rs.any (·.failed) then (.trap cMEMRANGE, s)
    else if rs.all (fun r => r.data.isSome) then
      (.ok ⟨bytesToNat ((rs.map (fun r => r.data.getD [])).flatten), l.nd⟩, s)
    else (.wait .fill, s)

/-- A graph load of `n` bytes (R60, R70, R71, R125, R131 to R133). (DESIGN CHOICE, log entry 103) -/
def graphLoad (s : State) (f : Firing) (l : Loc) (n : Nat) : Ans Got × State :=
  let here := decide (l.device = s.localId)
  if touchesCsr l.addr n then
    (match (if n = 8 ∧ l.addr % 8 = 0 then s.statReg l.addr else none) with
     | some v => if here then .ok ⟨v, true⟩ else .trap cMEMRANGE
     | none => .trap cCSRACC, s)
  else
    match s.sbHit f l n with
    | some b =>
      if covers l.addr n b.st.addr b.st.bytes.length then
        (.ok ⟨bytesToNat ((b.st.bytes.drop (l.addr - b.st.addr)).take n), l.nd⟩, s.rinc (Reg.PEX_SB_FWD f.tile f.pe))
      else (.wait .covered, s)
    | none =>
      if !here then s.remoteLoad f l n
      else
        match s.accessKind l.addr n with
        | .sdram | .scratch =>
          if s.splitDiffers l.addr n then (.trap cATTRSPLIT, s)
          else
            let r := s.peLoad f.tile f.pe l.addr n
            (match r.1 with
             | some bs => .ok ⟨bytesToNat bs, l.nd⟩
             | none => .wait .fill, r.2)
        | _ => (.trap cMEMRANGE, s)

/-- The address that an ABS pointer word names (R119, R123). -/
def pointerLoc (s : State) (p i size : Nat) (nd : Bool) : Option Loc :=
  if natField p 62 58 ≠ 0 then none
  else (fieldLoc s.localId 0 (natField p 57 0) false (p.testBit 63)).bind (fun b =>
    if b.addr + i * size + size ≤ 2 ^ 48 then some ⟨b.device, b.addr + i * size, nd⟩ else none)

/-- The effective address of a descriptor other than CHN (Table 4.9). -/
def addrOf (s : State) (f : Firing) (a : Act) (x : Desc) (size i : Nat) : Ans Loc × State :=
  match s.baseLoc a x.base with
  | none => (.trap cMEMRANGE, s)
  | some b =>
    let w1 := baseParam a x.base
    if x.m = dABS then
      match within b ((x.d * 8 : Nat) : Int) 8 (fld w1 31 0) with
      | none => (.trap cMEMRANGE, s)
      | some p =>
        if p.addr % 8 ≠ 0 then (.trap cMEMRANGE, s)
        else
          let r := s.graphLoad f p 8
          (match r.1 with
           | .ok g => (match s.pointerLoc g.v i size g.nd with
             | some l => .ok l
             | none => .trap cMEMRANGE)
           | .trap c => .trap c
           | .wait w => .wait w, r.2)
    else
      match (descOffset x w1 size a.wafer (tagIter f.tag) f.slot i).bind (fun off => within b off size (fld w1 31 0)) with
      | none => (.trap cMEMRANGE, s)
      | some l => (if x.m = dSTR ∧ l.addr % size ≠ 0 then .trap cMEMRANGE else .ok l, s)

/-- A read of the wafer's closed items (R124, R340, R341). -/
def chnRead (s : State) (a : Act) (x : Desc) (size i : Nat) : Ans Got :=
  if !bit (nth a.bases x.base (0, 0)).1 63 then .trap cMEMRANGE
  else
    match (s.inBinding a.epoch (fld (baseParam a x.base) 43 32)).bind s.chan? with
    | none => .trap cMEMRANGE
    | some c =>
      if c.ckind ≠ ckWafer then .trap cMEMRANGE
      else
        match s.waferView c a.wafer with
        | none => .wait .channel
        | some ws =>
          let bs := ws.flatMap (natToBytes c.width)
          if (x.d + i) * size + size ≤ bs.length then .ok ⟨bytesToNat ((bs.drop ((x.d + i) * size)).take size), false⟩
          else .trap cMEMRANGE

/-- A memory input (R116). -/
def readDesc (s : State) (f : Firing) (a : Act) (x : Desc) (size i : Nat) : Ans Got × State :=
  if x.m = dCHN then (s.chnRead a x size i, s)
  else
    let r := s.addrOf f a x size i
    match r.1 with
    | .ok l => r.2.graphLoad f l size
    | .trap c => (.trap c, r.2)
    | .wait w => (.wait w, r.2)

/-- A byte of the range lies in the protected header of an allocated frame (R120). -/
def touchesHeader (s : State) (a n : Nat) : Bool := s.acts.any (fun x => meets a n x.fa 0x40)

/-- Words that the staging buffer holds or has promised (R139). -/
def stagedUsed (s : State) : Nat :=
  s.staged.length + s.oldWords.length + (s.firings.filter (fun f => decide (f.stage = .executed))).foldl (fun n f =>
    n + (f.effects.filter (fun e => match e with
      | .codeStage .. => true
      | _ => false)).length) 0

/-- A plain store would change the state of a DEFERRED cell (R129): a cell for which a committed deferred read is held. -/
def hitsDeferred (s : State) (a : Nat) (bs : List Byte) : Bool :=
  s.deferred.any (fun d => d.done &&
    let b := d.cell.1 + d.cell.2 / 8
    let sh := d.cell.2 % 8
    let old := bytesToNat (s.memView b 1) >>> sh % 4
    meets b 1 a bs.length && decide (old = 1) && decide ((nth bs (b - a) 0).toNat >>> sh % 4 ≠ 1))

/-- What a graph store of `bs` does, or the causes for which it traps (R71, R120, R125, R129, R132, R133, R139). -/
def storeTo (s : State) (l : Loc) (ty : Nat) (bs : List Byte) (cell : Option (Nat × Nat)) :
    List Nat × List StoreRec × List Effect :=
  let n := bs.length
  if touchesCsr l.addr n then ([cCSRACC], [], [])
  else if l.device ≠ s.localId then
    if remoteRange l.addr n then
      ([], (halves l.addr n).map (fun h => ⟨h.1, l.device, (bs.drop (h.1 - l.addr)).take h.2, none⟩), [])
    else ([cMEMRANGE], [], [])
  else
    match s.accessKind l.addr n with
    | .code =>
      if (ty = 2 ∨ ty = 3) ∧ l.addr % 8 = 0 ∧ l.addr < codeBase + 0x2000000 then
        if s.stagedUsed < 16384 then ([], [], [.codeStage ((l.addr - codeBase) / 8) (w64 (bytesToNat bs))])
        else ([cCODEFULL], [], [])
      else ([cMEMRANGE], [], [])
    | .sdram | .scratch =>
      let cs := (if s.touchesHeader l.addr n then [cMEMRANGE] else []) ++
        (if s.splitDiffers l.addr n then [cATTRSPLIT] else []) ++
        (if cell.isNone && s.hitsDeferred l.addr bs then [cISTATE] else [])
      (cs, (halves l.addr n).map (fun h => ⟨h.1, l.device, (bs.drop (h.1 - l.addr)).take h.2, cell⟩), [])
    | _ => ([cMEMRANGE], [], [])

/-- The presence-map word and shift of the cell at `l` (R126): none where the word lies outside the device's SDRAM. -/
def cellOf (s : State) (a : Act) (x : Desc) (l : Loc) (size : Nat) : Option (Nat × Nat) :=
  (s.baseLoc a x.base).bind (fun b =>
    let c := (l.addr - b.addr) / size
    let m := b.addr + fld (baseParam a x.base) 63 32 + c / 32 * 8
    if b.device = s.localId ∧ m % 8 = 0 ∧ s.accessKind m 8 = .sdram then some (m, 2 * (c % 32)) else none)

/-- State of a cell as the home slice holds it (R126, R127). -/
def cellState (s : State) (cell : Nat × Nat) : Nat := bytesToNat (s.memView (cell.1 + cell.2 / 8) 1) >>> (cell.2 % 8) % 4

/-- The presence byte of a cell with a new state. -/
def cellByte (s : State) (cell : Nat × Nat) (st : Nat) : Nat × List Byte :=
  let a := cell.1 + cell.2 / 8
  let b := BitVec.ofNat 8 (bytesToNat (s.memView a 1))
  (a, [setFld b (cell.2 % 8 + 1) (cell.2 % 8) st])

/-- State of a cell as the firing's PE sees it, its committed stores included (R129). -/
def cellStateOf (s : State) (f : Firing) (cell : Nat × Nat) : Nat :=
  let a := cell.1 + cell.2 / 8
  s.storeBuf.foldl (fun st b =>
    if b.tile = f.tile ∧ b.pe = f.pe ∧ b.st.device = s.localId then
      if b.st.cell = some cell then 2
      else if meets a 1 b.st.addr b.st.bytes.length then (nth b.st.bytes (a - b.st.addr) 0).toNat >>> (cell.2 % 8) % 4 else st
    else st) (s.cellState cell)

/-- Waits that excuse their slot (R102). -/
def excuses (w : Wait) : Bool :=
  decide (w = .channel ∨ w = .lock ∨ w = .delay ∨ w = .alloc ∨ w = .xreply ∨ w = .vote)

/-- The firing waits for `w`; where the wait excuses its slot, the detectors pause (R102). -/
def waitFor (s : State) (f : Firing) (w : Wait) : State :=
  let s1 := s.updFiring f.id (fun x => { x with wait := w })
  if excuses w then s1.progress f.slot else s1

/-- Stage 6 ends: results are staged, where the commit buffers have room for them (R58, R62). -/
def stage (s : State) (f : Firing) (outs : List OutTok) (stores : List StoreRec) (effects : List Effect)
    (raised : Flags7) (nd : Bool) : State :=
  if 8 < s.sbUsed f.tile f.pe + stores.length ∨ 4 < s.ebUsed f.tile f.pe + (effects.filter inEvents).length then
    (s.rinc (Reg.PEX_SB_FULL f.tile f.pe)).waitFor f .buffer
  else
    let s1 := s.updFiring f.id (fun x => { x with
      stage := .executed, wait := .none, outs := outs, stores := stores, effects := effects, raised := raised, nd := nd })
    { s1 with fab.remote := s1.fab.remote.filter (fun r => decide (r.firing ≠ some f.id)) }

/-- A trapping firing has one output, its exception token, or it quarantines its activation when it commits
(R198, R200, R202, R203). -/
def stageTrap (s : State) (f : Firing) (a : Act) (x : TrapInfo) (nd : Bool) : State :=
  if a.delivers f.excIn then
    s.stage f [excToken f.tag f.word a.handler f.inhFlags (f.inhNd || nd) x] [] [] x.raised false
  else s.stage f [] [] [.noHandler] x.raised false

end State

/-- The inputs of a firing as read: values, ND of memory, trap causes and the first wait. -/
structure Ins where
  l    : Value
  r    : Value
  c    : Value
  nd   : Bool
  bad  : List Nat
  wait : Option Wait
  deriving DecidableEq, Repr

/-- A memory result: the causes for which it traps, its stores and effects, and the ND of its address (R70, R113). -/
structure MemOut where
  bad     : List Nat
  stores  : List StoreRec
  effects : List Effect
  nd      : Bool
  deriving DecidableEq, Repr

/-- The reported value of an input (R200). -/
def reported (src : Src) (ty lane cause : Nat) (v : Value) : Nat :=
  match src with
  | .none => 0
  | .tok | .lit => opField ty lane v
  | _ => if 1 ≤ cause ∧ cause ≤ 6 then opField ty lane v else 0

namespace Firing

/-- Value bits of a token input, 0 where there is none. -/
def lv (f : Firing) : Value := (f.inL.map (·.v)).getD 0
def rv (f : Firing) : Value := (f.inR.map (·.v)).getD 0
def cv (f : Firing) : Value := (f.inC.map (·.v)).getD 0

/-- The L token. -/
def ltok (f : Firing) : TVal := f.inL.getD ⟨0, 0⟩

/-- Status TYPE of L, the instruction's TYPE where L is no token (R144). -/
def lty (f : Firing) : Nat := match f.inL with
  | some t => stType t.st
  | none => f.iw.ty

/-- Index i of IDXR and STOX (R114). -/
def idxL (f : Firing) : Nat := fld f.lv 31 0
def idxR (f : Firing) : Nat := fld f.rv 31 0

/-- The TYPE by which an input is reported (R200): a scalar input of an operation, whatever the instruction's TYPE, by its low
64 bits; the L of CVT by its status TYPE (R152). -/
def reportTy (f : Firing) (port : Nat) : Nat :=
  let o := f.iw.opc
  let indexed := decide (f.iw.mode = mIDXR ∧ (o = 0x1C0 ∨ o = 0x1C4 ∨ o = 0x1CC ∨ o = 0x1CD))
  let scalar : Bool :=
    if port = 0 then decide (o = 0x180 ∨ o = 0x20C ∨ o = 0x210) || indexed
    else if port = 1 then decide (o = 0x182 ∨ o = 0x283 ∨ o = 0x2D3 ∨ o = 0x300 ∨ f.iw.mode = mSTOX)
    else decide (o = 0x088 ∨ o = 0x090 ∨ o = 0x091)
  if scalar then 3 else if port = 0 ∧ o = 0x110 then f.lty else f.iw.ty

/-- A context token at a port that the operation does not take one at; `ok` has the permitted ports' bits (R48). -/
def ctxBad (f : Firing) (ok : Nat) : Bool :=
  let isCtx (t : Option TVal) : Bool := match t with
    | some x => stCtx x.st
    | none => false
  (isCtx f.inL && !ok.testBit 0) || (isCtx f.inR && !ok.testBit 1) || (isCtx f.inC && !ok.testBit 2)

/-- Access size of the instruction. -/
def size (f : Firing) : Nat := tySize f.iw.ty

/-- Token to one destination field (R63). -/
def outTo (f : Firing) (x : Nat) (tv : TVal) : List OutTok :=
  match destOf f.iaddr x with
  | none => []
  | some d => [⟨mkTag (tagDevice f.tag) f.act f.slot (tagIter f.tag) d.1 d.2, tv⟩]

/-- A result to A and B, or to IADDR + 1 in the MEM forms (R63, R144). -/
def outsAB (f : Firing) (tv : TVal) : List OutTok :=
  if isMemForm f.iw.mode then
    [⟨mkTag (tagDevice f.tag) f.act f.slot (tagIter f.tag) ((f.iaddr + 1) % 4194304) 0, tv⟩]
  else f.outTo f.iw.da tv ++ f.outTo f.iw.db tv

/-- A computed result's status (R41). -/
def comp (f : Firing) (ty : Nat) (fl : Flags7) (nd : Bool) : Status :=
  mkStatus ty false false (f.inhNd || nd) (f.inhFlags ||| fl)

/-- The status of a token input that is handed on (R41). -/
def hand (f : Firing) (t : TVal) (nd : Bool) : Status :=
  mkStatus (stType t.st) (stExc t.st) (stCtx t.st) (f.inhNd || nd) f.inhFlags

/-- L handed on (R41). -/
def handL (f : Firing) (nd : Bool) : TVal := ⟨f.lv, f.hand f.ltok nd⟩

end Firing

namespace State

/-- A trap for the first of some causes, with its lane and operand fields (R199, R200). (DEDUCED, log entry 14) -/
def trapOf (s : State) (f : Firing) (a : Act) (row : OpRow) (x : Ins) (cs : List Nat) (fls : List Flags7) : State :=
  let i := f.iw
  let c := (firstCause cs).getD cILLOP
  let k := if causeFlag c = 0 then 0 else causeLane i.ty c fls
  s.stageTrap f a
    { cause := c, raised := orFlags fls, lane := k
      opl := reported (srcL row.ins i.mode) (f.reportTy 0) k c x.l
      opr := reported (srcR row.ins i.mode) (f.reportTy 1) k c x.r
      opc := reported (srcC row.ins i.mode) (f.reportTy 2) k c x.c } x.nd

/-- The inputs that tokens and the literal give. -/
def firingFixed (f : Firing) (row : OpRow) : Ins :=
  let i := f.iw
  let pick (src : Src) (v : Value) : Value := match src with
    | .lit => litValue i.ty i.lit
    | .tok => v
    | _ => 0
  ⟨pick (srcL row.ins i.mode) f.lv, pick (srcR row.ins i.mode) f.rv, pick (srcC row.ins i.mode) f.cv, false, [], none⟩

/-- One input read at stage 5. -/
def readSrc (s : State) (f : Firing) (a : Act) (src : Src) (i : Nat) : Option (Ans Got) × State :=
  let w := f.iw
  match src with
  | .memD12 => let r := s.readDesc f a (desc12 w.lit) f.size 0; (some r.1, r.2)
  | .memD12i => let r := s.readDesc f a (desc12 w.lit) f.size i; (some r.1, r.2)
  | .memDA => let r := s.readDesc f a (desc16 w.da) f.size 0; (some r.1, r.2)
  | _ => (none, s)

/-- An input's answer recorded among the inputs. -/
def noteIns (x : Ins) (g : Option (Ans Got)) (put : Ins → Value → Ins) : Ins :=
  match g with
  | none => x
  | some (.ok v) => { put x (BitVec.ofNat 256 v.v) with nd := x.nd || v.nd }
  | some (.trap c) => { x with bad := x.bad ++ [c] }
  | some (.wait w) => if x.wait.isNone then { x with wait := some w } else x

/-- The inputs of a firing, memory read in the order L, R, C (R116). -/
def readIns (s : State) (f : Firing) (a : Act) (row : OpRow) : Ins × State :=
  let m := f.iw.mode
  let x0 := firingFixed f row
  let l := s.readSrc f a (srcL row.ins m) 0
  let x1 := noteIns x0 l.1 (fun x v => { x with l := v })
  let r := l.2.readSrc f a (srcR row.ins m) f.idxL
  let x2 := noteIns x1 r.1 (fun x v => { x with r := v })
  let c := r.2.readSrc f a (srcC row.ins m) 0
  (noteIns x2 c.1 (fun x v => { x with c := v }), c.2)

/-- The memory result of a firing: what it stores and the causes for which it traps, or its wait (R113, R116). -/
def memResult (s : State) (f : Firing) (a : Act) (ty : Nat) (v : Value) : Ans MemOut × State :=
  let w := f.iw
  let go (x : Desc) (i : Nat) : Ans MemOut × State :=
    let r := s.addrOf f a x f.size i
    match r.1 with
    | .ok l => let m := r.2.storeTo l ty (natToBytes f.size v.toNat) none; (.ok ⟨m.1, m.2.1, m.2.2, l.nd⟩, r.2)
    | .trap c => (.ok ⟨[c], [], [], false⟩, r.2)
    | .wait u => (.wait u, r.2)
  match memDst w.mode with
  | .none => (.ok ⟨[], [], [], false⟩, s)
  | .d12 => go (desc12 w.lit) 0
  | .d12i => go (desc12 w.lit) f.idxR
  | .da => go (desc16 w.da) 0
  | .db => go (desc16 w.db) 0

/-- A firing whose inputs are read ends: with a trap, a wait, or its value stored and sent (R116, R134, R198, R199). -/
def finish (s : State) (f : Firing) (a : Act) (row : OpRow) (x : Ins) (v : Value) (st : Status) (fls : List Flags7)
    (isInt : Bool) : State :=
  let r := s.memResult f a f.iw.ty v
  match r.1 with
  | .wait w => r.2.waitFor f w
  | .trap c => r.2.trapOf f a row x (c :: x.bad) fls
  | .ok m =>
    let cs := x.bad ++ m.bad ++ enabledCauses a.mode isInt (orFlags fls)
    if cs.isEmpty then
      r.2.stage f (f.outsAB ⟨v, st⟩) m.stores m.effects (orFlags fls) (f.inhNd || x.nd || m.nd)
    else r.2.trapOf f a row x cs fls

/-- A firing whose inputs trap: the causes of its memory result count too (R134, R199). -/
def trapIns (s : State) (f : Firing) (a : Act) (row : OpRow) (x : Ins) : State :=
  let m := s.memResult f a f.iw.ty 0
  match m.1 with
  | .ok m' => m.2.trapOf f a row x (x.bad ++ m'.bad) []
  | .trap c => m.2.trapOf f a row x (c :: x.bad) []
  | .wait w => m.2.waitFor f w

/-- The body of an operation that computes one result from its inputs. -/
def compute (op : OpIn → Option OpRes) (isInt : Bool) (s : State) (f : Firing) (a : Act) (row : OpRow) : State :=
  let i := f.iw
  let env := fenvOf a.mode i.rnd
  let opIn (x : Ins) : OpIn := ⟨env, i.ty, i.lit, f.lty, x.l, x.r, x.c⟩
  let x0 := firingFixed f row
  if (op (opIn x0)).isNone then s.trapOf f a row x0 [cILLOP] []
  else if f.ctxBad 0 then s.trapOf f a row x0 [cCTX] []
  else
    let r := s.readIns f a row
    let x := r.1
    match x.wait with
    | some w => r.2.waitFor f w
    | none =>
      if !x.bad.isEmpty then r.2.trapIns f a row x
      else
        match op (opIn x) with
        | none => r.2.trapOf f a row x [cILLOP] []
        | some z => r.2.finish f a row x z.val (f.comp z.ty (orFlags z.flags) x.nd) z.flags isInt

/-- Waits after which the firing may be looked at again at any time. -/
def canGo (w : Wait) : Bool :=
  decide (w = .none ∨ w = .buffer ∨ w = .covered ∨ w = .fence ∨ w = .delay ∨ w = .channel ∨ w = .xport ∨ w = .micro ∨ w = .useq)

/-- A dispatched firing executes a legal word whose opcode `sel` takes (R45, R58). -/
def fireIf (s : State) (n : Nat) (sel : Nat → Bool) (body : State → Firing → Act → OpRow → State) : State :=
  if s.dead then s
  else
    match s.firing? n with
    | none => s
    | some f =>
      if f.stage = .dispatched ∧ canGo f.wait ∧ sel f.iw.opc ∧ !s.tileFenced f.tile then
        match s.act? f.act, legalRow f.iw (s.arityOf f.epoch f.word) with
        | some a, some row => if a.state = .quarantined then s else body s f a row
        | _, _ => s
      else s

/-- A firing of one opcode. -/
def fire (s : State) (n opc : Nat) (body : State → Firing → Act → OpRow → State) : State :=
  s.fireIf n (fun x => decide (x = opc)) body

/-- The operand fields of a reserved encoding's trap: its tokens, and the literals that the mode gives the opcode's inputs, where
the opcode has a row (R200). -/
def illegalInputs (s : State) (f : Firing) : Nat × Nat × Nat :=
  let i := f.iw
  let ins := match opRowOf i.opc (s.arityOf f.epoch f.word) with
    | some r => r.ins
    | none => 0
  let field (port : Nat) (t : Option TVal) (src : Src) : Nat := match t, src with
    | some x, _ => opField (f.reportTy port) 0 x.v
    | none, .lit => opField i.ty 0 (litValue i.ty i.lit)
    | _, _ => 0
  (field 0 f.inL (srcL ins i.mode), field 1 f.inR (srcR ins i.mode), field 2 f.inC (srcC ins i.mode))

/-- A firing of a reserved encoding traps with ILLOP, with no other effect (R146). -/
def fireIllegal (s : State) (n : Nat) : State :=
  if s.dead then s
  else
    match s.firing? n with
    | none => s
    | some f =>
      if f.stage = .dispatched ∧ canGo f.wait ∧ legalRow f.iw (s.arityOf f.epoch f.word) = none ∧ !s.tileFenced f.tile then
        match s.act? f.act with
        | some a =>
          if a.state = .quarantined then s
          else
            let x := s.illegalInputs f
            s.stageTrap f a { cause := cILLOP, raised := 0, lane := 0, opl := x.1, opr := x.2.1, opc := x.2.2 } false
        | none => s
      else s

end State

end Sys2Proof.Machine
end

