-- ==== Sys2Proof/Machine/MicroPath.lean ====
section
/-! DEFINITION. The data path that a microword drives: scratch file, function units, CORDIC unit, constants, loop counter,
conditions and dispatch values (R205, R209, R210, Table 7.2).  R204 fixes the results of the operations, so the data path
decides only the course of a microsequence.  A unit's step whose arithmetic Table 7.2 names and does not state is an open
function of its operands. -/

namespace Sys2Proof.Machine

/-- A parity-checked microword: data bits [159:0], parity bits [164:160] (R209, R214). -/
abbrev MicroWord := BitVec 165

/-- A field holds a reserved value (Table 7.2, Table 7.3). -/
def microReserved (w : MicroWord) : Bool :=
  decide (fld w 159 157 = 7 ∨ 11 < fld w 144 141 ∨ 3 < fld w 139 136 ∨ 7 < fld w 127 124 ∨ 11 < fld w 103 100 ∨
    4 < fld w 84 82 ∨ 7 < fld w 70 67 ∨ 6 < fld w 51 48 ∨ 4 < fld w 37 35 ∨ 1 < fld w 34 33 ∨ 3 < fld w 30 27 ∨
    2 < fld w 21 19 ∨ fld w 13 0 ≠ 0)

/-- Lanes of an arithmetic unit: of a floating format, or of integers. -/
structure MLanes where
  flt : Bool
  w   : Nat
  n   : Nat
  sgn : Bool
  deriving DecidableEq, Repr

/-- Lanes under PREC: the lane type, binary64 working or 64-bit integers; none for the 68-bit integers, for which the spec
gives a 256-bit register no layout (Table 7.2). (DESIGN CHOICE, log entry 20) -/
def microLanes (ty prec : Nat) : Option MLanes :=
  let t := tyInfo ty
  if prec = 0 then some ⟨decide (t.kind = .flt ∨ t.kind = .cpx), t.w, t.lanes, decide (t.kind = .sint)⟩
  else if prec = 1 then some ⟨true, 64, min 4 t.lanes, true⟩
  else if prec = 3 then some ⟨false, 64, min 4 t.lanes, true⟩
  else none

def MLanes.fmt (m : MLanes) : Fmt := if m.w = 64 then fmt64 else fmt32

/-- Rounding of the word's steps: RMODE, or the rounding in force; the binary64 working format has no DAZ or FTZ (R206,
Table 7.2). -/
def microEnv (env : FEnv) (w : MicroWord) : FEnv :=
  let rm := if fld w 37 35 = 0 then env.rm else rmodeOf (fld w 37 35 - 1)
  if fld w 32 31 = 1 then ⟨rm, false, false⟩ else ⟨rm, env.daz, env.ftz⟩

/-- A lane-by-lane step of two registers. -/
def mMap2 (m : MLanes) (g : Nat → Nat → Nat) (a b : Value) : Value :=
  ofLanes m.w ((List.range m.n).map (fun k => g (lane m.w k a) (lane m.w k b)))

/-- The lane crossbar on the FA path (Table 7.2); which lanes the codes `even` and `odd` leave, the spec does not say. -/
def microXbar (code w : Nat) (a : Value) : Value :=
  let pairs (g : Nat → Nat → List Nat) : Value := ofLanes 32 ((List.range 4).flatMap (fun k => g (lane 32 (2 * k) a) (lane 32 (2 * k + 1) a)))
  if code = 0 then a
  else if code = 1 then pairs (fun x y => [y, x])
  else if code = 2 then pairs (fun x y => [x, fNeg fmt32 y])
  else if code = 3 then pairs (fun x y => [y, fNeg fmt32 x])
  else if code = 4 then ofLanes w (List.replicate (256 / w) (lane w 0 a))
  else Config.microUnit 4 code 0 a 0 0

/-- The FMA unit (Table 7.2). -/
def microFma (env : FEnv) (m : Option MLanes) (op prec : Nat) (a b c : Value) : Value :=
  match m with
  | some m =>
    let f := m.fmt
    let go (g : Nat → Nat → Nat → FRes) : Value :=
      ofLanes m.w ((List.range m.n).map (fun k => (g (lane m.w k a) (lane m.w k b) (lane m.w k c)).bits))
    if !m.flt then Config.microUnit 0 op prec a b c
    else if op = 1 then go (fun x y _ => fMul f env x y)
    else if op = 2 then go (fFma f env)
    else if op = 3 then go (fFms f env)
    else if op = 4 then go (fFnma f env)
    else Config.microUnit 0 op prec a b c
  | none => Config.microUnit 0 op prec a b c

/-- A floating lane times 2 to an integer. -/
def scaleLane (f : Fmt) (env : FEnv) (x : Nat) (n : Int) : Nat :=
  match unpack f x with
  | .fin s m e => (roundFin f env s m (e + n)).bits
  | _ => x

/-- The adder (Table 7.2); `i` is the integer unit's result. -/
def microAdd (env : FEnv) (m : Option MLanes) (ty op prec : Nat) (a b i : Value) : Value :=
  match m with
  | some m =>
    let f := m.fmt
    if op = 11 then a
    else if m.flt then
      if op = 1 then mMap2 m (fun x y => (fAdd f env x y).bits) a b
      else if op = 2 then mMap2 m (fun x y => (fSub f env x y).bits) a b
      else if op = 3 then mMap2 m (fun x y => (fMinMax f env false x y).bits) a b
      else if op = 4 then mMap2 m (fun x y => (fMinMax f env true x y).bits) a b
      else if op = 6 then mMap2 m (fun x _ => fAbs f x) a b
      else if op = 7 then mMap2 m (fun x _ => fNeg f x) a b
      else if op = 8 then mMap2 m (fun x _ => (fRint f ⟨.rdn, env.daz, env.ftz⟩ x).bits) a b
      else if op = 9 then mMap2 m (fun x n => scaleLane f env x (signedOf m.w n)) a i
      else if op = 10 then
        let t := tyFmt ty
        ofLanes t.width ((List.range (min 4 (tyInfo ty).lanes)).map (fun k => (fConvert fmt64 t env (lane 64 k a)).bits))
      else Config.microUnit 1 op prec a b i
    else
      if op = 1 then mMap2 m (fun x y => (intAdd m.sgn m.w x y).bits) a b
      else if op = 2 then mMap2 m (fun x y => (intSub m.sgn m.w x y).bits) a b
      else if op = 3 then mMap2 m (fun x y => (intMin m.sgn m.w x y).bits) a b
      else if op = 4 then mMap2 m (fun x y => (intMax m.sgn m.w x y).bits) a b
      else if op = 6 then mMap2 m (fun x _ => (intAbs m.sgn m.w x).bits) a b
      else if op = 7 then mMap2 m (fun x _ => (intNeg m.sgn m.w x).bits) a b
      else Config.microUnit 1 op prec a b i
  | none => Config.microUnit 1 op prec a b i

/-- The integer unit (Table 7.2). -/
def microInt (m : Option MLanes) (op prec : Nat) (a b : Value) : Value :=
  match m with
  | some m =>
    if op = 1 then mMap2 m (fun x y => (intAdd m.sgn m.w x y).bits) a b
    else if op = 2 then mMap2 m (fun x y => (intSub m.sgn m.w x y).bits) a b
    else Config.microUnit 2 op prec a b 0
  | none => Config.microUnit 2 op prec a b 0

/-- The CORDIC unit's lane after the word (R207, Table 7.2): VECSTEP and RESID are steps of R207. -/
def microCordic (op sh : Nat) (re im : Nat) (c : Cordic) : Cordic :=
  if op = 1 then ⟨Config.microFix sh re, Config.microFix sh im, c.z⟩
  else if op = 2 then cordicStep c sh
  else if op = 3 then (if c.x = 0 then c else { c with z := c.z + Int.tdiv (c.y * ((2 ^ 62 : Nat) : Int)) c.x })
  else c

namespace MicroSeq

/-- The microsequencer at the entry word of a firing with inputs `l`, `r` and `c` (R205, R209). -/
def start (tile pe firing entry : Nat) (l r c : Value) : MicroSeq :=
  { tile := tile, pe := pe, firing := firing, addr := entry, stack := [], cnt := 0,
    regs := [l, r, c] ++ List.replicate 29 0, cord := List.replicate 4 ⟨0, 0, 0⟩, rFma := 0, rAdd := 0, rInt := 0 }

def reg (q : MicroSeq) (i : Nat) : Value := nth q.regs i 0

/-- A register written where its unit has an operation. -/
def put (q : MicroSeq) (on : Bool) (i : Nat) (v : Value) : MicroSeq :=
  if on then { q with regs := updAt q.regs i (fun _ => v) } else q

/-- What the current word does to the data path (Table 7.2): every unit reads before any writes. -/
def exec (q : MicroSeq) (env0 : FEnv) (ty : Nat) (w : MicroWord) : MicroSeq :=
  let env := microEnv env0 w
  let prec := fld w 32 31
  let m := microLanes ty prec
  let ken := fld w 39 38
  let k := Config.microConst (fld w 47 40)
  let src (code hi lo : Nat) : Value := if code = ken then k else q.reg (fld w hi lo)
  let fop := fld w 127 124
  let aop := fld w 103 100
  let cop := fld w 84 82
  let iop := fld w 70 67
  let sh := fld w 81 76
  let cx := fld w 75 71
  let vInt := if iop = 0 then q.rInt else microInt m iop prec (q.reg (fld w 66 62)) (src 3 61 57)
  let vFma := if fop = 0 then q.rFma
    else microFma env m fop prec (microXbar (fld w 51 48) (tyInfo ty).w (q.reg (fld w 123 119))) (src 1 118 114) (q.reg (fld w 113 109))
  let vAdd := if aop = 0 then q.rAdd else microAdd env m ty aop prec (q.reg (fld w 99 95)) (src 2 94 90) vInt
  let cord := q.cord.zipIdx.map (fun (c : Cordic × Nat) =>
    microCordic cop sh (lane 32 (2 * c.2) (q.reg cx)) (lane 32 (2 * c.2 + 1) (q.reg cx)) c.1)
  let unfix := ofLanes 32 (q.cord.flatMap (fun c => [Config.microUnfix sh c.x c.z, 0]))
  let cntop := fld w 135 134
  let cnt := if cntop = 0 then q.cnt else if cntop = 1 then fld w 133 128 else if cntop = 2 then (q.cnt + 63) % 64 else vInt.toNat % 64
  let q1 := { q with cord := cord, rFma := vFma, rAdd := vAdd, rInt := vInt, cnt := cnt }
  (((q1.put (fop ≠ 0) (fld w 108 104) vFma).put (aop ≠ 0) (fld w 89 85) vAdd).put (cop = 4) cx unfix).put (iop ≠ 0) (fld w 56 52) vInt

/-- The condition of the word that has just been executed (Table 7.2). -/
def cond (q : MicroSeq) (env : FEnv) (ty : Nat) (w : MicroWord) : Bool :=
  let m := (microLanes ty (fld w 32 31)).getD ⟨false, 64, min 4 (tyInfo ty).lanes, true⟩
  let lanes (v : Value) (p : Nat → Bool) : Bool := (List.range m.n).any (fun k => p (lane m.w k v))
  let neg (x : Nat) : Bool := x.testBit (m.w - 1)
  let zero (x : Nat) : Bool := decide ((if m.flt then x % 2 ^ (m.w - 1) else x) = 0)
  match fld w 144 141 with
  | 0 => true
  | 1 => decide (q.cnt = 0)
  | 2 => lanes q.rFma neg
  | 3 => lanes q.rAdd neg
  | 4 => lanes q.rAdd zero
  | 5 => lanes q.rInt (fun x => decide (x = 0))
  | 6 => (q.cord.take (max 1 ((tyInfo ty).lanes / 2))).any (fun c => decide (c.y < 0))
  | 7 => let t := tyInfo ty
         (List.range t.lanes).any (fun k => (tyFmt ty).isNaN (lane t.w k (q.reg 0)))
  | 8 => env.daz
  | 9 => env.ftz
  | 10 => decide ((tyInfo ty).kind = .flt ∧ (tyInfo ty).w = 64)
  | _ => lanes q.rInt neg

/-- The dispatch value of the word that has just been executed (Table 7.2). -/
def disp (q : MicroSeq) (ty : Nat) (w : MicroWord) : Nat :=
  let cls (i : Nat) : Nat := (fClass (tyFmt ty) (lane (tyInfo ty).w 0 (q.reg i))).log2
  match fld w 139 136 with
  | 0 => ty % 16
  | 1 => q.cnt % 16
  | 2 => cls 0
  | _ => cls 1

end MicroSeq

end Sys2Proof.Machine
end

