-- ==== Sys2Proof/Machine/Ucode.lean ====
section
/-! DEFINITION. The control store and the microsequencer (R205, R209 to R218).  A microsequence decides only whether a
microcoded firing ends or stops with an error (R204). -/

namespace Sys2Proof.Machine

/-- The groups whose parity fails, as a mask (R214). -/
def parityBad (w : MicroWord) : Nat :=
  (List.range 5).foldl (fun m j =>
    if (popNat 32 (fld w (32 * j + 31) (32 * j)) + b2n (bit w (160 + j))) % 2 = 1 then m + 2 ^ j else m) 0

/-- A data word with its parity bits (R214). -/
def withParity (d : BitVec 160) : MicroWord :=
  BitVec.ofNat 165 ((List.range 5).foldl (fun n j =>
    n + popNat 32 (fld d (32 * j + 31) (32 * j)) % 2 * 2 ^ (160 + j)) d.toNat)

/-- How a microsequence ends: at END, with a stack error or another sequence error at an address, or held by a word that
may not be fetched, by a parity error, or without an end (R210, R211, R215, R217). -/
inductive WalkEnd where
  | done | stack (a : Nat) | bad (a : Nat) | held | parity (a : Nat)
  deriving DecidableEq, Repr

namespace State

/-- The stored microword. -/
def ucsWord (s : State) (t a : Nat) : MicroWord := smGet s.ucs (t * 4096 + a % 4096) 0

def setUcs (s : State) (t a : Nat) (w : MicroWord) : State := { s with ucs := smPut s.ucs (t * 4096 + a % 4096) 0 w }

/-- A fetch of the word waits: it is BAD, or a full reload is rewriting it (R215, R217). -/
def fetchWaits (s : State) (t a : Nat) : Bool :=
  s.ucsBad.any (fun b => decide (b.tile = t ∧ b.addr = a)) || (s.rbit (Reg.UCS_CTRL t) 1 && decide ((s.tileAt t).reloadPos = a))

/-- A microsequence from its microaddress on, over at most the given number of words (R210, R211). -/
def microWalk (s : State) (env : FEnv) (ty : Nat) : Nat → MicroSeq → WalkEnd × MicroSeq
  | 0, q => (.held, q)
  | fuel + 1, q =>
    let a := q.addr
    let w := s.ucsWord q.tile a
    if s.fetchWaits q.tile a then (.held, q)
    else if parityBad w ≠ 0 then (.parity a, q)
    else if a = 14 ∨ a = 15 ∨ microReserved w then (.bad a, q)
    else
      let q1 := q.exec env ty w
      let tgt := fld w 156 145
      let next := (a + 1) % 4096
      match fld w 159 157 with
      | 0 => microWalk s env ty fuel { q1 with addr := next }
      | 1 => microWalk s env ty fuel { q1 with addr := tgt }
      | 2 => microWalk s env ty fuel { q1 with addr := if q1.cond env ty w != bit w 140 then tgt else next }
      | 3 => microWalk s env ty fuel { q1 with addr := tgt / 16 * 16 + q1.disp ty w }
      | 4 => if 4 ≤ q1.stack.length then (.stack a, q1) else microWalk s env ty fuel { q1 with addr := tgt, stack := next :: q1.stack }
      | 5 => match q1.stack with
        | [] => (.stack a, q1)
        | x :: xs => microWalk s env ty fuel { q1 with addr := x, stack := xs }
      | _ => if q1.stack.isEmpty then (.done, q1) else (.stack a, q1)

/-- A sequence error: recorded in the tile, logged, and raised as ILLOP (R211). -/
def sequenceError (s : State) (f : Firing) (stk : Bool) (a : Nat) : State :=
  let s1 := s.rsetBit (Reg.UCS_STATUS f.tile) (if stk then 2 else 3) true
  (s1.rset (Reg.UCS_UERR_LAST f.tile) (w64 (2 ^ 63 + a * 2 ^ 32 + f.iw.opc * 2 ^ 22 + f.iaddr))).eventTag
    (srcTile f.tile 3) 0 0x14 0 f.tag (some f.wafer)

/-- A parity error on a fetch by a firing's PE: the word is BAD and the recovery sequencer is asked (R215). -/
def machineCheck (s : State) (t a pe fid : Nat) (path : Bool) (groups : Nat) : State :=
  let tagged : Bool × Tag × Option Nat := match s.firing? fid with
    | some f => (true, f.tag, some f.wafer)
    | none => (false, 0, none)
  let r : Report := ⟨1, srcTile t 3, 2, pe, groups, tagged.1, tagged.2.1, tagged.2.2⟩
  let s1 := { s with ucsBad := s.ucsBad ++ [({ tile := t, addr := a, pe := pe, firing := fid, path := path, scrub := false } : UcsBad)] }
  let s2 := s1.lastErr (Reg.UCS_LAST_ERR t) r
  s2.report r (some (s2.newJob 3 1 r.src t a []))

/-- The microsequencer of the firing's PE is taken, or another firing that waits for it came first (R205). -/
def useqBusy (s : State) (f : Firing) : Bool :=
  let ahead (i : Nat) : Bool := match s.firing? i with
    | some g => decide (g.tile = f.tile ∧ g.pe = f.pe ∧ g.wait = .useq)
    | none => false
  s.useqs.any (fun q => decide (q.tile = f.tile ∧ q.pe = f.pe ∧ q.firing ≠ f.id)) ||
    (s.useqWait.takeWhile (fun i => decide (i ≠ f.id))).any ahead

/-- The firing gives up the microsequencer and its place before it. -/
def useqFree (s : State) (f : Firing) : State :=
  { s with useqs := s.useqs.filter (fun q => decide (q.firing ≠ f.id)), useqWait := s.useqWait.filter (fun i => decide (i ≠ f.id)) }

/-- The body of a microcoded operation: once its inputs are read, its microsequence runs from the entry word, or goes on where
it waited for a word (R205, R210, R211, R215). -/
def micro (entry : Nat) (body : State → Firing → Act → OpRow → State) (s : State) (f : Firing) (a : Act) (row : OpRow) :
    State :=
  let x := (s.readIns f a row).1
  if f.ctxBad 0 || x.wait.isSome || !x.bad.isEmpty then body s f a row
  else if s.useqBusy f then
    ({ s with useqWait := if s.useqWait.contains f.id then s.useqWait else s.useqWait ++ [f.id] }).waitFor f .useq
  else
    let q := (s.useqs.find? (fun q => decide (q.firing = f.id))).getD (MicroSeq.start f.tile f.pe f.id entry x.l x.r x.c)
    let r := s.microWalk (fenvOf a.mode f.iw.rnd) f.iw.ty 20000 q
    let s1 := s.useqFree f
    match r.1 with
    | .done => body s1 f a row
    | .stack y => (s1.sequenceError f true y).trapOf f a row x [cILLOP] []
    | .bad y => (s1.sequenceError f false y).trapOf f a row x [cILLOP] []
    | .held => ({ s1 with useqs := s1.useqs ++ [r.2] }).waitFor f .micro
    | .parity y => s1.machineCheck f.tile y f.pe f.id false (parityBad (s.ucsWord f.tile y))

/-- A firing without its staged results. -/
def unstaged (f : Firing) : Firing :=
  { f with wait := .none, outs := [], stores := [], effects := [], raised := 0, nd := false, reserved := 0 }

/-- A firing's staged deferred reads, outstanding remote loads and microsequence withdrawn (R127, R205). -/
def unstage (s : State) (f : Firing) : State :=
  { s.useqFree f with
    deferred := s.deferred.filter (fun d => !f.effects.contains (.deferred d.id))
    fab.remote := s.fab.remote.filter (fun r => decide (r.firing ≠ some f.id)) }

/-- A retry: the firing starts again at stage 4 on its PE (R467). -/
def retryFiring (s : State) (f : Firing) : State :=
  ((s.unstage f).updFiring f.id (fun x => { unstaged x with stage := .dispatched })).rinc (Reg.PEX_RETRY f.tile f.pe)

/-- The firing of a machine check is retried once its word is no longer BAD (R215 step 4). -/
def retryChecked (s : State) (fid : Nat) : State :=
  match s.firing? fid with
  | some f => if f.stage = .dispatched then s.retryFiring f else s
  | none => s

/-- The opcode is microcoded (Table 7.1). -/
def isMicro (opc : Nat) : Bool :=
  [0x00C, 0x00D, 0x103, 0x10B, 0x10C, 0x200, 0x201, 0x202, 0x204, 0x205, 0x206, 0x208, 0x20C, 0x210].contains opc

/-- The job that the recovery sequencer runs, of a mechanism on a unit. -/
def curJob (s : State) (mech a b : Nat) : Option RecJob :=
  match s.recCur with
  | some j => if j.mech = mech ∧ j.a = a ∧ j.b = b then some j else none
  | none => none

/-- The running recovery is complete (R459); a tile with no further open recovery of its own leaves RECOVERING (R468). -/
def endJob (s : State) (j : RecJob) : State :=
  let s1 := { s with recCur := none }.closeRecovery j (s.clock - j.time)
  if j.mech = 2 ∧ s1.rfld (Reg.TIL_STATUS j.a) 9 8 = 1 ∧ !s1.recOpen.any (fun x => decide (x.a = j.a ∧ (x.mech = 2 ∨ x.mech = 6))) then
    s1.rsetFld (Reg.TIL_STATUS j.a) 9 8 0
  else s1

/-- A persistent store error retires the tile (R216). -/
def ucsFailed (s : State) (t : Nat) : State :=
  let s1 := s.rsetBit (Reg.UCS_STATUS t) 5 true
  s1.report (Report.plain 3 (srcTile t 3) 9 0 2) (some (s1.newJob 6 3 (srcTile t 3) t 0 s1.activeSlots))

/-- The recovery sequencer reads a BAD word; where the stored word fails parity, a rewrite of it is in progress (R215 step 3,
Table 7.7). -/
def ucsReadBack (s : State) (t a : Nat) : State :=
  if parityBad (s.ucsWord t a) = 0 then s else s.rsetBit (Reg.UCS_STATUS t) 4 true

/-- A word rewritten from the master copy; `ok` is the outcome of its read-back (R215, R216).  A full reload was a
rewrite of every word: it is noted as word 4,096. (DESIGN CHOICE, log entry 86) -/
def ucsRewrite (s : State) (t a : Nat) (ok : Bool) : State :=
  let s1 := ((s.rinc (Reg.UCS_PERR t)).rsetBit (Reg.UCS_STATUS t) 0 true).rinc (Reg.UCS_RELOADS t)
  let others := s.ucsDead.filter (fun x => decide (x ≠ t * 4096 + a))
  let s2 := { s1.setUcs t a (smGet s.ucsMaster a 0) with ucsDead := if ok then others else (t * 4096 + a) :: others }
  let ns := (s.tileAt t).persist * 1000000
  let m := s2.noteError 3 t a ns
  let full := s.marks.any (fun m => decide (m.kind = 3 ∧ m.a = t ∧ m.b = 4096 ∧ s.clock < m.time + ns + 1))
  if !ok || m.1 || full then m.2.ucsFailed t else m.2

/-- A write to `UCS_CTRL` (Table 7.6). -/
def ucsControl (s : State) (t : Nat) (v : Word) : State :=
  let s1 := s.rwrite (Reg.UCS_CTRL t) v
  if bit v 1 && !s.rbit (Reg.UCS_CTRL t) 1 then
    ((s1.updTile t (fun x => { x with reloadPos := 0 })).rsetBit (Reg.UCS_CTRL t) 1 true).rsetBit (Reg.UCS_STATUS t) 4 true
  else s1

/-- A full reload rewrites the words from where it stands up to word `e`, in ascending order (R217). -/
def reloadTo (s : State) (t e : Nat) : State :=
  let p := (s.tileAt t).reloadPos
  let inRange (a : Nat) : Bool := decide (p ≤ a ∧ a < e)
  let kept := s.ucs.filter (fun x => !(decide (x.1 / 4096 = t) && inRange (x.1 % 4096)))
  let new := (s.ucsMaster.filter (fun x => inRange x.1)).foldl (fun m (x : Nat × MicroWord) => smPut m (t * 4096 + x.1) 0 x.2) kept
  ({ s with ucs := new }.updTile t (fun x => { x with reloadPos := max p e })).radd (Reg.UCS_RELOADS t) (e - p)

/-- A full reload of the tile goes on: none of its words waits for the rewrite of a machine check, which comes first (R217). -/
def reloads (s : State) (t : Nat) : Bool :=
  s.rbit (Reg.UCS_CTRL t) 1 && !s.ucsBad.any (fun b => decide (b.tile = t))

/-- Between two sub-tick edges, the full reloads in progress rewrite a number of words that the spec leaves open.
(DESIGN CHOICE, log entry 86) -/
def reloadTick (s : State) : State :=
  (List.range 16).foldl (fun (s : State) t =>
    if s.reloads t then let d := s.drawNat; d.2.reloadTo t (min 4095 ((s.tileAt t).reloadPos + d.1)) else s) s

end State

/-- A parity error on the fetch of word `a` of tile `t` by firing `f`: `flips` are the stored bits that have changed, none
where the error lies in the fetch path (R215). -/
def execUcsFetchParityError (t a f : Nat) (flips : MicroWord) (s : State) : Out :=
  .next (match s.firing? f with
    | none => s
    | some x =>
      if s.dead ∨ x.tile ≠ t ∨ x.stage ≠ .dispatched ∨ !State.isMicro x.iw.opc ∨
          s.ucsBad.any (fun b => decide (b.tile = t ∧ b.addr = a)) then s
      else
        let s1 := s.setUcs t a (s.ucsWord t a ^^^ flips)
        let g := parityBad (s1.ucsWord t a)
        if flips = 0 then (s1.useqFree x).machineCheck t a x.pe f true 1
        else if g = 0 then s1
        else (s1.useqFree x).machineCheck t a x.pe f false g)

/-- The recovery sequencer repairs a BAD word; `ok` is the outcome of the read-back after a rewrite (R215, R216). -/
def execUcsWordRepair (t a : Nat) (ok : Bool) (s : State) : Out :=
  .next (match s.curJob 3 t a, s.ucsBad.find? (fun b => decide (b.tile = t ∧ b.addr = a)) with
    | some j, some b =>
      let s1 := { s with ucsBad := s.ucsBad.filter (fun x => decide (x ≠ b)) }.rsetBit (Reg.UCS_STATUS t) 4
        (s.rbit (Reg.UCS_CTRL t) 1)
      if parityBad (s.ucsWord t a) = 0 then
        let s2 := ((s1.retryChecked b.firing).rinc (Reg.UCS_PATHERR t)).rsetBit (Reg.UCS_STATUS t) 1 true
        let m := s2.noteError 4 t b.pe ((s.tileAt t).persist * 1000000)
        let s3 := m.2.endJob j
        if m.1 then s3.report (Report.plain 2 (srcTile t 3) 9 b.pe 1) (some (s3.newJob 2 2 (srcTile t 3) t b.pe [])) else s3
      else ((s1.endJob j).ucsRewrite t a ok).retryChecked b.firing
    | _, _ => s)

/-- The scrubber reads the next word of tile `t`, in which `flips` have changed since (R217). -/
def execUcsScrubRead (t : Nat) (flips : MicroWord) (ok : Bool) (s : State) : Out :=
  .next (if s.dead || !s.rbit (Reg.UCS_CTRL t) 0 || decide (s.clock < (s.tileAt t).scrubAt) then s
    else
      let a := s.rfld (Reg.UCS_SCRUB_POS t) 11 0
      let s0 := s.updTile t (fun x => { x with scrubAt := s.clock + x.scrub * 1000 })
      let s1 := (s0.setUcs t a (s.ucsWord t a ^^^ flips)).rset (Reg.UCS_SCRUB_POS t) (w64 ((a + 1) % 4096))
      let g := parityBad (s1.ucsWord t a)
      if g = 0 then s1
      else
        let r := Report.plain 1 (srcTile t 3) 2 0 g
        ((s1.lastErr (Reg.UCS_LAST_ERR t) r).retried r).ucsRewrite t a ok)

/-- A write to `UCS_CTRL` of tile `t` by master `m` (R217). -/
def execUcsReload (m t : Nat) (v : Word) (s : State) : Out := .next (s.onlyIf (s.mayWrite m) (·.ucsControl t v))

/-- A full reload ends: every word has been rewritten from the master copy (R217). -/
def execUcsReloadDone (t : Nat) (s : State) : Out :=
  .next (s.onlyIf (s.reloads t && !s.dead) (fun s =>
    let s1 := (s.reloadTo t 4096).updTile t (fun x => { x with reloadPos := 0 })
    ((s1.noteError 3 t 4096 0).2.rsetBit (Reg.UCS_CTRL t) 1 false).rsetBit (Reg.UCS_STATUS t) 4 false))

end Sys2Proof.Machine
end

