-- ==== Sys2Proof/Machine/FireOps.lean ====
section
/-! DEFINITION. The operations of the catalogue, fired (R143 to R170, R176). -/

namespace Sys2Proof.Machine

/-- LOAD and COPY hand on what R reads (R155). -/
def opLoad (x : OpIn) : Option OpRes := some ⟨tyMask x.ty x.r, x.ty, []⟩
def opCopy (x : OpIn) : Option OpRes := some ⟨tyMask x.ty x.r, x.ty, []⟩

/-- A control value is true when its bits [31:0] are not all 0 (R66). -/
def isTrue (v : Value) : Bool := decide (fld v 31 0 ≠ 0)

namespace State

/-- Inputs read, or the wait or trap that ends the attempt; `ok` has the ports that may take a context token (R48). -/
def withIns (s : State) (f : Firing) (a : Act) (row : OpRow) (ok : Nat) (go : State → Ins → State) : State :=
  if f.ctxBad ok then s.trapOf f a row (firingFixed f row) [cCTX] []
  else
    let r := s.readIns f a row
    match r.1.wait with
    | some w => r.2.waitFor f w
    | none => if r.1.bad.isEmpty then go r.2 r.1 else r.2.trapIns f a row r.1

/-- PASS, STORE and STOREX: L goes to A and B, and to memory in the STO modes (R41, R148, R155). -/
def handOp (s : State) (f : Firing) (a : Act) (row : OpRow) : State :=
  s.withIns f a row 0 (fun s x => s.finish f a row x f.lv (f.hand f.ltok x.nd) [] false)

/-- SEL hands on L or R; one that is a token keeps its TYPE, EXC and CTX (R41, R149). -/
def selOp (s : State) (f : Firing) (a : Act) (row : OpRow) : State :=
  s.withIns f a row 3 (fun s x =>
    let p := if isTrue x.c then (x.l, f.inL) else (x.r, f.inR)
    s.finish f a row x p.1 (match p.2 with
      | some t => f.hand t x.nd
      | none => f.comp f.iw.ty 0 x.nd) [] false)

/-- SWITCH: L to A or to B (R66). -/
def switchOp (s : State) (f : Firing) (a : Act) (row : OpRow) : State :=
  s.withIns f a row 7 (fun s x =>
    s.stage f (f.outTo (if isTrue x.c then f.iw.da else f.iw.db) (f.handL x.nd)) [] [] 0 false)

/-- GATE: L to A and B, or nothing (R66). -/
def gateOp (s : State) (f : Firing) (a : Act) (row : OpRow) : State :=
  s.withIns f a row 7 (fun s x => s.stage f (if isTrue x.c then f.outsAB (f.handL x.nd) else []) [] [] 0 false)

/-- MERGE: the one token that arrived goes to A and B (R66). -/
def mergeOp (s : State) (f : Firing) (_a : Act) (_row : OpRow) : State :=
  let t := (f.inL.orElse (fun _ => f.inR)).getD ⟨0, 0⟩
  s.stage f (f.outsAB ⟨t.v, f.hand t false⟩) [] [] 0 false

/-- An operation whose only input is the token L, which it hands on to A and B with some effects. -/
def handWith (s : State) (f : Firing) (es : List Effect) (nd : Bool := false) : State :=
  s.stage f (f.outsAB (f.handL false)) [] es 0 (f.inhNd || nd)

/-- A trap of an operation whose inputs are all tokens. -/
def trapTok (s : State) (f : Firing) (a : Act) (row : OpRow) (c : Nat) : State := s.trapOf f a row (firingFixed f row) [c] []

/-- The body of an operation whose inputs are all tokens (R48). -/
def tokOp (ok : Nat) (go : State → Firing → Act → OpRow → State) (s : State) (f : Firing) (a : Act) (row : OpRow) : State :=
  if f.ctxBad ok then s.trapTok f a row cCTX else go s f a row

/-- The address of a descriptor that an operation uses without reading data there. -/
def withAddr (s : State) (f : Firing) (a : Act) (row : OpRow) (x : Desc) (i : Nat) (go : State → Loc → State) : State :=
  let r := s.addrOf f a x f.size i
  match r.1 with
  | .ok l => go r.2 l
  | .wait w => r.2.waitFor f w
  | .trap c => r.2.trapTok f a row c

/-- Index of IDXR, 0 in MEMR. -/
def memIdx (f : Firing) : Nat := if f.iw.mode = mIDXR then f.idxL else 0

/-- The L2 slice that holds a cell (R127). -/
def cellSlice (s : State) (a : Nat) : Nat := if s.addrKind a = .scratch then scratchSlice a else homeSlice a

/-- The causes for which a cell's own bytes cannot be accessed (R71, R125, R133). -/
def cellBad (s : State) (l : Loc) (n : Nat) : List Nat :=
  if touchesCsr l.addr n then [cCSRACC]
  else if l.device ≠ s.localId ∨ ¬(s.accessKind l.addr n = .sdram ∨ s.accessKind l.addr n = .scratch) then [cMEMRANGE]
  else if s.splitDiffers l.addr n then [cATTRSPLIT]
  else []

/-- IFETCH (R127, R128): a FULL cell is read; otherwise a deferred read is recorded, where its slice has room, and the cell
becomes DEFERRED as the firing commits. (DEDUCED, log entry 17) -/
def ifetchOp : State → Firing → Act → OpRow → State :=
  tokOp 0 (fun s f a row =>
    let x := desc12 f.iw.lit
    s.withAddr f a row x (memIdx f) (fun s l =>
      match s.cellOf a x l f.size with
      | none => s.trapOf f a row (firingFixed f row) (s.cellBad l f.size ++ [cMEMRANGE]) []
      | some cell =>
        let st := s.cellState cell
        let cs := s.cellBad l f.size ++ (if st = 3 then [cISTATE] else [])
        if !cs.isEmpty then s.trapOf f a row (firingFixed f row) cs []
        else if st = 2 then
          let r := s.graphLoad f l f.size
          match r.1 with
          | .ok g => r.2.stage f (f.outsAB ⟨BitVec.ofNat 256 g.v, f.comp f.iw.ty 0 g.nd⟩) [] [] 0 false
          | .wait w => r.2.waitFor f w
          | .trap c => r.2.trapTok f a row c
        else
          let sl := s.cellSlice l.addr
          if 8192 ≤ (s.deferred.filter (fun d => decide (d.slice = sl))).length then
            let s1 := s.rinc (Reg.L2C_DEFER_FULL sl)
            let s2 := { s1 with firings := s1.firings.filter (fun (y : Firing) => decide (y.id ≠ f.id)) ++
                [{ f with stage := .ready, wait := .none, pe := 0 }] }
            s2.rmax (Reg.TIL_READYQ_MAX f.tile) (s2.readyCount f.tile)
          else
            let d : Deferred :=
              { id := s.nextFid, slice := sl, cell := cell, ea := l.addr, tile := f.tile, pe := f.pe, tag := f.tag,
                inc := f.inc, dests := (destOf f.iaddr f.iw.da).toList ++ (destOf f.iaddr f.iw.db).toList, ty := f.iw.ty,
                flags := f.inhFlags, nd := f.inhNd || l.nd, done := false }
            { s with nextFid := s.nextFid + 1, deferred := s.deferred ++ [d] }.stage f [] [] [.deferred d.id] 0 false))

/-- ISTORE (R129): its store and the cell's state are checked now, and take effect when the store drains. -/
def istoreOp : State → Firing → Act → OpRow → State :=
  tokOp 0 (fun s f a row =>
    let x := desc12 f.iw.lit
    s.withAddr f a row x (if f.iw.mode = mSTOX then f.idxR else 0) (fun s l =>
      match s.cellOf a x l f.size with
      | none => s.trapOf f a row (firingFixed f row) (s.cellBad l f.size ++ [cMEMRANGE]) []
      | some cell =>
        let m := s.storeTo l f.iw.ty (natToBytes f.size f.lv.toNat) (some cell)
        let st := s.cellStateOf f cell
        let cs := m.1 ++ (if s.touchesHeader cell.1 8 then [cMEMRANGE] else []) ++
          (if st = 2 then [cREWRITE] else []) ++ (if st = 3 then [cISTATE] else [])
        if cs.isEmpty then s.stage f (f.outsAB (f.handL false)) m.2.1 [] 0 (f.inhNd || l.nd)
        else s.trapOf f a row (firingFixed f row) cs []))

/-- Every store and send that committed before number `n` is performed and visible; with `fabric`, remote stores are
acknowledged too (R156, R235). -/
def fenced (s : State) (n : Nat) (fabric : Bool) : Bool :=
  !s.storeBuf.any (fun b => decide (b.seq < n)) &&
  !s.eventBuf.any (fun b => decide (b.seq < n) && (match b.ev with
    | .chSend .. | .rsend .. | .rsLost _ => true
    | _ => false)) &&
  (!fabric || !s.fab.remote.any (fun r => r.store && r.engine.isNone && decide (r.seq < n)))

/-- The wait of FENCE and CODE_COMMIT (R156, R170): `fenceSeq` is the commit number after the last one before stage 6. -/
def fenceThen (s : State) (f : Firing) (fabric : Bool) (go : State → State) : State :=
  let n := if f.fenceSeq = 0 then s.cseq + 1 else f.fenceSeq
  if s.fenced n fabric then go s
  else s.updFiring f.id (fun x => { x with wait := .fence, fenceSeq := n })

def fenceOp : State → Firing → Act → OpRow → State :=
  tokOp 0 (fun s f _ _ => s.fenceThen f (f.iw.lit.testBit 0) (fun s => s.handWith f []))

/-- CLEAN and CLINV (R155, R238, R240): the line is maintained at commit, after a fill of it that is in progress.
(DESIGN CHOICE, log entry 103) -/
def maintOp (inval : Bool) : State → Firing → Act → OpRow → State :=
  tokOp 0 (fun s f a row =>
    s.withAddr f a row (desc12 f.iw.lit) (memIdx f) (fun s l =>
      if touchesCsr l.addr f.size then s.trapTok f a row cCSRACC
      else if l.device ≠ s.localId then s.trapTok f a row cMEMRANGE
      else
        match s.accessKind l.addr f.size with
        | .sdram =>
          if s.splitDiffers l.addr f.size then s.trapTok f a row cATTRSPLIT
          else if s.mem.fills.any (fun x => decide (x.line = l.addr / 64)) then s.waitFor f .fence
          else s.handWith f [.maint inval (l.addr / 64)] l.nd
        | .scratch => s.handWith f []
        | _ => s.trapTok f a row cMEMRANGE))

/-- CPOLAR: the magnitude to A and the phase to B (R207). -/
def cpolarOp : State → Firing → Act → OpRow → State :=
  tokOp 0 (fun s f a row =>
    let w := f.iw
    let x : OpIn := ⟨fenvOf a.mode w.rnd, w.ty, w.lit, f.lty, f.lv, 0, 0⟩
    match opCmag x, opCphase x with
    | some m, some p =>
      let fls := List.zipWith (· ||| ·) m.flags p.flags
      let cs := enabledCauses a.mode false (orFlags fls)
      if cs.isEmpty then
        let st := f.comp w.ty (orFlags fls) false
        s.stage f (f.outTo w.da ⟨m.val, st⟩ ++ f.outTo w.db ⟨p.val, st⟩) [] [] (orFlags fls) false
      else s.trapOf f a row (firingFixed f row) cs fls
    | _, _ => s.trapTok f a row cILLOP)

/-- NEWACT asks for its activation and waits uncommitted (R46, R121, R261). -/
def newactOp (s : State) (f : Firing) (a : Act) (row : OpRow) : State :=
  match bankEntry (s.bankOf a.epoch) f.iw.lit with
  | none => s.trapTok f a row cILLOP
  | some e =>
    (s.placeReq
      { root := false, desc := f.iw.lit, slot := f.slot, inc := f.inc, wafer := f.wafer, epoch := f.epoch, prio := e.prio,
        act := a.id, firing := f.id, flow := if e.fen then some e.flow else none, arr := s.now, no := 0,
        warned := false }).waitFor f .alloc

def freeactOp (s : State) (f : Firing) (_a : Act) (_row : OpRow) : State := s.stage f [] [] [.freeAct] 0 false

/-- A token to a destination with a changed activation, slot or iteration. -/
def outAs (f : Firing) (x act slot iter : Nat) (tv : TVal) : List OutTok :=
  match destOf f.iaddr x with
  | none => []
  | some d => [⟨mkTag (tagDevice f.tag) act slot iter d.1 d.2, tv⟩]

/-- ITER: ITER + 1 to A, the literal to B (R66). -/
def iterOp (s : State) (f : Firing) (_a : Act) (_row : OpRow) : State :=
  let tv := f.handL false
  s.stage f (outAs f f.iw.da f.act f.slot ((tagIter f.tag + 1) % 2048) tv ++
    outAs f f.iw.db f.act f.slot (f.iw.lit % 2048) tv) [] [] 0 false

/-- The activation that a context token on R names (R163, R167). -/
def ctxOfR (f : Firing) : Option Nat :=
  match f.inR with
  | some t => if stCtx t.st then some (fld t.v 15 0) else none
  | none => none

/-- CHTAG (R163); the slot of an activation that is FREE is the firing's own. -/
def chtagOp (s : State) (f : Firing) (a : Act) (row : OpRow) : State :=
  match ctxOfR f with
  | none => s.trapTok f a row cILLOP
  | some x =>
    let slot := match s.act? x with
      | some b => b.slot
      | none => f.slot
    let iter := if f.iw.lit.testBit 0 then tagIter f.tag else 0
    let tv := f.handL false
    s.stage f (outAs f f.iw.da x slot iter tv ++ outAs f f.iw.db x slot iter tv) [] [] 0 false

/-- SELF: the context token of the firing's own activation (R162). -/
def selfOp (s : State) (f : Firing) (_a : Act) (_row : OpRow) : State :=
  s.stage f (f.outsAB ⟨BitVec.ofNat 256 f.act, mkStatus 1 false true f.inhNd f.inhFlags⟩) [] [] 0 false

/-- TAGQ: ITER or SLOT as a u32 (R162). -/
def tagqOp (s : State) (f : Firing) (_a : Act) (_row : OpRow) : State :=
  s.stage f (f.outsAB ⟨BitVec.ofNat 256 (if f.iw.lit = 0 then tagIter f.tag else f.slot), f.comp 1 0 false⟩) [] [] 0 false

/-- Words of an activation's open packet after the sends that it has committed (R331, R332). -/
def openLen (s : State) (h act slot inc : Nat) : Nat :=
  let n0 := match s.openPkt? h (.graph act slot inc) with
    | some p => p.words.length
    | none => 0
  (s.sendsOf h act).foldl (fun n close => if close then 0 else n + 1) n0

/-- The context word that a channel carries (R369). -/
def ctxWord (device act slot inc : Nat) : Nat :=
  act % 65536 + slot % 8 * 2 ^ 16 + inc % 16 * 2 ^ 19 + device % 1024 * 2 ^ 23

/-- CHSEND, CHPART and CHEND (R165, R332, R336). -/
def sendOp (close : Bool) : State → Firing → Act → OpRow → State :=
  tokOp 1 (fun s f a row =>
    match (s.outBinding a.epoch f.iw.lit).bind s.chan? with
    | none => s.trapTok f a row cCHBIND
    | some c =>
      let isCtx := stCtx f.ltok.st
      if c.width ≠ f.size ∨ (isCtx ∧ c.width < 8) ∨ c.maxlen ≤ s.openLen c.handle a.id f.slot f.inc then
        s.trapTok f a row cCHBIND
      else if !s.canAppend c (.graph a.id f.slot f.inc) then s.waitFor f .channel
      else
        let w := if isCtx then ctxWord (tagDevice f.tag) (fld f.lv 15 0) f.slot f.inc
          else f.lv.toNat % 2 ^ (8 * f.size)
        s.handWith f [.chSend c.handle w close isCtx])

/-- CHPOLL: the item is taken when the firing commits (R166, R343). -/
def pollOp : State → Firing → Act → OpRow → State :=
  tokOp 0 (fun s f a row =>
    match (s.inBinding a.epoch f.iw.lit).bind s.chan? with
    | none => s.trapTok f a row cCHBIND
    | some c =>
      if c.ckind ≠ ckPoll ∨ c.width ≠ f.size then s.trapTok f a row cCHBIND
      else s.stage f [] [] [.chPoll c.handle] 0 false)

/-- The owner of a lock that a firing takes (R167). -/
def lockOwner (f : Firing) : Owner := ⟨f.tile, f.act⟩

/-- LKACQ or LKTRY ends with a status: 0 or 1 with the reservation, 2 or 3 without (R167, R284). -/
def lockEnd (s : State) (f : Firing) (k st : Nat) (ndA : Bool) : State :=
  s.stage f (f.outTo f.iw.da (f.handL ndA) ++ f.outTo f.iw.db ⟨BitVec.ofNat 256 st, f.comp 1 0 true⟩) []
    (if st < 2 then [.lockHold k] else []) 0 f.inhNd

/-- The firing takes a free lock as a reservation, and ends (R167). -/
def lockTake (s : State) (f : Firing) (a : Act) (k : Nat) (ndA : Bool) : State :=
  let l := s.lockAt k
  let s1 := s.lockGive l (lockOwner f) a.base (f.id + 1)
  match s1.firing? f.id with
  | some f' => s1.lockEnd f' k (b2n l.aband) ndA
  | none => s1

def lkacqOp : State → Firing → Act → OpRow → State :=
  tokOp 0 (fun s f a row =>
    let k := f.iw.lit % 1024
    let l := s.lockAt k
    match f.granted with
    | some st => s.lockEnd f k st false
    | none =>
      if l.holder = some (lockOwner f) ∧ l.resv = false then s.trapTok f a row cLKOWNER
      else if l.holder.isNone && !l.withheld && l.waiters.isEmpty then s.lockTake f a k false
      else if lockCycle s.chainMax s k (lockOwner f) then (s.noteCycle k (lockOwner f) a.base).lockEnd f k 3 false
      else (s.lockWait k ⟨lockOwner f, a.base, f.id + 1⟩).waitFor f .lock)

def lktryOp : State → Firing → Act → OpRow → State :=
  tokOp 0 (fun s f a row =>
    let k := f.iw.lit % 1024
    let l := s.lockAt k
    match f.granted with
    | some st => s.lockEnd f k st true
    | none =>
      if l.holder = some (lockOwner f) ∧ l.resv = false then s.trapTok f a row cLKOWNER
      else if l.holder.isNone && !l.withheld then s.lockTake f a k true
      else s.lockEnd f k 2 true)

/-- The firing's owner holds the lock. -/
def holds (s : State) (f : Firing) (k : Nat) : Bool :=
  decide ((s.lockAt k).holder = some (lockOwner f)) && !(s.lockAt k).resv

def lkrelOp : State → Firing → Act → OpRow → State :=
  tokOp 0 (fun s f a row =>
    let k := f.iw.lit % 1024
    if s.holds f k then s.handWith f [.lockRel k] else s.trapTok f a row cLKOWNER)

/-- LKHAND: an R that is no context token raises ILLOP ahead of CTX (R167, R199); L may be a context token too (R48). -/
def lkhandOp (s : State) (f : Firing) (a : Act) (row : OpRow) : State :=
  let k := f.iw.lit % 1024
  match ctxOfR f with
  | none => s.trapTok f a row cILLOP
  | some x =>
    if f.ctxBad 3 then s.trapTok f a row cCTX
    else if s.holds f k then s.handWith f [.lockHand k x] else s.trapTok f a row cLKOWNER

/-- DELAY and TICKWAIT reserve an entry for each token (R268); the due time or tick count is fixed at commit. -/
def delayOp (ticks : Bool) : State → Firing → Act → OpRow → State :=
  tokOp 0 (fun s f _ _ =>
    let os := f.outsAB (f.handL false)
    if 16384 < s.delayUsed + os.length then (if f.wait = .delay then s else s.rinc Reg.SCH_DLY_FULL).waitFor f .delay
    else
      (s.updFiring f.id (fun x => { x with reserved := os.length })).stage f [] []
        [.delay f.iw.lit ticks os] 0 false)

/-- SCHSTAT: the latest sample (R169, R279). -/
def schstatOp : State → Firing → Act → OpRow → State :=
  tokOp 0 (fun s f _ _ =>
    let k := f.iw.lit % 16
    let sel := natField f.iw.lit 11 8
    let v := if sel = 0 then s.rget (Reg.SCH_QDEPTH k) else if sel = 1 then s.rget (Reg.SCH_QWAIT k) else s.rget (Reg.SCH_LOAD k)
    s.stage f (f.outsAB ⟨BitVec.ofNat 256 v.toNat, f.comp 3 0 true⟩) [] [] 0 false)

/-- CRUMB: a RESULT crumb with CODE and the low 64 bits of L (Table 9.3). -/
def crumbOp : State → Firing → Act → OpRow → State :=
  tokOp 0 (fun s f _ _ => s.handWith f [.crumb 0x04 (w64 f.lv.toNat) (f.act * 2 ^ 35 + f.iw.lit % 4096 * 2 ^ 23)])

def codeCommitOp : State → Firing → Act → OpRow → State :=
  tokOp 0 (fun s f _ _ => s.fenceThen f false (fun s => s.stage f (f.outsAB (f.handL false)) [] [.codeCommit] 0 f.inhNd))

/-- TIMEQ (R176). -/
def timeqOp : State → Firing → Act → OpRow → State :=
  tokOp 0 (fun s f _ _ =>
    let v := if f.iw.lit = 0 then s.now else if f.iw.lit = 1 then s.now / 1000 else wrapInt 64 ((s.now : Int) - (s.slotAt f.slot).openT)
    s.stage f (f.outsAB ⟨BitVec.ofNat 256 v, f.comp 3 0 true⟩) [] [] 0 false)

end State

def execFireAdd (f : Nat) (s : State) : Out := .next (s.fire f 0x001 (State.compute opAdd false))
def execFireSub (f : Nat) (s : State) : Out := .next (s.fire f 0x002 (State.compute opSub false))
def execFireAdds (f : Nat) (s : State) : Out := .next (s.fire f 0x003 (State.compute opAdds false))
def execFireSubs (f : Nat) (s : State) : Out := .next (s.fire f 0x004 (State.compute opSubs false))
def execFireNeg (f : Nat) (s : State) : Out := .next (s.fire f 0x005 (State.compute opNeg false))
def execFireNegs (f : Nat) (s : State) : Out := .next (s.fire f 0x006 (State.compute opNegs false))
def execFireAbs (f : Nat) (s : State) : Out := .next (s.fire f 0x007 (State.compute opAbs false))
def execFireAbss (f : Nat) (s : State) : Out := .next (s.fire f 0x008 (State.compute opAbss false))
def execFireMul (f : Nat) (s : State) : Out := .next (s.fire f 0x009 (State.compute opMul false))
def execFireMulh (f : Nat) (s : State) : Out := .next (s.fire f 0x00A (State.compute opMulh false))
def execFireMuls (f : Nat) (s : State) : Out := .next (s.fire f 0x00B (State.compute opMuls false))
def execFireDiv (f : Nat) (s : State) : Out := .next (s.fire f 0x00C (State.micro 9 (State.compute opDiv true)))
def execFireRem (f : Nat) (s : State) : Out := .next (s.fire f 0x00D (State.micro 10 (State.compute opRem true)))
def execFireMin (f : Nat) (s : State) : Out := .next (s.fire f 0x00E (State.compute opMin false))
def execFireMax (f : Nat) (s : State) : Out := .next (s.fire f 0x00F (State.compute opMax false))
def execFireAnd (f : Nat) (s : State) : Out := .next (s.fire f 0x010 (State.compute opAnd false))
def execFireOr (f : Nat) (s : State) : Out := .next (s.fire f 0x011 (State.compute opOr false))
def execFireXor (f : Nat) (s : State) : Out := .next (s.fire f 0x012 (State.compute opXor false))
def execFireNot (f : Nat) (s : State) : Out := .next (s.fire f 0x013 (State.compute opNot false))
def execFireAndn (f : Nat) (s : State) : Out := .next (s.fire f 0x014 (State.compute opAndn false))
def execFireShl (f : Nat) (s : State) : Out := .next (s.fire f 0x015 (State.compute opShl false))
def execFireShr (f : Nat) (s : State) : Out := .next (s.fire f 0x016 (State.compute opShr false))
def execFireSar (f : Nat) (s : State) : Out := .next (s.fire f 0x017 (State.compute opSar false))
def execFireRol (f : Nat) (s : State) : Out := .next (s.fire f 0x018 (State.compute opRol false))
def execFireRor (f : Nat) (s : State) : Out := .next (s.fire f 0x019 (State.compute opRor false))
def execFireClz (f : Nat) (s : State) : Out := .next (s.fire f 0x01A (State.compute opClz false))
def execFirePopc (f : Nat) (s : State) : Out := .next (s.fire f 0x01B (State.compute opPopc false))
def execFireCmpeq (f : Nat) (s : State) : Out := .next (s.fire f 0x080 (State.compute opCmpeq false))
def execFireCmpne (f : Nat) (s : State) : Out := .next (s.fire f 0x081 (State.compute opCmpne false))
def execFireCmplt (f : Nat) (s : State) : Out := .next (s.fire f 0x082 (State.compute opCmplt false))
def execFireCmple (f : Nat) (s : State) : Out := .next (s.fire f 0x083 (State.compute opCmple false))
def execFireCmpun (f : Nat) (s : State) : Out := .next (s.fire f 0x084 (State.compute opCmpun false))
def execFireFadd (f : Nat) (s : State) : Out := .next (s.fire f 0x100 (State.compute opFadd false))
def execFireFsub (f : Nat) (s : State) : Out := .next (s.fire f 0x101 (State.compute opFsub false))
def execFireFmul (f : Nat) (s : State) : Out := .next (s.fire f 0x102 (State.compute opFmul false))
def execFireFdiv (f : Nat) (s : State) : Out := .next (s.fire f 0x103 (State.micro 11 (State.compute opFdiv false)))
def execFireFneg (f : Nat) (s : State) : Out := .next (s.fire f 0x104 (State.compute opFneg false))
def execFireFabs (f : Nat) (s : State) : Out := .next (s.fire f 0x105 (State.compute opFabs false))
def execFireFmin (f : Nat) (s : State) : Out := .next (s.fire f 0x106 (State.compute opFmin false))
def execFireFmax (f : Nat) (s : State) : Out := .next (s.fire f 0x107 (State.compute opFmax false))
def execFireFma (f : Nat) (s : State) : Out := .next (s.fire f 0x108 (State.compute opFma false))
def execFireFms (f : Nat) (s : State) : Out := .next (s.fire f 0x109 (State.compute opFms false))
def execFireFnma (f : Nat) (s : State) : Out := .next (s.fire f 0x10A (State.compute opFnma false))
def execFireFsqrt (f : Nat) (s : State) : Out := .next (s.fire f 0x10B (State.micro 12 (State.compute opFsqrt false)))
def execFireFrsqrt (f : Nat) (s : State) : Out := .next (s.fire f 0x10C (State.micro 13 (State.compute opFrsqrt false)))
def execFireFrint (f : Nat) (s : State) : Out := .next (s.fire f 0x10D (State.compute opFrint false))
def execFireCvt (f : Nat) (s : State) : Out := .next (s.fire f 0x110 (State.compute opCvt false))
def execFireFclass (f : Nat) (s : State) : Out := .next (s.fire f 0x111 (State.compute opFclass false))
def execFireSplat (f : Nat) (s : State) : Out := .next (s.fire f 0x180 (State.compute opSplat false))
def execFireXlane (f : Nat) (s : State) : Out := .next (s.fire f 0x181 (State.compute opXlane false))
def execFireInslane (f : Nat) (s : State) : Out := .next (s.fire f 0x182 (State.compute opInslane false))
def execFirePerm (f : Nat) (s : State) : Out := .next (s.fire f 0x183 (State.compute opPerm false))
def execFireVsel (f : Nat) (s : State) : Out := .next (s.fire f 0x184 (State.compute opVsel false))
def execFireHsum (f : Nat) (s : State) : Out := .next (s.fire f 0x185 (State.compute opHsum false))
def execFireHmin (f : Nat) (s : State) : Out := .next (s.fire f 0x186 (State.compute opHmin false))
def execFireHmax (f : Nat) (s : State) : Out := .next (s.fire f 0x187 (State.compute opHmax false))
def execFireDot (f : Nat) (s : State) : Out := .next (s.fire f 0x188 (State.compute opDot false))
def execFireCmul (f : Nat) (s : State) : Out := .next (s.fire f 0x200 (State.micro 0 (State.compute opCmul false)))
def execFireFft4 (f : Nat) (s : State) : Out := .next (s.fire f 0x201 (State.micro 1 (State.compute opFft4 false)))
def execFireIfft4 (f : Nat) (s : State) : Out := .next (s.fire f 0x202 (State.micro 2 (State.compute opIfft4 false)))
def execFireCmag (f : Nat) (s : State) : Out := .next (s.fire f 0x204 (State.micro 3 (State.compute opCmag false)))
def execFireCphase (f : Nat) (s : State) : Out := .next (s.fire f 0x205 (State.micro 4 (State.compute opCphase false)))
def execFireHilb (f : Nat) (s : State) : Out := .next (s.fire f 0x208 (State.micro 6 (State.compute opHilb false)))
def execFireResamp (f : Nat) (s : State) : Out := .next (s.fire f 0x20C (State.micro 7 (State.compute opResamp false)))
def execFireMoment (f : Nat) (s : State) : Out := .next (s.fire f 0x210 (State.micro 8 (State.compute opMoment false)))
def execFireLoad (f : Nat) (s : State) : Out := .next (s.fire f 0x1C0 (State.compute opLoad false))
def execFireCopy (f : Nat) (s : State) : Out := .next (s.fire f 0x1C3 (State.compute opCopy false))
def execFirePass (f : Nat) (s : State) : Out := .next (s.fire f 0x000 State.handOp)
def execFireSel (f : Nat) (s : State) : Out := .next (s.fire f 0x088 State.selOp)
def execFireSwitch (f : Nat) (s : State) : Out := .next (s.fire f 0x090 State.switchOp)
def execFireGate (f : Nat) (s : State) : Out := .next (s.fire f 0x091 State.gateOp)
def execFireMerge (f : Nat) (s : State) : Out := .next (s.fire f 0x092 State.mergeOp)
def execFireStore (f : Nat) (s : State) : Out := .next (s.fire f 0x1C1 State.handOp)
def execFireStorex (f : Nat) (s : State) : Out := .next (s.fire f 0x1C2 State.handOp)
def execFireIfetch (f : Nat) (s : State) : Out := .next (s.fire f 0x1C4 State.ifetchOp)
def execFireIstore (f : Nat) (s : State) : Out := .next (s.fire f 0x1C5 State.istoreOp)
def execFireFence (f : Nat) (s : State) : Out := .next (s.fire f 0x1C8 State.fenceOp)
def execFireClean (f : Nat) (s : State) : Out := .next (s.fire f 0x1CC (State.maintOp false))
def execFireClinv (f : Nat) (s : State) : Out := .next (s.fire f 0x1CD (State.maintOp true))
def execFireCpolar (f : Nat) (s : State) : Out := .next (s.fire f 0x206 (State.micro 5 State.cpolarOp))
def execFireNewact (f : Nat) (s : State) : Out := .next (s.fire f 0x280 State.newactOp)
def execFireFreeact (f : Nat) (s : State) : Out := .next (s.fire f 0x281 State.freeactOp)
def execFireIter (f : Nat) (s : State) : Out := .next (s.fire f 0x282 State.iterOp)
def execFireChtag (f : Nat) (s : State) : Out := .next (s.fire f 0x283 State.chtagOp)
def execFireSelf (f : Nat) (s : State) : Out := .next (s.fire f 0x284 State.selfOp)
def execFireTagq (f : Nat) (s : State) : Out := .next (s.fire f 0x285 State.tagqOp)
def execFireChsend (f : Nat) (s : State) : Out := .next (s.fire f 0x2C0 (State.sendOp true))
def execFireChpart (f : Nat) (s : State) : Out := .next (s.fire f 0x2C1 (State.sendOp false))
def execFireChend (f : Nat) (s : State) : Out := .next (s.fire f 0x2C2 (State.sendOp true))
def execFireChpoll (f : Nat) (s : State) : Out := .next (s.fire f 0x2C4 State.pollOp)
def execFireLkacq (f : Nat) (s : State) : Out := .next (s.fire f 0x2D0 State.lkacqOp)
def execFireLktry (f : Nat) (s : State) : Out := .next (s.fire f 0x2D1 State.lktryOp)
def execFireLkrel (f : Nat) (s : State) : Out := .next (s.fire f 0x2D2 State.lkrelOp)
def execFireLkhand (f : Nat) (s : State) : Out := .next (s.fire f 0x2D3 State.lkhandOp)
def execFireDelay (f : Nat) (s : State) : Out := .next (s.fire f 0x2E0 (State.delayOp false))
def execFireTickwait (f : Nat) (s : State) : Out := .next (s.fire f 0x2E1 (State.delayOp true))
def execFireSchstat (f : Nat) (s : State) : Out := .next (s.fire f 0x2E8 State.schstatOp)
def execFireCrumb (f : Nat) (s : State) : Out := .next (s.fire f 0x2EC State.crumbOp)
def execFireCodeCommit (f : Nat) (s : State) : Out := .next (s.fire f 0x2F0 State.codeCommitOp)
def execFireTimeq (f : Nat) (s : State) : Out := .next (s.fire f 0x308 State.timeqOp)
/-- A firing of a reserved encoding (R146). -/
def execFireIllegalEncoding (f : Nat) (s : State) : Out := .next (s.fireIllegal f)

end Sys2Proof.Machine
end

