-- ==== Sys2Proof/Machine/Votes.lean ====
section
/-! DEFINITION. The fabric operations VOTE and RSEND, replicated groups and their digests, and the extension operations
of port X (R171 to R181, R201, R404, R416 to R421, R504). -/

namespace Sys2Proof.Machine

/-- `n` bytes of a bank from offset `o`, a multiple of 8, in their order (R496). -/
def bankBytes (b : List (Nat × Word)) (o n : Nat) : List Byte :=
  (List.range (n / 8)).flatMap (fun i => natToBytes 8 (bankWord b (o + 8 * i)).toNat)

/-- A replicated group's entry (Table 13.12). -/
structure Group where
  valid  : Bool
  mv     : Nat
  mems   : List Nat
  guar   : Bool
  flowEn : Bool
  flow   : Nat
  slen   : Nat
  sbase  : Nat
  snap   : Nat
  deriving DecidableEq, Repr

def bankGroup (b : List (Nat × Word)) (g : Nat) : Group :=
  let w := bankWord b (0xC800 + g * 32)
  { valid := bit w 63, mv := fld w 62 60, mems := [fld w 39 30, fld w 49 40, fld w 59 50], guar := bit w 29,
    flowEn := bit w 28, flow := fld w 27 16, slen := fld w 8 0,
    sbase := fld (bankWord b (0xC808 + g * 32)) 47 12 * 4096, snap := fld (bankWord b (0xC810 + g * 32)) 47 12 * 4096 }

/-- Valid member indices. -/
def Group.members (g : Group) : List Nat := (List.range 3).filter (fun m => g.mv.testBit m)

/-- The local member index (R416). -/
def Group.local (g : Group) (me : Nat) : Option Nat :=
  if g.valid then g.members.find? (fun m => decide (nth g.mems m 0 = me)) else none

/-- The group has a state region (R419). -/
def Group.region (g : Group) : Bool := g.flowEn && decide (g.slen ≠ 0)

/-- Bits [127:0] of a SHA-384 digest (R490, R504). -/
def digest128 (m : List Byte) : BitVec 128 := (sha384 m).setWidth 128

/-- CFGDIG and PLANDIG (R504). -/
def cfgDigest (b : List (Nat × Word)) : BitVec 128 := digest128 (bankBytes b 0 0xA0000)
def planDigest (b : List (Nat × Word)) : BitVec 128 := digest128 (bankBytes b 0xE000 0x840)

/-- Descriptors of a bank that are not all zero, in ascending number. -/
def bankDescs (b : List (Nat × Word)) : List Nat :=
  ((b.filter (fun e => decide (0x4000 ≤ e.1 ∧ e.1 < 0x14000))).map (fun e => (e.1 - 0x4000) / 16)).eraseDups

/-- A group's digest (R504). -/
def groupDigest (b : List (Nat × Word)) (g : Nat) : BitVec 128 :=
  let images := (List.range 64).flatMap (fun j =>
    let o := 0xD000 + j * 64
    let w := bankWord b o
    if bit w 63 && bit (bankWord b (o + 8)) g then
      bankBytes b o 64 ++ ((bankDescs b).filter (fun n =>
        let e := fld (bankWord b (descOff n)) 21 0
        decide (fld w 53 32 ≤ e ∧ e ≤ fld w 21 0))).flatMap (fun n => bankBytes b (descOff n) 0x80)
    else [])
  digest128 (bankBytes b (0xC800 + g * 32) 32 ++ bankBytes b 0xCA00 16 ++ images)

/-- The key of a vote (R172). -/
structure VoteKey where
  group : Nat
  wafer : Nat
  iaddr : Nat
  iter  : Nat
  key   : Nat
  deriving DecidableEq, Repr

def VoteMsg.vkey (m : VoteMsg) : VoteKey := ⟨m.group, m.wafer, m.iaddr, m.iter, m.key⟩
def VoteRec.vkey (m : VoteRec) : VoteKey := ⟨m.group, m.wafer, m.iaddr, m.iter, m.key⟩

/-- The key of a VOTE firing. -/
def Firing.vkey (f : Firing) : VoteKey := ⟨f.iw.lit % 16, f.wafer, f.iaddr, tagIter f.tag, fld f.rv 31 0⟩

/-- An outcome (Table 5.12): its code, the participants, those that agree, the chosen value, and what rule 1 of R418
found. -/
structure Outcome where
  code     : Nat
  part     : Nat
  agree    : Nat
  value    : TVal
  nd       : Bool
  degraded : Bool
  deriving DecidableEq, Repr

/-- Values are equal when TYPE and all value bits are (R172). -/
def sameVal (a b : TVal) : Bool := decide (stType a.st = stType b.st ∧ a.v = b.v)

/-- The digest that at least two messages carry, or the only one's (R418 rule 1). -/
def agreedDigest (ms : List VoteMsg) : Option (BitVec 128) :=
  match ms with
  | [m] => some m.digest
  | _ => (ms.find? (fun m => decide (2 ≤ (ms.filter (fun x => decide (x.digest = m.digest))).length))).map (·.digest)

/-- Bit mask of member indices. -/
def maskOf (ms : List Nat) : Nat := ms.foldl (fun n m => n + 2 ^ m) 0

/-- The outcome from the messages present, the local member's among them (R173, R418): `keep` is the participant set
of an earlier outcome. (DESIGN CHOICE, log entry 55) -/
def voteOutcome (g : Group) (me : Nat) (own : TVal) (ms : List VoteMsg) (keep : Option Nat) : Outcome :=
  let d := agreedDigest ms
  let degraded := ms.any (fun m => decide (d ≠ some m.digest))
  let takes (m : VoteMsg) : Bool := match keep with
    | some p => p.testBit m.member
    | none => !m.abstain && decide (d = some m.digest)
  let ps := (List.range 3).filterMap (fun i => ms.find? (fun m => decide (m.member = i) && takes m))
  let same (v : TVal) : List Nat := (ps.filter (fun p => sameVal p.tv v)).map (·.member)
  let part := maskOf (ps.map (·.member))
  let pair := ps.find? (fun p => decide (2 ≤ (same p.tv).length))
  let first : TVal := match ps with
    | [] => own
    | p :: _ => p.tv
  let pick : Nat × TVal :=
    match pair with
    | some p =>
      if ps.length = 2 then (3, p.tv)
      else if (same p.tv).length = 3 then (0, p.tv)
      else if (same p.tv).contains me then (1, p.tv) else (2, p.tv)
    | none =>
      if ps.length = 0 then (6, own)
      else if ps.length = 1 then (5, first)
      else if part.testBit me then (4, own) else (4, first)
  { code := pick.1, part := part, agree := maskOf (same pick.2), value := pick.2,
    nd := ps.any (fun p => stNd p.tv.st) || decide (part ≠ maskOf g.members), degraded := degraded }

/-- The status word (Table 5.13). -/
def Outcome.status (o : Outcome) : Nat := o.agree * 256 + o.part * 16 + o.code

namespace State

/-- Every port of the route to a device that could be used is in RESTRICTED (R418 rule 2). -/
def onlyRestricted (s : State) (d : Nat) : Bool :=
  let e := s.rget (Reg.FAB_ROUTE d)
  let ps := [fld e 14 12, fld e 11 9].filter (fun p => decide (p < 6))
  bit e 15 && !ps.isEmpty && ps.all (fun p => decide ((s.linkAt p).state = .restricted))

/-- The local member does not take part in a vote of the wafer in a slot (R172). -/
def abstains (s : State) (k : Nat) : Bool :=
  let x := s.slotAt k
  x.wide || x.suspect ||
    (s.fab.links.take 6).any (fun l => decide (l.state = .restricted)) && !(s.fab.links.take 6).any (fun l => decide (l.state = .up))

/-- Messages kept for a vote (R174, R417). -/
def votesOf (s : State) (k : VoteKey) : List VoteMsg := s.votes.filter (fun m => decide (m.vkey = k))

def voteRec? (s : State) (k : VoteKey) : Option VoteRec := s.voteRecs.find? (fun r => decide (r.vkey = k))

def setVoteRec (s : State) (r : VoteRec) : State :=
  { s with voteRecs := s.voteRecs.map (fun x => if x.vkey = r.vkey then r else x) }

/-- The first message of a key and sender is kept, later ones are discarded (R174). -/
def keepVote (s : State) (m : VoteMsg) : State :=
  if (s.votesOf m.vkey).any (fun x => decide (x.member = m.member)) then s else { s with votes := s.votes ++ [m] }

/-- A member is excluded without waiting: lost, or behind RESTRICTED links (R418 rule 2). -/
def unreachable (s : State) (d : Nat) : Bool := s.deviceLost d || s.onlyRestricted d

/-- The outcome of a vote of this device as its record and messages stand. -/
def outcomeOf (s : State) (f : Firing) (g : Group) (me : Nat) (r : VoteRec) : Outcome :=
  let ms := s.votesOf r.vkey
  let use := ms.filter (fun m => !r.excl.testBit m.member && g.members.contains m.member)
  voteOutcome g me ((ms.find? (fun m => decide (m.member = me))).map (·.tv) |>.getD f.ltok) use r.part

/-- A waiting VOTE whose other members have all answered, or are excluded, forms its outcome (R172, R418).  `late` are
the members that the timeout excludes. -/
def voteTry (s : State) (f : Firing) (late : Nat) : State :=
  let k := f.vkey
  let g := bankGroup (s.bankOf f.epoch) k.group
  match s.voteRec? k, g.local s.localId with
  | some r, some me =>
    let ms := s.votesOf k
    let silent (m : Nat) : Bool := !ms.any (fun x => decide (x.member = m))
    let gone (m : Nat) : Bool := silent m && (s.unreachable (nth g.mems m 0) || late.testBit m)
    let others := g.members.filter (fun m => decide (m ≠ me))
    if r.part.isSome || others.all (fun m => !silent m || gone m) then
      let excl := if r.part.isSome then r.excl else maskOf (others.filter gone)
      let r1 := { r with excl := excl }
      let o := s.outcomeOf f g me r1
      let s1 := s.setVoteRec { r1 with part := some o.part }
      let a := Reg.FAB_GRP_STATUS k.group
      let vtmo := others.any (fun m => gone m && late.testBit m)
      let s2 := if r.part.isSome then s1 else
        ((s1.rsetFld a 58 56 excl).rsetBit a 55 o.degraded).rsetBit a 53 vtmo
      let s3 := if o.degraded && r.part.isNone then s2.eventTag 0x480 0 0x94 4 f.tag (some f.wafer) else s2
      let s4 := if decide (o.code = 1 ∨ o.code = 2) && r.part.isNone then s3.eventTag 0x480 0 0x94 6 f.tag (some f.wafer) else s3
      let nd := o.nd || f.inhNd
      let res : TVal := ⟨o.value.v, mkStatus (stType o.value.st) false false nd (f.inhFlags ||| stFlags o.value.st)⟩
      let st : TVal := ⟨BitVec.ofNat 256 o.status, mkStatus 1 false false nd f.inhFlags⟩
      s4.stage f (f.outTo f.iw.da res ++ f.outTo f.iw.db st) [] [.vote k.group (decide (o.code = 2))] 0 false
    else s
  | _, _ => s

/-- Every VOTE that waits looks again. -/
def voteWake (s : State) : State :=
  (s.firings.filter (fun f => decide (f.wait = .vote))).foldl (fun s f => s.voteTry f 0) s

/-- The payload of a VOTE message (Table 13.13). -/
def voteBody (m : VoteMsg) (wide suspect : Bool) : List (BitVec 128) :=
  [BitVec.ofNat 128 (m.iaddr * 2 ^ 106 + m.iter * 2 ^ 95 + b2n m.abstain * 2 ^ 83 + b2n wide * 2 ^ 82 + b2n suspect * 2 ^ 81 +
     m.tv.st.toNat * 2 ^ 64 + m.key),
   m.digest, BitVec.ofNat 128 m.tv.v.toNat, BitVec.ofNat 128 (m.tv.v.toNat / 2 ^ 128)]

/-- VOTE at stage 6 (R172, R174, R417). -/
def voteOp : State → Firing → Act → OpRow → State :=
  tokOp 0 (fun s f a row =>
    let k := f.vkey
    let b := s.bankOf f.epoch
    let g := bankGroup b k.group
    match g.local s.localId with
    | none => s.trapTok f a row cVOTEGRP
    | some me =>
      let isOpen (r : VoteRec) : Bool :=
        s.firings.any (fun x => decide (x.id = r.firing ∧ x.id ≠ f.id ∧ x.inc = f.inc ∧ x.vkey = k))
      if (s.voteRec? k).any isOpen then s.trapTok f a row cVOTEDUP
      else
        let x := s.slotAt f.slot
        let m : VoteMsg :=
          { group := k.group, wafer := k.wafer, iaddr := k.iaddr, iter := k.iter, key := k.key, member := me,
            abstain := s.abstains f.slot, tv := f.ltok, digest := groupDigest b k.group }
        let s1 := s.keepVote m
        let s2 := match s1.voteRec? k with
          | some r => s1.setVoteRec { r with firing := f.id, since := s.clock }
          | none => { s1 with voteRecs := s1.voteRecs ++
              [⟨k.group, k.wafer, k.iaddr, k.iter, k.key, f.id, s.clock, none, 0⟩] }
        let s3 := (g.members.filter (fun o => decide (o ≠ me))).foldl (fun (s : State) o =>
          let d := nth g.mems o 0
          if s.unreachable d then s
          else s.sendMsg d 0x18 (if g.guar then 0 else 2) (k.group * 4096 + me * 1024) k.wafer (voteBody m x.wide x.suspect)) s2
        (s3.waitFor f .vote).voteTry f 0)

/-- A VOTE message arrives (R417): it is kept until its wafer has committed. -/
def voteArrive (s : State) (m : Msg) : State :=
  let w := nth m.body 0 0
  if m.body.length ≠ 4 then s
  else if s.tick.started && decide (m.arg < s.tick.nextWafer) && !s.waferOpen m.arg then s
  else
    (s.keepVote
      { group := m.aux / 4096 % 16, wafer := m.arg, iaddr := fld w 127 106, iter := fld w 105 95, key := fld w 31 0,
        member := m.aux / 1024 % 4, abstain := bit w 83,
        tv := ⟨BitVec.ofNat 256 ((nth m.body 2 0).toNat + (nth m.body 3 0).toNat * 2 ^ 128), BitVec.ofNat 16 (fld w 79 64)⟩,
        digest := nth m.body 1 0 }).voteWake

/-- The vote timeout of a waiting firing (R418 rule 2). -/
def voteExpire (s : State) (n : Nat) : State :=
  match s.firing? n with
  | none => s
  | some f =>
    match s.voteRec? f.vkey with
    | none => s
    | some r =>
      if f.wait = .vote ∧ r.since + clampNat 10 100000 (s.rfld Reg.FAB_VOTE_TMO 19 0) * 1000 ≤ s.clock then s.voteTry f 7 else s

/-- A member's votes leave a resynchronisation to be made, of a minority or of its source (R419). -/
def noteVote (s : State) (f : Firing) : State :=
  let k := f.vkey
  let g := bankGroup (s.bankOf f.epoch) k.group
  match s.voteRec? k, g.local s.localId with
  | some r, some me =>
    let o := s.outcomeOf f g me r
    let c := Reg.FAB_GRP_COUNT k.group
    let n := s.rfld c 15 0
    let s1 := if o.code = 2 then s.rsetFld c 15 0 (min 65535 (n + 1)) else s
    let src := ((List.range 3).find? (fun m => o.agree.testBit m)).getD 0
    let mine := decide (o.code = 2)
    if g.region && (mine || decide (o.code = 1 ∧ src = me)) then
      let hit (y : Resync) : Bool := decide (y.group = k.group ∧ y.wafer = k.wafer ∧ y.isSource = !mine)
      let lower (y : Resync) : Bool :=
        decide (y.iaddr < k.iaddr ∨ (y.iaddr = k.iaddr ∧ (y.iter < k.iter ∨ (y.iter = k.iter ∧ y.key ≤ k.key))))
      let early (x : Nat × Nat × Nat) : Bool := !mine && decide (x.1 = k.group ∧ x.2.1 = k.wafer)
      if s1.fab.resyncs.any (fun y => hit y && (lower y || y.begun)) then s1
      else
        { s1 with fab.rsyAsks := s1.fab.rsyAsks.filter (fun x => !early x), fab.resyncs := s1.fab.resyncs.filter (fun y => !hit y) ++
            [({ group := k.group, wafer := k.wafer, isSource := !mine, source := nth g.mems src 0, iaddr := k.iaddr,
                iter := k.iter, key := k.key, since := s1.clock, flow := g.flow, begun := false,
                holding := false, asked := (s1.fab.rsyAsks.find? early).map (fun (x : Nat × Nat × Nat) => x.2.2), got := 0 } : Resync)]
        }.rsetBit (Reg.FAB_GRP_STATUS k.group) 54 true
    else s1
  | _, _ => s

/-- A remote binding (Table 13.8). -/
def remoteBinding (s : State) (e n : Nat) : Nat := bank32 (s.bankOf e) (0x8000 + n * 4)

/-- Sends of a remote binding that hold a credit without having used it. -/
def rsPending (s : State) (device inbound : Nat) : Nat :=
  let hit (e : Effect) : Bool := match e with
    | .rsend d i _ _ _ => decide (d = device ∧ i = inbound)
    | _ => false
  (s.firings.filter (fun f => f.effects.any hit)).length + (s.eventBuf.filter (fun e => hit e.ev)).length

def rsBind (s : State) (device inbound : Nat) : RsBind :=
  (s.fab.binds.find? (fun b => decide (b.device = device ∧ b.inbound = inbound))).getD ⟨device, inbound, 0, false, false⟩

def setRsBind (s : State) (b : RsBind) : State :=
  { s with fab.binds := b :: s.fab.binds.filter (fun x => decide (¬(x.device = b.device ∧ x.inbound = b.inbound))) }

/-- RSEND (R175, R404, R406, R408): it waits for a credit, which it asks for up to 8 items at a time. -/
def rsendOp : State → Firing → Act → OpRow → State :=
  tokOp 0 (fun s f a row =>
    let w := s.remoteBinding a.epoch (f.iw.lit % 4096)
    let d := natField w 25 16
    let i := natField w 7 0
    let b := s.rsBind d i
    let word := f.lv.toNat % 2 ^ (8 * f.size)
    if !w.testBit 31 ∨ f.size ≠ 4 * 2 ^ natField w 15 14 ∨ b.refused then
      s.trapTok f a row cCHBIND
    else if s.deviceLost d then s.handWith f [.rsLost d]
    else if s.rsPending d i < b.credits then s.handWith f [.rsend d i (w.testBit 30) word f.size]
    else if b.asked then s.waitFor f .channel
    else ((s.setRsBind { b with asked := true }).sendMsg d 0x10 2 i (8 * 4 + natField w 15 14) []).waitFor f .channel)

/-- The outstanding request of a firing (R178). -/
def xOf (s : State) (f : Firing) : Option XReq := s.xreqs.find? (fun x => decide (x.firing = f.id) && !x.aband)

/-- A REQID that no outstanding request uses: which one is left open. (DESIGN CHOICE, log entry 56) -/
def freeReqid (s : State) : Nat × State :=
  let d := s.drawNat
  (((List.range 1025).map (fun k => (d.1 + k) % 32768)).find? (fun q => !s.xreqs.any (fun x => decide (x.reqid = q))) |>.getD 0, d.2)

/-- A firing raises XERR (R181, R200, R201). -/
def xerr (s : State) (f : Firing) (a : Act) (ecode reqid : Nat) (nd : Bool) : State :=
  s.stageTrap f a { cause := cXERR, raised := 0, lane := 0, opl := ecode, opr := reqid % 32768, opc := 0 } nd

/-- ECODEs that the device gives (R201). -/
def ecodeDown : Nat := 2 ^ 64 - 2
def ecodeTimeout : Nat := 2 ^ 64 - 1

/-- The request header (Table 5.15). -/
def xHeader (f : Firing) (ins reqid : Nat) : BitVec 128 :=
  let i := f.iw
  let nin := (ins % 2) * 4 + (ins / 2 % 2) * 2 + ins / 4 % 2
  BitVec.ofNat 128 ((i.opc - 0x3C0) % 64 * 2 ^ 122 + i.ty * 2 ^ 118 + i.rnd % 4 * 2 ^ 116 + nin * 2 ^ 113 + i.lit % 4096 * 2 ^ 101 +
    f.inc % 16 * 2 ^ 97 + reqid * 2 ^ 82 + f.inhFlags.toNat * 2 ^ 75 + tagIter f.tag * 2 ^ 64 + f.wafer % 2 ^ 64)

/-- An extension firing (R177 to R179). -/
def extOp (s : State) (f : Firing) (a : Act) (row : OpRow) : State :=
  withIns s f a row 0 (fun s x =>
    if (s.linkAt 6).state ≠ .up then
      let d := s.drawNat
      d.2.xerr f a ecodeDown d.1 x.nd
    else if (s.xOf f).isSome then s.waitFor f .xreply
    else if 1024 ≤ s.xreqs.length then s.waitFor f .xport
    else
      let q := s.freeReqid
      let two (v : Value) : List (BitVec 128) := [BitVec.ofNat 128 v.toNat, BitVec.ofNat 128 (v.toNat / 2 ^ 128)]
      let ws := xHeader f row.ins q.1 :: ((if row.ins % 2 = 1 then two x.l else []) ++
        (if row.ins / 2 % 2 = 1 then two x.r else []) ++ (if row.ins / 4 % 2 = 1 then two x.c else []))
      let s1 := { q.2 with xreqs := q.2.xreqs ++
        [({ reqid := q.1, firing := f.id, since := s.clock, aband := false, l := x.l, r := x.r, c := x.c } : XReq)] }
      let s2 := s1.updLink 6 (fun l => l.push s1.clock 0 ws)
      (s2.updFiring f.id (fun y => { y with nd := x.nd })).waitFor f .xreply)

/-- A reply that no request awaits (R181). -/
def replyDiscarded (s : State) : State := s.event 0x480 6 0x15 0

/-- A reply from port X: its header and the codewords after it (R180, R181). -/
def extReply (s : State) (ws : List (BitVec 128)) : State :=
  match ws with
  | [] => s.replyDiscarded
  | h :: body =>
    let hasA := bit h 109
    let hasB := bit h 108
    let n := 2 * (b2n hasA + b2n hasB)
    let wellFormed := decide (fld h 112 110 ≤ 1 ∧ fld h 107 104 ≤ 0xD ∧ body.length = n)
    match s.xreqs.find? (fun x => decide (x.reqid = fld h 127 113)) with
    | none => s.replyDiscarded
    | some x =>
      if !wellFormed then s.replyDiscarded
      else
        let s1 := { s with xreqs := s.xreqs.filter (fun y => decide (y ≠ x)) }
        match s1.firing? x.firing, x.aband with
        | some f, false =>
          (match s1.act? f.act, legalRow f.iw (s.arityOf f.epoch f.word) with
           | some a, some row =>
             if fld h 112 110 = 1 then s1.xerr f a (fld h 63 0) x.reqid f.nd
             else
               let raised := BitVec.ofNat 7 (fld h 103 97)
               let cs := enabledCauses a.mode false raised
               if !cs.isEmpty then s1.trapOf f a row ⟨x.l, x.r, x.c, f.nd, [], none⟩ cs [raised]
               else
                 let ty := fld h 107 104
                 let st := f.comp ty raised f.nd
                 let val (k : Nat) : TVal :=
                   ⟨tyMask ty (BitVec.ofNat 256 ((nth body k 0).toNat + (nth body (k + 1) 0).toNat * 2 ^ 128)), st⟩
                 let outs :=
                   if isMemForm f.iw.mode then (if hasA then f.outsAB (val 0) else [])
                   else (if hasA then f.outTo f.iw.da (val 0) else []) ++
                     (if hasB then f.outTo f.iw.db (val (if hasA then 2 else 0)) else [])
                 s1.stage f outs [] [] raised f.nd
           | _, _ => s1)
        | _, _ => s1.replyDiscarded

/-- A request ends without a reply: it is outstanding no more, and its firing raises XERR (R181, R421). -/
def xAbandon (s : State) (x : XReq) : State :=
  let s1 := { s with xreqs := s.xreqs.filter (fun y => decide (y ≠ x)) }
  match (if x.aband then none else s1.firing? x.firing) with
  | none => s1
  | some f =>
    match s1.act? f.act with
    | none => s1
    | some a => s1.xerr f a ecodeTimeout x.reqid f.nd

/-- The reply timeout of the `n`-th outstanding request. -/
def xExpire (s : State) (n : Nat) : State :=
  match s.xreqs[n]? with
  | none => s
  | some x => if x.since + clampNat 10 1000000 (s.rfld Reg.FAB_XTMO 19 0) * 1000 ≤ s.clock then s.xAbandon x else s

/-- Port X has left UP: every outstanding request ends (R421). -/
def xDown (s : State) : State := s.xreqs.foldl (fun s x => s.xAbandon x) s

end State

def execFireVote (f : Nat) (s : State) : Out := .next (s.fire f 0x300 State.voteOp)
def execFireRsend (f : Nat) (s : State) : Out := .next (s.fire f 0x304 State.rsendOp)
def execFireExtOp (f : Nat) (s : State) : Out := .next (s.fireIf f (fun x => decide (0x3C0 ≤ x)) State.extOp)

/-- A reply arrives on port X: header codeword, then the outputs' codewords. -/
def execExtReply (ws : List (BitVec 128)) (s : State) : Out := .next (s.onlyIf (!s.dead) (·.extReply ws))
def execExtReplyTimeout (n : Nat) (s : State) : Out := .next (s.onlyIf (!s.dead) (·.xExpire n))
def execVoteTimeout (f : Nat) (s : State) : Out := .next (s.onlyIf (!s.dead) (·.voteExpire f))

end Sys2Proof.Machine
end

