-- ==== Sys2Proof/Machine/Commit.lean ====
section
/-! DEFINITION. Commit of firings, draining of the commit buffers, grants of start requests, and retirement of PEs
(R49, R58 to R61, R76, R127, R129, R163, R234, R261, R471, R472). -/

namespace Sys2Proof.Machine

/-- A journal entry as it lies in SDRAM (Table 15.8). -/
def journalImage (e : JEntry) : List Byte :=
  natToBytes 16 (e.inc % 16 * 2 ^ 60 + (e.bytes.length - 1) % 32 * 2 ^ 48 + e.addr % 2 ^ 48) ++
    natToBytes 48 (bytesToNat e.bytes)

namespace State

/-- The tokens of a released deferred read (R127, R471). -/
def releaseDeferred (s : State) (d : Deferred) : State :=
  match s.act? (tagAct d.tag) with
  | none => s
  | some a =>
    if d.inc ≠ (s.slotAt (tagSlot d.tag)).inc ∨ a.state = .quarantined then s
    else
      let v := BitVec.ofNat 256 (bytesToNat (s.memView d.ea (tySize d.ty)))
      d.dests.foldl (fun (s : State) x =>
        s.emitTok ⟨mkTag (tagDevice d.tag) (tagAct d.tag) (tagSlot d.tag) (tagIter d.tag) x.1 x.2,
          ⟨v, mkStatus d.ty false false d.nd d.flags⟩⟩ a d.tile d.pe) s

/-- The committed deferred reads of a FULL cell release, in the order in which they were deferred (R127). -/
def releaseCell (s : State) (cell : Nat × Nat) : State :=
  let ds := s.deferred.filter (fun d => d.done && decide (d.cell = cell))
  let s1 := { s with deferred := s.deferred.filter (fun d => !(d.done && decide (d.cell = cell))) }
  ds.foldl (fun (s : State) d => s.releaseDeferred d) s1

/-- Entries of a journal segment (R472, Table 15.8). -/
def journalMax (s : State) : Nat := min 4096 (s.rfld Reg.FCL_JRNL_SIZE 12 0) * 16384

/-- `FCL_JRNL_BASE.EN` as it reads: the whole area lies within installed SDRAM (R472, Table 15.14). -/
def journalOn (s : State) : Bool :=
  s.rbit Reg.FCL_JRNL_BASE 0 &&
    decide (s.rfld Reg.FCL_JRNL_BASE 47 20 * 2 ^ 20 + 8 * min 4096 (s.rfld Reg.FCL_JRNL_SIZE 12 0) * 2 ^ 20 ≤ s.sdramTop)

/-- A store at a local address is journalled (R472). -/
def journalled (s : State) (a : Nat) : Bool :=
  s.journalOn &&
    (match s.addrKind a with
     | .sdram => let p := s.framePool; !decide (p.1 ≤ a ∧ a < p.1 + p.2)
     | .scratch => true
     | _ => false)

/-- The bytes that a store overwrites, kept in the segment of its wafer's slot and written there uncached (R472, R473, Table
15.8). -/
def journal (s : State) (b : SbEntry) (a n : Nat) : State :=
  let x := s.slotAt b.slot
  if s.journalled a && decide (x.state ≠ 0 ∧ x.wafer = b.wafer) then
    if x.journal.length < s.journalMax then
      (s.updSlot b.slot (fun y => { y with journal := y.journal ++ [⟨b.inc, a, s.memView a n⟩] })).sdWrite
        (s.rfld Reg.FCL_JRNL_BASE 47 20 * 2 ^ 20 + (b.slot * s.journalMax + x.journal.length) * 64)
        (journalImage ⟨b.inc, a, s.memView a n⟩)
    else s.updSlot b.slot (fun y => { y with nojrnl := true })
  else s

/-- A committed store is performed (R59, R129, R232, R402). -/
def performStore (s : State) (b : SbEntry) : State :=
  let st := b.st
  if st.device ≠ s.localId then
    if s.deviceLost st.device then s.remoteStoreFailed st.device
    else s.remoteIssue st.device st.addr st.bytes.length (some st.bytes) none none b.seq ((s.act? b.act).bind (·.flow))
  else
    match st.cell with
    | none => (s.journal b st.addr st.bytes.length).memWrite (some (b.tile, b.pe)) st.addr st.bytes
    | some cell =>
      if s.cellState cell = 2 then s
      else
        let s1 := (s.journal b st.addr st.bytes.length).memWrite (some (b.tile, b.pe)) st.addr st.bytes
        let m := s1.cellByte cell 2
        ((s1.journal b cell.1 8).memWrite (some (b.tile, b.pe)) m.1 m.2).releaseCell cell

/-- The oldest committed store of a PE drains (R59). -/
def drainStore (s : State) (t p : Nat) : State :=
  match s.storeBuf.find? (fun b => decide (b.tile = t ∧ b.pe = p)) with
  | none => s
  | some b => ({ s with storeBuf := s.storeBuf.erase b }.performStore b).settle

/-- Items for a lost receiver are counted and logged (R408). -/
def rsGone (s : State) (device n : Nat) : State :=
  ((s.radd Reg.FAB_RS_LOST n).rsetBit Reg.FAB_STATUS 5 true).event 0x480 0 0x93 device

/-- A remote-send item leaves (R175, R406): its index k in its wafer counts the items of the incarnation. -/
def sendItem (s : State) (e : EbEntry) (device inbound : Nat) (guar : Bool) (word width : Nat) : State :=
  if s.deviceLost device then
    s.rsGone device 1
  else
    let key (o : RsOut) : Bool := decide (o.device = device ∧ o.inbound = inbound ∧ o.wafer = e.wafer)
    let k := smGet s.fab.sentK (((e.wafer * 16 + e.inc) * 1024 + device) * 256 + inbound) 0
    let s1 := { s with
      fab.sentK := smPut s.fab.sentK (((e.wafer * 16 + e.inc) * 1024 + device) * 256 + inbound) 0 (k + 1)
      fab.outs := (s.fab.outs.filter (fun o => !(key o && decide (o.k = k)))) ++
        [({ device := device, inbound := inbound, wafer := e.wafer, k := k } : RsOut)]
      fab.binds := s.fab.binds.map (fun (b : RsBind) =>
        if b.device = device ∧ b.inbound = inbound then { b with credits := b.credits - 1 } else b) }
    s1.sendMsg device 0x12 (if guar then 0 else 2) (inbound + k % 256 * 256) e.wafer
      [BitVec.ofNat 128 (k * 64 + width), BitVec.ofNat 128 word, BitVec.ofNat 128 (word / 2 ^ 128)]

/-- A committed event takes effect (R61, R165, R167, R278). -/
def performEvent (s : State) (e : EbEntry) : State :=
  let o : Owner := ⟨e.tile, e.act⟩
  match e.ev with
  | .chSend h w close ctx =>
    let s1 := match s.chan? h with
      | some c => if c.ckind = ckTrip then s.classSent 0 e.tile 0x10 else s
      | none => s
    s1.appendWord h (.graph e.act e.slot e.inc) w s1.now close ctx
  | .lockHold k =>
    let l := s.lockAt k
    if l.holder = some o then s.setLock { l with resv := false, aband := false } else s
  | .lockRel k => if (s.lockAt k).holder = some o then s.lockFree k else s
  | .lockHand k x =>
    let l := s.lockAt k
    if l.holder = some o then (s.setLock { l with holder := some ⟨e.tile, x⟩ }).relevel k else s
  | .crumb kind d p =>
    let y := s.slotAt e.slot
    if y.state ≠ 0 ∧ y.wafer = e.wafer ∧ y.inc = e.inc then s.waferCrumb kind e.slot p d else s
  | .rsend device inbound guar word width => s.sendItem e device inbound guar word width
  | .rsLost device => s.rsGone device 1
  | _ => s

/-- The oldest committed event of a PE leaves its event buffer once the stores before it are performed (R234), and after
the events that its activation committed before it on other PEs (R61, R277). (DEDUCED, log entry 92) -/
def drainEvent (s : State) (t p : Nat) : State :=
  match s.eventBuf.find? (fun e => decide (e.tile = t ∧ e.pe = p)) with
  | none => s
  | some e =>
    if s.storeBuf.any (fun b => decide (b.tile = t ∧ b.pe = p ∧ b.seq ≤ e.seq)) ||
        s.eventBuf.any (fun x => decide (x.act = e.act ∧ x.inc = e.inc ∧ x.seq < e.seq)) then s
    else (({ s with eventBuf := s.eventBuf.erase e }.performEvent e).wakeChannel.rewindDead).settle

/-- CHPOLL takes its item at commit: the tokens that it emits (R166). -/
def pollNow (s : State) (f : Firing) (h : Nat) : List OutTok × State :=
  let b (n : Nat) : List OutTok := f.outTo f.iw.db ⟨BitVec.ofNat 256 n, f.comp 1 0 true⟩
  match s.chan? h with
  | none => (b 0, s)
  | some c =>
    let r := s.takeNext c
    match r.1 with
    | .empty => (b 0, s)
    | .gap n => (f.outTo f.iw.da ⟨BitVec.ofNat 256 n, f.comp 1 0 true⟩ ++ b 2, r.2)
    | .word v _ _ _ _ => (f.outTo f.iw.da ⟨BitVec.ofNat 256 v, f.comp f.iw.ty 0 true⟩ ++ b 1, r.2)

/-- The first whole microsecond at or after `t` (R269). -/
def edgeAt (t : Nat) : Nat := (t + 999) / 1000 * 1000

/-- One effect of a committing firing that does not pass through the event buffer. -/
def commitEffect (s : State) (f : Firing) (a : Act) (n : Nat) (tok : OutTok → Token) (e : Effect) : State :=
  match e with
  | .delay k ticks os =>
    os.foldl (fun (s : State) o =>
      let d : DelayEntry :=
        { ticks := ticks, due := if ticks then k else edgeAt (s.now + k * 1000), seq := s.delaySeq, tok := tok o,
          act := f.act, slot := f.slot, inc := f.inc }
      let s1 := { s with delays := s.delays ++ [d], delaySeq := s.delaySeq + 1 }
      (s1.rmax Reg.SCH_DLY_MAX s1.delays.length).accumulate a.id (stFlags o.tv.st) (stNd o.tv.st)) s
  | .codeStage iaddr w =>
    { s with staged := s.staged ++ [⟨f.wafer, f.slot, f.inc, iaddr, w, false, false⟩] }
  | .codeCommit =>
    { s with staged := s.staged.map (fun (x : StagedWord) =>
        if x.wafer = f.wafer ∧ x.inc = f.inc then { x with committed := true } else x) }
  | .deferred id =>
    let s1 := { s with deferred := s.deferred.map (fun (d : Deferred) => if d.id = id then { d with done := true } else d) }
    (match s1.deferred.find? (fun d => decide (d.id = id)) with
     | some d =>
       let s2 := if d.dests.isEmpty then s1 else s1.accumulate a.id d.flags d.nd
       if s2.cellState d.cell = 2 then s2.releaseCell d.cell
       else if s2.cellState d.cell = 0 then let b := s2.cellByte d.cell 1; s2.memWrite none b.1 b.2 else s2
     | none => s1)
  | .maint inval line =>
    (match s.l2Get line with
     | some x => if inval then s.l2CleanInval x else s.l2Clean x
     | none => if inval then s.l1Invalidate line none else s)
  | .vote _ _ => s.noteVote f
  | .freeAct =>
    if a.state = .live then
      let s1 := s.updAct a.id (fun x => { x with state := .ending })
      let a' := (s1.act? a.id).getD a
      let w := endWord a'
      { s1 with eventBuf := s1.eventBuf ++
          [(⟨f.tile, f.pe, n, f.act, f.slot, f.inc, f.wafer, a'.nd, a.eff, .crumb 0x02 w.2 w.1⟩ : EbEntry)] }.sumFlags a'
    else s
  | .noHandler => s.quarantine a.id 4 f.tile 0 f.iaddr
  | _ => s

/-- Place of an event in the order of R61: sends, lock operations, crumbs. -/
def eventRank (e : Effect) : Nat := match e with
  | .chSend .. | .rsend .. | .rsLost _ => 0
  | .lockHold _ | .lockRel _ | .lockHand .. => 1
  | _ => 2

/-- A maintenance operation of the firing would reach a line whose fill is in progress (R240). -/
def maintWaits (s : State) (f : Firing) : Bool := f.effects.any (fun e => match e with
  | .maint _ line => s.mem.fills.any (fun x => decide (x.line = line))
  | _ => false)

/-- The tokens of a firing find the egress buffer of its tile full (R426); in oldest-wafer mode they never wait (R97). -/
def egressFull (s : State) (f : Firing) : Bool :=
  let lacks (o : OutTok) : Bool :=
    let k := s.mkToken o f.epoch f.inc 0 f.tile f.pe 0 0 false
    !s.isOldest (tagSlot k.tag) && !s.tokenCredit k
  !(s.tileAt f.tile).oldest && decide (1024 < s.egressUsed f.tile + (f.outs.filter lacks).length)

/-- An executed firing commits (R58, R61), or is discarded when its slot's incarnation has advanced (R471); its maintenance
waits for a fill of the line (R240), and its tokens for room in the egress buffer (R426). -/
def commitFiring (s : State) (f : Firing) : State :=
  if f.stage ≠ .executed || s.maintWaits f || s.egressFull f then s
  else
    match s.act? f.act with
    | none => (s.dropFiring f).settle
    | some a =>
      if f.inc ≠ (s.slotAt f.slot).inc then (s.dropFiring f).rewindDead.settle
      else
        let n := s.cseq + 1
        let egress := (s.tileAt f.tile).oldest && !s.isOldestWafer f.wafer
        let isStart (o : OutTok) : Bool := decide (f.iw.opc = 0x280 ∧ tagAct o.tag ≠ f.act)
        let tok (o : OutTok) : Token :=
          let k := s.mkToken o a.epoch f.inc (if isStart o then s.startSeq else 0) f.tile f.pe 0 n egress
          if isStart o then s.asStart k a.epoch else k
        let evs := sortBy (fun x y => decide (eventRank x ≤ eventRank y))
          (f.effects.filter (fun e => inEvents e && decide (e ≠ .freeAct)))
        let s1 := { s with
          cseq := n
          firings := s.firings.filter (fun x => decide (x.id ≠ f.id))
          storeBuf := s.storeBuf ++ f.stores.map (fun st => ⟨f.tile, f.pe, n, f.act, f.slot, f.inc, f.wafer, st⟩)
          eventBuf := s.eventBuf ++ evs.map (fun e => ⟨f.tile, f.pe, n, f.act, f.slot, f.inc, f.wafer, f.nd, a.eff, e⟩) }
        let poll := f.effects.foldl (fun (x : List OutTok × State) e => match e with
          | .chPoll h => let r := x.2.pollNow f h; (x.1 ++ r.1, r.2)
          | _ => x) ([], s1)
        let os := f.outs ++ poll.1
        let isX (o : OutTok) : Bool := decide (0x3C0 ≤ f.iw.opc) && !stExc o.tv.st
        let xs := (os.filter isX).zipIdx.map (fun o =>
          { tok o.1 with seq := (poll.2.xSeq + o.2) % 65536, cls := 3 })
        let s2 := ({ poll.2 with
          xSeq := (poll.2.xSeq + xs.length) % 65536
          startSeq := if os.any isStart then (poll.2.startSeq + 1) % 65536 else poll.2.startSeq } : State).sendTokens
            ((os.filter (fun o => !isX o)).map tok ++ xs)
        let s3 := os.foldl (fun (s : State) o => s.accumulate a.id (stFlags o.tv.st) (stNd o.tv.st)) s2
        let nd := f.nd && (!f.stores.isEmpty || !f.effects.isEmpty)
        let s4 := if nd then s3.updSlot f.slot (fun x => { x with nd := true }) else s3
        let s5 := f.effects.foldl (fun (s : State) e => s.commitEffect f ((s.act? a.id).getD a) n tok e) s4
        let s6 := ((s5.rinc (Reg.TIL_FIRINGS f.tile)).rinc (Reg.PEX_FIRED f.tile f.pe)).progress f.slot
        (s6.retryDone f.id).rewindDead.settle

/-- One grant of the scheduler (R163, R260, R261). -/
def schedGrant (s : State) : State :=
  match s.grantee with
  | none => s
  | some r =>
    match s.reqEntry r with
    | none => s
    | some e =>
      if r.root then
        let c := s.createAct r e
        c.2.sendRoot r e c.1
      else
        match s.firing? r.firing with
        | none => { s with startReqs := s.startReqs.filter (fun q => decide (q ≠ r)) }
        | some f =>
          let c := s.createAct r e
          let ctx : TVal := ⟨BitVec.ofNat 256 c.1, mkStatus 1 false true f.inhNd f.inhFlags⟩
          c.2.commitFiring { f with stage := .executed, wait := .none,
                                    outs := s.startTok c.1 f.slot e (f.handL false) :: f.outTo f.iw.da ctx }

/-- A request to retire a PE for maintenance (Table 2.23, R76). -/
def peRetire (s : State) (t p : Nat) (v : Word) : State :=
  if !bit v 0 then s
  else if s.rfld (Reg.PEX_STATUS t p) 3 0 = 0 ∧ s.rfld (Reg.TIL_SPARE t) 4 0 ≠ 0x1F then
    (s.rsetFld (Reg.PEX_STATUS t p) 3 0 2).rsetBit (Reg.PEX_CTRL t p) 0 true
  else s.rsetBit (Reg.PEX_STATUS t p) 16 true

/-- The spare takes the place of PE `p`, which becomes RETIRED (R76, R468); a spare that is off is powered up first, even
in HOLD (R440). -/
def spareIn (s0 : State) (t p : Nat) : State :=
  let s := { s0 with
    power.doms := updAt s0.power.doms (7 * t + 2) (fun _ => 1)
    power.moving := s0.power.moving.filter (fun r => decide (r.1 ≠ 7 * t + 2))
    power.waiting := s0.power.waiting.filter (fun d => decide (d ≠ 7 * t + 2)) }.rsetBit (Reg.PWR_TILE_CFG t) 2 false
  let k := s.rfld (Reg.TIL_SPARE t) 4 0
  let s1 := (s.rsetFld (Reg.PEX_STATUS t k) 3 0 0).rsetFld (Reg.PEX_STATUS t p) 3 0 3
  let s2 := ((s1.rsetBit (Reg.TIL_POOL t) p false).rsetBit (Reg.TIL_POOL t) k true).rset (Reg.TIL_SPARE t) 0x1F
  s2.rsetBit (Reg.PEX_CTRL t p) 0 false

/-- PE_RETIRE_COMPLETE: a PE that drains for retirement and is empty gives its place to the spare (R76).
(DESIGN CHOICE, log entry 103) -/
def peRetireDone (s : State) (t p : Nat) : State :=
  if s.rbit (Reg.PEX_CTRL t p) 0 && decide (s.rfld (Reg.PEX_STATUS t p) 3 0 = 2) &&
      decide (s.inflight t p = 0) && decide (s.rfld (Reg.TIL_SPARE t) 4 0 ≠ 0x1F) &&
      !s.recOpen.any (fun j => decide (j.mech = 2 ∧ j.a = t ∧ j.b = p)) then
    (s.spareIn t p).event (srcTile t 0) p 0x13 p
  else s

/-- A write to `TIL_CTRL` (Table 2.17). (DEDUCED, log entry 19) -/
def tilControl (s : State) (t : Nat) (v : Word) : State :=
  let s1 := s.rwrite (Reg.TIL_CTRL t) v
  if bit v 4 then
    let s2 := (s1.rset (Reg.TIL_FIRINGS t) 0).rset (Reg.TIL_LOOKUPS t) 0
    (List.range 17).foldl (fun (s : State) p =>
      [Reg.PEX_FIRED t p, Reg.PEX_RETRY t p, Reg.PEX_SB_FWD t p, Reg.PEX_SB_FULL t p, Reg.PEX_IC_MISS t p,
        Reg.PEX_DC_MISS t p].foldl (fun (s : State) a => s.rset a 0) s) s2
  else s1

end State

def execFiringCommit (f : Nat) (s : State) : Out :=
  .next (s.onlyIf (!s.dead) (fun s => match s.firing? f with
    | some x => if s.tileFenced x.tile then s else s.commitFiring x
    | none => s))

def execStoreDrain (t p : Nat) (s : State) : Out := .next (s.onlyIf (!s.dead) (·.drainStore t p))
def execEventBufferDrain (t p : Nat) (s : State) : Out := .next (s.onlyIf (!s.dead) (·.drainEvent t p))
def execSchedGrant (s : State) : Out := .next (s.onlyIf (!s.dead) (·.schedGrant))
def execPeRetire (m t p : Nat) (v : Word) (s : State) : Out := .next (s.onlyIf (s.mayWrite m) (·.peRetire t p v))
def execPeRetireComplete (t p : Nat) (s : State) : Out := .next (s.onlyIf (!s.dead) (·.peRetireDone t p))
def execStatclr (m t : Nat) (v : Word) (s : State) : Out := .next (s.onlyIf (s.mayWrite m) (·.tilControl t v))

end Sys2Proof.Machine
end

