-- ==== Sys2Proof/Machine/FabRoute.lean ====
section
/-! DEFINITION. Discovery, elections and routes of the fabric: link-state records, shortest paths, the routing table, the
static plan, and what a change of links leads to (R391 to R395, R398, R399, R409). -/

namespace Sys2Proof.Machine

/-- The next whole multiple of `n` at or after `t`. -/
def multipleFrom (n t : Nat) : Nat := if n = 0 then t else (t + n - 1) / n * n

/-- A port without a neighbour in a link-state record. -/
abbrev noDevice : Nat := 1024

/-- The record of a device. -/
def recOf (recs : List LinkRec) (d : Nat) : Option LinkRec := recs.find? (fun r => decide (r.device = d))

/-- Neighbours of a device by its record. -/
def nextHops (recs : List LinkRec) (d : Nat) : List Nat :=
  match recOf recs d with
  | none => []
  | some r => r.ports.filter (fun x => decide (x ≠ noDevice))

/-- Breadth-first layers from `front`, as (device, hops). -/
def layers (recs : List LinkRec) : Nat → Nat → List Nat → List (Nat × Nat) → List (Nat × Nat)
  | 0, _, _, seen => seen
  | k + 1, h, front, seen =>
    let new := ((front.flatMap (nextHops recs)).filter (fun d => !seen.any (fun x => decide (x.1 = d)))).eraseDups
    if new.isEmpty then seen else layers recs k (h + 1) new (seen ++ new.map (fun d => (d, h + 1)))

/-- Hops from a device to every device that it reaches without passing `avoid`. -/
def hopsFrom (recs : List LinkRec) (d : Nat) (avoid : Option Nat) : List (Nat × Nat) :=
  let rs := recs.filter (fun r => decide (some r.device ≠ avoid))
  layers rs (rs.length + 1) 0 [d] [(d, 0)]

/-- The component of a device (R393). -/
def component (recs : List LinkRec) (d : Nat) : List LinkRec :=
  let h := hopsFrom recs d none
  recs.filter (fun r => h.any (fun x => decide (x.1 = r.device)))

/-- The record of lowest key. -/
def lowest (key : LinkRec → Nat) : List LinkRec → Option LinkRec
  | [] => none
  | r :: rs => match lowest key rs with
    | none => some r
    | some x => if key r ≤ key x then some r else some x

/-- A routing-table entry (Table 13.5). -/
def mkRoute (valid : Bool) (pri alt hops : Nat) : Nat := b2n valid * 2 ^ 15 + pri * 2 ^ 12 + alt * 2 ^ 9 + hops % 16 * 2 ^ 5

/-- Hop lists by port of a device, its own record's neighbours first passed (R395). -/
def portHops (recs : List LinkRec) (me : LinkRec) : List (Nat × List (Nat × Nat)) :=
  (List.range 6).filterMap (fun p =>
    let n := nth me.ports p noDevice
    if n = noDevice then none else some (p, hopsFrom recs n (some me.device)))

/-- The entry for a destination (R395). -/
def routeEntry (me : LinkRec) (hs : List (Nat × List (Nat × Nat))) (dst : Nat) : Nat :=
  if dst = me.device then mkRoute true 6 7 0
  else
    let ways := hs.filterMap (fun x => (x.2.find? (fun y => decide (y.1 = dst))).map (fun y => (x.1, y.2 + 1)))
    let best (ws : List (Nat × Nat)) : Option (Nat × Nat) := ws.foldl (fun (a : Option (Nat × Nat)) w => match a with
      | none => some w
      | some x => if w.2 < x.2 then some w else some x) none
    match best ways with
    | none => mkRoute false 7 7 0
    | some (p, h) =>
      if 15 < h then mkRoute false 7 7 0
      else mkRoute true p (((best (ways.filter (fun w => decide (w.1 ≠ p)))).map (·.1)).getD 7) h

/-- The codewords of a link-state record (R394). -/
def LinkRec.body (r : LinkRec) : List (BitVec 128) :=
  [BitVec.ofNat 128 (r.serial * 2 ^ 64 + r.device * 2 ^ 54 + b2n r.mcand * 2 ^ 53 + b2n r.tmcand * 2 ^ 52 + r.tmprio * 2 ^ 48 +
     r.seq % 2 ^ 32),
   BitVec.ofNat 128 ((List.range 6).foldl (fun a p => a + nth r.ports p noDevice * 2 ^ (11 * p)) 0)]

/-- The record that the body of a link-state message carries. (DEDUCED, log entry 52) -/
def recOfBody (b : List (BitVec 128)) : LinkRec :=
  let x := nth b 0 0
  let y := nth b 1 0
  { serial := fld x 127 64, device := fld x 63 54, mcand := bit x 53, tmcand := bit x 52, tmprio := fld x 51 48, seq := fld x 31 0,
    ports := (List.range 6).map (fun p => fld y (11 * p + 10) (11 * p)) }

namespace State

/-- `FAB_CTRL.EN` and `FAB_CTRL.PLAN`. -/
def fabOn (s : State) : Bool := s.rbit Reg.FAB_CTRL 0
def planned (s : State) : Bool := s.rbit Reg.FAB_CTRL 3

/-- The neighbour on an UP or sleeping port (R390, R394). -/
def neighbour (s : State) (p : Nat) : Option Nat :=
  let l := s.linkAt p
  if l.state = .up ∨ l.state = .sleep then l.peer.map (·.device) else none

/-- This device's record as its links stand; with a static plan it is no candidate for manager (R394). -/
def ownRec (s : State) : LinkRec :=
  { serial := (s.rget Reg.FAB_SERIAL).toNat, device := s.localId, mcand := s.rbit Reg.FAB_CTRL 1 && !s.planned, tmcand := s.rbit Reg.FAB_CTRL 2,
    tmprio := s.rfld Reg.FAB_CTRL 11 8, seq := s.fab.mySeq, ports := (List.range 6).map (fun p => (s.neighbour p).getD noDevice) }

/-- The routing entry of a device has an UP port (R399); a sleeping link counts, since a message wakes it (R390). -/
def hasUp (s : State) (d : Nat) : Bool :=
  let e := s.rget (Reg.FAB_ROUTE d)
  bit e 15 && [fld e 14 12, fld e 11 9].any (fun p => decide (p < 6) && (s.neighbour p).isSome)

/-- Destinations that have an UP port now are marked as having one at this moment. -/
def noteUps (s : State) : State :=
  let ups := (List.range 1024).filter s.hasUp
  { s with fab.lastUp := ups.foldl (fun m d => smPut m d 0 s.clock) s.fab.lastUp }

/-- The moment from which the loss timeout counts (R399). -/
def lossFrom (s : State) (d : Nat) : Nat := max (smGet s.fab.lastUp d 0) s.fab.runT

/-- The entries for the neighbours, which a device keeps itself (R394). -/
def neighbourRoutes (s : State) : State :=
  if s.planned then s
  else
    let me := s.ownRec
    let recs := me :: s.fab.recs.filter (fun r => decide (r.device ≠ me.device))
    let hs := portHops recs me
    ((nextHops [me] me.device).eraseDups).foldl (fun (s : State) d => s.rset (Reg.FAB_ROUTE d) (w64 (routeEntry me hs d))) s

/-- Retained messages that have not left, messages that wait for space, and messages in transit look again (R398). -/
def flushUnsent (s : State) : State :=
  let s1 := (List.range s.fab.retained.length).foldl (fun (s : State) i =>
    match s.fab.retained[i]? with
    | none => s
    | some r =>
      if r.sent then s
      else match s.forward r.msg with
        | none => s
        | some s1 => { s1 with fab.retained := updAt s1.fab.retained i (fun x => { x with sent := true, time := s.clock }) }) s
  let ms := s1.fab.transit
  let s2 := ms.foldl (fun (s : State) m => match s.forward m with
    | some x => x
    | none => { s with fab.transit := s.fab.transit ++ [m] }) { s1 with fab.transit := [] }
  let ws := s2.fab.waiting
  let rec go : List Msg → State → State
    | [], s => s
    | m :: ms, s =>
      if 16384 < s.retainUsed + 1 + m.body.length then { s with fab.waiting := m :: ms }
      else go ms (({ s with fab.waiting := [] }).sendMsg m.dst m.kind m.vc m.aux m.arg m.body)
  go ws { s2 with fab.waiting := [] }

/-- ROUTE messages with the table of a device (R394). -/
def sendTable (s : State) (d ver : Nat) (tab : List Nat) : State :=
  (List.range 9).foldl (fun (s : State) i =>
    let part := (tab.drop (i * 120)).take 120
    let cws := (List.range ((part.length + 7) / 8)).map (fun j =>
      BitVec.ofNat 128 ((List.range 8).foldl (fun a e => a + nth part (j * 8 + e) 0 * 2 ^ (16 * e)) 0))
    s.sendMsg d 0x04 1 0 (ver % 2 ^ 32 * 2 ^ 32 + i * 120) cws) s

/-- The manager computes and sends every device's table, its own among them (R394, R395). -/
def manage (s : State) (comp : List LinkRec) : State :=
  let ver := s.fab.curVer + 1
  comp.foldl (fun (s : State) r =>
    let hs := portHops comp r
    let tab := (List.range 1024).map (routeEntry r hs)
    if r.device = s.localId then
      { s with fab.newVer := some ver, fab.newTab := (List.range 1024).map (fun d => (d, nth tab d 0)) }
    else s.sendTable r.device ver tab) s

/-- This device follows fabric time (R14, R33, R409). -/
def follower (s : State) : Bool :=
  s.rbit Reg.FAB_CTRL 0 && decide (s.rfld Reg.TCK_CTRL 7 6 = 1) && !s.rbit Reg.FAB_STATUS 10

/-- Service starts with its first tick at `t0` closing wafer `w` (R16). -/
def beginService (s : State) (t0 w n : Nat) : State :=
  let o := t0 - n * 1000
  { s with tick := { s.tick with started := true, period := n, pend := [], nextWafer := w, prevClose := o, firstOpen := o,
                                 suspect := s.rbit Reg.FAB_STATUS 3 } }.rset Reg.TCK_NEXT (w64 t0)

/-- The first tick of the base in force at or after `t`, with the wafer that it closes (R413). -/
def baseFrom (s : State) (t : Nat) : Nat × Nat :=
  let n := s.fab.nEff * 1000
  let j := (t - s.fab.teff + n - 1) / n
  (s.fab.teff + j * n, s.fab.weff + j)

/-- A device that runs starts service where it has not (R16, R413): a follower on its master's ticks once it has TLOCK; any
other device by the stand-alone rule, a time master that followed a base before on that base (R414). (DEDUCED, log entry 98) -/
def startService (s : State) : State :=
  if !s.running || s.tick.started then s
  else
    let n := s.fab.nEff
    if s.follower then
      if s.rbit Reg.FAB_STATUS 4 && decide (n ≠ 0) then
        let b := s.baseFrom (s.now + n * 1000)
        { s with fab.startT := some s.now }.beginService b.1 b.2 n
      else s
    else if s.rbit Reg.FAB_STATUS 10 && decide (n ≠ 0) then
      let b := s.baseFrom (s.now + n * 1000)
      s.beginService b.1 b.2 n
    else
      let n := s.rfld Reg.TCK_PERIOD 19 0
      s.beginService (multipleFrom (n * 1000) (s.now + n * 1000)) (s.rget Reg.TCK_WAFER_BASE).toNat n

/-- A follower's ticks follow the base that SYNC carries (R413): its first tick is taken from it anew, and a later tick whose
interval the base covers takes the base's time. (DEDUCED, log entry 98) -/
def followBase (s : State) : State :=
  let n := s.fab.nEff
  let w := s.tick.nextWafer
  if !s.tick.started || decide (n = 0) then s
  else if s.tick.count = 0 then
    match s.fab.startT with
    | some t =>
      let b := s.baseFrom (t + n * 1000)
      s.beginService b.1 b.2 n
    | none => s
  else
    let t := s.fab.teff + (w - s.fab.weff) * n * 1000
    if s.fab.weff ≤ w ∧ s.tick.lastEdge < t then { s with tick.period := n }.rset Reg.TCK_NEXT (w64 t) else s

/-- The manager and the time master that are in force are recorded, and a device that waits for its time source starts
(R394, R409, R414). -/
def elected (s : State) (mgr tm : Option Nat) : State :=
  let me := s.localId
  let hops (d : Nat) : Nat := fld (s.rget (Reg.FAB_ROUTE d)) 8 5
  let s1 := s.rset Reg.FAB_MANAGER (match mgr with
    | some d => w64 (2 ^ 63 + d)
    | none => 0)
  let s2 := s1.rset Reg.FAB_TMASTER (match tm with
    | some d => w64 (2 ^ 63 + hops d * 2 ^ 16 + d)
    | none => 0)
  let s3 := (s2.rsetBit Reg.FAB_STATUS 9 (decide (mgr = some me))).rsetBit Reg.FAB_STATUS 10 (decide (tm = some me))
  (if tm = some me then s3.rset Reg.FAB_TBOUND 0 else s3).startService

/-- The static plan's table, manager and time master are taken (R394, R409). -/
def planLoad (s : State) : State :=
  if !s.planned then s
  else
    let b := s.cfg.bank
    let s1 := (List.range 1024).foldl (fun (s : State) d =>
      s.rset (Reg.FAB_ROUTE d) (w64 (bank16 b (0xE000 + d * 2)))) s.noteUps
    let w := bankWord b 0xE800
    s1.elected (some (fld w 9 0)) (some (fld w 25 16))

/-- Every link of this device is restricted for a duplicate ID, or the duplicate has gone (R393). -/
def dupCheck (s : State) (comp : List LinkRec) : State :=
  let mine := (s.rget Reg.FAB_SERIAL).toNat
  let dup := comp.any (fun r => decide (r.device = s.localId ∧ r.serial < mine))
  let s1 := if comp.any (fun r => decide (r.device = s.localId ∧ r.serial ≠ mine)) && !s.rbit Reg.FAB_STATUS 2 then s.event 0x480 0 0x94 3 else s
  if dup then
    ((List.range 6).foldl (fun (s : State) p =>
      let st := (s.linkAt p).state
      if st = .up ∨ st = .sleep then
        (s.updLink p (fun l => { l with state := .restricted, reason := 6 })).report (Report.plain 0 0x480 5 p 0) none
      else s) s1).rsetBit Reg.FAB_STATUS 2 true
  else s1.rsetBit Reg.FAB_STATUS 2 false

/-- The records have changed: duplicates, elections and tables follow (R393 to R395, R409).  For the duplicate check this
device's RESTRICTED links count, since they are what keeps the duplicate apart. -/
def topology (s : State) : State :=
  let me := s.ownRec
  let all := me :: s.fab.recs.filter (fun r => decide (r.serial ≠ me.serial))
  let wide := { me with ports := (List.range 6).map (fun p =>
    let l := s.linkAt p
    if l.state = .restricted then (l.peer.map (·.device)).getD noDevice else nth me.ports p noDevice) }
  let s1 := s.dupCheck (component (wide :: all.drop 1) me.device)
  if s1.planned then s1.planLoad
  else
    let comp := (component all me.device).filter (fun r => decide (r.device ≠ me.device ∨ r.serial = me.serial))
    let mgr := (lowest (·.serial) (comp.filter (·.mcand))).map (·.device)
    let tm := (lowest (fun r => r.tmprio * 2 ^ 64 + r.serial) (comp.filter (·.tmcand))).map (·.device)
    let s2 := s1.neighbourRoutes.elected mgr tm
    if mgr = some me.device then s2.manage comp else s2

/-- A link-state record is flooded on every UP link but those to `but` (R394). -/
def flood (s : State) (r : LinkRec) (but : Option Nat) : State :=
  ((((List.range 6).filterMap s.neighbour).eraseDups).filter (fun d => decide (some d ≠ but))).foldl
    (fun (s : State) d => s.sendMsg d 0x02 1 0 0 r.body) s

/-- What follows from a change of the links or of this device's candidacies: messages that waited, the device's own
record, and the topology (R394, R398). -/
def linksChanged (s : State) : State :=
  let r := { s.ownRec with seq := (s.fab.mySeq + 1) % 2 ^ 32 }
  let old := s.fab.recs.find? (fun x => decide (x.serial = r.serial))
  let same := match old with
    | some o => decide ({ o with seq := r.seq } = r)
    | none => false
  let s1 := if same then s
    else (({ s with fab.mySeq := r.seq, fab.recs := r :: s.fab.recs.filter (fun x => decide (x.serial ≠ r.serial)) }).flood r none).topology
  let s2 := s1.flushUnsent
  { s2 with fab.lost := s2.fab.lost.filter (fun d => !s2.hasUp d) }.voteWake

/-- A complete newer version of the routing table is applied; the neighbours' entries stay the device's own (R394). -/
def routeApply (s : State) : State :=
  match s.fab.newVer with
  | none => s
  | some v =>
    if s.fab.newTab.length = 1024 ∧ !s.planned then
      let s0 := s.noteUps
      let s1 := s0.fab.newTab.foldl (fun (s : State) e => s.rset (Reg.FAB_ROUTE e.1) (w64 e.2)) s0
      ({ s1 with fab.newVer := none, fab.newTab := [], fab.curVer := v }.neighbourRoutes).linksChanged
    else s

end State

end Sys2Proof.Machine
end

