-- ==== Sys2Proof/Machine/RemSend.lean ====
section
/-! DEFINITION. Remote sends: credits, items, closes and acknowledgements, and the windows of FABRIC channels
(R404 to R408, R339). -/

namespace Sys2Proof.Machine

/-- An inbound entry (Table 13.9). -/
structure Inbound where
  valid  : Bool
  delay  : Nat
  handle : Nat
  srcs   : List Nat
  deriving DecidableEq, Repr

def inboundEntry (b : List (Nat × Word)) (i : Nat) : Inbound :=
  let w := bankWord b (0xC000 + i * 8)
  { valid := bit w 63, delay := fld w 62 60, handle := fld w 55 40,
    srcs := ((List.range 4).map (fun n => fld w (10 * n + 9) (10 * n))).take (fld w 59 58 + 1) }

namespace State

/-- An inbound entry of the bank in force. -/
def inbound (s : State) (i : Nat) : Inbound := inboundEntry s.cfg.bank i

/-- The inbound entry whose channel is `h`. -/
def inboundOf (s : State) (h : Nat) : Option Nat :=
  (List.range 256).find? (fun i => let e := s.inbound i; e.valid && decide (e.handle = h))

/-- Inbound entries that list a device. -/
def inboundFrom (s : State) (d : Nat) : List Nat :=
  (List.range 256).filter (fun i => let e := s.inbound i; e.valid && e.srcs.contains d)

/-- Items that the T-class space of a channel still takes (R336, R406). -/
def rsRoom (s : State) (c : Chan) : Nat :=
  min (c.capWords - (c.usedWords + s.reservedWords c)) (c.capDesc - 1 - (c.usedDesc + s.reservedDesc c))

/-- The answer to a credit request: `n` credits, or a refusal (R406). -/
def rsAnswer (s : State) (d i n : Nat) (refused : Bool) : State :=
  s.sendMsg d 0x11 3 i (b2n refused * 2 ^ 8 + n) []

/-- Credits reserved for a source on a channel. -/
def rsReserve (s : State) (d i : Nat) (c : Chan) (n : Nat) : State :=
  let k := d * 256 + i
  { s.setChan { c with granted := c.granted + n } with fab.granted := smPut s.fab.granted k 0 (smGet s.fab.granted k 0 + n) }

/-- Credit requests that wait are granted as far as there is space, oldest first (R406). -/
def rsGrantAll (s : State) : State :=
  s.fab.asks.foldl (fun (s : State) a =>
    let (d, i, n) := a
    match s.chan? (s.inbound i).handle with
    | none => { s with fab.asks := s.fab.asks.erase a }.rsAnswer d i 0 true
    | some c =>
      let g := min n (s.rsRoom c)
      if g = 0 then s else ({ s with fab.asks := s.fab.asks.erase a }.rsReserve d i c g).rsAnswer d i g false) s

/-- RSCRED (R406): `arg` holds the items asked for × 4 + WIDTH. -/
def rsCred (s : State) (m : Msg) : State :=
  let i := m.aux % 256
  let e := s.inbound i
  let ok := match s.chan? e.handle with
    | some c => e.valid && e.srcs.contains m.src && decide (c.width = 4 * 2 ^ (m.arg % 4))
    | none => false
  if ok then { s with fab.asks := s.fab.asks ++ [(m.src, i, min 8 (m.arg / 4))] }.rsGrantAll
  else s.rsAnswer m.src i 0 true

/-- RSENDs that wait for a credit of a binding. -/
def rsWaiting (s : State) (d i : Nat) : List Firing :=
  s.firings.filter (fun f => decide (f.wait = .channel ∧ f.iw.opc = 0x304) &&
    (let w := s.remoteBinding f.epoch (f.iw.lit % 4096); decide (natField w 25 16 = d ∧ natField w 7 0 = i)))

/-- RSGRANT: credits arrive, or the waiting RSENDs raise CHBIND (R406). (DESIGN CHOICE, log entry 21) -/
def rsGrant (s : State) (m : Msg) : State :=
  let i := m.aux % 256
  let b := s.rsBind m.src i
  if m.arg.testBit 8 then
    let s1 := (s.rsWaiting m.src i).foldl (fun (s : State) f => s.fire f.id 0x304 rsendOp)
      (s.setRsBind { b with asked := false, refused := true })
    s1.setRsBind { s1.rsBind m.src i with refused := false }
  else (s.setRsBind { b with asked := false, credits := b.credits + m.arg % 256 }).wakeChannel

/-- Items `lo` to `hi − 1` of a wafer are acknowledged to their source. -/
def rsAckTo (s : State) (d i wafer lo hi : Nat) : State :=
  s.sendMsg d 0x14 3 i wafer [BitVec.ofNat 128 (lo % 2 ^ 32 * 2 ^ 32 + hi % 2 ^ 32)]

/-- One credit of a source is used up by an item that is not held. -/
def rsSpend (s : State) (d i : Nat) (held : Bool) : State :=
  let k := d * 256 + i
  let n := smGet s.fab.granted k 0
  let s1 := { s with fab.granted := smPut s.fab.granted k 0 (n - 1) }
  if held || decide (n = 0) then s1
  else match s1.chan? (s1.inbound i).handle with
    | some c => s1.setChan { c with granted := c.granted - 1 }
    | none => s1

/-- ACC of a source, entry and wafer (R407). -/
def rsAcc (s : State) (d i w : Nat) : Nat :=
  ((s.fab.accs.find? (fun a => decide (a.src = d ∧ a.entry = i ∧ a.wafer = w))).map (·.n)).getD 0

/-- ACC raised; the 16 most recent wafers of a source and entry keep theirs. -/
def rsAccInc (s : State) (d i w : Nat) : State :=
  let mine (a : RsAcc) : Bool := decide (a.src = d ∧ a.entry = i)
  let new : RsAcc := ⟨d, i, w, s.rsAcc d i w + 1⟩
  let own := new :: s.fab.accs.filter (fun a => mine a && decide (a.wafer ≠ w))
  { s with fab.accs := (sortBy (fun x y => decide (y.wafer ≤ x.wafer)) own).take 16 ++ s.fab.accs.filter (fun a => !mine a) }

/-- A wafer of the receiver whose window of the channel is complete, or that lies before the channel's first window. -/
def rsDone (c : Chan) (target : Nat) : Bool :=
  match c.windows.find? (fun w => !w.done) with
  | some w =>
    (match (c.windows.filter (·.done)).getLast? with
     | some d => decide (target ≤ d.wafer)
     | none => decide (c.doneT.isSome ∧ target < w.wafer))
  | none => match (c.windows.filter (·.done)).getLast? with
    | some d => decide (target ≤ d.wafer)
    | none => false

/-- A message of a source waits: the assembly area is full, or an earlier one of the source waits for it (R332). -/
def rsHolds (s : State) (d : Nat) : Bool := decide (4096 ≤ s.asmUsed) || s.fab.held.any (fun x => decide (x.src = d))

/-- RSITEM (R332, R406, R407): AUX holds the inbound entry, ARG the sender's wafer, the body the item's index and word. -/
def rsItem (s : State) (m : Msg) : State :=
  let i := m.aux % 256
  let w := m.arg
  let k := fld (nth m.body 0 0) 37 6
  let e := s.inbound i
  if m.body.length ≠ 3 then s
  else if k < s.rsAcc m.src i w then (s.rsSpend m.src i false).rsAckTo m.src i w k (k + 1)
  else
    let s1 := s.rsAccInc m.src i w
    let late := !e.valid || !e.srcs.contains m.src || (match s1.chan? e.handle with
      | some c => rsDone c (w + e.delay)
      | none => true)
    if !late && s.rsHolds m.src then { s with fab.held := s.fab.held ++ [m] }
    else if late then
      (((s1.rsSpend m.src i false).rinc Reg.FAB_LATE).rsetBit Reg.FAB_STATUS 8 true).rsAckTo m.src i w k (k + 1)
    else
      let word := (nth m.body 1 0).toNat + (nth m.body 2 0).toNat * 2 ^ 128
      { s1.rsSpend m.src i true with fab.items := s1.fab.items ++ [({ src := m.src, entry := i, wafer := w, k := k, word := word } : RsItem)] }

/-- RSCLOSE (R406, R407): a source closes its wafer for every entry that lists it. -/
def rsClose (s : State) (m : Msg) : State :=
  if s.fab.held.any (fun x => decide (x.src = m.src)) then { s with fab.held := s.fab.held ++ [m] }
  else
  let new := (s.inboundFrom m.src).map (fun i => (⟨m.src, i, m.arg⟩ : RsClose))
  { s with fab.closes := s.fab.closes ++ new.filter (fun c => !s.fab.closes.contains c) }

/-- Items and closes that waited for assembly space look again, oldest first (R332). -/
def rsRetry (s : State) : State :=
  s.fab.held.foldl (fun (s : State) m => if m.kind = 0x13 then s.rsClose m else s.rsItem m) { s with fab.held := [] }

/-- RSACK (R27, R406): the items are acknowledged; their wafer may be COMPLETE. -/
def rsAck (s : State) (m : Msg) : State :=
  let r := nth m.body 0 0
  { s with fab.outs := s.fab.outs.filter (fun o => !decide (o.device = m.src ∧ o.inbound = m.aux % 256 ∧ o.wafer = m.arg ∧
      fld r 63 32 ≤ o.k ∧ o.k < fld r 31 0)) }.settle

/-- Devices that the remote bindings of a bank name, with whether any of the bindings is GUAR (R406). -/
def boundDevices (b : List (Nat × Word)) : List (Nat × Bool) :=
  let ws := (b.filter (fun e => decide (0x1000 ≤ e.1 ∧ e.1 < 0x1800))).flatMap (fun e => [fld e.2 31 0, fld e.2 63 32])
  let vs := ws.filter (fun w => w.testBit 31)
  ((vs.map (fun w => natField w 25 16)).eraseDups).map (fun d =>
    (d, vs.any (fun w => decide (natField w 25 16 = d) && w.testBit 30)))

/-- The wafer in slot `k` sends no more: its activations have ended, and no RSEND of it waits uncommitted or undrained
(R406). -/
def rsEnded (s : State) (k : Nat) : Bool :=
  let x := s.slotAt k
  let isSend (e : Effect) : Bool := match e with
    | .rsend .. => true
    | _ => false
  decide (x.state ≠ 0) && !s.acts.any (fun a => decide (a.slot = k ∧ a.wafer = x.wafer ∧ a.inc = x.inc ∧ a.state = .live)) &&
    !s.startReqs.any (fun r => decide (r.slot = k)) && !s.flowQ.any (fun r => decide (r.slot = k)) &&
    !s.firings.any (fun f => decide (f.slot = k ∧ f.inc = x.inc) && (decide (f.iw.opc = 0x304) || f.effects.any isSend)) &&
    !s.eventBuf.any (fun b => decide (b.slot = k ∧ b.wafer = x.wafer) && isSend b.ev)

/-- RSCLOSE of the wafer in slot `k`, sent once to each device that its epoch's remote bindings name (R406). -/
def rsCloseSend (s : State) (k : Nat) : State :=
  let x := s.slotAt k
  if !s.fabOn || x.rsclosed || !s.rsEnded k then s
  else
    (boundDevices (s.bankOf x.epoch)).foldl (fun (s : State) d =>
      if s.deviceLost d.1 then s else s.sendMsg d.1 0x13 (if d.2 then 0 else 2) 0 x.wafer [])
      (s.updSlot k (fun y => { y with rsclosed := true }))

/-- Sender wafers whose items fall into a channel's oldest incomplete window (R406): that of the window's wafer, and
those of the held ticks before it. -/
def rsSenders (c : Chan) (e : Inbound) (w : Window) : List Nat :=
  let from_ := match (c.windows.filter (·.done)).getLast? with
    | some d => d.wafer + 1
    | none => w.wafer
  ((List.range (w.wafer + 1 - from_)).map (fun n => from_ + n)).filterMap (fun t => if e.delay ≤ t then some (t - e.delay) else none)

/-- The oldest incomplete window of a FABRIC channel may complete (R406). -/
def fabWindowDue (s : State) (c : Chan) (w : Window) : Bool :=
  decide (w.closeT ≤ s.now) && (match s.inboundOf c.handle with
    | none => true
    | some i =>
      let e := s.inbound i
      e.srcs.all (fun d => s.deviceLost d || (rsSenders c e w).all (fun n => s.fab.closes.contains ⟨d, i, n⟩)))

/-- A lost source counts as having closed every wafer that it has not closed and whose items fall into a window that is open
(R408). -/
def rsCloseFor (s : State) (d : Nat) : State :=
  let new := (s.inboundFrom d).flatMap (fun i =>
    let e := s.inbound i
    match s.chan? e.handle with
    | none => []
    | some c => (c.windows.filter (fun w => !w.done)).flatMap (fun w => (rsSenders c e w).map (fun n => (⟨d, i, n⟩ : RsClose))))
  { s with fab.closes := s.fab.closes ++ (new.eraseDups).filter (fun x => !s.fab.closes.contains x) }

/-- Sends to a lost device that have not left commit without sending, those that wait for a credit among them (R408). -/
def rsAbandon (s : State) (d : Nat) : State :=
  let gone (e : Effect) : Effect := match e with
    | .rsend x _ _ _ _ => if x = d then .rsLost d else e
    | _ => e
  let s1 := { s with
    firings := s.firings.map (fun (f : Firing) => { f with effects := f.effects.map gone })
    eventBuf := s.eventBuf.map (fun (b : EbEntry) => { b with ev := gone b.ev }) }
  (s1.firings.filter (fun f => decide (f.wait = .channel ∧ f.iw.opc = 0x304) &&
    decide (natField (s1.remoteBinding f.epoch (f.iw.lit % 4096)) 25 16 = d))).foldl
    (fun (s : State) f => s.fire f.id 0x304 rsendOp) s1

/-- Position of a source in its entry. -/
def rsPos (e : Inbound) (d : Nat) : Nat := e.srcs.idxOf d

/-- A FABRIC window completes: its items are committed by sender wafer, source position and index, and acknowledged
(R406). (DEDUCED, log entry 51) -/
def fabWindow (s : State) (c : Chan) (w : Window) : State :=
  match s.inboundOf c.handle with
  | none => s.completeWindow c
  | some i =>
    let e := s.inbound i
    let mine (x : RsItem) : Bool := decide (x.entry = i ∧ x.wafer + e.delay ≤ w.wafer)
    let its := sortBy (fun x y => decide (x.wafer < y.wafer ∨ (x.wafer = y.wafer ∧
      (rsPos e x.src < rsPos e y.src ∨ (rsPos e x.src = rsPos e y.src ∧ x.k ≤ y.k))))) (s.fab.items.filter mine)
    let s1 := { s with
      fab.items := s.fab.items.filter (fun x => !mine x)
      fab.closes := s.fab.closes.filter (fun x => !decide (x.entry = i ∧ x.wafer + e.delay ≤ w.wafer)) }
    let s2 := its.foldl (fun (s : State) x => match s.chan? c.handle with
      | some c => s.storePacket { c with granted := c.granted - 1 } [x.word] (w.closeT - 1) false none
      | none => s) s1
    let s3 := match s2.chan? c.handle with
      | some c => s2.completeWindow c
      | none => s2
    its.foldl (fun (s : State) x => if s.deviceLost x.src then s else s.rsAckTo x.src i x.wafer x.k (x.k + 1)) s3

/-- The oldest incomplete window of the WAFER channel at an index completes where its producer allows (R339). -/
def windowComplete (s : State) (c : Chan) : State :=
  if c.ckind ≠ ckWafer then s
  else
    match c.windows.find? (fun w => !w.done) with
    | none => s
    | some w =>
      if c.pkind = pkFabric then (if s.fabWindowDue c w then s.fabWindow c w else s)
      else if s.windowDue c w.closeT then s.completeWindow c else s

end State

def execWindowComplete (i : Nat) (s : State) : Out := .next (s.atIndex i State.windowComplete)

end Sys2Proof.Machine
end

