-- ==== Sys2Proof/Machine/Ticks.lean ====
section
/-! DEFINITION. The tick unit: ticks, closes, admission, commits, bank swaps and sub-tick edges (R13 to R33, R139 to R142,
R269, R270, R275 to R279, R320, R394, R410 to R413, R440, R497 to R504). -/

namespace Sys2Proof.Machine

namespace State

/-- Epochs under which wafers in flight were admitted (R141, R497). -/
def epochsInUse (s : State) : List Nat := ((s.slots.filter (fun k => decide (k.state ≠ 0))).map (·.epoch)).eraseDups

/-- Old words and banks that no wafer in flight needs any more are freed (R141, R497). -/
def dropCopies (s : State) : State :=
  let es := s.epochsInUse
  { s with
    oldWords := (s.oldWords.map (fun (o : OldWord) => { o with epochs := o.epochs.filter es.contains })).filter
      (fun o => !o.epochs.isEmpty)
    cfg.old := s.cfg.old.filter (fun x => es.contains x.1) }

/-- Staged words discarded: counted and logged (R142, R498). -/
def codeDropped (s : State) (n : Nat) : State :=
  if n = 0 then s else (s.radd Reg.CFG_CODE_DROP n).event 0x010 0 0x30 0

/-- The COMMIT crumb (Table 9.3, R275). -/
def commitCrumb (s : State) (k : Nat) : BitVec 128 :=
  let x := s.slotAt k
  mkCrumb 0x01 x.inc k (x.epoch % 2 ^ 32 * 2 ^ 19 + x.flags.toNat * 2 ^ 12 + b2n x.nd * 2 ^ 11 + b2n x.quar * 2 ^ 10 +
    b2n x.wide * 2 ^ 9 + min 511 (x.dropped + s.waferGaps x.wafer)) (w64 x.wafer)

/-- The slot whose wafer may commit: COMPLETE, and every admitted wafer of lower number has committed (R21). -/
def commitDue (s : State) : Option Nat :=
  (List.range 8).find? (fun k => decide ((s.slotAt k).state = 2) && s.isOldest k)

/-- A wafer commits (R29, R142, R275); its RSCLOSE leaves before, where it has not (R406). -/
def commitWafer (s0 : State) (k : Nat) : State :=
  let s := s0.rsCloseSend k
  let x := s.slotAt k
  let s1 := if x.trcOn && s.trcArea then s.ringItem x.trcWrap (x.crumbs ++ [s.commitCrumb k]) else s
  let mine (w : StagedWord) : Bool := decide (w.wafer = x.wafer) && !w.due
  let s2 := s1.codeDropped (s1.staged.filter (fun w => mine w && !(w.committed && decide (w.inc = x.inc)))).length
  let s3 := { s2 with
    staged := (s2.staged.filter (fun w => !mine w || (w.committed && decide (w.inc = x.inc)))).map (fun (w : StagedWord) =>
      if mine w then { w with due := true } else w)
    votes := s2.votes.filter (fun v => decide (v.wafer ≠ x.wafer))
    voteRecs := s2.voteRecs.filter (fun v => decide (v.wafer ≠ x.wafer))
    fab.sentK := s2.fab.sentK.filter (fun e => decide (e.1 / 67108864 ≠ x.wafer)) }
  let s4 := (s3.releaseWindows x.wafer k).updSlot k (fun y => { y with state := 0, crumbs := [], journal := [] })
  (s4.rset Reg.TCK_WAFER_COMMITTED (w64 x.wafer)).dropCopies.newOldest

/-- Every wafer that is due commits, in order (R25 step 1). -/
def commitAll : Nat → State → State
  | 0, s => s
  | n + 1, s => match s.commitDue with
    | none => s
    | some k => commitAll n (s.commitWafer k)

/-- Admission is withheld (R23, Table 1.6 PAUSE). -/
def admitHeld (s : State) : Bool := s.admitPaused || s.throttle

/-- Tiles that count as retired for wafers admitted now because they park (R440). -/
def parkMask (s : State) : Nat := maskOf ((List.range 16).filter (fun t => decide (nth s.power.park t 0 ≠ 0)))

/-- The next closed wafer is admitted where R23 allows. -/
def admitOne (s : State) : Option State :=
  match s.closed with
  | [] => none
  | c :: rest =>
    let k := c.num % 8
    if s.admitHeld || decide ((s.slotAt k).state ≠ 0) then none
    else
      let kinds := s.rget Reg.SCH_TRC_CTRL
      let s1 := { s with closed := rest }.updSlot k (fun y =>
        { Reset.slot with
          wafer := c.num, state := 1, epoch := s.epochNow, wide := c.wide, suspect := c.suspect, openT := c.openT,
          closeT := c.closeT, inc := y.inc, trcOn := bit kinds 0 && s.trcArea, trcWrap := bit kinds 1,
          trcKinds := kinds.toNat, noTiles := s.parkMask })
      let s2 := (s1.rset Reg.TCK_WAFER_ADMITTED (w64 c.num)).decision 0x10 (s1.slotAt k).inc k (rest.length % 8192) (w64 c.num)
      some ((s2.placeRoots k).settle)

/-- Closed wafers are admitted in ascending number while R23 allows (R25 step 4). -/
def admitAll : Nat → State → State
  | 0, s => s
  | n + 1, s => match s.admitOne with
    | none => s
    | some s' => admitAll n s'

/-- Lag has reached its warning level, which it had not before (R24). (DESIGN CHOICE, log entry 102) -/
def lagWarn (s : State) (before : Bool) : State :=
  if decide ((s.rget Reg.TCK_LAG_WARN).toNat ≤ s.closed.length) && !before && s.rbit Reg.TCK_CTRL 3 then
    (s.rsetBit Reg.TCK_STATUS 0 true).event 0x000 0 0x01 0
  else s

def lagAt (s : State) : Bool := decide ((s.rget Reg.TCK_LAG_WARN).toNat ≤ s.closed.length)

/-- A due staged word comes into force, and its cached copies are invalidated (R140, R141, R225, R498). -/
def applyWord (s : State) (x : StagedWord) : State :=
  if !bankLoaded s.cfg.bank x.iaddr then s.codeDropped 1
  else
    let has (e : Nat) : Bool := s.oldWords.any (fun o => decide (o.iaddr = x.iaddr) && o.epochs.contains e)
    let es := s.epochsInUse.filter (fun e => !has e)
    let keep : List OldWord := if es.isEmpty then [] else [⟨x.iaddr, smGet s.code x.iaddr 0, es⟩]
    { s with oldWords := keep ++ s.oldWords, code := smPut s.code x.iaddr 0 x.word }.codeDrop (x.iaddr / 8) (x.iaddr / 8 + 1)

/-- The group registers after a swap (Table 13.16), and the bank's digest (R416, R504). -/
def bankRegs (s : State) : State :=
  let d := (cfgDigest s.cfg.bank).toNat
  let s1 := (s.rset Reg.FAB_DIGEST_LO (w64 d)).rset Reg.FAB_DIGEST_HI (w64 (d / 2 ^ 64))
  (List.range 16).foldl (fun (s : State) g =>
    let e := bankGroup s.cfg.bank g
    let l := e.local s.localId
    let a := Reg.FAB_GRP_STATUS g
    ((s.rsetBit a 63 e.valid).rsetBit a 62 l.isSome).rsetFld a 61 60 (l.getD 0)) s1.planLoad

/-- A swap recorded as the newest of 16 (Table 16.13). -/
def recordSwap (s : State) (info wafer t : Nat) : State :=
  let s1 := ((List.range 15).reverse).foldl (fun (s : State) n =>
    ((s.rset (Reg.CFG_SWAP_INFO (n + 1)) (s.rget (Reg.CFG_SWAP_INFO n))).rset (Reg.CFG_SWAP_WAFER (n + 1))
      (s.rget (Reg.CFG_SWAP_WAFER n))).rset (Reg.CFG_SWAP_TIME (n + 1)) (s.rget (Reg.CFG_SWAP_TIME n))) s
  ((s1.rset (Reg.CFG_SWAP_INFO 0) (w64 info)).rset (Reg.CFG_SWAP_WAFER 0) (w64 wafer)).rset (Reg.CFG_SWAP_TIME 0) (w64 t)

/-- The bank swap at the tick of wafer `w` and nominal time `t`, where one is pending (R25 step 2, R140, R502). -/
def bankSwap (s : State) (w t : Nat) : State :=
  let due := sortBy (fun x y => decide (x.wafer ≤ y.wafer)) (s.staged.filter (·.due))
  let txn := decide (s.cfg.txn = .armed) && (s.cfg.late || decide (s.cfg.whenAt ≤ w))
  if due.isEmpty && !txn then s
  else
    let s1 := due.foldl applyWord { s with staged := s.staged.filter (fun x => !x.due) }
    let e := s1.epochNow
    let olds := (s1.epochsInUse.filter (fun x => !s1.cfg.old.any (fun y => decide (y.1 = x)))).map (fun x => (x, s1.bankOf x))
    let late := txn && s1.cfg.late
    let s2 :=
      if txn then
        { s1 with cfg := { s1.cfg with bank := s1.cfg.shadow, old := s1.cfg.old ++ olds, shadow := [], txn := .idle, owner := 0,
                                       loads := [], late := false } }
      else { s1 with cfg.old := s1.cfg.old ++ olds }
    let e' := if e = 2 ^ 32 - 1 then 1 else e + 1
    let s3 := { s2.rset Reg.TCK_EPOCH (w64 e') with tick.shadowDue := true }.bankRegs
    s3.recordSwap (2 ^ 63 + b2n (!due.isEmpty) * 2 ^ 62 + b2n txn * 2 ^ 61 + b2n late * 2 ^ 60 + e') w t

/-- The tick closes its wafer, or is held (R17, R22, R412). -/
def closeWafer (s : State) (t : Nat) : State :=
  let w := s.tick.nextWafer
  if 4096 ≤ s.closed.length then
    ({ s with tick.nextWafer := w + 1, tick.heldSince := true }.rinc Reg.TCK_HELD).rsetBit Reg.TCK_STATUS 1 true
  else
    let wide := s.tick.heldSince
    let c : ClosedWafer := ⟨w, s.tick.prevClose, t, wide, wide || s.tick.suspect || s.rbit Reg.FAB_STATUS 3⟩
    let s1 := (s.openWindows w s.tick.prevClose t).rset Reg.TCK_WAFER_CLOSED (w64 w)
    { s1 with closed := s1.closed ++ [c], tick.nextWafer := w + 1, tick.heldSince := false, tick.prevClose := t,
              tick.suspect := s1.rbit Reg.FAB_STATUS 3 }

/-- Parks and unparks that were asked for take effect for the wafers admitted from now on (R440). (DEDUCED, log entry 63) -/
def parkTick (s : State) : State :=
  let s1 := s.power.parkReq.foldl (fun (s : State) r =>
    let s1 := { s with power.park := updAt s.power.park r.1 (fun _ => b2n r.2) }
    if r.2 ∨ s1.tileState r.1 ≠ 3 then s1 else s1.rsetFld (Reg.TIL_STATUS r.1) 9 8 0) s
  { s1 with power.parkReq := [] }

/-- The period of the interval that begins at `t`, and the writes that wait still (R14, R413). (DEDUCED, log entry 28) -/
def nextPeriod (s : State) (t : Nat) : Nat × List (Nat × Nat) :=
  if s.follower then (if s.fab.nEff ≠ 0 ∧ s.fab.teff ≤ t then s.fab.nEff else s.tick.period, [])
  else
    let takes (x : Nat × Nat) : Bool :=
      if s.rbit Reg.FAB_STATUS 10 && s.rbit Reg.FAB_CTRL 0 then decide (x.1 + 32000 ≤ t) else decide (x.1 + 1000 < t)
    (match (s.tick.pend.filter takes).getLast? with
      | some x => x.2
      | none => s.tick.period, s.tick.pend.filter (fun x => !takes x))

/-- Gate entries written since the last tick take effect (R526). -/
def gatesTick (s : State) : State :=
  (List.range 2).foldl (fun (s : State) i =>
    let s1 := (nth s.ports i Reset.port).gclPend.foldl (fun (s : State) x =>
      s.rwrite (csrAddr (0x52 + i) (0x1000 + 8 * x.1)) x.2) s
    { s1 with ports := updAt s1.ports i (fun (p : Port) => { p with gclPend := [] }) }) s

/-- The tick (R15, R25): commits, swap, close or hold, admission; then what waits for a tick (R106, R270, R371, R429,
R440, R526). -/
def doTick (s : State) : State :=
  let t := (s.rget Reg.TCK_NEXT).toNat
  if !s.running || !s.tick.started || decide (s.now < t) then s
  else
    let w := s.tick.nextWafer
    let warned := s.lagAt
    let s1 := (commitAll 8 s).bankSwap w t
    let s2 := (s1.parkTick).closeWafer t
    let s3 := admitAll 8 s2
    let s4 := (s3.rmax Reg.TCK_LAG_MAX s3.closed.length).lagWarn warned
    let s5 := s4.tickDelays
    let s6 := s5.nocPend.foldl (fun (s : State) x => s.rset x.1 x.2) { s5 with nocPend := [] }
    let s7 := (List.range 16).foldl (fun (s : State) u => (s.loadLevels u).levelsChanged u) s6
    let s8 := (((List.range 9).foldl (fun (s : State) n => s.raiseEvent n 12) s7).cutPackets t).gatesTick
    let p := s8.nextPeriod t
    { s8 with tick := { s8.tick with period := p.1, pend := p.2, count := s8.tick.count + 1, lastEdge := t } }.rset
      Reg.TCK_NEXT (w64 (t + p.1 * 1000))

/-- A write to `TCK_CTRL` (Table 1.4, R16). -/
def tckCtrl (s0 : State) (v : Word) : State :=
  let s := (s0.rwrite Reg.TCK_CTRL (setBit (s0.rget Reg.TCK_CTRL) 2 (bit v 2))).pauseDetectors
  let v' := if s.running then setFld v 7 6 (s.rfld Reg.TCK_CTRL 7 6) else v
  let s1 := s.rwrite Reg.TCK_CTRL v'
  if s.running || !s1.running then s1
  else
    { s1 with fab.runT := s1.clock }.startService

/-- A write to `TCK_PERIOD` (R13, R14, R413). (DESIGN CHOICE, log entry 102) -/
def tckPeriod (s : State) (v : Word) : State :=
  let n := fld v 19 0
  if s.locked || s.follower then s
  else if n < 50 ∨ 1000000 < n then s.rsetBit Reg.TCK_STATUS 4 true
  else
    let s1 := s.rset Reg.TCK_PERIOD (w64 n)
    if s1.tick.started then { s1 with tick.pend := s1.tick.pend ++ [(s1.now, n)] } else s1

/-- The statistics sampled at a sub-tick edge (R279). -/
def sampleStats (s : State) : State :=
  let s1 := (List.range 16).foldl (fun (s : State) p =>
    let rs := s.startReqs.filter (fun r => decide (s.reqLevel r = p))
    (s.rset (Reg.SCH_QDEPTH p) (w64 rs.length)).rset (Reg.SCH_QWAIT p) (w64 (match rs with
      | [] => 0
      | r :: _ => s.now - r.arr))) s
  (List.range 16).foldl (fun (s : State) t =>
    let mine := s.firings.filter (fun f => decide (f.tile = t) && (decide (f.stage = .ready) || f.inPe))
    s.rset (Reg.SCH_LOAD t) (w64 (if s.tileState t = 2 then 0 else mine.length))) s1

/-- A sub-tick edge: device time crosses its next whole microsecond (R15, R269, R279, R320, R394). -/
def subtick (s : State) : State :=
  let s1 := { s with now := (s.now / 1000 + 1) * 1000, clock := s.clock + (1000 - s.now % 1000) }
  if s1.dead then s1
  else
    let s2 := if s1.tick.shadowDue then { s1 with tick.shadowDue := false }.shadowApply else s1
    ((s2.releaseDelays s2.delaysDue).sampleStats.routeApply.reloadTick.rsRetry.rsGrantAll).dlSubtick

end State

/-- The tick at which device time has reached the next nominal tick time (R15). -/
def execTick (s : State) : Out := .next (s.onlyIf (!s.dead) State.doTick)

/-- The first closed wafer is admitted (R23). -/
def execWaferAdmit (s : State) : Out := .next (s.onlyIf (!s.dead) (fun s => s.admitOne.getD s))

/-- The oldest wafer commits where it is COMPLETE (R29). -/
def execWaferCommit (s : State) : Out :=
  .next (s.onlyIf (!s.dead) (fun s0 => let s := s0.settle; match s.commitDue with
    | some k => s.commitWafer k
    | none => s))

def execSubtickEdge (s : State) : Out := .next s.subtick

/-- A write of `TCK_CTRL` whose RUN bit is 1 (R16). -/
def execTckRun (m : Nat) (v : Word) (s : State) : Out := .next (s.onlyIf (s.mayWrite m) (·.tckCtrl (setBit v 0 true)))
def execTckPeriodWrite (m : Nat) (v : Word) (s : State) : Out := .next (s.onlyIf (s.mayWrite m) (·.tckPeriod v))

/-- A write to `TCK_TIME_SET`, accepted while RUN is 0 (R37). -/
def execTckTimeSet (m : Nat) (v : Word) (s : State) : Out :=
  .next (s.onlyIf (s.mayWrite m && !s.running) (fun s => { s with now := v.toNat }))

/-- The disciplining source is lost (R33). -/
def execTimeSourceLost (s : State) : Out :=
  .next (s.onlyIf (decide (s.rfld Reg.TCK_CTRL 7 6 ≠ 0)) (·.rsetBit Reg.TCK_STATUS 3 true))
def execTimeSourceReturn (s : State) : Out := .next (s.rsetBit Reg.TCK_STATUS 3 false)

end Sys2Proof.Machine
end

