-- ==== Sys2Proof/Machine/Fabric.lean ====
section
/-! DEFINITION. The Kwenga fabric: link frames and link states, HELLO, delivery end to end, remote memory at home and at
the issuer, fabric time, device loss, resynchronisation and port X (R386 to R422). -/

namespace Sys2Proof.Machine

/-- The payload of a HELLO (Table 13.4). -/
def Hello.body (h : Hello) : List (BitVec 128) :=
  [BitVec.ofNat 128 (h.serial % 2 ^ 64 * 2 ^ 64 + h.bootcnt % 2 ^ 32 * 2 ^ 32 + h.pers % 2 ^ 16 * 2 ^ 16 + h.fpv % 256 * 256 + h.step % 256),
   h.cfgdig,
   BitVec.ofNat 128 (h.plandig % 2 ^ 64 * 2 ^ 64 + h.ucsver % 2 ^ 16 * 2 ^ 48 + h.device % 1024 * 2 ^ 38 + h.port % 8 * 2 ^ 35 +
     b2n h.mcand * 2 ^ 34 + b2n h.tmcand * 2 ^ 33 + b2n h.plan * 2 ^ 32 + h.tmprio % 16 * 2 ^ 28 + h.manager % 1024 * 2 ^ 18 +
     h.tmaster % 1024 * 2 ^ 8)]

def helloOf (b : List (BitVec 128)) : Hello :=
  let x := nth b 0 0
  let z := nth b 2 0
  { serial := fld x 127 64, bootcnt := fld x 63 32, pers := fld x 31 16, fpv := fld x 15 8, step := fld x 7 0,
    cfgdig := nth b 1 0, plandig := fld z 127 64, ucsver := fld z 63 48, device := fld z 47 38, port := fld z 37 35,
    mcand := bit z 34, tmcand := bit z 33, plan := bit z 32, tmprio := fld z 31 28, manager := fld z 27 18,
    tmaster := fld z 17 8 }

/-- An uncorrectable codeword. -/
def flitBad (c : Codeword) : Bool := decide (d144Check c = .uncorrectable)

/-- `a` follows `b` at most half the sequence space behind: `b` is covered by an acknowledgement of `a` (R398). -/
def seqCovers (a b : Nat) : Bool := decide ((a + 65536 - b % 65536) % 65536 < 32768)

namespace State

/-- A link's report (R388, R389): DETAIL as Table 15.4, 0 for a change of state that it does not list. (DEDUCED, log entry 49) -/
def linkEvent (s : State) (p detail : Nat) : State := s.report (Report.plain 0 0x480 5 p detail) none

/-- A link leaves for DOWN, TRAIN or FAILED (R389, R398, R421). -/
def linkLeave (s : State) (p : Nat) (st : LinkState) (detail : Nat) : State :=
  let was := (s.linkAt p).state
  let s1 := (s.noteUps).updLink p (fun l => { l.downed with state := st, upT := s.clock })
  let s2 := if st = .failed then s1.degrade 0x480 5 p 3 else s1.linkEvent p detail
  if p = 6 then (if was = .up then s2.xDown else s2) else s2.linksChanged

/-- A resend by the sender: counted and reported; more than 8 within 1 ms retrain the link (R388). -/
def linkResend (s : State) (p : Nat) : State :=
  let l := s.linkAt p
  let times := s.clock :: l.resends.filter (fun t => decide (s.clock < t + 1000000))
  let s1 := ((s.updLink p (fun l => { l with resends := times, progT := s.clock })).radd (Reg.FAB_LINK_REPLAY p) l.kept.length).linkEvent p 1
  if 8 < times.length then s1.linkLeave p .train 2 else s1

/-- 2 µs without progress of ACK (R388). (DESIGN CHOICE, log entry 91) -/
def linkResendTimeout (s : State) (p : Nat) : State :=
  let l := s.linkAt p
  if l.kept ≠ [] ∧ l.progT + 2000 ≤ s.clock then s.linkResend p else s

/-- A DOWN link with a signal that is enabled, powered and clocked trains (R389, R434, R435). -/
def linkTrain (s : State) (p : Nat) : State :=
  let l := s.linkAt p
  if l.state = .down ∧ l.signal ∧ s.rbit (Reg.FAB_LINK_CTRL p) 0 ∧ !s.rbit Reg.FCL_STATUS 4 ∧ s.domOn (if p = 6 then 129 else 128) ∧
      s.rbit Reg.CLK_STATUS 6 then
    (s.updLink p (fun l => { l with state := .train })).linkEvent p 0
  else s

/-- A signal is present (R389). -/
def linkSignal (s : State) (p : Nat) : State := (s.updLink p (fun l => { l with signal := true })).linkTrain p

/-- Frame lock (R389): K links exchange HELLOs, port X waits for its identity. -/
def linkLock (s : State) (p : Nat) : State :=
  if (s.linkAt p).state = .train then
    (s.updLink p (fun l => { l with state := .hello, reason := 0, lastHello := s.clock })).linkEvent p 0
  else s

/-- A training that fails is counted and begins again; the third within 1 s makes the link FAILED (R389). -/
def linkTrainFail (s : State) (p : Nat) : State :=
  let l := s.linkAt p
  if l.state ≠ .train then s
  else
    let fails := s.clock :: l.fails.filter (fun t => decide (s.clock < t + 1000000000))
    let s1 := s.updLink p (fun l => { l with fails := if 3 ≤ fails.length then [] else fails })
    if 3 ≤ fails.length then s1.linkLeave p .failed 3 else s1

/-- Loss of signal (R389). -/
def linkLoss (s0 : State) (p : Nat) : State :=
  let s := s0.updLink p (fun l => { l with signal := false })
  if (s.linkAt p).state = .down ∨ (s.linkAt p).state = .failed then s else s.linkLeave p .down 4

/-- 5 ms without a HELLO (R389); port X has none (R420). -/
def helloTimeout (s : State) (p : Nat) : State :=
  let l := s.linkAt p
  if p < 6 ∧ (l.state = .hello ∨ l.state = .up ∨ l.state = .restricted ∨ l.state = .sleep) ∧ l.lastHello + 5000000 ≤ s.clock then
    s.linkLeave p .train 2
  else s

/-- A sleeping link wakes (R390). -/
def linkWake (s : State) (p : Nat) : State :=
  if (s.linkAt p).state = .sleep then ((s.updLink p (fun l => { l with state := .up })).linkEvent p 0).linksChanged else s

/-- A write to `FAB_LINKp_CTRL` (R389, R422). -/
def linkCtrl (s : State) (p : Nat) (v : Word) : State :=
  if s.running then s.rsetBit Reg.FAB_STATUS 0 true
  else
    let a := Reg.FAB_LINK_CTRL p
    let was := s.rbit a 0
    let s1 := s.rwrite a v
    let s2 := s1.rsetFld a 12 8 (min 16 (s1.rfld a 12 8))
    let st := (s2.linkAt p).state
    if !s2.rbit a 0 then (if st = .down ∨ st = .failed then s2 else s2.linkLeave p .down 0)
    else if !was && decide (st = .failed) then s2.linkLeave p .train 0
    else s2.linkTrain p

/-- The digest of the static plan as HELLO carries it. -/
def planDig (s : State) : Nat := if s.planned then (planDigest s.cfg.bank).toNat % 2 ^ 64 else 0

/-- UCSVER as HELLO carries it: MAJOR and MINOR of the loaded image. -/
def ucsVer (s : State) : Nat := s.rfld (Reg.UCS_VERSION 0) 47 32

/-- The HELLO that this device sends on port `p` (Table 13.4). -/
def ownHello (s : State) (p : Nat) : Hello :=
  { serial := (s.rget Reg.FAB_SERIAL).toNat, bootcnt := s.boot.count, pers := s.rfld Reg.BOOT_PERS 15 0, fpv := 1, step := 0,
    cfgdig := BitVec.ofNat 128 ((s.rget Reg.FAB_DIGEST_LO).toNat + (s.rget Reg.FAB_DIGEST_HI).toNat * 2 ^ 64),
    plandig := s.planDig, ucsver := s.ucsVer, device := s.localId, port := p, mcand := s.rbit Reg.FAB_CTRL 1 && !s.planned,
    tmcand := s.rbit Reg.FAB_CTRL 2, plan := s.planned, tmprio := s.rfld Reg.FAB_CTRL 11 8,
    manager := s.rfld Reg.FAB_MANAGER 9 0, tmaster := s.rfld Reg.FAB_TMASTER 9 0 }

/-- A HELLO on an eligible link (R391). -/
def helloSend (s : State) (p : Nat) : State :=
  let st := (s.linkAt p).state
  if p < 6 ∧ (st = .hello ∨ st = .up ∨ st = .restricted ∨ st = .sleep) then
    s.sendLocal p 0 0x01 1 0 (s.rfld Reg.TCK_EPOCH 31 0) (s.ownHello p).body
  else s

/-- Why a link to the sender of `h` is RESTRICTED, 0 where it is not (R392, R393). -/
def helloReason (s : State) (p : Nat) (h : Hello) : Nat :=
  let me := s.ownHello p
  let nb := bankWord s.cfg.bank (0xE808 + p * 8)
  if s.rbit Reg.FAB_STATUS 2 then 6
  else if h.pers ≠ me.pers then 1 else if h.fpv ≠ me.fpv then 2 else if h.ucsver / 256 ≠ me.ucsver / 256 then 3
  else if h.plan && me.plan && decide (h.plandig ≠ me.plandig) then 4
  else if h.plan && me.plan && !(bit nb 63 && decide (fld nb 9 0 = h.device ∧ fld nb 12 10 = h.port)) then 5
  else 0

/-- A remote access of this device fails: its home refused it or is lost (R402). -/
def remoteFail (s : State) (r : RemAcc) : State :=
  let s1 := s.remoteStoreFailed r.device
  if r.store then
    let s2 := { s1 with fab.remote := s1.fab.remote.erase r }
    match r.engine with
    | some n => (s2.updEngine n (fun e => { e with fault := some (1, r.addr), run := if e.run = .stalled then .running else e.run })).rset
        (Reg.CEN_FAULTADDR n) (w64 (r.device * 2 ^ 48 + r.addr))
    | none => s2
  else
    let s2 := { s1 with fab.remote := updAt s1.fab.remote (s1.fab.remote.idxOf r) (fun x => { x with failed := true }) }
    match r.engine, r.firing with
    | some n, _ => (s2.updEngine n (fun e => { e with fault := some (1, r.addr), run := if e.run = .stalled then .running else e.run })).rset
        (Reg.CEN_FAULTADDR n) (w64 (r.device * 2 ^ 48 + r.addr))
    | none, some f => s2.updFiring f (fun x => if x.wait = .fill then { x with wait := .none } else x)
    | none, none => s2

/-- A resynchronisation of the minority ends, whole or failed (R419). -/
def resyncEnd (s : State) (y : Resync) (ok : Bool) : State :=
  let s1 := { s with fab.resyncs := s.fab.resyncs.erase y }
  let a := Reg.FAB_GRP_STATUS y.group
  let s2 := if s1.fab.resyncs.any (fun z => decide (z.group = y.group)) then s1 else s1.rsetBit a 54 false
  if ok then s2 else (s2.rsetBit Reg.FAB_STATUS 12 true).event 0x480 0 0x95 y.group

/-- A device is lost (R399, R402, R408, R418, R419). -/
def loseDevice (s : State) (d : Nat) : State :=
  let s1 := { s with
    fab.retained := s.fab.retained.filter (fun r => decide (r.msg.dst ≠ d))
    fab.waiting := s.fab.waiting.filter (fun m => decide (m.dst ≠ d))
    fab.lost := if s.fab.lost.contains d then s.fab.lost else d :: s.fab.lost
    fab.recs := s.fab.recs.filter (fun r => decide (r.device ≠ d))
    fab.txSeq := s.fab.txSeq.filter (fun e => decide (e.1 / 4 ≠ d))
    fab.rxSeq := s.fab.rxSeq.filter (fun e => decide (e.1 / 4 ≠ d)) }
  let s2 := s1.masterReset (0x400 + d)
  let s3 := (s2.fab.remote.filter (fun r => decide (r.device = d))).foldl remoteFail s2
  let outs := s3.fab.outs.filter (fun o => decide (o.device = d))
  let s4 := { s3 with
    fab.outs := s3.fab.outs.filter (fun o => decide (o.device ≠ d))
    fab.binds := s3.fab.binds.filter (fun b => decide (b.device ≠ d))
    fab.asks := s3.fab.asks.filter (fun a => decide (a.1 ≠ d)) }
  let s5 := ((if outs.isEmpty then s4 else s4.rsGone d outs.length).rsAbandon d).rsCloseFor d
  let s6 := (s5.inboundFrom d).foldl (fun (s : State) i =>
    let n := smGet s.fab.granted (d * 256 + i) 0
    let s' := { s with fab.granted := smPut s.fab.granted (d * 256 + i) 0 0 }
    match s'.chan? (s'.inbound i).handle with
    | some c => s'.setChan { c with granted := c.granted - n }
    | none => s') s5
  let s7 := if (s6.inboundFrom d).isEmpty then s6 else s6.rsetBit Reg.FAB_STATUS 6 true
  let s8 := (s7.fab.resyncs.filter (fun y => !y.isSource && decide (y.source = d))).foldl (fun (s : State) y => s.resyncEnd y false) s7
  let s9 := if s8.rbit Reg.FAB_CTRL 13 then s8.event 0x480 0 0x91 d else s8
  let s10 := (s9.event 0x480 0 0x94 7).wakeChannel.settle.topology
  { s10 with fab.lost := s10.fab.lost.filter (fun x => !(decide (x = d) && s10.hasUp d)) }.voteWake

/-- A HELLO arrives on port `p` (R389, R392, R393, R399). -/
def helloReceive (s : State) (p : Nat) (m : Msg) : State :=
  let l := s.linkAt p
  let h := helloOf m.body
  if !(decide (p < 6 ∧ (l.state = .hello ∨ l.state = .up ∨ l.state = .restricted ∨ l.state = .sleep))) || decide (m.body.length ≠ 3) then s
  else
    let rebooted := s.fab.boots.any (fun x => decide (x.1 = h.device ∧ x.2.1 = h.serial ∧ x.2.2 ≠ h.bootcnt))
    let s0 := { s with fab.boots := (h.device, h.serial, h.bootcnt) :: s.fab.boots.filter (fun x => decide (x.1 ≠ h.device)) }
    let s1 := if rebooted then s0.loseDevice h.device else s0
    let why := s1.helloReason p h
    let st : LinkState := if why ≠ 0 then .restricted else if l.state = .sleep then .sleep else .up
    let s2 := if why ≠ 0 ∧ (l.state = .up ∨ l.state = .sleep) then s1.noteUps else s1
    let s3 := s2.updLink p (fun x => { x with
      state := st, reason := why, peer := some h, lastHello := s.clock, upT := if st = .up then s.clock else x.upT })
    let s4 := if st = l.state then s3 else s3.linkEvent p 0
    let s5 := if why = 4 ∨ why = 5 then s4.rsetBit Reg.FAB_STATUS 1 true else s4
    let s6 := if why ≠ 0 ∧ (l.state ≠ .restricted ∨ l.reason ≠ why) then
      (if why ≤ 3 then s5.event 0x480 0 0x94 1 else if why ≤ 5 then s5.event 0x480 0 0x94 2 else s5) else s5
    s6.linksChanged

/-- A link-state record arrives: a newer one is kept, flooded on, and the topology follows (R394). -/
def mgmtReceive (s : State) (m : Msg) : State :=
  let r := recOfBody m.body
  let newer := match s.fab.recs.find? (fun x => decide (x.serial = r.serial)) with
    | some o => decide (0 < (r.seq + 2 ^ 32 - o.seq) % 2 ^ 32 ∧ (r.seq + 2 ^ 32 - o.seq) % 2 ^ 32 < 2 ^ 31)
    | none => true
  if m.body.length ≠ 2 ∨ r.serial = (s.rget Reg.FAB_SERIAL).toNat ∨ !newer then s
  else
    ({ s with fab.recs := r :: s.fab.recs.filter (fun x => decide (x.serial ≠ r.serial)) }.flood r (some m.src)).topology.linksChanged

/-- Entries of a table version arrive (R394). -/
def routeReceive (s : State) (m : Msg) : State :=
  let ver := m.arg / 2 ^ 32
  if s.planned then s
  else
    let base := match s.fab.newVer with
      | some v => if v = ver then s.fab.newTab else []
      | none => []
    let new := (List.range (m.body.length * 8)).filterMap (fun i =>
      let d := m.arg % 1024 + i
      if d < 1024 then some (d, fld (nth m.body (i / 8) 0) (i % 8 * 16 + 15) (i % 8 * 16)) else none)
    { s with fab.newVer := some ver
             fab.newTab := base.filter (fun e => !new.any (fun x => decide (x.1 = e.1))) ++ new }

/-- An enabled window grants the access, and it lies inside installed SDRAM or the scratch window (R401). -/
def windowGrants (s : State) (a n : Nat) (write : Bool) : Bool :=
  (List.range 8).any (fun k =>
    let b := Reg.FAB_RWIN_BASE k
    s.rbit b 2 && s.rbit b (if write then 1 else 0) &&
      decide (s.rfld b 47 12 * 4096 ≤ a ∧ a + n ≤ (s.rfld (Reg.FAB_RWIN_LIMIT k) 47 12 + 1) * 4096)) &&
  decide (s.accessKind a n = .sdram ∨ s.accessKind a n = .scratch)

/-- A refused remote access (R221, R401, R402): answered with RERR, and logged by the home device. -/
def refuse (s : State) (m : Msg) : State := (s.sendMsg m.src 0x0C 3 m.eseq m.arg []).event 0x480 0 0x92 m.src

/-- A remote access to an address that no memory backs: refused, and logged with its issuer and address (R221). -/
def refuseHole (s : State) (m : Msg) : State := (s.refuse m).holeEvent (0x400 + m.src) m.arg

/-- The access touches a hole (R221). -/
def hitsHole (s : State) (a n : Nat) : Bool := decide (s.accessKind a n ≠ .sdram ∧ s.accessKind a n ≠ .scratch)

/-- A remote load at its home (R401, R403). -/
def rdReq (s : State) (m : Msg) : State :=
  let n := m.aux
  if n = 0 ∨ 32 < n then s.refuse m
  else if touchesCsr m.arg n then
    if n = 8 ∧ s.rbit Reg.FAB_CTRL 12 ∧ (m.arg = Reg.LKU_RESP ∨ m.arg = Reg.LKU_REQ) then
      s.sendMsg m.src 0x09 3 m.eseq m.arg
        [BitVec.ofNat 128 (if m.arg = Reg.LKU_RESP then s.lkuResp (0x400 + m.src) else 0).toNat]
    else s.refuse m
  else if s.windowGrants m.arg n false then
    let r := s.memRead m.arg n
    r.2.sendMsg m.src 0x09 3 m.eseq m.arg (packCws 2 r.1)
  else if s.hitsHole m.arg n then s.refuseHole m
  else s.refuse m

/-- A remote store at its home (R401, R403). -/
def wrReq (s : State) (m : Msg) : State :=
  let n := m.aux
  let bs := (natToBytes 32 ((nth m.body 0 0).toNat + (nth m.body 1 0).toNat * 2 ^ 128)).take n
  if n = 0 ∨ 32 < n then s.refuse m
  else if touchesCsr m.arg n then
    if n = 8 ∧ s.rbit Reg.FAB_CTRL 12 ∧ (m.arg = Reg.LKU_REQ ∨ m.arg = Reg.LKU_RESP) then
      (if m.arg = Reg.LKU_REQ then s.lkuRequest (0x400 + m.src) (w64 (bytesToNat bs)) else s).sendMsg m.src 0x0B 3 m.eseq m.arg []
    else s.refuse m
  else if s.windowGrants m.arg n true then (s.memWrite none m.arg bs).sendMsg m.src 0x0B 3 m.eseq m.arg []
  else if s.hitsHole m.arg n then s.refuseHole m
  else s.refuse m

/-- The outstanding access that a response answers. -/
def remoteOf (s : State) (m : Msg) : Option RemAcc := s.fab.remote.find? (fun r => decide (r.device = m.src ∧ r.eseq = m.aux))

/-- RDRESP: the load's data, for its firing or engine (R401). -/
def rdResp (s : State) (m : Msg) : State :=
  match s.remoteOf m with
  | none => s
  | some r =>
    if r.store then s
    else
      let bs := (natToBytes 32 ((nth m.body 0 0).toNat + (nth m.body 1 0).toNat * 2 ^ 128)).take r.len
      let s1 := { s with fab.remote := updAt s.fab.remote (s.fab.remote.idxOf r) (fun x => { x with data := some bs }) }
      match r.engine, r.firing with
      | some n, _ => s1.updEngine n (fun e => { e with run := if e.run = .stalled then .running else e.run })
      | none, some f => s1.updFiring f (fun x => if x.wait = .fill then { x with wait := .none } else x)
      | none, none => s1

/-- WRACK: the store is performed (R401). -/
def wrAck (s : State) (m : Msg) : State :=
  match s.remoteOf m with
  | none => s
  | some r =>
    if !r.store then s
    else
      let s1 := { s with fab.remote := s.fab.remote.erase r }
      match r.engine with
      | some n => s1.updEngine n (fun e => { e with run := if e.run = .stalled then .running else e.run })
      | none => s1

/-- RERR (R402). -/
def rErr (s : State) (m : Msg) : State :=
  match s.remoteOf m with
  | none => s
  | some r => s.remoteFail r

/-- The snapshot sent to the minority, 128 bytes a message (R419). -/
def sendSnapshot (s : State) (y : Resync) (d : Nat) : State :=
  let g := bankGroup s.cfg.bank y.group
  (List.range (g.slen * 32)).foldl (fun (s : State) i =>
    let r := s.memRead (g.snap + i * 128) 128
    r.2.sendMsg d 0x21 2 y.group y.wafer (BitVec.ofNat 128 (i * 128) :: packCws 8 r.1)) s

/-- The group's items of a wafer have left service on this device; where there was none, the wafer is COMPLETE (R419). -/
def resyncPoint (s : State) (y : Resync) : Bool :=
  s.slots.all (fun x => decide (x.state = 0 ∨ x.wafer ≠ y.wafer ∨ x.state = 2) || x.flows.contains y.flow) &&
  !s.startReqs.any (fun r => decide (r.flow = some y.flow ∧ r.wafer = y.wafer)) &&
    !s.flowQ.any (fun r => decide (r.flow = some y.flow ∧ r.wafer = y.wafer)) &&
    !s.acts.any (fun a => decide (a.flow = some y.flow ∧ a.wafer = y.wafer))

def resyncOf (s : State) (g w : Nat) (src : Bool) : Option Resync :=
  s.fab.resyncs.find? (fun y => decide (y.group = g ∧ y.wafer = w ∧ y.isSource = src))

/-- The source's resynchronisation point: the copy to SNAP, within which the flow is held (R419). -/
def resyncSource (s : State) (g w : Nat) : State :=
  match s.resyncOf g w true with
  | none => s
  | some y =>
    if y.begun ∨ !s.resyncPoint y then s
    else
      let e := bankGroup s.cfg.bank g
      let r := s.memRead e.sbase (e.slen * 4096)
      let s1 := r.2.memWrite none e.snap r.1
      let y' := { y with begun := true }
      let s2 := { s1 with fab.resyncs := y' :: s1.fab.resyncs.filter (fun z =>
        !(decide (z.group = g) && z.isSource && (decide (z.wafer = w) || z.begun))) }
      match y.asked with
      | some d => s2.sendSnapshot y' d
      | none => s2

/-- The minority's point: its flow is held, and it asks the source (R419). -/
def resyncMinority (s : State) (g w : Nat) : State :=
  match s.resyncOf g w false with
  | none => s
  | some y =>
    if y.begun ∨ !s.resyncPoint y then s
    else if s.deviceLost y.source then s.resyncEnd y false
    else
      let y' := { y with begun := true, holding := true, since := s.clock }
      { s with fab.resyncs := updAt s.fab.resyncs (s.fab.resyncs.idxOf y) (fun _ => y') }.sendMsg y.source 0x20 2 g w []

/-- RSYREQ (R419): answered when the snapshot is made, of which this device learns from its own outcome. -/
def rsyReq (s : State) (m : Msg) : State :=
  match s.resyncOf (m.aux % 16) m.arg true with
  | none => { s with fab.rsyAsks := s.fab.rsyAsks ++ [(m.aux % 16, m.arg, m.src)] }
  | some y =>
    if y.begun then s.sendSnapshot y m.src
    else { s with fab.resyncs := updAt s.fab.resyncs (s.fab.resyncs.idxOf y) (fun z => { z with asked := some m.src }) }

/-- RSYDATA (R419). (DESIGN CHOICE, log entry 21) -/
def rsyData (s : State) (m : Msg) : State :=
  match s.resyncOf (m.aux % 16) m.arg false with
  | none => s
  | some y =>
    let g := bankGroup s.cfg.bank y.group
    let off := fld (nth m.body 0 0) 31 0
    if !y.begun ∨ m.body.length ≠ 9 ∨ m.src ≠ y.source ∨ g.slen * 4096 < off + 128 then s
    else
      let bs := (m.body.drop 1).flatMap (fun c => natToBytes 16 c.toNat)
      let s1 := s.memWrite none (g.sbase + off) bs
      let y' := { y with got := y.got + 1 }
      if g.slen * 32 ≤ y'.got then
        let c := Reg.FAB_GRP_COUNT y.group
        (((s1.resyncEnd y true).rsetFld c 31 16 (min 65535 (s1.rfld c 31 16 + 1))).sendMsg y.source 0x22 3 y.group y.wafer [])
      else { s1 with fab.resyncs := updAt s1.fab.resyncs (s1.fab.resyncs.idxOf y) (fun _ => y') }

/-- RSYACK: the snapshot is freed (R419). -/
def rsyAck (s : State) (m : Msg) : State :=
  match s.resyncOf (m.aux % 16) m.arg true with
  | none => s
  | some y => s.resyncEnd y true

/-- The resynchronisation timeout (R419). -/
def resyncTimeout (s : State) (g w : Nat) : State :=
  match s.resyncOf g w false with
  | none => s
  | some y =>
    if y.begun ∧ y.since + clampNat 1000 1000000 (s.rfld Reg.FAB_RSYNC_TMO 19 0) * 1000 ≤ s.clock then s.resyncEnd y false else s

/-- A message that reached its destination in order (R397). -/
def handle (s : State) (m : Msg) : State :=
  if m.kind = 0x02 then s.mgmtReceive m
  else if m.kind = 0x04 then s.routeReceive m
  else if m.kind = 0x08 then s.rdReq m
  else if m.kind = 0x09 then s.rdResp m
  else if m.kind = 0x0A then s.wrReq m
  else if m.kind = 0x0B then s.wrAck m
  else if m.kind = 0x0C then s.rErr m
  else if m.kind = 0x10 then s.rsCred m
  else if m.kind = 0x11 then s.rsGrant m
  else if m.kind = 0x12 then s.rsItem m
  else if m.kind = 0x13 then s.rsClose m
  else if m.kind = 0x14 then s.rsAck m
  else if m.kind = 0x18 then s.voteArrive m
  else if m.kind = 0x20 then s.rsyReq m
  else if m.kind = 0x21 then s.rsyData m
  else if m.kind = 0x22 then s.rsyAck m
  else s

/-- Kinds that a receiver discards (R397). -/
def kindReserved (k : Nat) : Bool :=
  !([0x01, 0x02, 0x03, 0x04, 0x08, 0x09, 0x0A, 0x0B, 0x0C, 0x10, 0x11, 0x12, 0x13, 0x14, 0x18, 0x20, 0x21, 0x22, 0x30] : List Nat).contains k

/-- A cumulative acknowledgement: AUX holds the last ESEQ delivered, ARG the virtual channel (R398). (DEDUCED, log entry 50) -/
def e2eAckSend (s : State) (d vc last : Nat) : State :=
  let m : Msg := { dst := d, src := s.localId, kind := 0x30, ncw := 0, vc := 3, eseq := 0, aux := last, arg := vc, body := [] }
  (s.forward m).getD s

/-- An acknowledgement arrives (R398). -/
def e2eAck (s : State) (m : Msg) : State :=
  let mine (r : Retained) : Bool := decide (r.msg.dst = m.src ∧ r.msg.vc = m.arg % 4)
  let gone (r : Retained) : Bool := mine r && seqCovers m.aux r.msg.eseq
  if s.fab.retained.any gone then
    { s with fab.retained := (s.fab.retained.filter (fun r => !gone r)).map (fun r => if mine r then { r with time := s.clock } else r)
    }.flushUnsent
  else s

/-- A message arrives: it is forwarded, discarded, or delivered in its order (R397, R398). -/
def msgArrive (s0 : State) (m : Msg) : State :=
  let s := if s0.dead || !s0.fabOn || kindLow m.kind then s0 else s0.wakeBy 9
  if s.dead ∨ !s.fabOn then s
  else if kindReserved m.kind then (s.rinc Reg.FAB_RERR).event 0x480 0 0x90 m.src
  else if m.dst ≠ s.localId then
    match s.forward m with
    | some x => x
    | none => { s with fab.transit := s.fab.transit ++ [m] }
  else if m.kind = 0x30 then s.e2eAck m
  else
    let k := m.src * 4 + m.vc
    let n := smGet s.fab.rxSeq k 0
    if m.eseq = n then
      ({ s with fab.rxSeq := smPut s.fab.rxSeq k 0 ((n + 1) % 65536) }.e2eAckSend m.src m.vc n).handle m
    else s.e2eAckSend m.src m.vc ((n + 65535) % 65536)

/-- A message of the row's kind arrives. -/
def recv (s : State) (kind : Nat) (m : Msg) : State := if m.kind = kind ∧ m.body.length = m.ncw then s.msgArrive m else s

/-- The end-to-end resend timeout of a destination and virtual channel (R398). -/
def e2eResend (s : State) (d vc : Nat) : State :=
  let mine (r : Retained) : Bool := decide (r.msg.dst = d ∧ r.msg.vc = vc)
  match s.fab.retained.find? mine with
  | none => s
  | some r0 =>
    if s.clock < r0.time + clampNat 5 10000 (s.rfld Reg.FAB_E2E_RTO 19 0) * 1000 then s
    else
      let s1 := (s.fab.retained.filter (fun r => mine r && r.sent)).foldl (fun (s : State) r => match s.forward r.msg with
        | some x => x.rinc Reg.FAB_E2E_RETX
        | none => s) s
      { s1 with fab.retained := s1.fab.retained.map (fun r => if mine r then { r with time := s.clock } else r) }

/-- The loss timeout of a device (R399). -/
def lossTimeout (s : State) (d : Nat) : State :=
  if s.running && !s.deviceLost d && !s.hasUp d && decide (d ≠ s.localId) &&
      decide (s.lossFrom d + clampNat 100 1000000 (s.rfld Reg.FAB_LOSS_TMO 19 0) * 1000 ≤ s.clock) then s.loseDevice d
  else s

/-- The port of the time parent (R409). -/
def timeParent (s : State) : Option Nat :=
  let t := s.rget Reg.FAB_TMASTER
  let p := s.rfld (Reg.FAB_ROUTE (fld t 9 0)) 14 12
  if bit t 63 && decide (fld t 9 0 ≠ s.localId ∧ p < 6) then some p else none

/-- A TIME message on port `p`. -/
def timeSend (s : State) (p code arg : Nat) (c1 c2 : Nat) : State :=
  let d := ((s.linkAt p).peer.map (·.device)).getD 0
  s.sendLocal p d 0x03 0 (code * 2 ^ 14) arg [BitVec.ofNat 128 c1, BitVec.ofNat 128 c2]

/-- The link carries TIME messages. -/
def timeLink (s : State) (p : Nat) : Bool := s.fabOn && !s.dead && decide (p < 6) && s.linkCarries p 0x03

/-- E in ps. -/
def bound (s : State) : Nat := s.rfld Reg.FAB_TBOUND 31 0

/-- The tick base that this device announces (R413): the master's next tick, or the first that takes a new period. -/
def tickBase (s : State) : Nat × Nat × Nat :=
  if !s.rbit Reg.FAB_STATUS 10 then (s.fab.teff, s.fab.weff, s.fab.nEff)
  else
    let t := (s.rget Reg.TCK_NEXT).toNat
    let n := s.tick.period
    match s.tick.pend.getLast? with
    | none => (t, s.tick.nextWafer, n)
    | some (at_, m) =>
      let k := (at_ + 32000 - t + n * 1000 - 1) / (n * 1000)
      (t + k * n * 1000, s.tick.nextWafer + k, m)

/-- An exchange begins: SYNC to a follower (R410, R413). -/
def timeExchange (s : State) (p : Nat) : State :=
  if !s.timeLink p then s
  else
    let b := s.tickBase
    (s.updLink p (fun l => { l with syncT := s.now })).timeSend p 0 0 (b.1 % 2 ^ 64 * 2 ^ 64 + b.2.1 % 2 ^ 64)
      (b.2.2 % 2 ^ 20 * 2 ^ 108 + s.rfld Reg.FAB_TMASTER 9 0 * 2 ^ 98 + min 65535 (s.bound / 1000) * 2 ^ 82)

/-- The port is the follower's way to its time parent (R33, R409, R410). -/
def fromParent (s : State) (p : Nat) : Bool := s.timeLink p && s.follower && decide (s.timeParent = some p)

/-- SYNC arrives (R410, R413). -/
def syncReceive (s0 : State) (p : Nat) (m : Msg) : State :=
  let s := s0.classSent 2 0x13 0x11
  if !s.fromParent p then s
  else
    let a := nth m.body 0 0
    let b := nth m.body 1 0
    ({ s with fab.t2 := s.now, fab.t3 := s.now, fab.parE := fld b 97 82, fab.teff := fld a 127 64, fab.weff := fld a 63 0,
              fab.nEff := fld b 127 108 }.followBase).timeSend p 1 0 0 0

/-- DREQ arrives (R410). -/
def dreqReceive (s0 : State) (p : Nat) : State :=
  let s := s0.classSent 2 0x13 0x11
  if !s.timeLink p then s else s.timeSend p 2 s.now ((s.linkAt p).syncT % 2 ^ 64 * 2 ^ 64) 0

/-- E takes a value: TLOCK, TSUSPECT and the wafers follow (R411, R412, R415). -/
def setBound (s : State) (e : Nat) : State :=
  let s1 := s.rset Reg.FAB_TBOUND (w64 (min e (2 ^ 32 - 1)))
  let s2 := if 20000 < e then s1.rsetBit Reg.FAB_STATUS 4 false else s1
  if 100000 < e then
    let s3 := { s2.rsetBit Reg.FAB_STATUS 3 true with tick.suspect := true }
    if s.rbit Reg.FAB_STATUS 3 then s3 else s3.event 0x480 0 0x94 5
  else s2

/-- DRESP arrives: θ, the correction, E, TLOCK and TSUSPECT (R410 to R412). -/
def drespReceive (s0 : State) (p : Nat) (m : Msg) : State :=
  let s := s0.classSent 2 0x13 0x11
  if !s.fromParent p then s
  else
    let t1 : Int := fld (nth m.body 0 0) 127 64
    let t4 : Int := m.arg
    let asym := signedOf 32 (s.rfld (Reg.FAB_LINK_ASYM p) 31 0)
    let th := (((s.fab.t2 : Int) - t1) - (t4 - s.fab.t3)) * 500 - asym
    let mag := th.natAbs
    let s1 := s.rset Reg.FAB_TOFFSET (w64 (wrapInt 32 th))
    let s2 := if s.running then s1 else { s1 with now := ((s1.now : Int) - th / 1000).toNat }
    let e := s.fab.parE * 1000 + mag + 2000
    let g10 := if mag ≤ 10000 then min 16 (s.fab.good10 + 1) else 0
    let g20 := if e ≤ 20000 then min 16 (s.fab.good20 + 1) else 0
    let s3 := { s2 with fab.good10 := g10, fab.good20 := g20, fab.lastX := s2.clock }.setBound e
    let s4 := if g10 = 16 ∧ e ≤ 20000 then s3.rsetBit Reg.FAB_STATUS 4 true else s3
    (if g20 = 16 then s4.rsetBit Reg.FAB_STATUS 3 false else s4).startService

/-- A TIME message arrives, by its code (Table 13.10). -/
def timeReceive (s : State) (p : Nat) (m : Msg) : State :=
  let c := m.aux / 2 ^ 14 % 4
  if c = 0 then s.syncReceive p m else if c = 1 then s.dreqReceive p else if c = 2 then s.drespReceive p m else s

/-- 1 ms without an exchange (R412). (DEDUCED, log entry 53) -/
def boundGrowth (s : State) : State :=
  if s.follower && decide (s.fab.lastX + 1000000 ≤ s.clock) then
    { s with fab.lastX := s.fab.lastX + 1000000, fab.good20 := if s.bound + 2000 ≤ 20000 then s.fab.good20 else 0 }.setBound
      (s.bound + 2000)
  else s

/-- The identity codeword of port X (R420). -/
def xIdentity (s : State) (d : BitVec 128) : State :=
  if (s.linkAt 6).state = .hello then
    (s.updLink 6 (fun l => { l with state := .up, ident := fld d 127 96, upT := s.clock })).linkEvent 6 0
  else s

/-- A whole message of a K link, where the link's state carries its kind (Table 13.2). -/
def linkDeliver (s : State) (p : Nat) (m : Msg) : State :=
  let st := (s.linkAt p).state
  if m.kind = 0x01 then s.helloReceive p m
  else if st = .hello ∨ (!kindLow m.kind ∧ st ≠ .up) then s
  else if m.kind = 0x03 then s.timeReceive p m
  else s.msgArrive m

/-- A flit's data joins its virtual channel's message (R396, R420). -/
def feed (s : State) (p vc : Nat) (d : BitVec 128) : State :=
  let ws := nth (s.linkAt p).rx vc [] ++ [d]
  let put (s : State) (ws : List (BitVec 128)) : State := s.updLink p (fun l => { l with rx := updAt l.rx vc (fun _ => ws) })
  let h := nth ws 0 0
  if p = 6 then
    if (s.linkAt 6).state = .hello then s.xIdentity d
    else if vc ≠ 1 then s
    else if ws.length = 1 + 2 * (b2n (bit h 109) + b2n (bit h 108)) then (put s []).extReply ws
    else put s ws
  else if ws.length = fld h 101 98 + 1 then (put s []).linkDeliver p (msgOf h (ws.drop 1))
  else put s ws

/-- One flit of an accepted frame: corrected, counted, delivered (R388). -/
def flit (s : State) (p vc : Nat) (c : Codeword) : State :=
  match d144Check c with
  | .corrected _ _ =>
    ((s.rinc (Reg.FAB_LINK_CE p)).report (Report.plain 0 0x480 1 p (eccDetail c)) none).feed p vc (d144Data (d144Correct c))
  | _ => s.feed p vc (d144Data c)

/-- The link receives and sends frames. -/
def linkLive (s : State) (p : Nat) : Bool :=
  let st := (s.linkAt p).state
  decide (st ≠ .down ∧ st ≠ .train ∧ st ≠ .failed)

/-- The link's next frame goes out, where it is live. -/
def linkAnswer (s : State) (p : Nat) : State := if s.linkLive p then s.updLink p (·.answer s.clock) else s

/-- A frame is discarded, and every later one until that with FSEQ = ACK + 1; NAK asks for it (R388). -/
def linkReject (s : State) (p : Nat) : State := (s.updLink p (fun l => { l with rejecting := true, nak := true })).linkAnswer p

/-- The link word of an accepted frame takes effect: ACK, NAK and credits (R388, Table 13.1). -/
def linkWordIn (s : State) (p : Nat) (w : BitVec 32) : State :=
  let l := s.linkAt p
  let v0 := bit w 31
  let v1 := bit w 28
  let kept := match l.kept.findIdx? (fun x => decide (x.1 = fld w 19 14)) with
    | some i => l.kept.drop (i + 1)
    | none => l.kept
  let free (v : Bool) (c : Nat) (xs : List Nat) : List Nat := if v then updAt xs c (· + 1) else xs
  let s1 := s.updLink p (fun l => { l with
    kept := kept, progT := if kept.length < l.kept.length then s.clock else l.progT
    rejecting := false, nak := false, rxFseq := if v0 || v1 then fld w 25 20 else l.rxFseq
    freed := free v1 (fld w 27 26) (free v0 (fld w 30 29) l.freed)
    used := updAt l.used (fld w 12 11) (fun n => n - fld w 10 8) })
  if bit w 13 then s1.linkResend p else s1

/-- A frame arrives on port `p` (R387, R388), and the link's own next frame answers it. -/
def frameReceive (s : State) (p : Nat) (f : Frame) : State :=
  let l := s.linkAt p
  let w := f.word
  let v0 := bit w 31
  let v1 := bit w 28
  if !s.linkLive p then s
  else if fld w 7 0 ≠ crc8 (fld w 31 8) ∨ (v0 && flitBad f.flit0) ∨ (v1 && flitBad f.flit1) then s.linkReject p
  else
    let seq := fld w 25 20
    let carries := v0 || v1
    let next := decide (seq = (l.rxFseq + 1) % 64)
    if l.rejecting && !(carries && next) then s.linkAnswer p
    else if carries && !next then (if (l.rxFseq + 64 - seq) % 64 < 32 then s.linkAnswer p else s.linkReject p)
    else
      let s1 := s.linkWordIn p w
      let s2 := if v0 then s1.flit p (fld w 30 29) f.flit0 else s1
      (if v1 then s2.flit p (fld w 27 26) f.flit1 else s2).linkAnswer p

end State

def execLinkFrameReceive (p : Nat) (f : Frame) (s : State) : Out := .next (s.onlyIf (!s.dead) (·.frameReceive p f))
def execLinkResendTimeout (p : Nat) (s : State) : Out := .next (s.onlyIf (!s.dead) (·.linkResendTimeout p))
def execLinkSignalDetect (p : Nat) (s : State) : Out := .next (s.onlyIf (!s.dead) (·.linkSignal p))
def execLinkFrameLock (p : Nat) (s : State) : Out := .next (s.onlyIf (!s.dead) (·.linkLock p))
def execLinkTrainingFailure (p : Nat) (s : State) : Out := .next (s.onlyIf (!s.dead) (·.linkTrainFail p))
def execLinkSignalLoss (p : Nat) (s : State) : Out := .next (s.onlyIf (!s.dead) (·.linkLoss p))
def execLinkHelloTimeout (p : Nat) (s : State) : Out := .next (s.onlyIf (!s.dead) (·.helloTimeout p))
def execLinkWake (p : Nat) (s : State) : Out := .next (s.onlyIf (!s.dead) (·.linkWake p))
def execHelloSend (p : Nat) (s : State) : Out := .next (s.onlyIf (!s.dead && s.fabOn) (·.helloSend p))
def execHelloReceive (p : Nat) (m : Msg) (s : State) : Out :=
  .next (s.onlyIf (!s.dead && s.fabOn && decide (m.kind = 0x01)) (·.helloReceive p m))
def execMgmtReceive (m : Msg) (s : State) : Out := .next (s.recv 0x02 m)
def execRouteReceive (m : Msg) (s : State) : Out := .next (s.recv 0x04 m)
def execRdreqReceive (m : Msg) (s : State) : Out := .next (s.recv 0x08 m)
def execRdrespReceive (m : Msg) (s : State) : Out := .next (s.recv 0x09 m)
def execWrreqReceive (m : Msg) (s : State) : Out := .next (s.recv 0x0A m)
def execWrackReceive (m : Msg) (s : State) : Out := .next (s.recv 0x0B m)
def execRerrReceive (m : Msg) (s : State) : Out := .next (s.recv 0x0C m)
def execRscredReceive (m : Msg) (s : State) : Out := .next (s.recv 0x10 m)
def execRsgrantReceive (m : Msg) (s : State) : Out := .next (s.recv 0x11 m)
def execRsitemReceive (m : Msg) (s : State) : Out := .next (s.recv 0x12 m)
def execRscloseSend (k : Nat) (s : State) : Out := .next (s.onlyIf (!s.dead) (·.rsCloseSend k))
def execRscloseReceive (m : Msg) (s : State) : Out := .next (s.recv 0x13 m)
def execRsackReceive (m : Msg) (s : State) : Out := .next (s.recv 0x14 m)
def execVoteMessage (m : Msg) (s : State) : Out := .next (s.recv 0x18 m)
def execResyncSourcePoint (g : Nat) (w : Nat) (s : State) : Out := .next (s.onlyIf (!s.dead) (·.resyncSource g w))
def execResyncMinorityPoint (g : Nat) (w : Nat) (s : State) : Out := .next (s.onlyIf (!s.dead) (·.resyncMinority g w))
def execRsyreqReceive (m : Msg) (s : State) : Out := .next (s.recv 0x20 m)
def execRsydataReceive (m : Msg) (s : State) : Out := .next (s.recv 0x21 m)
def execRsyackReceive (m : Msg) (s : State) : Out := .next (s.recv 0x22 m)
def execResyncTimeout (g : Nat) (w : Nat) (s : State) : Out := .next (s.onlyIf (!s.dead) (·.resyncTimeout g w))
def execE2eackReceive (m : Msg) (s : State) : Out := .next (s.recv 0x30 m)
def execE2eResendTimeout (d vc : Nat) (s : State) : Out := .next (s.onlyIf (!s.dead) (·.e2eResend d vc))
def execDeviceLossTimeout (d : Nat) (s : State) : Out := .next (s.onlyIf (!s.dead) (·.lossTimeout d))
def execTimeExchange (p : Nat) (s : State) : Out := .next (s.timeExchange p)
def execSyncReceive (p : Nat) (m : Msg) (s : State) : Out :=
  .next (s.onlyIf (decide (m.kind = 0x03 ∧ m.aux / 2 ^ 14 % 4 = 0)) (·.syncReceive p m))
def execDreqReceive (p : Nat) (m : Msg) (s : State) : Out :=
  .next (s.onlyIf (decide (m.kind = 0x03 ∧ m.aux / 2 ^ 14 % 4 = 1)) (·.dreqReceive p))
def execDrespReceive (p : Nat) (m : Msg) (s : State) : Out :=
  .next (s.onlyIf (decide (m.kind = 0x03 ∧ m.aux / 2 ^ 14 % 4 = 2)) (·.drespReceive p m))
def execTimeBoundGrowth (s : State) : Out := .next (s.onlyIf (!s.dead) State.boundGrowth)
def execXportIdentity (d : BitVec 128) (s : State) : Out := .next (s.onlyIf (!s.dead) (·.xIdentity d))

end Sys2Proof.Machine
end

