-- ==== Sys2Proof/Machine/Engines.lean ====
section
/-! DEFINITION. Channel engines and the recovery sequencer: moves, bundles, ports, memory access, channel operations,
events, engine reset (R356 to R376, R383, R384).  Register accesses go through the two functions of `Io`. -/

namespace Sys2Proof.Machine

/-- How a master reads and writes a register. -/
structure Io where
  rd : State → Nat → Nat → Word × State
  wr : State → Nat → Nat → Word → State

/-- What lies at an engine address (R364). -/
inductive EKind where
  | dram (off : Nat)
  | iram (off : Nat)
  | here (a : Nat)
  | away (device a : Nat)
  | hole
  deriving DecidableEq, Repr

/-- A fault of a bundle: its cause and address, the status that a failed send writes, and the address of a hole. -/
structure EFault where
  cause : Nat
  addr  : Nat
  chps  : Option Word
  hole  : Bool
  deriving DecidableEq, Repr

/-- What a stalled bundle waits for: the store buffer to drain, or nothing that the engine does. -/
inductive ENeed where
  | drain
  | idle
  deriving DecidableEq, Repr

/-- The outcome of a part of a bundle. -/
inductive ERes (α : Type) where
  | ok (x : α)
  | fault (f : EFault)
  | stall (n : ENeed)

/-- Where control goes after a bundle. -/
structure Ctl where
  target : Option Nat
  ends   : Bool
  halt   : Bool
  wait   : Bool
  begun  : Option (Nat × Nat)
  deriving DecidableEq, Repr

/-- A loop whose buffer is discarded: it goes on from instruction RAM (R363, R373). -/
def Loop.refetch (l : Loop) : Loop := { l with buffed := false, kept := false }

def Ctl.none : Ctl := ⟨Option.none, false, false, false, Option.none⟩

/-- Value of a result pipe of latency `l` (R361). -/
def pipeRead {α : Type} (q : List α) (l : Nat) (d : α) : α := nth q (l - 1) d

/-- A pipe at the end of a bundle, before the bundle's trigger. -/
def pipeStep {α : Type} (l : Nat) (d : α) (q : List α) : List α := nth q 0 d :: q.take (l - 1)

/-- A trigger's result in the newest place. -/
def pipeSet {α : Type} (v : α) (q : List α) : List α := v :: q.drop 1

/-- The port is a result or register that a move may read (Table 12.2). -/
def portReads (p : Nat) : Bool :=
  decide (p < 0x40 ∨ (0x41 ≤ p ∧ p ≤ 0x43) ∨ p = 0x100 ∨ p = 0x140 ∨ p = 0x180 ∨ p = 0x200 ∨ (0x300 ≤ p ∧ p ≤ 0x306) ∨
    (0x400 ≤ p ∧ p ≤ 0x405))

/-- The unit that a port triggers: 1 ALU0, 2 ALU1, 3 MUL, 4 LSU, 5 PCU, 6 CHP (Table 12.2). -/
def portUnit (p : Nat) : Option Nat :=
  if 0x110 ≤ p ∧ p ≤ 0x129 then some 1 else if 0x150 ≤ p ∧ p ≤ 0x169 then some 2
  else if 0x190 ≤ p ∧ p ≤ 0x192 then some 3
  else if (0x210 ≤ p ∧ p ≤ 0x216) ∨ (0x218 ≤ p ∧ p ≤ 0x21B) ∨ p = 0x21F then some 4
  else if 0x310 ≤ p ∧ p ≤ 0x319 then some 5 else if 0x410 ≤ p ∧ p ≤ 0x414 then some 6 else none

/-- The port is an operand or register that a move may write. -/
def portHolds (p : Nat) : Bool :=
  decide (p < 0x40 ∨ (0x41 ≤ p ∧ p ≤ 0x43) ∨ p = 0x100 ∨ p = 0x140 ∨ p = 0x180 ∨ p = 0x200 ∨ p = 0x300 ∨
    (0x400 ≤ p ∧ p ≤ 0x403))

/-- A move of a legal bundle (Table 12.1): `imm` is the value of an immediate source. -/
structure Move where
  guard : Nat
  src   : Nat
  dst   : Nat
  size  : Nat
  imm   : Option Nat
  deriving DecidableEq, Repr

/-- A slot as a move, with the other slot for a long immediate (R356, R357). -/
def moveOf (x other : Nat) : Option Move :=
  let src := natField x 28 17
  let dst := natField x 16 5
  let imm := if 0xF00 ≤ src then some (wrapInt 64 (signedOf 8 src)) else if src = 0xEFF then some (wrapInt 64 (signedOf 32 other))
    else none
  if natField x 31 29 = 4 ∨ natField x 2 0 ≠ 0 ∨ (imm.isNone ∧ !portReads src) ∨ (!portHolds dst ∧ (portUnit dst).isNone) then none
  else some ⟨natField x 31 29, src, dst, natField x 4 3, imm⟩

/-- The moves of a bundle, none where it is illegal (R358). -/
def bundleOf (w : Word) : Option (List Move) :=
  let a := fld w 31 0
  let b := fld w 63 32
  let la := decide (natField a 28 17 = 0xEFF)
  let lb := decide (natField b 28 17 = 0xEFF)
  if la && lb then none
  else if la then (moveOf a b).map (fun m => [m])
  else if lb then (moveOf b a).map (fun m => [m])
  else
    match moveOf a b, moveOf b a with
    | some x, some y =>
      if (x.dst = y.dst ∧ x.dst ≠ 0) ∨ ((portUnit x.dst).isSome ∧ portUnit x.dst = portUnit y.dst) then none else some [x, y]
    | _, _ => none

/-- The ALU (R360): `o` is the held operand, `t` the value written to the trigger. -/
def engineAlu (op : Nat) (o t : Word) : Word :=
  let n := t.toNat
  match op with
  | 0x00 => o + t
  | 0x01 => o - t
  | 0x02 => o &&& t
  | 0x03 => o ||| t
  | 0x04 => o ^^^ t
  | 0x05 => o &&& ~~~t
  | 0x06 => if 64 ≤ n then 0 else o <<< n
  | 0x07 => if 64 ≤ n then 0 else o >>> n
  | 0x08 => o.sshiftRight (min n 63)
  | 0x09 => o.rotateLeft (n % 64)
  | 0x0A => w64 (b2n (decide (o = t)))
  | 0x0B => w64 (b2n (decide (o ≠ t)))
  | 0x0C => w64 (b2n (o.slt t))
  | 0x0D => w64 (b2n (o.ult t))
  | 0x0E => w64 (b2n (o.sle t))
  | 0x0F => w64 (b2n (o.ule t))
  | 0x10 => if o.sle t then o else t
  | 0x11 => if o.sle t then t else o
  | 0x12 => if o.ule t then o else t
  | 0x13 => if o.ule t then t else o
  | 0x14 => t
  | 0x15 => w64 (clzNat 64 n)
  | 0x16 => w64 (popNat 64 n)
  | 0x17 => w64 (wrapInt 64 (signedOf 8 n))
  | 0x18 => w64 (wrapInt 64 (signedOf 16 n))
  | _ => w64 (wrapInt 64 (signedOf 32 n))

/-- The multiplier (Table 12.2). -/
def engineMul (op : Nat) (o t : Word) : Word :=
  if op = 0 then o * t
  else if op = 1 then w64 (wrapInt 64 (o.toInt * t.toInt / 2 ^ 64))
  else w64 (o.toNat * t.toNat / 2 ^ 64)

/-- A result of the load unit, `w` where its load never ends. -/
def LoadRes.settled (q : LoadRes) (w : Word) : LoadRes :=
  match q with
  | .word x => .word x
  | .load _ => .word w

namespace State

/-- Master ID of an engine (Table 9.4). -/
def engineMaster (n : Nat) : Nat := 0x10 + n

/-- Source code of an engine's reports (Table 15.5). -/
def engineSrc (n : Nat) : Nat := (0x30 + n) * 16

/-- An engine address (R364). -/
def eKind (s : State) (a : Nat) : EKind :=
  if 2 ^ 64 - 0x10000 ≤ a ∧ a < 2 ^ 64 then .iram (a - (2 ^ 64 - 0x10000))
  else if 2 ^ 64 - 0x20000 ≤ a ∧ a < 2 ^ 64 then .dram (a - (2 ^ 64 - 0x20000))
  else if 2 ^ 58 ≤ a then .hole
  else
    let d := a / 2 ^ 48
    let x := a % 2 ^ 48
    if d ≠ s.localId then .away d x
    else match s.addrKind x with
      | .hole | .qram => .hole
      | _ => .here x

/-- Attribute of an engine address, none for a hole (R364, R366). -/
def eAttr (s : State) (a n size : Nat) : Option Nat :=
  match s.eKind a with
  | .hole => none
  | .dram _ | .iram _ => some 10
  | .away _ _ => some 11
  | .here x =>
    if s.addrKind x = .device then (if size = 8 ∧ n = 8 ∧ x % 8 = 0 then some 8 else none)
    else some (s.attrCode x)

/-- The halves of an access of `size` bytes (R366). -/
def eHalves (a size : Nat) : List (Nat × Nat) :=
  if a % size = 0 then [(a, size)] else [(a, size - a % size), (a + (size - a % size), a % size)]

/-- The checks of an access before either half is performed (R366). -/
def eCheck (s : State) (a size : Nat) : Option EFault :=
  let hs := eHalves a size
  match hs.find? (fun h => (s.eAttr h.1 h.2 size).isNone) with
  | some h => some ⟨1, h.1, none, true⟩
  | none =>
    if hs.all (fun h => decide (s.eAttr h.1 h.2 size = s.eAttr a (nth hs 0 (a, size)).2 size)) then none
    else some ⟨2, a, none, false⟩

/-- Instruction RAM as a load sees it: queued words, the youngest first, over the words in force (R373). -/
def iramByte (e : Engine) (o : Nat) : Byte :=
  let w := match e.iramNew.reverse.find? (fun x => decide (x.1 = o / 8)) with
    | some x => x.2
    | none => smGet e.iram (o / 8) 0
  BitVec.ofNat 8 (natField w.toNat (o % 8 * 8 + 7) (o % 8 * 8))

/-- A remote store of the engine is not yet acknowledged. -/
def eOutstanding (s : State) (n : Nat) : Bool := s.fab.remote.any (fun r => r.store && decide (r.engine = some n))

/-- Every earlier store is performed (R232, R365). -/
def eClear (s : State) (n : Nat) : Bool := (s.engineAt n).sbuf.isEmpty && !s.eOutstanding n

/-- The oldest store of the store buffer is performed (R365). -/
def drainOne (s : State) (n : Nat) : State :=
  match (s.engineAt n).sbuf with
  | [] => s
  | x :: rest =>
    let s1 := s.updEngine n (fun e => { e with sbuf := rest })
    let bs := natToBytes x.size x.data
    match s.eKind x.addr with
    | .dram o => s1.updEngine n (fun e => { e with dram := smPutBytes e.dram 0 o bs })
    | .here a => s1.memWrite none a bs
    | .away d a => s1.remoteIssue d a x.size (some bs) none (some n) 0
    | _ => s1

/-- The store buffer drains whole. -/
def drainAll : Nat → State → Nat → State
  | 0, s, _ => s
  | k + 1, s, n => if (s.engineAt n).sbuf.isEmpty then s else drainAll k (s.drainOne n) n

/-- One half of a load within the device (R364, R366). -/
def eLoadHalf (io : Io) (s : State) (n a k : Nat) : List Byte × State :=
  let e := s.engineAt n
  match s.eKind a with
  | .dram o => (smBytes e.dram 0 o k, s)
  | .iram o => ((List.range k).map (fun i => iramByte e (o + i)), s)
  | .here x =>
    if s.addrKind x = .device then let r := io.rd s (engineMaster n) x; (natToBytes 8 r.1.toNat, r.2) else s.memRead x k
  | _ => ([], s)

/-- The halves of a load in address order. -/
def eLoadHalves (io : Io) (n : Nat) : List (Nat × Nat) → List Byte × State → List Byte × State
  | [], x => x
  | h :: hs, x =>
    let y := eLoadHalf io x.2 n h.1 h.2
    eLoadHalves io n hs (x.1 ++ y.1, y.2)

/-- Loaded bytes as the unit's result (Table 12.2). -/
def loadWord (size : Nat) (sgn : Bool) (v : Nat) : Word := w64 (if sgn then wrapInt 64 (signedOf (8 * size) v) else v)

/-- A load beyond the store buffer: a remote one is issued and its result comes later (R361, R402); a split one stalls its
bundle for one cycle (R366). -/
def eLoadFrom (io : Io) (s0 : State) (n a size : Nat) (sgn : Bool) : LoadRes × State :=
  let hs := eHalves a size
  let s := if 1 < hs.length then s0.rinc (Reg.CEN_STALLS n) else s0
  match s.eKind a with
  | .away _ _ =>
    let id := (s.engineAt n).loads.foldl (fun m p => max m (p.id + 1)) 0
    let s1 := s.updEngine n (fun e => { e with loads := e.loads ++ [⟨id, size, sgn⟩] })
    (.load id, hs.foldl (fun (s : State) h => s.remoteIssue (h.1 / 2 ^ 48) (h.1 % 2 ^ 48) h.2 none none (some n) id) s1)
  | _ =>
    let y := eLoadHalves io n hs ([], s)
    (.word (loadWord size sgn (bytesToNat y.1)), y.2)

/-- A load of an engine (R365, R366): one that store-buffer entries cover in part waits until they have drained. -/
def eLoad (io : Io) (s : State) (n a size : Nat) (sgn : Bool) : ERes (LoadRes × State) :=
  match s.eCheck a size with
  | some f => .fault f
  | none =>
    let hit (x : EStore) : Bool := meets a size x.addr x.size
    match (s.engineAt n).sbuf.reverse.find? hit with
    | some x =>
      if covers a size x.addr x.size then .ok (.word (loadWord size sgn (x.data / 256 ^ (a - x.addr) % 256 ^ size)), s)
      else .ok (eLoadFrom io (drainAll 9 s n) n a size sgn)
    | none => .ok (eLoadFrom io s n a size sgn)

/-- A remote load that has all its replies gives its result; what one gives that failed is open (R361, R402). -/
def loadDone (s : State) (n : Nat) (p : PendLoad) : State :=
  let mine (r : RemAcc) : Bool := !r.store && decide (r.engine = some n ∧ r.seq = p.id)
  let rs := s.fab.remote.filter mine
  if !rs.all (fun r => r.failed || r.data.isSome) then s
  else
    let s1 := { s with fab.remote := s.fab.remote.filter (fun r => !mine r) }
    let x : Word × State := if rs.any (·.failed) then s1.drawWord
      else (loadWord p.size p.sgn (bytesToNat (rs.flatMap (fun r => r.data.getD []))), s1)
    x.2.updEngine n (fun e => { e with
      loads := e.loads.erase p
      lsuq := e.lsuq.map (fun q => if q = .load p.id then .word x.1 else q) })

/-- The remote loads of an engine that have been answered. -/
def takeLoads (s : State) (n : Nat) : State := (s.engineAt n).loads.foldl (fun (s : State) p => s.loadDone n p) s

/-- The load unit's result as a bundle reads it (R361). -/
def loadResult (e : Engine) : LoadRes := pipeRead e.lsuq 3 (.word 0)

/-- A word of instruction RAM with `k` bytes from byte `o` on replaced, for the code-write queue. (DEDUCED, log entry 42) -/
def iramMerge (e : Engine) (o k v : Nat) : Nat × Word :=
  let bs := (List.range 8).map (fun i =>
    let p := o / 8 * 8 + i
    if o ≤ p ∧ p < o + k then BitVec.ofNat 8 (v / 256 ^ (p - o) % 256) else iramByte e p)
  (o / 8, w64 (bytesToNat bs))

/-- A store of an engine (R365, R366, R373). -/
def eStore (io : Io) (s : State) (n a size v : Nat) : ERes State :=
  match s.eCheck a size with
  | some f => .fault f
  | none =>
    let parts := (eHalves a size).map (fun h => (h.1, h.2, v / 256 ^ (h.1 - a) % 256 ^ h.2))
    let base := 2 ^ 64 - 0x10000
    let code (p : Nat × Nat × Nat) : Bool := decide (base ≤ p.1)
    let e := s.engineAt n
    let plain := (parts.filter (fun p => !code p)).map (fun p => (⟨p.1, p.2.1, p.2.2⟩ : EStore))
    let words := (parts.filter code).foldl (fun (e : Engine) p =>
      { e with iramNew := e.iramNew ++ [iramMerge e (p.1 - base) p.2.1 p.2.2] }) e
    match s.eKind a with
    | .here x =>
      if s.addrKind x = .device then
        (if s.eClear n then .ok (io.wr s (engineMaster n) x (w64 v)) else .stall .drain)
      else if 8 < e.sbuf.length + plain.length then .stall .drain
      else .ok (s.updEngine n (fun e => { e with sbuf := e.sbuf ++ plain }))
    | _ =>
      if 16 < words.iramNew.length then .stall .idle
      else if 8 < e.sbuf.length + plain.length then .stall .drain
      else .ok (s.updEngine n (fun e => { e with sbuf := e.sbuf ++ plain, iramNew := words.iramNew }))

/-- Causes that are pending (Table 12.5); the event queue and the doorbell raise theirs by what they hold.
(DEDUCED, log entry 83) -/
def ePending (s : State) (n : Nat) : Nat :=
  let e := s.engineAt n
  e.pend ||| (b2n (!e.evq.isEmpty) * 2 ^ 8) ||| (b2n (e.evq.any (fun x => decide (x.kind = 6))) * 2 ^ 11) |||
    (b2n (decide (s.rget (Reg.CEN_DOORBELL n) ≠ 0)) * 2 ^ 14)

/-- Pending causes that the mask lets through. -/
def eUnmasked (s : State) (n : Nat) : Nat := s.ePending n &&& (s.rget (Reg.CEN_EVMASK n)).toNat &&& 0xFFFFFFF0

/-- An event is to be taken before the next bundle (R371). -/
def eEvent (s : State) (n : Nat) : Bool :=
  (s.engineAt n).fault.isSome || ((s.engineAt n).ie && decide (s.eUnmasked n ≠ 0))

/-- A port's value (Table 12.2); a read of CHP.EVQ removes the oldest entry (R370). -/
def readPort (s : State) (n p : Nat) : Word × State :=
  let e := s.engineAt n
  if p < 0x40 then ((if p = 0 then 0 else smGet e.w p 0), s)
  else if p = 0x41 then (w64 (b2n e.p1), s)
  else if p = 0x42 then (w64 (b2n e.p2), s)
  else if p = 0x43 then (w64 (b2n e.p3), s)
  else if p = 0x100 then (pipeRead e.alu0q 1 0, s)
  else if p = 0x140 then (pipeRead e.alu1q 1 0, s)
  else if p = 0x180 then (pipeRead e.mulq 2 0, s)
  else if p = 0x200 then
    (match loadResult e with
     | .word w => (w, s)
     | .load _ => (0, s))
  else if p = 0x300 then (w64 e.link, s)
  else if p = 0x301 then (s.rget (Reg.CEN_EPC n), s)
  else if p = 0x302 then (s.rget (Reg.CEN_CAUSE n), s)
  else if p = 0x303 then (w64 (if e.loop.active then e.loop.left else 0), s)
  else if p = 0x304 then (w64 s.now, s)
  else if p = 0x305 then (w64 (engineMaster n), s)
  else if p = 0x306 then (s.rget (Reg.CEN_EVMASK n) ||| 0xF, s)
  else if p ≤ 0x403 then (nth (pipeRead e.chpq 3 []) (p - 0x400) 0, s)
  else if p = 0x404 then (pipeRead e.chps 3 0, s)
  else
    match e.evq with
    | [] => (0, s)
    | x :: rest =>
      (w64 (x.data % 2 ^ 32 * 2 ^ 32 + x.kind % 16 * 2 ^ 28 + x.handle % 65536), s.updEngine n (fun e => { e with evq := rest }))

/-- A move's write to a register or operand port. -/
def writePort (s : State) (n p : Nat) (v : Word) : State :=
  s.updEngine n (fun e =>
    if p = 0 then e
    else if p < 0x40 then { e with w := smPut e.w p 0 v }
    else if p = 0x41 then { e with p1 := bit v 0 }
    else if p = 0x42 then { e with p2 := bit v 0 }
    else if p = 0x43 then { e with p3 := bit v 0 }
    else if p = 0x100 then { e with alu0o := v }
    else if p = 0x140 then { e with alu1o := v }
    else if p = 0x180 then { e with mulo := v }
    else if p = 0x200 then { e with lsuo := v }
    else if p = 0x300 then { e with pcuo := v }
    else if 0x400 ≤ p ∧ p ≤ 0x403 then { e with chpo := updAt (e.chpo ++ List.replicate (4 - e.chpo.length) 0) (p - 0x400) (fun _ => v) }
    else e)

/-- The queued code words come into force (R373). -/
def applyCode (e : Engine) : Engine :=
  { e with iram := e.iramNew.foldl (fun m x => smPut m x.1 0 x.2) e.iram, iramNew := [] }

/-- A trigger of the load and store unit. -/
def trigLsu (io : Io) (s : State) (n op : Nat) (v : Word) : ERes State :=
  let a := v.toNat
  let load (size : Nat) (sgn : Bool) : ERes State :=
    match eLoad io s n a size sgn with
    | .ok y => .ok (y.2.updEngine n (fun e => { e with lsuq := pipeSet y.1 e.lsuq }))
    | .fault f => .fault f
    | .stall d => .stall d
  if op ≤ 3 then load (2 ^ op) false
  else if op ≤ 6 then load (2 ^ (op - 4)) true
  else if op = 0xF then (if s.eClear n then .ok s else .stall .drain)
  else eStore io s n a (2 ^ (op - 8)) ((s.engineAt n).lsuo.toNat % 256 ^ 2 ^ (op - 8))

/-- A trigger of the program control unit (R362, R363, R371 to R374). -/
def trigPcu (s : State) (n op : Nat) (v : Word) : ERes (State × Ctl) :=
  let e := s.engineAt n
  let t := fld v 12 0
  match op with
  | 0 => .ok (s, { Ctl.none with target := some t, ends := true })
  | 1 => .ok (s.updEngine n (fun e => { e with link := (e.pc + 1) % 8192 }), { Ctl.none with target := some t, ends := true })
  | 2 => .ok (s, { Ctl.none with target := some e.link, ends := true })
  | 3 =>
    .ok (s.updEngine n (fun e => { e with ie := true, loop := e.loopSh.getD e.loop, loopSh := none }),
      { Ctl.none with target := some (s.rfld (Reg.CEN_EPC n) 12 0) })
  | 4 =>
    let l := fld v 6 0
    if e.loop.active ∨ l = 0 ∨ 64 < l then .fault ⟨0, e.pc, none, false⟩
    else
      let lp : Loop := { active := decide (e.pcuo ≠ 0), start := (e.pc + 1) % 8192, len := l, left := e.pcuo.toNat, buffed := false, kept := true }
      .ok (s.updEngine n (fun e => { e with loop := lp, loopSh := e.loopSh.map Loop.refetch }),
        { Ctl.none with begun := some (e.pcuo.toNat, l) })
  | 5 =>
    if s.eClear n then .ok (s.updEngine n (fun e => { applyCode e with loop := e.loop.refetch, loopSh := e.loopSh.map Loop.refetch }), Ctl.none)
    else .stall .drain
  | 6 => .ok (s, { Ctl.none with halt := true })
  | 7 => .ok (s, { Ctl.none with wait := true })
  | 8 => .ok (s.rset (Reg.CEN_EVMASK n) (w64 (fld v 31 0) ||| 0xF), Ctl.none)
  | _ => .ok (s.updEngine n (fun e => { e with wdogT := s.clock }), Ctl.none)

/-- Status of a handle that an engine may not use: STALE or DESTROYED (Table 12.4). -/
def badHandle (s : State) (h : Nat) : Nat := if s.chanDestroyed h then 0xB else 0x8

/-- CHP.S and the received word of an operation. (DESIGN CHOICE, log entry 41) -/
def chpResult (s : State) (n : Nat) (st : Word) (q : Option (List Word)) : State :=
  s.updEngine n (fun e => { e with
    chps := pipeSet st e.chps
    chpq := match q with
      | some ws => pipeSet ws e.chpq
      | none => e.chpq })

/-- CHP.S of a SEND, SENDE, DROP or FLUSH that succeeds: the spec gives no ISEQ, no FIRST and which of the codes of
Table 12.4 that are neither reserved nor a failure. (DESIGN CHOICE, log entry 41) -/
def doneStatus (s : State) : Word × State :=
  let d := s.drawWord
  (w64 (fld d.1 63 32 * 2 ^ 32 + fld d.1 4 4 * 16 + fld d.1 3 0 % 5), d.2)

/-- A SEND or SENDE (R331, R332, R336, R365, R367, R368). -/
def trigSend (s : State) (n h : Nat) (close : Bool) : ERes State :=
  let bad (c : Nat) : ERes State := .fault ⟨3, h, some (w64 c), false⟩
  match s.chan? h with
  | none => bad (s.badHandle h)
  | some c =>
    let o : PktOwner := .engine n
    let len := match s.openPkt? h o with
      | some p => p.words.length
      | none => 0
    if c.pkind ≠ pkEngine ∨ c.punit ≠ n then bad 0x9
    else if c.maxlen ≤ len then bad 0xA
    else if !s.eClear n then .stall .drain
    else if !s.canAppend c o then .stall .idle
    else
      let e := s.engineAt n
      let full := bytesToNat ((List.range 4).flatMap (fun i => natToBytes 8 (nth e.chpo i 0).toNat))
      let s1 := s.appendWord h o (full % 256 ^ c.width) s.now close false
      let d := s1.doneStatus
      .ok (d.2.chpResult n d.1 (if close then some (w64 c.iseq :: (nth e.chpq 0 []).drop 1) else none))

/-- RECV (R335, R337, R367, R369). -/
def trigRecv (s : State) (n h : Nat) : State :=
  match s.chan? h with
  | none => s.chpResult n (w64 (s.badHandle h)) none
  | some c =>
    if c.ckind ≠ ckEngine ∨ c.cunit ≠ n then s.chpResult n 0x9 none
    else
      let r := s.takeNext c
      match r.1 with
      | .empty => r.2.chpResult n 0x2 none
      | .gap g => r.2.chpResult n 0x3 (some (w64 g :: (nth (s.engineAt n).chpq 0 []).drop 1))
      | .word v iseq first last ctx =>
        let code := if ctx then 4 else if last then 1 else 0
        r.2.chpResult n (w64 (iseq % 2 ^ 32 * 2 ^ 32 + b2n first * 16 + code))
          (some ((List.range 4).map (fun i => w64 (v / 2 ^ (64 * i)))))

/-- DROP and FLUSH (R346 to R348). -/
def trigDrop (s : State) (n h : Nat) (flush : Bool) : State :=
  match s.chan? h with
  | none => s.chpResult n (w64 (s.badHandle h)) none
  | some c =>
    if c.ckind ≠ ckEngine ∨ c.cunit ≠ n then s.chpResult n 0x9 none
    else
      let s1 := if flush then s.flushChan c else s.dropPartly c
      let d := s1.doneStatus
      d.2.chpResult n d.1 none

/-- A trigger port written (Table 12.2). -/
def trigger (io : Io) (s : State) (n p : Nat) (v : Word) : ERes (State × Ctl) :=
  let plain (r : ERes State) : ERes (State × Ctl) := match r with
    | .ok s' => .ok (s', Ctl.none)
    | .fault f => .fault f
    | .stall d => .stall d
  let e := s.engineAt n
  match portUnit p with
  | some 1 => plain (.ok (s.updEngine n (fun x => { x with alu0q := pipeSet (engineAlu (p - 0x110) e.alu0o v) x.alu0q })))
  | some 2 => plain (.ok (s.updEngine n (fun x => { x with alu1q := pipeSet (engineAlu (p - 0x150) e.alu1o v) x.alu1q })))
  | some 3 => plain (.ok (s.updEngine n (fun x => { x with mulq := pipeSet (engineMul (p - 0x190) e.mulo v) x.mulq })))
  | some 4 => plain (trigLsu io s n (p - 0x210) v)
  | some 5 => trigPcu s n (p - 0x310) v
  | some 6 =>
    let h := v.toNat % 65536
    plain (match p - 0x410 with
      | 0 => s.trigSend n h false
      | 1 => s.trigSend n h true
      | 2 => .ok (s.trigRecv n h)
      | 3 => .ok (s.trigDrop n h false)
      | _ => .ok (s.trigDrop n h true))
  | _ => plain (.ok s)

/-- The fault of highest priority among those that the triggers of a bundle raise (Table 12.5). -/
def worstFault (io : Io) (s : State) (n : Nat) (ms : List (Nat × Word)) (f : EFault) : EFault :=
  ms.foldl (fun (f : EFault) m => match trigger io s n m.1 m.2 with
    | .fault g => if g.cause < f.cause then g else f
    | _ => f) f

/-- The triggers of a bundle. -/
def triggers (io : Io) (n : Nat) : List (Nat × Word) → State × Ctl → ERes (State × Ctl)
  | [], x => .ok x
  | m :: ms, x =>
    match trigger io x.1 n m.1 m.2 with
    | .ok y => triggers io n ms (y.1, if (portUnit m.1) = some 5 then y.2 else x.2)
    | .fault f => .fault (worstFault io x.1 n ms f)
    | .stall d => .stall d

/-- What a bundle's end does to the program counter and the loop (R362, R363). -/
def bundleEnd (e : Engine) (c : Ctl) : Engine :=
  let next := (e.pc + 1) % 8192
  let e1 :=
    match c.target with
    | some t => { e with pc := t, loop := if c.ends then Reset.loop else e.loop }
    | none =>
      match c.begun with
      | some (count, l) => { e with pc := if count = 0 then (e.pc + 1 + l) % 8192 else next }
      | none =>
        if e.loop.active ∧ e.pc = (e.loop.start + e.loop.len - 1) % 8192 then
          (if 1 < e.loop.left then { e with pc := e.loop.start, loop := { e.loop with left := e.loop.left - 1, buffed := e.loop.buffed || e.loop.kept, kept := true } }
           else { e with pc := next, loop := Reset.loop })
        else { e with pc := next }
  { e1 with run := if c.halt then .halted else if c.wait then .waiting else .running }

/-- A fault of a bundle is recorded; the bundle has no other effect (R221, R371). -/
def eFault (s : State) (n : Nat) (f : EFault) : State :=
  let s1 := (s.updEngine n (fun e => { e with
    run := .running, fault := some (f.cause, f.addr)
    chps := match f.chps with
      | some w => pipeSet w e.chps
      | none => e.chps })).rset (Reg.CEN_FAULTADDR n) (w64 f.addr)
  if f.hole then s1.collect ⟨0, engineSrc n, 0x10, 0, engineMaster n * 65536 + 0x40, false, w64 f.addr, none⟩ else s1

/-- A stalled bundle (R361, R365, R368). -/
def eStall (s : State) (n : Nat) (d : ENeed) : State :=
  let s1 := (s.updEngine n (fun e => { e with run := .stalled })).rinc (Reg.CEN_STALLS n)
  match d with
  | .drain => drainAll 9 s1 n
  | .idle => s1

/-- The engine's domain is on and does not stop (R435, R436); the sequencer's always is. -/
def engineOn (s : State) (n : Nat) : Bool := n = 8 || (s.domOn (117 + n) && !s.power.moving.contains (117 + n, false))

/-- The engine may execute a bundle. -/
def eRuns (s : State) (n : Nat) : Bool :=
  let e := s.engineAt n
  !s.dead && !e.failed && s.engineOn n && decide (e.run = .running ∨ e.run = .stalled) && !s.eEvent n

/-- A bundle whose moves deliver the given values to the given ports (R358, R361). (DEDUCED, log entry 40) -/
def runMoves (io : Io) (s : State) (n : Nat) (ms : List (Nat × Word)) : State :=
  let s1 := (ms.filter (fun m => (portUnit m.1).isNone)).foldl (fun (s : State) m => s.writePort n m.1 m.2) s
  let s2 := s1.updEngine n (fun e => { e with
    alu0q := pipeStep 1 0 e.alu0q, alu1q := pipeStep 1 0 e.alu1q, mulq := pipeStep 2 0 e.mulq, lsuq := pipeStep 3 (.word 0) e.lsuq,
    chpq := pipeStep 3 [] e.chpq, chps := pipeStep 3 0 e.chps })
  match triggers io n (ms.filter (fun m => (portUnit m.1).isSome)) (s2, Ctl.none) with
  | .ok y =>
    let s3 := y.1.updEngine n (fun e => bundleEnd e y.2)
    let s4 := s3.rinc (Reg.CEN_BUNDLES n)
    let s5 := if (s.engineAt n).loop.active && (s.engineAt n).loop.buffed then s4.rinc (Reg.CEN_LBUF n) else s4
    if y.2.halt then s5.rsetBit (Reg.CEN_CTRL n) 0 false else s5
  | .fault f => s.eFault n f
  | .stall d => s.eStall n d

/-- A bundle of one move that writes `v` to port `p` of engine `n`. -/
def oneMove (io : Io) (s : State) (n p : Nat) (v : Word) : State :=
  if s.eRuns n then runMoves io (s.drainOne n) n [(p, v)] else s

/-- The bundle at an engine's program counter; the sequencer's boot ROM lies at bundles 0 to 4,095 (R373, R375). -/
def fetchBundle (s : State) (n : Nat) : Word :=
  let e := s.engineAt n
  if n = 8 ∧ e.pc < 4096 then Config.romWord e.pc else smGet e.iram e.pc 0

/-- A guard on the P registers as they stand (Table 12.1). -/
def guardHolds (e : Engine) (g : Nat) : Bool :=
  match g with
  | 0 => true
  | 1 => e.p1
  | 2 => e.p2
  | 3 => e.p3
  | 5 => !e.p1
  | 6 => !e.p2
  | _ => !e.p3

/-- A move of the bundle reads the result of a load that is still to be answered (R361). -/
def readsLoad (e : Engine) (ms : List Move) : Bool :=
  ms.any (fun m => guardHolds e m.guard && m.imm.isNone && decide (m.src = 0x200)) && (match loadResult e with
    | .load _ => true
    | .word _ => false)

/-- The values that the moves of a bundle deliver, all read before any write (R357, R358). -/
def readMoves (n : Nat) : List Move → State → List (Nat × Word) × State
  | [], s => ([], s)
  | m :: ms, s =>
    if !guardHolds (s.engineAt n) m.guard then readMoves n ms s
    else
      let r : Word × State := match m.imm with
        | some v => (w64 v, s)
        | none => s.readPort n m.src
      let rest := readMoves n ms r.2
      ((m.dst, w64 (r.1.toNat % 256 ^ 2 ^ m.size)) :: rest.1, rest.2)

/-- An engine executes its next bundle (R356, R358). -/
def runBundle (io : Io) (s : State) (n : Nat) : State :=
  if !s.eRuns n then s
  else
    let r := (s.drainOne n).takeLoads n
    match bundleOf (r.fetchBundle n) with
    | none => r.eFault n ⟨0, (r.engineAt n).pc, none, false⟩
    | some ms =>
      if readsLoad (r.engineAt n) ms then r.eStall n .idle
      else
        let v := readMoves n ms r
        let t := runMoves io v.2 n v.1
        if (t.engineAt n).run = .stalled ∨ ((t.engineAt n).fault.isSome ∧ (t.engineAt n).pc = (r.engineAt n).pc) then
          t.updEngine n (fun e => { e with evq := (r.engineAt n).evq })
        else t

/-- The engine starts at `CEN_ENTRY`. -/
def eStart (s : State) (n : Nat) : State :=
  if (s.engineAt n).failed then s
  else
    (s.updEngine n (fun e => { applyCode e with
      run := .running, pc := s.rfld (Reg.CEN_ENTRY n) 12 0, loop := Reset.loop, loopSh := none, fault := none
      wdogT := s.clock })).rsetBit (Reg.CEN_CTRL n) 0 true

/-- A master reset of the owner aborts an open transaction (R503). -/
def abortOf (s : State) (m : Nat) : State :=
  if s.cfg.owner = m ∧ (s.cfg.txn = .copying ∨ s.cfg.txn = .opened) then
    { s with cfg := { s.cfg with txn := .idle, shadow := [], owner := 0, loads := [] },
             code := s.cfg.loads.foldl (fun c l => c.filter (fun e => !(decide (l.first ≤ e.1 ∧ e.1 < l.first + l.count)))) s.code }
  else s

/-- An engine reset (R374); `quiet` where Table 12.6 gives another class than C0. -/
def engineReset (s : State) (n : Nat) (quiet : Bool) : State :=
  let m := engineMaster n
  let s1 := (drainAll 9 s n).updEngine n applyCode
  let s2 := s1.rewind (fun p => decide (p.owner = .engine n))
  let s3 := (s2.chans.filter (fun c => c.live && decide (c.ckind = ckEngine ∧ c.cunit = n))).foldl (fun s c => s.dropPartly c) s2
  let s4 := (s3.masterReset m).abortOf m
  let s5 := { s4 with jobs := s4.jobs.map (fun (j : Job) => if j.master = m then { j with quiet := true } else j) }
  let d := s5.drawWord
  let lost (r : RemAcc) : Bool := !r.store && decide (r.engine = some n)
  let s6 := { d.2 with fab.remote := d.2.fab.remote.filter (fun r => !lost r) }.updEngine n (fun e => { e with
    loads := [], lsuq := e.lsuq.map (fun (q : LoadRes) => q.settled d.1)
    evq := [], p1 := false, p2 := false, p3 := false, w := [], run := .halted, fault := none, loop := Reset.loop, loopSh := none })
  let s7 := ((s6.rset (Reg.CEN_EVMASK n) 0).rinc (Reg.CEN_RESETS n)).rsetFld (Reg.CEN_CTRL n) 1 0 0
  let s8 := if quiet then s7 else s7.event (engineSrc n) 0 0x80 0
  if s8.rbit (Reg.CEN_CTRL n) 2 then s8.eStart n else s8

/-- A register of an engine that the host function and the sequencer write (R375, R383). -/
def cenMaster (n m : Nat) : Bool := decide (m = 0x18 ∨ (m = 0x19 ∧ n ≠ 8))

/-- A write to `CEN_CTRL` (Table 12.13). -/
def cenCtrl (s : State) (m n : Nat) (v : Word) : State :=
  if !cenMaster n m then s
  else
    let s1 := s.rsetBit (Reg.CEN_CTRL n) 2 (bit v 2)
    if bit v 1 then s1.engineReset n false
    else if bit v 0 then (if (s1.engineAt n).run = .halted then s1.eStart n else s1)
    else (s1.updEngine n (fun e => { e with run := .halted })).rsetBit (Reg.CEN_CTRL n) 0 false

/-- A fault or an enabled event is taken between bundles (R371, R372). -/
def eventTake (s : State) (n : Nat) : State :=
  let e := s.engineAt n
  let go (c : Nat) (s : State) : State :=
    ((s.rset (Reg.CEN_EPC n) (w64 e.pc)).rset (Reg.CEN_CAUSE n) (w64 c)).updEngine n (fun e => { e with
      ie := false, run := .running, fault := none, loopSh := some e.loop, loop := Reset.loop
      pend := e.pend &&& (0xFFFFFFFF ^^^ 2 ^ c), pc := (s.rfld (Reg.CEN_EVBASE n) 12 7 * 128 + c * 4) % 8192 })
  if s.dead || e.failed || decide (e.run = .halted) || !s.engineOn n then s
  else
    match e.fault with
    | some (c, _) =>
      if e.ie then go c s
      else (s.rsetBit (Reg.CEN_STATUS n) 6 true).engineReset n false
    | none =>
      let p := s.eUnmasked n
      if p = 0 then s
      else if e.ie then go (((List.range 32).find? (fun i => p.testBit i)).getD 0) s
      else if e.run = .waiting then s.updEngine n (fun e => { e with run := .running })
      else s

/-- The engine watchdog (R374). (DESIGN CHOICE, log entry 91) -/
def engineWatchdog (s : State) (n : Nat) : State :=
  let t := s.rfld (Reg.CEN_WDOG n) 31 0
  let e := s.engineAt n
  if t ≠ 0 ∧ e.run ≠ .halted ∧ e.wdogT + t * 1000 ≤ s.clock then (s.rsetBit (Reg.CEN_STATUS n) 7 true).engineReset n false else s

/-- The timer event (Table 12.5). -/
def engineTimer (s : State) (n : Nat) : State :=
  let t := (s.rget (Reg.CEN_TIMER n)).toNat
  if t ≠ 0 ∧ t ≤ s.now ∧ (s.engineAt n).timed ≠ t then (s.raiseEvent n 13).updEngine n (fun e => { e with timed := t }) else s

/-- Doorbell bits set (Table 12.12). -/
def doorbell (s : State) (n : Nat) (v : Word) : State :=
  let x := v &&& 0xFFFFFFFF
  s.rset (Reg.CEN_DOORBELL n) (s.rget (Reg.CEN_DOORBELL n) ||| x)

/-- The masters from which an engine's other registers take writes (R383). -/
def cenOther (n m : Nat) : Bool := decide (m = 0x18 ∨ m = 0x19 ∨ m = 0x10 + n)

/-- `CEN_RAMADDR` advances by one word. -/
def ramNext (s : State) (n : Nat) : State :=
  s.rsetFld (Reg.CEN_RAMADDR n) 16 3 (s.rfld (Reg.CEN_RAMADDR n) 16 3 + 1)

/-- A read of `CEN_RAMDATA` (R384). -/
def ramRead (s : State) (n : Nat) : Word × State :=
  let e := s.engineAt n
  let i := s.rfld (Reg.CEN_RAMADDR n) 15 3
  if e.run ≠ .halted then (0, s.rsetBit (Reg.CEN_STATUS n) 5 true)
  else
    (if s.rbit (Reg.CEN_RAMADDR n) 16 then smGet e.iram i 0 else w64 (bytesToNat (smBytes e.dram 0 (i * 8) 8)), s.ramNext n)

/-- A write of `CEN_RAMDATA` (R376, R384). -/
def ramWrite (s : State) (m n : Nat) (v : Word) : State :=
  if !cenMaster n m then s
  else
    let code := s.rbit (Reg.CEN_RAMADDR n) 16
    let i := s.rfld (Reg.CEN_RAMADDR n) 15 3
    if (s.engineAt n).run ≠ .halted ∨ (code ∧ s.locked ∧ m ≠ 0x18) then s.rsetBit (Reg.CEN_STATUS n) 5 true
    else
      (s.updEngine n (fun e =>
        if code then { e with iram := smPut e.iram i 0 v } else { e with dram := smPutBytes e.dram 0 (i * 8) (natToBytes 8 v.toNat) })).ramNext n

/-- The engine becomes FAILED and halted (Table 12.6). -/
def engineFailed (s : State) (n : Nat) : State :=
  ((s.updEngine n (fun e => { e with run := .halted, failed := true })).rsetBit (Reg.CEN_STATUS n) 9 true).rsetBit (Reg.CEN_CTRL n) 0 false

/-- An error in an engine's memory (Table 12.6): `kind` 0 instruction RAM, 1 data RAM, registers, store buffer or
code-write queue, 2 event queue; `i` is the word.  An uncorrectable one of the recovery sequencer is C4, and
none of its errors is collected while a recovery is open (Table 15.2, R460). -/
def engineRamError (s : State) (n kind i : Nat) (e : Codeword) : State :=
  let r := Report.plain 0 (engineSrc n) 1 kind (eccDetail e)
  if n = 8 ∧ !s.recOpen.isEmpty then s
  else match d144Check e with
  | .clean => s
  | .corrected _ _ => ((s.rinc (Reg.CEN_ECC_CE n)).rset (Reg.CEN_ECC_LAST n) r.word).report r none
  | .uncorrectable =>
    let s0 := s.rset (Reg.CEN_ECC_LAST n) r.word
    if n = 8 then s0.report { r with cls := 4 } none
    else if kind = 0 then
      let q := s0.noteError 5 n i 1000000000
      if q.1 then q.2.engineFailed n |>.degrade (engineSrc n) 9 0 4
      else q.2.report { r with cls := 1 } (some (q.2.newJob 1 1 r.src n i []))
    else if kind = 1 then ((s0.engineReset n true).engineFailed n).degrade (engineSrc n) 9 0 4
    else ((s0.updEngine n (fun x => { x with evq := [] })).rsetBit (Reg.CEN_STATUS n) 8 true).report r none

end State

end Sys2Proof.Machine
end

