-- ==== Sys2Proof/Machine/Recovery.lean ====
section
/-! DEFINITION. Detection in PEs and tile structures, and the recoveries: retry, substitution, wafer replay with its
journal, and tile retirement; the watchdogs and ALIVE (R452 to R479). -/

namespace Sys2Proof.Machine

namespace State

/-- The report of an error in a firing. -/
def firingReport (f : Firing) (cls src kind loc detail : Nat) : Report :=
  ⟨cls, src, kind, loc, detail, true, f.tag, some f.wafer⟩

/-- A checker mismatch in a firing (R452, R453, R467, R468): retried, then its PE substituted, or the tile retired where
no spare is left.  `unit` as Table 15.4. -/
def checkerError (s : State) (n unit : Nat) : State :=
  match s.firing? n with
  | none => s
  | some f =>
    if f.stage = .ready then s
    else
      let src := srcTile f.tile 0
      let r := firingReport f (if f.attempt = 0 then 1 else if s.rfld (Reg.TIL_SPARE f.tile) 4 0 = 0x1F then 3 else 2) src 3
        f.pe ((if f.attempt = 0 then 256 else 512) + unit)
      let s1 := s.lastErr (Reg.PEX_LAST_ERR f.tile f.pe) r
      let first := ((s.retryOf f.id).map (·.time)).getD s.clock
      if r.cls = 1 then
        (((s1.report r none).openRecovery { s.newJob 1 1 src f.tile f.pe [] with fid := some f.id }).retryFiring f).updFiring f.id
          (fun x => { x with attempt := 1 })
      else if r.cls = 3 then
        (s1.retryGone f.id).report r (some { s.newJob 6 3 src f.tile 0 s.activeSlots with time := first })
      else (s1.retryGone f.id).report r (some { s.newJob 2 2 src f.tile f.pe [] with time := first })

/-- Committed stores and events of a PE drain in their usual order (R468): events that others wait for go first (R277). -/
def drainPe : Nat → State → Nat → Nat → State
  | 0, s, _, _ => s
  | k + 1, s, t, p =>
    if s.storeBuf.any (fun b => decide (b.tile = t ∧ b.pe = p)) then drainPe k (s.drainStore t p) t p
    else if s.eventBuf.any (fun b => decide (b.tile = t ∧ b.pe = p)) then
      match s.eventBuf.foldl (fun (acc : Option EbEntry) e => match acc with
        | none => some e
        | some x => if e.seq < x.seq then some e else some x) none with
      | none => s
      | some e =>
        if s.storeBuf.any (fun b => decide (b.tile = e.tile ∧ b.pe = e.pe)) then drainPe k (s.drainStore e.tile e.pe) t p
        else drainPe k (s.drainEvent e.tile e.pe) t p
    else s

/-- PE substitution (R468). -/
def substitute (s : State) (t p : Nat) : State :=
  match s.curJob 2 t p with
  | none => s
  | some j =>
    if s.rfld (Reg.TIL_SPARE t) 4 0 = 0x1F then
      let s1 := s.endJob j
      s1.report (Report.plain 3 (srcTile t 0) 9 p 2) (some { s1.newJob 6 3 (srcTile t 0) t 0 s1.activeSlots with time := j.time })
    else
      let mine (f : Firing) : Bool := decide (f.tile = t ∧ f.pe = p ∧ f.stage ≠ .ready)
      let fs := s.firings.filter mine
      let s1 := fs.foldl (fun s f => s.unstage f) s
      let s2 := drainPe (s1.storeBuf.length + s1.eventBuf.length + 1) s1 t p
      let s3 := { s2 with firings := fs.map (fun f => { unstaged f with stage := .ready, attempt := 0 }) ++
                                     s2.firings.filter (fun f => !mine f) }
      let s4 := ((s3.rmax (Reg.TIL_READYQ_MAX t) (s3.readyCount t)).spareIn t p).endJob j
      if fs.isEmpty then s4 else { s4 with recWait := s4.recWait ++ [⟨j, fs.map (·.id)⟩] }

/-- Something with the incarnation that the slot would take next still exists (R469). -/
def incWaits (s : State) (k : Nat) : Bool :=
  let v := ((s.slotAt k).inc + 1) % 16
  s.mst.any (fun e => decide (keySlot e.key = k ∧ e.inc = v)) || s.delays.any (fun d => decide (d.slot = k ∧ d.inc = v)) ||
    s.deferred.any (fun d => decide (tagSlot d.tag = k ∧ d.inc = v))

/-- The committed sends that belong to an open packet of an activation, its closing one included, leave the event buffers:
the packet that they would have joined has vanished (R332). -/
def dropPacketTail (h act : Nat) : List EbEntry → List EbEntry
  | [] => []
  | b :: rest => match b.ev with
    | .chSend k _ close _ =>
      if k = h ∧ b.act = act then (if close then rest else dropPacketTail h act rest) else b :: dropPacketTail h act rest
    | _ => b :: dropPacketTail h act rest

/-- Steps 1 and 2 of a replay of the wafer in slot `k` (R470, R471, R477); the slot's matching-store entries leave with
the purge walks (R105). (DEDUCED, log entry 64) -/
def replaySlot (s : State) (k : Nat) : State :=
  let x := s.slotAt k
  if x.state ≠ 1 ∧ x.state ≠ 3 then s
  else if 7 ≤ x.replays then (s.collect { Report.plain 4 0x030 0x11 0 2 with wafer := some x.wafer }).graveReaction
  else
    let inc := (x.inc + 1) % 16
    let s1 := s.updSlot k (fun y => { y with
      state := 3, inc := inc, replays := y.replays + 1, flags := 0, nd := false, quar := false, crumbs := [], dropped := 0,
      restore := true, rsclosed := false, flows := [] })
    let s2 := s1.decision 0x11 inc k 0 (w64 x.wafer)
    let ids := (s2.acts.filter (fun a => decide (a.slot = k ∧ a.inc = x.inc))).map (·.id)
    let s3 := (s2.firings.filter (fun f => decide (f.slot = k ∧ f.inc = x.inc))).foldl (fun s f => s.dropFiring f)
      (s2.lockReplay k (fun c => ids.contains c))
    let s4 := s3.rewind (fun p => match p.owner with
      | .graph a _ i => ids.contains a && decide (i = x.inc)
      | _ => false)
    let s5 := { s4 with
      net := s4.net.filter (fun t => decide (tagSlot t.tag ≠ k))
      mfetch := s4.mfetch.filter (fun m => decide (tagSlot m.tok.tag ≠ k))
      delays := s4.delays.filter (fun d => decide (d.slot ≠ k))
      deferred := s4.deferred.filter (fun d => decide (tagSlot d.tag ≠ k))
      startReqs := s4.startReqs.filter (fun r => decide (r.slot ≠ k))
      flowQ := s4.flowQ.filter (fun r => decide (r.slot ≠ k))
      staged := s4.staged.filter (fun w => !decide (w.slot = k ∧ w.wafer = x.wafer ∧ w.inc = x.inc) || w.due)
      acts := s4.acts.map (fun (a : Act) => if a.slot = k ∧ a.inc = x.inc ∧ a.state = ActState.live then { a with state := ActState.ending } else a)
      eventBuf := s3.openPkts.foldl (fun (es : List EbEntry) (p : OpenPkt) => match p.owner with
        | .graph a _ i => if ids.contains a && decide (i = x.inc) then dropPacketTail p.handle a es else es
        | _ => es) s4.eventBuf }
    s5

/-- The running recovery with other slots. -/
def setCur (s : State) (j j' : RecJob) : State :=
  { s with recCur := some j', recOpen := s.recOpen.erase j ++ [j'] }

/-- WAFER_REPLAY of one slot that the running recovery names; the last one completes it (R470, Table 15.7). -/
def waferReplay (s : State) (k : Nat) : State :=
  match s.recCur with
  | none => s
  | some j =>
    if j.mech ≠ 5 ∨ !j.slots.contains k ∨ s.incWaits k then s
    else
      let s1 := s.replaySlot k
      if s1.dead then s1
      else
        let j' := { j with slots := j.slots.filter (fun x => decide (x ≠ k)) }
        let s2 := s1.setCur j j'
        if j'.slots.isEmpty then s2.endJob j' else s2

/-- Steps 3 and 4 of a replay: the journal is written back newest first, or the replay is UNSAFE; withheld locks and the
wafer's roots follow (R470, R473). -/
def journalRestore (s : State) (k : Nat) : State :=
  let x := s.slotAt k
  if !x.restore ∨ x.state ≠ 3 ∨ s.storeBuf.any (fun b => decide (b.slot = k ∧ b.wafer = x.wafer ∧ b.inc ≠ x.inc)) then s
  else
    let s1 :=
      if x.nojrnl then
        (s.rsetBit Reg.FCL_STATUS 1 true).collect ⟨0, 0x380, 0x0A, k, 16 + x.inc, false, 0, some x.wafer⟩
      else x.journal.reverse.foldl (fun (s : State) e => s.memWrite none e.addr e.bytes) s
    (((s1.updSlot k (fun y => { y with journal := [], nojrnl := false, restore := false })).lockUnhold k).placeRoots k).settle

/-- A tile is retired (R475); its store, table, reserve and filter are discarded, and its MST counters read 0 (R105). -/
def retireTile (s : State) (t : Nat) : State :=
  match s.curJob 6 t 0 with
  | none => s
  | some j =>
    if s.activeSlots.any s.incWaits then s
    else
      let s1 := (List.range 17).foldl (fun (s : State) p => drainPe (s.storeBuf.length + s.eventBuf.length + 1) s t p) s
      let s2 := s1.activeSlots.foldl replaySlot s1
      let s3 := [Reg.MST_OCC_MAX t, Reg.MST_SPILLS t, Reg.MST_FETCHES t, Reg.MST_FILTER_FP t, Reg.MST_CONFLICT t,
        Reg.MST_OLDEST_CNT t, Reg.MST_DL_COUNT t, Reg.MST_ECC_CE t].foldl (fun (s : State) a => s.rset a 0)
        { s2 with mst := s2.mst.filter (fun e => decide (e.tile ≠ t))
                  filt := s2.filt.filter (fun x => decide (x.1 / 262144 ≠ t))
                  spillOvf := s2.spillOvf.filter (fun x => decide (x / 65536 ≠ t)) }
      let s4 := (s3.rsetFld (Reg.TIL_STATUS t) 9 8 2).updTile t (fun x => { x with
        spilling := false, oldest := false, reload := false, throttle := false })
      let s5 := s4.endJob j
      if (List.range 16).all (fun u => decide (2 ≤ s5.tileState u)) then s5.grave 0x030 9 t 2 else s5

/-- The recovery sequencer takes the oldest entry of the recovery queue (R458).  Entries that need no more work of it
complete at once; a rewrite of an instruction word of an engine is done here (Table 12.6). -/
def recDispatch (s : State) : State :=
  match s.recCur, s.recQ with
  | none, j :: rest =>
    let s1 := { s with recCur := some j, recQ := rest }
    if j.mech = 0 then s1.endJob j
    else if j.mech = 1 then
      (s1.updEngine j.a (fun e => { e with iram := smPut e.iram j.b 0 (smGet e.image j.b 0) })).endJob j
    else if j.mech = 3 then s1.ucsReadBack j.a j.b
    else if (j.mech = 5 ∧ j.slots.all (fun k => let st := (s.slotAt k).state; decide (st ≠ 1 ∧ st ≠ 3))) then s1.endJob j
    else s1
  | _, _ => s

/-- Slots with state on a tile. -/
def slotsOn (s : State) (t : Nat) : List Nat :=
  s.activeSlots.filter (fun k => s.firings.any (fun f => decide (f.tile = t ∧ f.slot = k)) ||
    s.net.any (fun x => decide (x.dtile = t ∧ tagSlot x.tag = k)) || s.mst.any (fun e => decide (e.tile = t ∧ keySlot e.key = k)))

/-- An error in a tile structure (Table 15.2): `kind` 0 a firing's replay shadow, 1 and 2 the store and event buffers,
3 ready queue, 4 port-mask cache, 5 ingress and egress buffers, 6 router; `i` is the firing, entry or index. -/
def tileError (s : State) (t kind i : Nat) (e : Codeword) : State :=
  let sub := if kind = 0 then 6 else if kind ≤ 2 then 7 else if kind ≤ 4 then 1 else 5
  let r := Report.plain 0 (srcTile t sub) 1 0 (eccDetail e)
  match d144Check e with
  | .clean => s
  | .corrected _ _ => s.report r none
  | .uncorrectable =>
    if kind = 0 then
      (match s.firing? i with
       | some f => if f.tile = t then s.askReplay { r with hasTag := true, tagw := f.tag, wafer := some f.wafer } [f.slot] else s
       | none => s)
    else if kind = 1 then
      (match (s.storeBuf.filter (fun b => decide (b.tile = t)))[i]? with
       | some b => { s with storeBuf := s.storeBuf.erase b }.askReplay { r with wafer := some b.wafer } [b.slot]
       | none => s)
    else if kind = 2 then
      (match (s.eventBuf.filter (fun b => decide (b.tile = t)))[i]? with
       | some b => { s with eventBuf := s.eventBuf.erase b }.askReplay { r with wafer := some b.wafer } [b.slot]
       | none => s)
    else
      let m := s.noteError 6 t (kind * 2 ^ 20 + i) 1000000000
      if m.1 then m.2.report { r with cls := 3 } (some (m.2.newJob 6 3 r.src t 0 m.2.activeSlots))
      else m.2.askReplay r (m.2.slotsOn t)

/-- An error in the sequencer's memory (Table 15.2, R460): `kind` 0 its RAMs, 1 one vault bank, 2 the boot ROM, 3 both
vault banks. -/
def seqError (s : State) (kind : Nat) (e : Codeword) : State :=
  if !s.recOpen.isEmpty then s
  else
    let sub := if kind = 0 then 0 else if kind = 2 then 2 else 1
    let r := Report.plain 0 (0x380 + sub) 1 0 (eccDetail e)
    match d144Check e with
    | .clean => s
    | .corrected _ _ => ((s.rinc (Reg.CEN_ECC_CE 8)).rset (Reg.CEN_ECC_LAST 8) r.word).report r none
    | .uncorrectable =>
      let s1 := s.rset (Reg.CEN_ECC_LAST 8) r.word
      if kind = 1 then { s1.retried { r with cls := 1 } with ucsMaster := s1.ucsSecond } else s1.report { r with cls := 4 } none

/-- The recovery watchdog (R479). (DESIGN CHOICE, log entry 91) -/
def recWatchdog (s : State) : State :=
  if s.recOpen.any (fun j => decide (j.time + 50000 ≤ s.clock)) then s.grave 0x031 8 0 1 else s

/-- The sequencer watchdog (R463). -/
def seqWatchdog (s : State) : State :=
  if s.pins.aliveEn && decide (s.pins.kickT + clampNat 100 1000000 (s.rfld Reg.FCL_SEQ_WDOG 19 0) * 1000 ≤ s.clock) then
    s.grave 0x032 8 0 2
  else s

/-- An ALIVE toggle (R461); a reset is in progress until boot is READY (R489). -/
def aliveToggle (s : State) : State :=
  if s.pins.aliveEn && decide (s.rfld Reg.BOOT_STATUS 63 60 = 5) && decide (s.pins.aliveT + 50000 ≤ s.clock) then
    { s with pins.alive := !s.pins.alive, pins.aliveT := s.clock, pins.aliveSeen := true }
  else s

/-- A write to `FCL_CTRL` (R461, R463). -/
def fclCtrl (s : State) (v : Word) : State :=
  if bit v 0 && !s.rbit Reg.FCL_CTRL 0 then
    { s.rsetBit Reg.FCL_CTRL 0 true with pins.aliveEn := true, pins.aliveT := s.clock, pins.kickT := s.clock }
  else s

/-- A write to `FCL_CLEAR` (R455). -/
def fclClear (s : State) (v : Word) : State :=
  (List.range 4).foldl (fun (s : State) c =>
    if bit v c then
      ((((s.rset (Reg.FCL_FIRST c) 0).rset (Reg.FCL_FIRST_WAFER c) 0).rset (Reg.FCL_FIRST_TAG c) 0).rset
        (Reg.FCL_FIRST_TIME c) 0).rsetBit Reg.FCL_OVF c false
    else s) s

end State

/-- A report of any unit (R451, R454 to R458); where the report asks the sequencer for a recovery, its own command gives it. -/
def execFaultReport (c src kind loc detail : Nat) (tagged : Bool) (tag : Word) (wafered : Bool) (wafer : Nat) (s : State) : Out :=
  .next (s.report ⟨c, src, kind, loc, detail, tagged, tag, if wafered then some wafer else none⟩
    (if c = 2 ∨ c = 3 then some (s.newJob 0 c src 0 0 []) else none))
def execPeCheckerError (f unit : Nat) (s : State) : Out := .next (s.onlyIf (!s.dead) (·.checkerError f unit))
def execRecoveryDispatch (s : State) : Out := .next (s.onlyIf (!s.dead) State.recDispatch)
def execPeSubstitution (t p : Nat) (s : State) : Out := .next (s.onlyIf (!s.dead) (·.substitute t p))
def execWaferReplay (k : Nat) (s : State) : Out := .next (s.onlyIf (!s.dead) (·.waferReplay k))
def execJournalRestore (k : Nat) (s : State) : Out := .next (s.onlyIf (!s.dead) (·.journalRestore k))
def execTileRetirement (t : Nat) (s : State) : Out := .next (s.onlyIf (!s.dead) (·.retireTile t))
def execTileStructureError (t kind i : Nat) (e : Codeword) (s : State) : Out := .next (s.onlyIf (!s.dead) (·.tileError t kind i e))
def execSequencerMemoryError (kind : Nat) (e : Codeword) (s : State) : Out := .next (s.onlyIf (!s.dead) (·.seqError kind e))
def execRecoveryWatchdogExpiry (s : State) : Out := .next (s.onlyIf (!s.dead) State.recWatchdog)
def execSequencerWatchdogExpiry (s : State) : Out := .next (s.onlyIf (!s.dead) State.seqWatchdog)
def execAliveToggle (s : State) : Out := .next (s.onlyIf (!s.dead) State.aliveToggle)
def execAliveEnable (m : Nat) (v : Word) (s : State) : Out := .next (s.onlyIf (s.mayWrite m) (·.fclCtrl (setBit v 0 true)))
def execFclClear (m : Nat) (v : Word) (s : State) : Out := .next (s.onlyIf (s.mayWrite m) (·.fclClear v))
def execFclLogPop (m : Nat) (v : Word) (s : State) : Out :=
  .next (s.onlyIf (s.mayWrite m && bit v 0) (fun s => { s with fclLog := s.fclLog.drop 1 }))
def execFclSeqKick (m : Nat) (v : Word) (s : State) : Out :=
  .next (s.onlyIf (s.mayWrite m && bit v 0) (fun s => { s with pins.kickT := s.clock }))

end Sys2Proof.Machine
end

