-- ==== Sys2Proof/Machine/Deflate.lean ====
section
/-! DEFINITION. The streams of the transforms: RFC 1951 inflation, the compressor's choice, and Fondant blocks
(R379, R380). -/

namespace Sys2Proof.Machine

/-- The bits of bytes, least significant first (RFC 1951, 3.1.1). -/
def bitsOfBytes (bs : List Byte) : List Bool := (bs.map (fun b => (List.range 8).map (fun i => b.getLsbD i))).flatten

/-- The first `n` bits as a number, least significant first, and the rest. -/
def takeBits : Nat → List Bool → Option (Nat × List Bool)
  | 0, bs => some (0, bs)
  | _ + 1, [] => none
  | n + 1, b :: bs => (takeBits n bs).map (fun r => (b2n b + 2 * r.1, r.2))

/-- A Huffman code: how many codes have each length from 1 to 15, and the symbols in code order (RFC 1951, 3.2.2). -/
structure Huff where
  counts : List Nat
  syms   : List Nat
  deriving DecidableEq, Repr

def huffOf (lens : List Nat) : Huff :=
  let at_ (l : Nat) : List Nat := (List.range lens.length).filter (fun i => decide (nth lens i 0 = l))
  ⟨(List.range 15).map (fun i => (at_ (i + 1)).length), ((List.range 15).map (fun i => at_ (i + 1))).flatten⟩

/-- The lengths form a code: complete, or empty, or one code of one bit. -/
def huffOk (lens : List Nat) : Bool :=
  let h := huffOf lens
  let sum := (List.range 15).foldl (fun a i => a + nth h.counts i 0 * 2 ^ (14 - i)) 0
  decide (sum = 2 ^ 15 ∨ h.syms = [] ∨ (h.syms.length = 1 ∧ nth h.counts 0 0 = 1))

/-- One symbol decoded: `code`, `first` and `index` follow the canonical code length by length. -/
def huffGo (h : Huff) : List Nat → Nat → Nat → Nat → List Bool → Option (Nat × List Bool)
  | [], _, _, _, _ => none
  | _, _, _, _, [] => none
  | c :: cs, code, first, index, b :: bs =>
    let x := code + b2n b
    if x < first + c then (h.syms[index + (x - first)]?).map (fun y => (y, bs))
    else huffGo h cs (2 * x) (2 * (first + c)) (index + c) bs

def huffRead (h : Huff) (bs : List Bool) : Option (Nat × List Bool) := huffGo h h.counts 0 0 0 bs

/-- Base and extra bits of a length symbol from 257 to 285. -/
def lenBase (y : Nat) : Nat × Nat :=
  let k := y - 257
  if k < 8 then (k + 3, 0) else if k = 28 then (258, 0)
  else let e := (k - 4) / 4; ((4 + k % 4) * 2 ^ e + 3, e)

/-- Base and extra bits of a distance symbol from 0 to 29. -/
def distBase (y : Nat) : Nat × Nat := if y < 4 then (y + 1, 0) else let e := (y - 2) / 2; ((2 + y % 2) * 2 ^ e + 1, e)

/-- `n` bytes copied from `d` back; `out` is newest first. -/
def copyBack : Nat → Nat → List Byte → List Byte
  | 0, _, out => out
  | n + 1, d, out => copyBack n d (nth out (d - 1) 0 :: out)

/-- The result of a piece of inflation: the output newest first, and the bits that remain, none on invalid input. -/
abbrev InfRes := List Byte × Option (List Bool)

/-- A match of length symbol `y`. -/
def inflateMatch (dist : Huff) (y : Nat) (bs : List Bool) (out : List Byte) : InfRes :=
  match takeBits (lenBase y).2 bs with
  | none => (out, none)
  | some (x, bs1) =>
    match huffRead dist bs1 with
    | none => (out, none)
    | some (z, bs2) =>
      match takeBits (distBase z).2 bs2 with
      | none => (out, none)
      | some (w, bs3) =>
        let d := (distBase z).1 + w
        if 29 < z ∨ out.length < d then (out, none) else (copyBack ((lenBase y).1 + x) d out, some bs3)

/-- The symbols of a block up to its end. -/
def inflateSyms (lit dist : Huff) : Nat → List Bool → List Byte → InfRes
  | 0, _, out => (out, none)
  | k + 1, bs, out =>
    match huffRead lit bs with
    | none => (out, none)
    | some (y, bs1) =>
      if y < 256 then inflateSyms lit dist k bs1 (BitVec.ofNat 8 y :: out)
      else if y = 256 then (out, some bs1)
      else if 285 < y then (out, none)
      else
        match inflateMatch dist y bs1 out with
        | (out1, some bs2) => inflateSyms lit dist k bs2 out1
        | r => r

/-- The fixed code (RFC 1951, 3.2.6). -/
def fixedLens : List Nat :=
  List.replicate 144 8 ++ List.replicate 112 9 ++ List.replicate 24 7 ++ List.replicate 8 8

/-- Order of the code-length code (RFC 1951, 3.2.7). -/
def clOrder : List Nat := [16, 17, 18, 0, 8, 7, 9, 6, 10, 5, 11, 4, 12, 3, 13, 2, 14, 1, 15]

/-- `n` code-length code lengths of three bits. -/
def takeClens : Nat → List Bool → Option (List Nat × List Bool)
  | 0, bs => some ([], bs)
  | n + 1, bs => (takeBits 3 bs).bind (fun x => (takeClens n x.2).map (fun r => (x.1 :: r.1, r.2)))

/-- Code lengths up to `total` of them, newest first in `acc`. -/
def takeLens (cl : Huff) (total : Nat) : Nat → List Bool → List Nat → Option (List Nat × List Bool)
  | 0, _, _ => none
  | k + 1, bs, acc =>
    if total ≤ acc.length then (if acc.length = total then some (acc.reverse, bs) else none)
    else
      match huffRead cl bs with
      | none => none
      | some (y, bs1) =>
        if y < 16 then takeLens cl total k bs1 (y :: acc)
        else
          let e := if y = 16 then 2 else if y = 17 then 3 else 7
          match takeBits e bs1 with
          | none => none
          | some (n, bs2) =>
            if y = 16 then
              (match acc with
               | [] => none
               | p :: _ => takeLens cl total k bs2 (List.replicate (n + 3) p ++ acc))
            else takeLens cl total k bs2 (List.replicate (n + (if y = 17 then 3 else 11)) 0 ++ acc)

/-- The header of a dynamic block: the two codes. -/
def dynamicCodes (bs : List Bool) : Option (Huff × Huff × List Bool) :=
  (takeBits 14 bs).bind (fun h =>
    let hlit := h.1 % 32 + 257
    let hdist := h.1 / 32 % 32 + 1
    let hclen := h.1 / 1024 + 4
    if 286 < hlit then none
    else
      (takeClens hclen h.2).bind (fun c =>
        let lens := (List.range 19).map (fun i => nth c.1 (clOrder.idxOf i) 0)
        if !huffOk lens then none
        else
          (takeLens (huffOf lens) (hlit + hdist) (hlit + hdist + 1) c.2 []).bind (fun r =>
            let a := r.1.take hlit
            let b := r.1.drop hlit
            if huffOk a && huffOk b && decide (nth a 256 0 ≠ 0) then some (huffOf a, huffOf b, r.2) else none)))

/-- A stored block's bytes (RFC 1951, 3.2.4). -/
def takeBytes : Nat → List Bool → List Byte → InfRes
  | 0, bs, out => (out, some bs)
  | n + 1, bs, out =>
    match takeBits 8 bs with
    | none => (out, none)
    | some (x, bs1) => takeBytes n bs1 (BitVec.ofNat 8 x :: out)

/-- The blocks of a stream; `types` gives the block types that are allowed. -/
def inflateBlocks (types : Nat → Bool) : Nat → List Bool → List Byte → InfRes
  | 0, _, out => (out, none)
  | k + 1, bs, out =>
    match takeBits 3 bs with
    | none => (out, none)
    | some (h, bs1) =>
      let r : InfRes :=
        if !types (h / 2) then (out, none)
        else if h / 2 = 0 then
          let bs2 := bs1.drop (bs1.length % 8)
          (match takeBits 32 bs2 with
           | some (x, bs3) => if x % 65536 + x / 65536 = 65535 then takeBytes (x % 65536) bs3 out else (out, none)
           | none => (out, none))
        else if h / 2 = 1 then inflateSyms (huffOf fixedLens) (huffOf (List.replicate 30 5)) bs1.length bs1 out
        else if h / 2 = 2 then
          (match dynamicCodes bs1 with
           | some (a, b, bs2) => inflateSyms a b bs2.length bs2 out
           | none => (out, none))
        else (out, none)
      match r with
      | (out1, some bs2) => if h % 2 = 1 then (out1, some bs2) else inflateBlocks types k bs2 out1
      | r => r

/-- A raw RFC 1951 stream with blocks of the given types: the output as far as the stream is valid, and its validity. -/
def inflateTypes (types : Nat → Bool) (s : List Byte) : List Byte × Bool :=
  let bs := bitsOfBytes s
  let r := inflateBlocks types bs.length bs []
  (r.1.reverse, r.2.isSome)

/-- INFLATE (R379). -/
def inflate (s : List Byte) : List Byte × Bool := inflateTypes (fun _ => true) s

/-- A stream of stored blocks of at most 65,535 bytes. -/
def storedStream : Nat → List Byte → List Byte
  | 0, _ => []
  | k + 1, bs =>
    let n := min bs.length 65535
    BitVec.ofNat 8 (b2n (decide (k = 0))) :: natToBytes 2 n ++ natToBytes 2 (65535 - n) ++ bs.take 65535 ++
      storedStream k (bs.drop 65535)

/-- Bits as bytes, least significant first, the last byte filled with zeros. -/
def bytesOfBits : Nat → List Bool → List Byte
  | 0, _ => []
  | k + 1, bs => BitVec.ofNat 8 ((takeBits 8 (bs.take 8 ++ List.replicate 8 false)).map (·.1) |>.getD 0) :: bytesOfBits k (bs.drop 8)

/-- A Huffman code word, most significant bit first (RFC 1951, 3.1.1). -/
def codeBits (n code : Nat) : List Bool := (List.range n).map (fun i => code.testBit (n - 1 - i))

/-- A number of `n` bits, least significant first. -/
def numBits (n v : Nat) : List Bool := (List.range n).map (fun i => v.testBit i)

/-- One block of literals in the fixed code (RFC 1951, 3.2.6). -/
def fixedBlock (bs : List Byte) : List Bool :=
  numBits 3 3 ++ bs.flatMap (fun b => if b.toNat < 144 then codeBits 8 (0x30 + b.toNat) else codeBits 9 (0x190 + b.toNat - 144)) ++
    codeBits 7 0

/-- One block of literals in a dynamic code of 255 literals of 8 bits, the last literal and the end of 9 bits, and no
distances (RFC 1951, 3.2.7). -/
def dynamicBlock (bs : List Byte) : List Bool :=
  numBits 3 5 ++ numBits 14 (3 * 1024) ++ [0, 0, 0, 2, 1, 0, 2].flatMap (numBits 3) ++ List.replicate 255 false ++ codeBits 6 0x3E ++
    bs.flatMap (fun b => if b.toNat < 255 then codeBits 8 b.toNat else codeBits 9 510) ++ codeBits 9 511

/-- A stream of a level's block type that has no matches. -/
def plainStream (level : Nat) (bs : List Byte) : List Byte :=
  let pack (x : List Bool) : List Byte := bytesOfBits ((x.length + 7) / 8) x
  if level = 0 then storedStream ((bs.length - 1) / 65535 + 1) bs
  else if level = 1 then pack (fixedBlock bs) else pack (dynamicBlock bs)

/-- DEFLATE at a level (R379): the unit's choice where it is a valid stream for the input with the block type of the level
(Table 12.7); literals alone otherwise. (DESIGN CHOICE, log entry 46) -/
def deflate (level : Nat) (bs : List Byte) : List Byte :=
  let c := Config.deflateCandidate level bs
  if inflateTypes (fun t => decide (t = min level 2)) c = (bs, true) then c else plainStream level bs

/-- The 32-bit samples of bytes, little-endian. -/
def samplesOf : Nat → List Byte → List Nat
  | 0, _ => []
  | n + 1, bs => bytesToNat (bs.take 4) :: samplesOf n (bs.drop 4)

/-- z of a residual on 32 bits (R380). -/
def zigzag (d : Nat) : Nat := if d % 2 ^ 32 < 2 ^ 31 then 2 * (d % 2 ^ 32) else 2 ^ 33 - 1 - 2 * (d % 2 ^ 32)

/-- The residual of z. -/
def unzigzag (z : Nat) : Nat := if z % 2 = 0 then z / 2 else 2 ^ 32 - 1 - z / 2

/-- Residuals of the samples after `q` and `p`, the last two, `first` before the second sample of the block. -/
def residuals (order : Nat) : Bool → Nat → Nat → List Nat → List Nat
  | _, _, _, [] => []
  | first, q, p, x :: xs =>
    let guess := if order = 0 then 0 else if order = 1 ∨ first then p else 2 * p + (2 ^ 32 - q)
    (x + 2 ^ 34 - guess) % 2 ^ 32 :: residuals order false p x xs

/-- Samples from residuals. -/
def unresiduals (order : Nat) : Bool → Nat → Nat → List Nat → List Nat
  | _, _, _, [] => []
  | first, q, p, d :: ds =>
    let guess := if order = 0 then 0 else if order = 1 ∨ first then p else 2 * p + (2 ^ 32 - q)
    let x := (guess + d) % 2 ^ 32
    x :: unresiduals order false p x ds

/-- Groups of eight z values as bytes. -/
def fondantGroups : Nat → List Nat → List Byte
  | 0, _ => []
  | k + 1, zs =>
    let g := zs.take 8
    let top := g.foldl max 0
    let w := if top = 0 then 0 else top.log2 + 1
    BitVec.ofNat 8 w :: natToBytes w ((List.range 8).foldl (fun a i => a + nth g i 0 * 2 ^ (w * i)) 0) ++
      fondantGroups k (zs.drop 8)

/-- A Fondant block (R380). -/
def fondantBlock (order : Nat) (xs : List Nat) : List Byte :=
  let zs := (residuals order true 0 (nth xs 0 0) (xs.drop 1)).map zigzag
  [0x01, BitVec.ofNat 8 order] ++ natToBytes 2 xs.length ++ natToBytes 4 (nth xs 0 0) ++ fondantGroups ((zs.length + 7) / 8) zs

/-- Samples cut into blocks of 4,096. -/
def fondantBlocks (order : Nat) : Nat → List Nat → List Byte
  | 0, _ => []
  | k + 1, xs => fondantBlock order (xs.take 4096) ++ fondantBlocks order k (xs.drop 4096)

/-- FONDANT of a source whose length is a multiple of 4. -/
def fondant (order : Nat) (bs : List Byte) : List Byte :=
  let n := bs.length / 4
  fondantBlocks order ((n + 4095) / 4096) (samplesOf n bs)

/-- z values of `k` groups, none where the stream ends or a width is above 32. -/
def unfondantGroups : Nat → List Byte → Option (List Nat × List Byte)
  | 0, bs => some ([], bs)
  | _ + 1, [] => none
  | k + 1, b :: bs =>
    let w := b.toNat
    if 32 < w ∨ bs.length < w then none
    else
      let v := bytesToNat (bs.take w)
      (unfondantGroups k (bs.drop w)).map (fun r => ((List.range 8).map (fun i => v / 2 ^ (w * i) % 2 ^ w) ++ r.1, r.2))

/-- The blocks of a Fondant stream. -/
def unfondantGo : Nat → List Byte → List Byte → List Byte × Bool
  | 0, bs, out => (out, bs.isEmpty)
  | k + 1, bs, out =>
    if bs.isEmpty then (out, true)
    else
      let n := bytesToNat ((bs.drop 2).take 2)
      let order := (nth bs 1 0).toNat % 4
      if bs.length < 8 ∨ nth bs 0 0 ≠ 1 ∨ order = 3 ∨ n = 0 ∨ 4096 < n then (out, false)
      else
        let x0 := bytesToNat ((bs.drop 4).take 4)
        match unfondantGroups ((n - 1 + 7) / 8) (bs.drop 8) with
        | none => (out, false)
        | some (zs, rest) =>
          let xs := x0 :: unresiduals order true 0 x0 ((zs.take (n - 1)).map unzigzag)
          unfondantGo k rest (out ++ (xs.map (fun x => natToBytes 4 x)).flatten)

/-- UNFONDANT (R380): the samples as far as the stream is good, and whether it is. -/
def unfondant (bs : List Byte) : List Byte × Bool := unfondantGo (bs.length / 8 + 1) bs []

end Sys2Proof.Machine
end

