-- ==== Sys2Proof/Machine/Transforms.lean ====
section
/-! DEFINITION. The DEFLATE and Glaze engines: submissions, jobs and their results, errors, and the key slots
(R377 to R382, R385). -/

namespace Sys2Proof.Machine

/-- RSTAT codes (Table 12.7, Table 12.8). -/
abbrev jsOk : Nat := 0
abbrev jsDstFull : Nat := 1
abbrev jsBadInput : Nat := 2
abbrev jsAccErr : Nat := 3
abbrev jsBadDesc : Nat := 4
abbrev jsUnitFail : Nat := 5
abbrev jsAuthFail : Nat := 6
abbrev jsKeyDeny : Nat := 7

/-- How a job ends: its RSTAT, the bytes it writes with their address, and the count in RESULT. -/
structure JobEnd where
  rstat  : Nat
  writes : List (Nat × List Byte)
  count  : Nat
  deriving DecidableEq, Repr

namespace Job

/-- The job runs on a Glaze engine. -/
def glaze (j : Job) : Bool := decide (2 ≤ j.unit)

/-- Descriptor word at byte offset `o`. -/
def at_ (j : Job) (o : Nat) : Nat := (nth j.words (o / 8) 0).toNat

/-- The parts of memory that a descriptor names: address and length. -/
def src (j : Job) : Nat × Nat := (j.at_ 0x08, j.at_ 0x10)
def dst (j : Job) : Nat × Nat := (j.at_ 0x18, if j.glaze then j.at_ 0x10 else j.at_ 0x20)
def aad (j : Job) : Nat × Nat := (j.at_ 0x20, j.at_ 0x28)
def tag (j : Job) : Nat × Nat := (j.at_ 0x30, 16)

/-- Word 0's fields. -/
def order (j : Job) : Nat := natField (j.at_ 0) 18 16
def level (j : Job) : Nat := natField (j.at_ 0) 11 8
def keySlot (j : Job) : Nat := natField (j.at_ 0) 12 8
def dstSlot (j : Job) : Nat := natField (j.at_ 0) 20 16
def policy (j : Job) : Nat := natField (j.at_ 0) 26 24

/-- UNWRAP has no destination in memory. -/
def unwraps (j : Job) : Bool := j.glaze && decide (j.op = 3)

/-- RESULT's and COOKIE's offsets. -/
def resultAt (j : Job) : Nat := j.addr + (if j.glaze then 0x50 else 0x28)
def cookie (j : Job) : Nat := if j.glaze then j.at_ 0x38 else j.at_ 0x30

/-- The parts of memory that the job touches. -/
def parts (j : Job) : List (Nat × Nat) :=
  if !j.glaze then [j.src, j.dst]
  else [j.src, j.tag] ++ (if j.unwraps then [] else [j.dst]) ++ (if j.aad.2 = 0 then [] else [j.aad])

end Job

/-- An address range lies in one of R377's regions: SDRAM's range, the scratch window, or the private data RAM of an
engine. -/
def jobRegion (m a n : Nat) : Bool :=
  let within (lo len : Nat) : Bool := decide (lo ≤ a ∧ a + n ≤ lo + len ∧ a < lo + len)
  within 0 0x2000000000 || within scratchBase 0x4000000 || (decide (0x10 ≤ m ∧ m ≤ 0x18) && within (2 ^ 64 - 0x20000) 0x10000)

/-- The descriptor is refused (R378). (DEDUCED, log entry 47) -/
def Job.bad (j : Job) : Bool :=
  let w := j.at_ 0
  let mib := 16 * 2 ^ 20
  let clash (x y : Nat × Nat) : Bool := decide (x.1 < y.1 + y.2 ∧ y.1 < x.1 + x.2)
  let outside := !(j.parts.all (fun p => jobRegion j.master p.1 p.2))
  let long := j.parts.any (fun p => decide (mib < p.2))
  if j.glaze then
    outside || long || decide (j.op = 0 ∨ 3 < j.op ∨ w / 2 ^ 27 ≠ 0 ∨ natField w 15 13 ≠ 0 ∨ natField w 23 21 ≠ 0 ∨
      65536 < j.aad.2 ∨ j.at_ 0x48 / 2 ^ 32 ≠ 0 ∨ (j.words.drop 11).any (· ≠ 0)) ||
      (j.unwraps && decide (j.src.2 ≠ 32 ∨ j.dstSlot < 8)) || (!j.unwraps && clash j.src j.dst)
  else
    outside || long || decide (j.op = 0 ∨ 6 < j.op ∨ j.order = 3 ∨ 3 < j.order ∨ 3 < j.level ∨ w / 2 ^ 19 ≠ 0 ∨
      natField w 15 12 ≠ 0 ∨ j.at_ 0x38 ≠ 0 ∨ ((j.op = 3 ∨ j.op = 4) ∧ j.src.2 % 4 ≠ 0)) || clash j.src j.dst

/-- What a DEFLATE unit makes of its source: the output, and whether the input was valid (R379, R380). -/
def Job.transform (j : Job) (bs : List Byte) : List Byte × Bool :=
  if j.op = 1 then (deflate j.level bs, true)
  else if j.op = 2 then inflate bs
  else if j.op = 3 then (fondant j.order bs, true)
  else if j.op = 4 then (deflate j.level (fondant j.order bs), true)
  else if j.op = 5 then unfondant bs
  else
    let r := inflate bs
    let u := unfondant r.1
    (u.1, r.2 && u.2)

namespace State


/-- The engine whose private data RAM the job may reach. -/
def jobDram (m a : Nat) : Option (Nat × Nat) :=
  if 2 ^ 64 - 0x20000 ≤ a ∧ a < 2 ^ 64 - 0x10000 then some (m - 0x10, a - (2 ^ 64 - 0x20000)) else none

/-- A part of memory lies wholly in installed memory. -/
def jobSolid (s : State) (p : Nat × Nat) : Bool :=
  decide (p.2 = 0) || decide (2 ^ 64 - 0x20000 ≤ p.1) || decide (s.accessKind p.1 p.2 ≠ .hole)

/-- Bytes of a part that a job reads (R377). -/
def jobRead (s : State) (m : Nat) (p : Nat × Nat) : List Byte × State :=
  match jobDram m p.1 with
  | some (n, o) => (smBytes (s.engineAt n).dram 0 o p.2, s)
  | none => s.memRead p.1 p.2

/-- Bytes that a job writes; holes take nothing (R221). -/
def jobWrite (s : State) (m a : Nat) (bs : List Byte) : State :=
  match jobDram m a with
  | some (n, o) => s.updEngine n (fun e => { e with dram := smPutBytes e.dram 0 o bs })
  | none =>
    (piecesOf a bs.length).foldl (fun (s : State) p =>
      if s.addrKind p.1 = .hole then s else s.memWrite none p.1 ((bs.drop (p.1 - a)).take p.2)) s

/-- Free bytes, for a part of the output that the spec does not give. -/
def freeBytes (s : State) (k : Nat) : List Byte × State :=
  ((List.range k).map (fun i => (Config.freeWord (s.free + i)).setWidth 8), { s with free := s.free + k })

/-- A job that ends before its output is whole: how much of the destination it has written, and with what, is open.
(DESIGN CHOICE, log entry 45) -/
def jobBroken (s : State) (j : Job) (rstat : Nat) : JobEnd × State :=
  let f := s.drawNat
  let k := if j.unwraps then 0 else f.1 % (j.dst.2 + 1)
  let b := f.2.freeBytes k
  (⟨rstat, [(j.dst.1, b.1)], k⟩, b.2)

/-- A key as the bytes of AES, its first byte in bits [7:0] of the first key word. (DESIGN CHOICE, log entry 48) -/
def keyBytes (k : KeySlot) : List Byte := natToBytes 32 k.key.toNat

/-- The slot as a key of policy bit `b`. -/
def keyFor (s : State) (slot b : Nat) : Option (List Byte) :=
  let k := nth s.keys slot ⟨false, 0, 0, none⟩
  if k.valid && k.policy.testBit b then some (keyBytes k) else none

/-- The slot is in use by the running job of a Glaze engine (R382). -/
def keyBusy (s : State) (slot : Nat) : Bool :=
  [2, 3].any (fun u => match s.jobs.find? (fun j => decide (j.unit = u)) with
    | some j => decide (j.words ≠ [] ∧ j.keySlot = slot)
    | none => false)

/-- A slot loaded, at once or when the job that uses it ends. -/
def keySet (s : State) (slot policy : Nat) (key : BitVec 256) : State :=
  { s with keys := updAt s.keys slot (fun k => if s.keyBusy slot then { k with next := some (policy, key) } else ⟨true, policy, key, none⟩) }

/-- Loads that waited for a job, taken where no job uses the slot any more. -/
def keySettle (s : State) : State :=
  { s with keys := (List.range 32).map (fun i =>
      let k := nth s.keys i ⟨false, 0, 0, none⟩
      match k.next with
      | some n => if s.keyBusy i then k else ⟨true, n.1, n.2, none⟩
      | none => k) }

/-- Every key slot emptied (R382, R441). -/
def keyClear (s : State) : State := { s with keys := List.replicate 32 ⟨false, 0, 0, none⟩ }

/-- The work of a DEFLATE job (R379, R380). -/
def runDeflate (s : State) (j : Job) : JobEnd × State :=
  if !s.jobSolid j.src then s.jobBroken j jsAccErr
  else
    let r := s.jobRead j.master j.src
    let t := j.transform r.1
    if t.2 || decide (j.dst.2 < t.1.length) then
      let out := t.1.take j.dst.2
      if !r.2.jobSolid (j.dst.1, out.length) then r.2.jobBroken j jsAccErr
      else (⟨if j.dst.2 < t.1.length then jsDstFull else jsOk, [(j.dst.1, out)], out.length⟩, r.2)
    else r.2.jobBroken j jsBadInput

/-- The work of a Glaze job (R381). -/
def runGlaze (s : State) (j : Job) : JobEnd × State :=
  match s.keyFor j.keySlot (j.op - 1) with
  | none => (⟨jsKeyDeny, [], 0⟩, s)
  | some key =>
    if !(j.parts.all s.jobSolid) then s.jobBroken j jsAccErr
    else
      let r := s.jobRead j.master j.src
      let a := r.2.jobRead j.master j.aad
      let iv := (natToBytes 8 (j.at_ 0x40)) ++ natToBytes 4 (j.at_ 0x48)
      if j.op = 1 then
        let x := gcmSeal key iv a.1 r.1
        (⟨jsOk, [(j.dst.1, x.1), (j.tag.1, x.2)], j.src.2⟩, a.2)
      else
        let g := a.2.jobRead j.master j.tag
        match gcmOpen key iv a.1 r.1 g.1 with
        | none => (⟨jsAuthFail, if j.unwraps then [] else [(j.dst.1, List.replicate j.src.2 0)], j.src.2⟩, g.2)
        | some pt =>
          if j.unwraps then
            (⟨jsOk, [], j.src.2⟩, g.2.keySet j.dstSlot j.policy (BitVec.ofNat 256 (bytesToNat pt)))
          else (⟨jsOk, [(j.dst.1, pt)], j.src.2⟩, g.2)

/-- A job's work, its descriptor checked first (R378). -/
def runJob (s : State) (j : Job) : JobEnd × State :=
  if j.errs = 2 then s.jobBroken j jsUnitFail
  else if j.errs = 3 then (⟨jsUnitFail, [], 0⟩, s)
  else if j.words = [] then (⟨jsAccErr, [], 0⟩, s)
  else if j.bad then (⟨jsBadDesc, [], 0⟩, s)
  else if j.glaze then s.runGlaze j else s.runDeflate j

/-- A job ends as `x` says: output, counters, RESULT, and the XDONE entry (R370, R377). -/
def finishJob (s : State) (j : Job) (x : JobEnd) : State :=
  let s1 := x.writes.foldl (fun (s : State) w => s.jobWrite j.master w.1 w.2) s
  let s2 := (s1.rinc (Reg.CMP_JOBS j.unit)).radd (Reg.CMP_OUT_BYTES j.unit) ((x.writes.map (fun w => w.2.length)).foldl (· + ·) 0)
  let s3 := if x.rstat = jsBadDesc ∨ x.rstat = jsKeyDeny then s2 else s2.radd (Reg.CMP_IN_BYTES j.unit) j.src.2
  let s4 := if x.rstat = jsOk then s3 else s3.rinc (Reg.CMP_ERRORS j.unit)
  let s5 := if j.words = [] then s4
    else s4.jobWrite j.master j.resultAt (natToBytes 8 (2 ^ 63 + x.rstat * 2 ^ 56 + x.count % 2 ^ 32))
  let s6 := { s5 with jobs := s5.jobs.erase j }.keySettle
  if 0x10 ≤ j.master ∧ j.master < 0x18 ∧ !j.quiet then
    if j.words = [] then let f := s6.drawNat; f.2.engineEntry (j.master - 0x10) 6 j.unit (f.1 % 2 ^ 32)
    else s6.engineEntry (j.master - 0x10) 6 j.unit (j.cookie % 2 ^ 32)
  else s6

/-- The job that a unit runs: its oldest (R377). -/
def jobOf (s : State) (u : Nat) : Option Job := s.jobs.find? (fun j => decide (j.unit = u))

/-- The job's XDONE entry has no room in the transform part of its engine's event queue (R370). -/
def xdoneFull (s : State) (j : Job) : Bool :=
  decide (0x10 ≤ j.master ∧ j.master < 0x18) && !j.quiet &&
    decide (16 ≤ ((s.engineAt (j.master - 0x10)).evq.filter (fun x => decide (x.kind = 6))).length)

/-- The unit's running job ends; its XDONE entry waits for room. -/
def jobDone (s : State) (u : Nat) : State :=
  match s.jobOf u with
  | none => s
  | some j => if s.xdoneFull j then s else let r := s.runJob j; r.2.finishJob j r.1

/-- Jobs of a master on a unit (R385). -/
def outstanding (s : State) (m u : Nat) : Nat := (s.jobs.filter (fun j => decide (j.master = m ∧ j.unit = u))).length

/-- The words of a descriptor at `a`, none where a hole keeps them. -/
def descriptor (s : State) (m u a : Nat) : List Word × State :=
  let n := if 2 ≤ u then 128 else 64
  if s.jobSolid (a, n) then
    let r := s.jobRead m (a, n)
    ((List.range (n / 8)).map (fun i => w64 (bytesToNat ((r.1.drop (i * 8)).take 8))), r.2)
  else ([], s)

/-- A submission of `v` to unit `u` (R377, R385, R436): refused while the unit is disabled, retired, off or stopping, for
an address that is not aligned or outside the regions, and for a fifth job. -/
def submit (s : State) (m u : Nat) (v : Word) : State :=
  let n := if 2 ≤ u then 128 else 64
  let ok := decide (0x10 ≤ m ∧ m ≤ 0x19) && s.rbit (Reg.CMP_CTRL u) 0 && !s.rbit (Reg.CMP_STATUS u) 2 &&
    decide (nth s.power.doms (125 + u / 2) 0 = 1) && !s.power.moving.contains (125 + u / 2, false) &&
    decide (v.toNat % 64 = 0) && jobRegion m v.toNat n && decide (s.outstanding m u < 4)
  if !ok then s.rsetBit (Reg.CMP_STATUS u) 0 true
  else
    let d := s.descriptor m u v.toNat
    { d.2 with jobs := d.2.jobs ++ [⟨u, m, v.toNat, d.1, (nth d.1 0 0).toNat % 256, 0, false⟩] }

/-- A submission of a descriptor whose OP is `op`; another descriptor's row is another. -/
def submitOp (s : State) (m u op : Nat) (v : Word) : State :=
  let d := s.descriptor m u v.toNat
  if (nth d.1 0 0).toNat % 256 = op then s.submit m u v else s

/-- An error inside a unit (R378, Table 12.14): a corrected codeword, or an uncorrectable error of its job. -/
def jobError (s : State) (u : Nat) (bad : Bool) : State :=
  let src := (0x3A + u) * 16
  if !bad then
    let r := Report.plain 0 src 1 0 0
    ((s.rinc (Reg.CMP_ECC_CE u)).rset (Reg.CMP_ECC_LAST u) r.word).report r none
  else
    match s.jobOf u with
    | none => s
    | some j =>
      let r := Report.plain 1 src 1 0 (2 ^ 26 + 0x3F * 2 ^ 16)
      let s1 := s.rset (Reg.CMP_ECC_LAST u) r.word
      if j.errs = 0 then
        { s1 with jobs := updAt s1.jobs (s1.jobs.idxOf j) (fun x => { x with errs := 1 }) }.retried r
      else
        let s2 := ({ s1 with jobs := s1.jobs.map (fun (x : Job) => if x.unit = u then { x with errs := if x = j then 2 else 3 } else x) }).rsetBit
          (Reg.CMP_STATUS u) 2 true
        ((s2.jobs.filter (fun y => decide (y.unit = u))).foldl (fun (s : State) _ => s.jobDone u) s2).degrade src 9 0 5

/-- A key command by `m` on a slot is allowed (R382). -/
def keyAllowed (s : State) (m slot : Nat) : Bool :=
  if slot < 8 then decide (m = 0x18) else decide (m = 0x18 ∨ m = 0x19) && !s.locked

/-- The key words are cleared after every command (Table 12.15). -/
def keyWordsClear (s : State) : State :=
  (((s.rset Reg.ENC_KEYW0 0).rset Reg.ENC_KEYW1 0).rset Reg.ENC_KEYW2 0).rset Reg.ENC_KEYW3 0

/-- LOAD (R382). -/
def keyLoad (s : State) (m : Nat) (v : Word) : State :=
  let slot := fld v 4 0
  let key := (s.rget Reg.ENC_KEYW0).toNat + (s.rget Reg.ENC_KEYW1).toNat * 2 ^ 64 + (s.rget Reg.ENC_KEYW2).toNat * 2 ^ 128 +
    (s.rget Reg.ENC_KEYW3).toNat * 2 ^ 192
  (if s.keyAllowed m slot then s.keySet slot (fld v 10 8) (BitVec.ofNat 256 key) else s.rsetBit (Reg.ENC_STATUS 0) 3 true).keyWordsClear

/-- ERASE (R382). -/
def keyErase (s : State) (m : Nat) (v : Word) : State :=
  let slot := fld v 4 0
  (if s.keyAllowed m slot then { s with keys := updAt s.keys slot (fun _ => ⟨false, 0, 0, none⟩) }
   else s.rsetBit (Reg.ENC_STATUS 0) 3 true).keyWordsClear

/-- A write to `ENC_KEYCMD` (Table 12.15). -/
def keyCommand (s : State) (m : Nat) (v : Word) : State :=
  if fld v 15 12 = 1 then s.keyLoad m v else if fld v 15 12 = 2 then s.keyErase m v
  else (s.rsetBit (Reg.ENC_STATUS 0) 3 true).keyWordsClear

/-- A write to `ENC_ZEROIZE` (R382). -/
def keyZeroize (s : State) (v : Word) : State := if bit v 0 then s.keyClear else s

end State

def execDeflateJob (m u : Nat) (v : Word) (s : State) : Out := .next (s.onlyIf (s.mayWrite m) (·.submitOp m u 1 v))
def execInflateJob (m u : Nat) (v : Word) (s : State) : Out := .next (s.onlyIf (s.mayWrite m) (·.submitOp m u 2 v))
def execFondantJob (m u : Nat) (v : Word) (s : State) : Out := .next (s.onlyIf (s.mayWrite m) (·.submitOp m u 3 v))
def execFondantDeflateJob (m u : Nat) (v : Word) (s : State) : Out := .next (s.onlyIf (s.mayWrite m) (·.submitOp m u 4 v))
def execUnfondantJob (m u : Nat) (v : Word) (s : State) : Out := .next (s.onlyIf (s.mayWrite m) (·.submitOp m u 5 v))
def execInflateUnfondantJob (m u : Nat) (v : Word) (s : State) : Out := .next (s.onlyIf (s.mayWrite m) (·.submitOp m u 6 v))
def execEncryptJob (m u : Nat) (v : Word) (s : State) : Out := .next (s.onlyIf (s.mayWrite m) (·.submitOp m (2 + u) 1 v))
def execDecryptJob (m u : Nat) (v : Word) (s : State) : Out := .next (s.onlyIf (s.mayWrite m) (·.submitOp m (2 + u) 2 v))
def execUnwrapJob (m u : Nat) (v : Word) (s : State) : Out := .next (s.onlyIf (s.mayWrite m) (·.submitOp m (2 + u) 3 v))
def execTransformJobDone (u : Nat) (s : State) : Out := .next (s.onlyIf (!s.dead) (·.jobDone u))
def execTransformUnitError (u : Nat) (bad : Bool) (s : State) : Out := .next (s.onlyIf (!s.dead) (·.jobError u bad))
def execKeyLoad (m : Nat) (v : Word) (s : State) : Out := .next (s.onlyIf (s.mayWrite m && decide (fld v 15 12 = 1)) (·.keyLoad m v))
def execKeyErase (m : Nat) (v : Word) (s : State) : Out := .next (s.onlyIf (s.mayWrite m && decide (fld v 15 12 = 2)) (·.keyErase m v))
def execEncZeroize (m : Nat) (v : Word) (s : State) : Out := .next (s.onlyIf (s.mayWrite m) (·.keyZeroize v))

end Sys2Proof.Machine
end

