-- ==== Sys2Proof/Machine/Noc.lean ====
section
/-! DEFINITION. The on-chip network: routes, flit errors, reservations and DOMAIN_OFF returns; the PLLs (R423 to R437). -/

namespace Sys2Proof.Machine

/-- The tile router that an edge router joins, or the router itself (R423). -/
def meshOf (r : Nat) : Nat := if r = 16 then 0 else if r = 17 then 3 else if r = 18 then 12 else if r = 19 then 15 else r

/-- Routers along a row from column `x` to column `y`, the first left out. -/
def rowWalk (row x y : Nat) : List Nat :=
  if x ≤ y then (List.range (y - x)).map (fun i => row * 4 + x + i + 1)
  else (List.range (x - y)).map (fun i => row * 4 + x - i - 1)

/-- Routers along a column from row `x` to row `y`, the first left out. -/
def colWalk (col x y : Nat) : List Nat :=
  if x ≤ y then (List.range (y - x)).map (fun i => (x + i + 1) * 4 + col)
  else (List.range (x - y)).map (fun i => (x - i - 1) * 4 + col)

/-- The routers of a path, X first and then Y (R423). -/
def routePath (a b : Nat) : List Nat :=
  if a = b then [a]
  else
    let m := meshOf a
    let n := meshOf b
    [a] ++ (if a = m then [] else [m]) ++ rowWalk (m / 4) (m % 4) (n % 4) ++ colWalk (n % 4) (m / 4) (n / 4) ++
      (if b = n then [] else [b])

/-- Link directions of a path, in order of its hops. -/
def routeLinks (a b : Nat) : List (Nat × Nat) := (routePath a b).zip ((routePath a b).drop 1)

/-- The router of a reservation endpoint, none for a reserved code (Table 14.5). -/
def endRouter (c : Nat) : Option Nat :=
  if c < 16 then some c else if c ≤ 0x12 then some 19 else if c ≤ 0x15 then some 18 else none

/-- The link cycles of a reservation: link, first and last frame cycle (R429). -/
def rsvCycles (w : Word) : List ((Nat × Nat) × Nat × Nat) :=
  match endRouter (rsvSrc w), endRouter (rsvDst w) with
  | some a, some b =>
    let ls := routeLinks a b
    ls.zipIdx.map (fun x => (x.1, fld w 25 16 + x.2 + 1, fld w 25 16 + x.2 + fld w 6 0))
  | _, _ => []

/-- Two reservations share a link cycle. -/
def rsvClash (v w : Word) : Bool :=
  rsvOn v && rsvOn w &&
    (rsvCycles v).any (fun x => (rsvCycles w).any (fun y => decide (x.1 = y.1 ∧ x.2.1 ≤ y.2.2 ∧ y.2.1 ≤ x.2.2)))

/-- A reservation uses no reserved code and ends within the frame (R429). -/
def rsvCodes (w : Word) : Bool :=
  match endRouter (rsvSrc w), endRouter (rsvDst w) with
  | some a, some b => decide (fld w 62 61 ≠ 3 ∧ fld w 25 16 + fld w 6 0 - 1 + (routeLinks a b).length ≤ 1023)
  | _, _ => false

/-- A reservation may come into force: its codes and its length are legal (R429). -/
def rsvLegal (w : Word) : Bool := rsvCodes w && decide (1 ≤ fld w 6 0 ∧ fld w 6 0 ≤ 64)

namespace State

/-- An error in a flit at router `k` (R427, Table 14.4): `kind` 0 the `n`-th token of the network, 1 a packet of firing
`n`, 2 any other packet, `again` that its repetition failed; `side` is a sideband mismatch with the received sideband.
(DESIGN CHOICE, log entry 57) -/
def flitError (s : State) (k kind n : Nat) (e : Codeword) (side : Option Nat) (again : Bool) : State :=
  let r0 := match side with
    | some x => Report.plain 0 0x060 4 k x
    | none => Report.plain 0 0x060 1 k (eccDetail e)
  let r := match kind, s.net[n]?, s.firing? n with
    | 0, some t, _ => { r0 with hasTag := true, tagw := t.tag, wafer := some (s.slotAt (tagSlot t.tag)).wafer }
    | 1, _, some f => firingReport f 0 0x060 r0.kind k r0.detail
    | _, _, _ => r0
  let bad (s : State) : State :=
    let s1 := ((s.rinc Reg.NOC_UE).rsetBit Reg.NOC_STATUS (if side.isSome then 2 else 1) true).rset Reg.NOC_ECC_LAST r.word
    let near := s1.marks.filter (fun m => decide (m.kind = 7 ∧ m.a = k ∧ s.clock < m.time + 1000000000))
    let s2 := if side.isSome then s1
      else { s1 with marks := ⟨7, k, near.length, s.clock⟩ :: near ++ s1.marks.filter (fun m => decide (¬(m.kind = 7 ∧ m.a = k))) }
    if side.isNone ∧ 15 ≤ near.length then s2.report { r with cls := 4 } none
    else if kind = 0 then
      match s2.net[n]? with
      | some t => { s2 with net := s2.net.erase t }.askReplay r [tagSlot t.tag]
      | none => s2
    else if kind = 1 then
      match s2.firing? n with
      | some f => if f.stage = .ready then s2 else (s2.retried { r with cls := 1 }).retryFiring f
      | none => s2
    else if again then s2.askReplay r s2.activeSlots
    else s2.retried r
  match side with
  | some _ => bad s
  | none =>
    match d144Check e with
    | .clean => s
    | .corrected _ _ =>
      let s1 := (s.rinc Reg.NOC_CE).rset Reg.NOC_ECC_LAST r.word
      if s1.rbit Reg.NOC_CTRL 1 then s1.report r none else s1
    | .uncorrectable => bad s

/-- A write to `NOC_RSVr` (R429). -/
def reserve (s : State) (r : Nat) (v : Word) : State :=
  let m : Word := v &&& 0xE03F3F0003FF007F
  let inForce := ((List.range 64).filter (fun x => decide (x ≠ r))).map (fun x => s.rget (Reg.NOC_RSV x))
  let pend := (s.nocPend.filter (fun x => decide (x.1 ≠ Reg.NOC_RSV r))).map (·.2)
  if !rsvCodes m || rsvOn m && (!rsvLegal m || (inForce ++ pend).any (rsvClash m)) then s.rsetBit Reg.NOC_STATUS 0 true
  else if s.running then
    { s with nocPend := s.nocPend.filter (fun x => decide (x.1 ≠ Reg.NOC_RSV r)) ++ [(Reg.NOC_RSV r, m)] }
  else s.rset (Reg.NOC_RSV r) m

/-- An enabled reservation names an endpoint (R438, R440). -/
def endpointUsed (s : State) (c : Nat) : Bool :=
  (List.range 64).any (fun r => let w := s.rget (Reg.NOC_RSV r); rsvOn w && decide (rsvSrc w = c ∨ rsvDst w = c)) ||
    s.nocPend.any (fun x => rsvOn x.2 && decide (rsvSrc x.2 = c ∨ rsvDst x.2 = c))

/-- A DOMAIN_OFF return (R437, Table 14.8): `kind` 0 the `n`-th token of the network, 1 a fabric message or T-class item,
2 an event of channel engine `n`, 3 a register access, 4 a submission to transform unit `n`, 5 any other request of master
`n` to address `a`. -/
def offReturn (s : State) (kind n a : Nat) : State :=
  let s1 := (s.rinc Reg.NOC_OFFRET).rsetBit Reg.NOC_STATUS 3 true
  if kind = 0 then
    { s1 with net := updAt s1.net n (fun t =>
        { t with vc := 0, dtile := s1.placeOf (tagSlot t.tag) (s1.slotAt (tagSlot t.tag)).epoch (tagIaddr t.tag) }) }.inject
  else if kind = 1 ∨ kind = 2 then s1
  else if kind = 3 then { s1.rsetBit Reg.PWR_STATUS 3 true with lastRead := 0 }
  else if kind = 4 then s1.rsetBit (Reg.CMP_STATUS (n % 4)) 0 true
  else s1.holeEvent n a

/-- K links, or every Ethernet and PCIe link, that a PLL clocks go down (R434). -/
def pllDown (s : State) (p : Nat) : State :=
  if p = 6 then (List.range 7).foldl (fun (s : State) i =>
    if (s.linkAt i).state = .down ∨ (s.linkAt i).state = .failed then s else s.linkLeave i .down 4) s
  else if p = 7 then s.rsetBit Reg.TCK_STATUS 3 (s.rbit Reg.TCK_STATUS 3 || decide (2 ≤ s.rfld Reg.TCK_CTRL 7 6))
  else if p = 8 then ((s.masterReset 0x19).abortOf 0x19).rsetFld Reg.PCI_STATUS 8 0 0
  else s

/-- Loss of lock of a PLL, numbered as its LOCK bit (R434, R539). -/
def pllLoss (s : State) (p : Nat) : State :=
  if !s.rbit Reg.CLK_STATUS p then s
  else
    let s1 := (s.rsetBit Reg.CLK_STATUS p false).rsetBit Reg.CLK_STATUS (16 + p) true
    let grave := decide (p ≤ 5 ∨ p = 9)
    if grave then s1.grave 0x050 6 p (2 ^ p)
    else
      let s2 := (s1.degrade 0x050 6 p (2 ^ p)).pllDown p
      if p = 10 then tripEval s2 0 else s2

/-- A PLL locks again; LOSS stays until it is cleared (R299, Table 14.14), and links with a signal train (R389). -/
def pllLock (s : State) (p : Nat) : State :=
  let s1 := s.rsetBit Reg.CLK_STATUS p true
  if p = 10 then tripEval s1 0 else if p = 6 then (List.range 7).foldl linkTrain s1 else s1

/-- Loss of REFCLK (R434, R539). -/
def refLoss (s : State) : State := (s.rsetBit Reg.CLK_STATUS 31 true).grave 0x050 6 11 0

end State

def execNocFlitError (k kind n : Nat) (e : Codeword) (side : Bool) (band : Nat) (again : Bool) (s : State) : Out :=
  .next (s.onlyIf (!s.dead) (·.flitError k kind n e (if side then some band else none) again))
def execNocReservationWrite (m r : Nat) (v : Word) (s : State) : Out := .next (s.onlyIf (s.mayWrite m) (·.reserve r v))
def execDomainOffReturn (kind n a : Nat) (s : State) : Out := .next (s.onlyIf (!s.dead) (·.offReturn kind n a))
def execPllLossOfLock (p : Nat) (s : State) : Out := .next (s.pllLoss p)
def execPllLockRegained (p : Nat) (s : State) : Out := .next (s.pllLock p)
def execRefclkLoss (s : State) : Out := .next s.refLoss

end Sys2Proof.Machine
end

