-- ==== Sys2Proof/Machine/Power.lean ====
section
/-! DEFINITION. Power: domains, unit requests, parks, DOZE and its wake, and the supply monitor's HOLD (R435 to R447). -/

namespace Sys2Proof.Machine

/-- Domain that a bit of `PWR_UNIT_CFG` switches (Table 14.7, Table 14.16). -/
def unitDomain (i : Nat) : Nat := if i < 10 then 117 + i else 118 + i

namespace State

/-- Registers at addresses from `lo` to below `hi` return to reset, but for those of `keep`. -/
def regsReset (s : State) (lo hi : Nat) (keep : List Nat) : State :=
  { s with csr := s.csr.filter (fun e => decide (e.1 < lo ∨ hi ≤ e.1 ∨ e.1 ∈ keep)) }

/-- The registers of a block return to reset. -/
def blockReset (s : State) (b : Nat) : State := s.regsReset (csrAddr b 0) (csrAddr (b + 1) 0) []

/-- PEs of a tile lose their state, but for what says that a PE is retired (R440). -/
def pesReset (s : State) (t : Nat) (ps : List Nat) : State :=
  let s1 := ps.foldl (fun (s : State) p =>
    let st := s.rfld (Reg.PEX_STATUS t p) 3 0
    let ask := s.rbit (Reg.PEX_CTRL t p) 0
    ((s.regsReset (Reg.PEX_STATUS t p) (Reg.PEX_STATUS t p + 0x100) []).rsetFld (Reg.PEX_STATUS t p) 3 0 st).rsetBit
      (Reg.PEX_CTRL t p) 0 ask) s
  { s1 with mem.l1i := s1.mem.l1i.filter (fun x => decide (¬(x.1 = t ∧ x.2.1 ∈ ps)))
            mem.l1d := s1.mem.l1d.filter (fun x => decide (¬(x.tile = t ∧ x.pe ∈ ps))) }

/-- The PEs of the pool counted in `TIL_STATUS.POOL`. -/
def poolCount (s : State) (t : Nat) : State :=
  s.rsetFld (Reg.TIL_STATUS t) 4 0 (popNat 17 (s.rget (Reg.TIL_POOL t)).toNat)

/-- Cluster B leaves or joins the pool (R440). -/
def clusterB (s : State) (t : Nat) (on : Bool) : State :=
  ((List.range 8).foldl (fun (s : State) i =>
    s.rsetBit (Reg.TIL_POOL t) (8 + i) (on && decide (s.rfld (Reg.PEX_STATUS t (8 + i)) 3 0 = 0))) s).poolCount t

/-- The matching-store domain of a tile loses its state; the pool, the spare's number and the tile's STATE are kept, and
`UCS_VERSION`, which the rewrite of the control store restores (R212, R440). -/
def storeReset (s : State) (t : Nat) : State :=
  let s1 := s.regsReset (Reg.TIL_CTRL t) (Reg.L2C_LOCK t) [Reg.TIL_STATUS t, Reg.TIL_POOL t, Reg.TIL_SPARE t, Reg.UCS_VERSION t]
  { s1.updTile t (fun _ => Reset.tile) with
    filt := s1.filt.filter (fun e => decide (e.1 / 2 ^ 18 ≠ t))
    spillOvf := s1.spillOvf.filter (fun x => decide (x / 2 ^ 16 ≠ t))
    ucs := s1.ucs.filter (fun e => decide (e.1 / 4096 ≠ t))
    ucsBad := s1.ucsBad.filter (fun b => decide (b.tile ≠ t)) }

/-- A tile's control store holds the master copy again; a word that fails its read-back twice retires the tile (R212). -/
def ucsLoad (s : State) (t : Nat) : State :=
  let s1 := { s with ucs := s.ucs.filter (fun e => decide (e.1 / 4096 ≠ t))
                     ucsBad := s.ucsBad.filter (fun b => decide (b.tile ≠ t)) }
  let s2 := { s1 with ucs := s1.ucsMaster.foldl (fun m e => smPut m (t * 4096 + e.1) 0 e.2) s1.ucs }
  if s.ucsDead.any (fun x => decide (x / 4096 = t)) then
    ((s2.rsetBit (Reg.UCS_STATUS t) 5 true).rsetFld (Reg.TIL_STATUS t) 9 8 2).degrade (srcTile t 3) 9 0 2
  else s2

/-- The host function loses its state with the PCIe domain, which is a master reset (R280, R441). -/
def hostLost (s : State) : State := ((s.masterReset 0x19).abortOf 0x19).blockReset 0x50

/-- Transform units `u` and `u` + 1 stay retired as they were in `old` (R378). -/
def stillRetired (s old : State) (u : Nat) : State :=
  [u, u + 1].foldl (fun (s : State) v => s.rsetBit (Reg.CMP_STATUS v) 2 (old.rbit (Reg.CMP_STATUS v) 2)) s

/-- A link whose domain is switched off is DOWN (R435). -/
def linkOff (s : State) (p : Nat) : State := if (s.linkAt p).state = .down then s else s.linkLeave p .down 0

/-- A domain's state becomes its reset state as it is switched off (R436). (DEDUCED, log entry 59) -/
def domainReset (s : State) (d : Nat) : State :=
  if d < 112 then
    let t := d / 7
    match d % 7 with
    | 0 => s.pesReset t (List.range 8)
    | 1 => s.pesReset t ((List.range 8).map (· + 8))
    | 2 => s.pesReset t [16]
    | 3 => s.storeReset t
    | _ => s
  else if 117 ≤ d ∧ d ≤ 124 then
    s.updEngine (d - 117) (fun e => { Reset.engine with
      image := e.image, failed := e.failed, ie := e.ie, evq := e.evq, pend := e.pend, timed := e.timed })
  else if d = 125 then ((s.blockReset 0x3A).blockReset 0x3B).stillRetired s 0
  else if d = 126 then (((s.blockReset 0x3C).blockReset 0x3D).keyClear).stillRetired s 2
  else if d = 128 then (List.range 6).foldl linkOff s
  else if d = 129 then s.linkOff 6
  else if d = 130 then
    let s1 := (s.blockReset 0x52).blockReset 0x53
    { s1 with ports := updAt (updAt s1.ports 0 (fun _ => Reset.port)) 1 (fun _ => Reset.port) }.rsetBit Reg.TCK_STATUS 3
      (s1.rbit Reg.TCK_STATUS 3 || decide (2 ≤ s1.rfld Reg.TCK_CTRL 7 6))
  else if d = 131 then
    let s1 := (List.range 16).foldl (fun (s : State) p => s.blockReset (0x60 + p)) s
    { s1 with ports := (List.range 16).foldl (fun ps p => updAt ps (2 + p) (fun _ => Reset.port)) s1.ports }
  else if d = 132 then s.hostLost
  else s

/-- The domain's state set. -/
def setDom (s : State) (d v : Nat) : State := { s with power.doms := updAt s.power.doms d (fun _ => v) }

/-- A domain is switched off and loses its state. -/
def cutDom (s : State) (d : Nat) : State := if nth s.power.doms d 0 = 0 then s else (s.domainReset d).setDom d 0

/-- Masters whose writes the power unit takes (R450). -/
def pwrMaster (m : Nat) : Bool := decide (0x10 ≤ m ∧ m ≤ 0x19)

/-- A request refused (R438). -/
def refused (s : State) : State := s.rsetBit Reg.PWR_STATUS 2 true

/-- A power-down in its stop and drain (R436); a power-up that still waits is withdrawn. -/
def powerDown (s : State) (d : Nat) : State :=
  if s.power.waiting.contains d then { s with power.waiting := s.power.waiting.erase d }
  else { s with power.moving := s.power.moving ++ [(d, false)] }

/-- The first transition of a domain that is in progress is `up`. (DEDUCED, log entry 60) -/
def nextMove (s : State) (d : Nat) (up : Bool) : Bool :=
  match s.power.moving.find? (fun r => decide (r.1 = d)) with
  | some r => r.2 == up
  | none => false

/-- The units of a bit of `PWR_UNIT_CFG` may not be switched off now (R438, R439, R441). -/
def unitHeld (s : State) (m i : Nat) : Bool :=
  (decide (i = 10) && (s.endpointUsed 0x13 || (List.range 6).any (fun p => s.rbit (Reg.FAB_LINK_CTRL p) 0))) ||
    (decide (i = 11) && decide ((s.linkAt 6).state = .up)) || (decide (i = 12) && s.endpointUsed 0x14) ||
    (decide (i = 13) && s.endpointUsed 0x15) || (decide (i = 14) && decide (m ≠ 0x18))

/-- A write to `PWR_UNIT_CFG` (R438, R441). -/
def unitPower (s : State) (m : Nat) (v : Word) : State :=
  (List.range 15).foldl (fun (s : State) i =>
    let d := unitDomain i
    if s.rbit Reg.PWR_UNIT_CFG i = bit v i then s
    else if bit v i then
      if s.unitHeld m i then s.refused
      else
        let s1 := (s.rsetBit Reg.PWR_UNIT_CFG i true).powerDown d
        if i < 8 ∧ s1.power.moving.contains (d, false) then
          ((s1.engineReset i false).updEngine i (fun e => { e with run := .halted })).rsetBit (Reg.CEN_CTRL i) 0 false
        else s1
    else (s.rsetBit Reg.PWR_UNIT_CFG i false).powerUp d) s

/-- A domain has stopped its work and drained (R436). -/
def domDrained (s : State) (d : Nat) : Bool :=
  let idle (ps : List Nat) : Bool :=
    !s.firings.any (fun f => decide (f.tile = d / 7 ∧ f.stage ≠ .ready ∧ f.pe ∈ ps)) &&
      !s.storeBuf.any (fun b => decide (b.tile = d / 7 ∧ b.pe ∈ ps)) && !s.eventBuf.any (fun b => decide (b.tile = d / 7 ∧ b.pe ∈ ps))
  if d < 112 then
    (if d % 7 = 1 then idle ((List.range 8).map (· + 8)) else if d % 7 = 2 then idle [16] else true)
  else if d = 125 ∨ d = 126 then s.jobs.all (fun j => decide (j.unit / 2 ≠ d - 125))
  else true

/-- DOMAIN_POWER_DOWN_DONE (R436). -/
def domDown (s : State) (d : Nat) : State :=
  if !s.nextMove d false || !s.domDrained d then s
  else if d < 112 ∧ 4 ≤ d % 7 then
    (if s.mem.groupReq.contains (d / 7, d % 7 - 4, true) then s.groupOff (d / 7) (d % 7 - 4) else s)
  else
    let s1 := { s with power.moving := s.power.moving.erase (d, false) }
    let s2 := if d < 112 ∧ d % 7 = 1 then s1.groupOff (d / 7) 3 else s1
    s2.cutDom d

/-- What a domain does as it comes on: a way group returns invalid, cluster B joins the pool, and the sequencer reloads an
engine and starts it where AUTORST is 1 (R245, R440, R441). -/
def domOnEffect (s : State) (d : Nat) : State :=
  if d < 112 ∧ 4 ≤ d % 7 then s.rsetBit (Reg.L2C_WGPWR (d / 7)) (d % 7) true
  else if d < 112 ∧ d % 7 = 1 then (s.rsetBit (Reg.L2C_WGPWR (d / 7)) 7 true).clusterB (d / 7) true
  else if 117 ≤ d ∧ d ≤ 124 then
    let n := d - 117
    let s1 := (s.updEngine n (fun e => { e with iram := e.image, run := .halted })).rsetBit (Reg.CEN_CTRL n) 0 false
    if s1.rbit (Reg.CEN_CTRL n) 2 then s1.eStart n else s1
  else s

/-- A domain comes on; one that was held in retention keeps its state. -/
def joinDom (s : State) (d : Nat) : State :=
  let was := nth s.power.doms d 0
  if was = 1 then s else let s1 := s.setDom d 1; if was = 0 then s1.domOnEffect d else s1

/-- DOMAIN_POWER_UP_DONE (R436, R441). -/
def domUp (s : State) (d : Nat) : State :=
  if !s.nextMove d true then s
  else { s with power.moving := s.power.moving.erase (d, true) }.joinDom d

/-- A write of PARK (R440). -/
def tilePark (s : State) (t : Nat) (v : Bool) : State :=
  let a := Reg.PWR_TILE_CFG t
  if s.rbit a 0 = v then s
  else if v then
    let busy := (List.range 16).any (fun u => decide (2 ≤ s.tileState u) || decide (nth s.power.park u 0 ≠ 0)) ||
      !s.power.parkReq.isEmpty
    if busy || s.endpointUsed t then s.refused
    else { s.rsetBit a 0 true with power.parkReq := s.power.parkReq ++ [(t, true)] }
  else
    let s1 := s.rsetBit a 0 false
    if nth s1.power.park t 0 = 2 then
      let s2 := { s1 with power.park := updAt s1.power.park t (fun _ => 3) }
      if 3 ≤ s2.power.doze then s2
      else ([7 * t, 7 * t + 3] ++ (if s2.rbit a 2 then [] else [7 * t + 2])).foldl powerUp s2
    else { s1 with power.parkReq := (s1.power.parkReq.filter (fun r => decide (r.1 ≠ t))) ++
                     (if nth s1.power.park t 0 = 1 then [(t, false)] else []) }

/-- The tile holds nothing, and every wafer in flight was admitted without it (R440). -/
def tileEmpty (s : State) (t : Nat) : Bool :=
  s.activeSlots.all (fun k => (s.slotAt k).noTiles.testBit t) && (List.range 8).all (fun k =>
      decide ((s.slotAt k).state = 0) || (s.slotAt k).noTiles.testBit t) &&
    !s.mst.any (fun e => decide (e.tile = t)) && !s.firings.any (fun f => decide (f.tile = t)) &&
    !s.storeBuf.any (fun b => decide (b.tile = t)) && !s.eventBuf.any (fun b => decide (b.tile = t)) &&
    !s.net.any (fun k => decide (k.dtile = t))

/-- TILE_PARK_COMPLETE (R440). -/
def parkDone (s : State) (t : Nat) : State :=
  if nth s.power.park t 0 ≠ 1 ∨ 2 ≤ s.tileState t ∨ !s.tileEmpty t then s
  else
    let s1 := [7 * t, 7 * t + 2, 7 * t + 3].foldl cutDom s
    { s1.rsetFld (Reg.TIL_STATUS t) 9 8 3 with
      power.park := updAt s1.power.park t (fun _ => 2)
      power.moving := s1.power.moving.filter (fun r => decide (r.1 ≠ 7 * t + 2)) }

/-- TILE_UNPARK_COMPLETE (R440). -/
def unparkDone (s : State) (t : Nat) : State :=
  if nth s.power.park t 0 ≠ 3 ∨ !s.domOn (7 * t) ∨ !s.domOn (7 * t + 3) ∨
      (!s.rbit (Reg.PWR_TILE_CFG t) 2 ∧ !s.domOn (7 * t + 2)) ∨ s.power.parkReq.contains (t, false) then s
  else
    let s1 := s.ucsLoad t
    { s1 with power.parkReq := s1.power.parkReq ++ [(t, false)] }

/-- A write of CLBOFF (R440): way group 3 takes no more fills (R245). -/
def tileClb (s : State) (t : Nat) (v : Bool) : State :=
  let a := Reg.PWR_TILE_CFG t
  if s.rbit a 1 = v then s
  else if v then
    (if (s.waysWithout t 3).isEmpty then (s.rsetBit (Reg.L2C_SLICE_STATUS t) 0 true).refused
     else if s.power.waiting.contains (7 * t + 1) then ((s.rsetBit a 1 true).clusterB t false).powerDown (7 * t + 1)
     else { ((s.rsetBit a 1 true).clusterB t false).powerDown (7 * t + 1) with
            mem.groupReq := s.mem.groupReq ++ [(t, 3, true)] })
  else (s.rsetBit a 1 false).powerUp (7 * t + 1)

/-- A write of SPOFF (R440). -/
def tileSp (s : State) (t : Nat) (v : Bool) : State :=
  let a := Reg.PWR_TILE_CFG t
  if s.rbit a 2 = v then s
  else if v then
    (if s.rfld (Reg.TIL_SPARE t) 4 0 = 0x1F then s.refused else (s.rsetBit a 2 true).powerDown (7 * t + 2))
  else
    let s1 := s.rsetBit a 2 false
    if nth s1.power.park t 0 = 2 then s1 else s1.powerUp (7 * t + 2)

/-- Units that DOZE switches off: the port domains that `PWR_DOZE_CFG` does not keep (Table 14.9). -/
def dozeUnits (s : State) : List Nat := [130, 131, 132].filter (fun d => !s.rbit Reg.PWR_DOZE_CFG (d - 130))

/-- Domains that DOZE switches off (Table 14.9). -/
def dozeOff (s : State) : List Nat :=
  (List.range 16).flatMap (fun t => [7 * t, 7 * t + 1, 7 * t + 2, 7 * t + 3]) ++ [125] ++ s.dozeUnits

/-- A write of DOZE = 1 (R438, R442). -/
def dozeEnter (s : State) : State :=
  if s.rbit Reg.PWR_CTRL 0 then s
  else
    let ends := List.range 16 ++ (if s.rbit Reg.PWR_DOZE_CFG 0 then [] else [0x14]) ++
      (if s.rbit Reg.PWR_DOZE_CFG 1 then [] else [0x15])
    if ends.any s.endpointUsed then s.refused
    else { s.rsetBit Reg.PWR_CTRL 0 true with power.doze := 2, power.wakeHeld := false }.pauseDetectors

/-- A way group at the entry to DOZE: retention where a way is locked, else cleaned and off (R442). -/
def dozeGroup (s : State) (t g : Nat) : State :=
  let d := 7 * t + 4 + g
  if !s.domOn d then s
  else if (List.range 4).any (fun i => s.wayLocked t (4 * g + i)) then s.setDom d 2
  else s.groupOff t g

/-- The entry to DOZE ends (R442): no wafer is in flight, and the tiles and the transforms have drained.  A link whose peer
is in DOZE too goes to SLEEP; whether it is lies with the peer (R390). -/
def dozeFence (s : State) : State :=
  let quiet := s.slots.all (fun k => decide (k.state = 0)) && s.storeBuf.isEmpty && s.eventBuf.isEmpty && s.mst.isEmpty &&
    s.firings.isEmpty && s.jobs.isEmpty && s.recOpen.isEmpty
  if s.power.doze ≠ 2 ∨ !quiet then s
  else
    let s1 := (List.range 48).foldl (fun (s : State) i => s.dozeGroup (i / 3) (i % 3)) s
    let s2 := (List.range 16).foldl (fun (s : State) t => s.groupOff t 3) s1
    let s3 := s2.dozeOff.foldl cutDom s2
    let s4 := ((List.range 8).map (· + 117) ++ [126, 127]).foldl (fun (s : State) d =>
      if s.domOn d then s.setDom d 2 else s) s3
    let s5 := (List.range 6).foldl (fun (s : State) p =>
      if (s.linkAt p).state = .up ∧ !s.rbit (Reg.FAB_LINK_CTRL p) 1 then
        let r := s.drawNat
        if r.1 % 2 = 1 then (r.2.updLink p (fun l => { l with state := .sleep })).linkEvent p 0 else r.2
      else s) s4
    let stays (d : Nat) : Bool := decide (d = 128 ∨ d = 129 ∨ (130 ≤ d ∧ d ≤ 132 ∧ !s5.dozeUnits.contains d))
    { s5 with power.doze := 3
              power.moving := s5.power.moving.filter (fun r => stays r.1)
              power.waiting := s5.power.waiting.filter stays }

/-- Domains that the controls keep on outside DOZE (Table 14.9). -/
def wantsOn (s : State) (d : Nat) : Bool :=
  if d < 112 then
    let t := d / 7
    let k := d % 7
    if k = 1 then !s.rbit (Reg.PWR_TILE_CFG t) 1
    else if 4 ≤ k then s.rbit (Reg.L2C_WGPWR t) (k - 4)
    else if k = 2 then decide (nth s.power.park t 0 ≠ 2) && !s.rbit (Reg.PWR_TILE_CFG t) 2
    else decide (nth s.power.park t 0 ≠ 2)
  else if 117 ≤ d ∧ d ≤ 126 then !s.rbit Reg.PWR_UNIT_CFG (d - 117)
  else if 130 ≤ d then (d = 133 || !s.rbit Reg.PWR_UNIT_CFG (d - 118))
  else if d = 128 ∨ d = 129 then s.domOn d
  else true

/-- WAKE_COMPLETE (R443, R447): what the controls keep on is on again, the control stores are rewritten, and admission
resumes. -/
def wakeDone (s : State) : State :=
  if s.power.doze ≠ 4 ∨ s.hold then s
  else
    let s1 := ((List.range 134).filter s.wantsOn).foldl joinDom s
    let s2 := ((List.range 16).filter (fun t => s1.domOn (7 * t + 3) && !s.domOn (7 * t + 3))).foldl ucsLoad s1
    let s3 := { s2 with power.doze := 0, power.wakeHeld := false }
    if s3.dead then s3 else admitAll 8 s3

/-- Nominal voltage of a monitored rail in mV (Table 17.2). -/
def railMv (rail : Nat) : Nat := nth [750, 800, 900, 1100, 1800, 3300, 800, 5000] rail 0

/-- A rail read at `mv` for 500 ns, below its warning level of 92 % (R444, R445); a device that a reset holds enters no warning
(R514). (DEDUCED, log entry 62) -/
def supplyWarning (s : State) (rail mv : Nat) : State :=
  let s0 := { s with power.low := if s.power.low.contains rail then s.power.low else s.power.low ++ [rail] }
  let a := Reg.PWR_SUPPLY
  if 92 * railMv rail ≤ 100 * mv then s
  else if s.boot.held then s0
  else if s0.hold then
    let s1 := s0.rsetFld a 1 0 1
    if s1.rfld a 11 8 = rail then s1.rsetFld a 31 16 (min (s1.rfld a 31 16) mv) else s1
  else
    let s1 := s0.rset a (w64 (mv % 65536 * 65536 + rail % 16 * 256 + 1))
    let s2 := (s1.rinc Reg.PWR_DIPS).rset Reg.PWR_LAST_DIP (w64 s1.now)
    (s2.collect (Report.plain 0 0x040 7 rail (mv % 65536))).pauseDetectors

/-- A rail crosses the recovery level (R444, R445). -/
def supplyCross (s : State) (rail : Nat) (up : Bool) : State :=
  let s1 := { s with power.low :=
    if up then s.power.low.filter (· ≠ rail) else if s.power.low.contains rail then s.power.low else s.power.low ++ [rail] }
  if !s1.hold then s1
  else if s1.power.low.isEmpty then
    (if s1.rfld Reg.PWR_SUPPLY 1 0 = 2 then s1 else { s1.rsetFld Reg.PWR_SUPPLY 1 0 2 with power.supT := s1.clock })
  else s1.rsetFld Reg.PWR_SUPPLY 1 0 1

/-- HOLD ends after 10 µs at or above the recovery level (R445). -/
def holdEnd (s : State) : State :=
  if s.rfld Reg.PWR_SUPPLY 1 0 ≠ 2 ∨ s.clock < s.power.supT + 10000 then s
  else
    let s1 := { s.rsetFld Reg.PWR_SUPPLY 1 0 0 with
      power.moving := s.power.moving ++ s.power.waiting.map (fun d => (d, true)), power.waiting := [] }
    if s1.dead then s1 else admitAll 8 s1

end State

def execDozeEnter (m : Nat) (s : State) : Out := .next (s.onlyIf (s.mayWrite m && State.pwrMaster m) (·.dozeEnter))
def execDozeTileFence (s : State) : Out := .next (s.onlyIf (!s.dead) (·.dozeFence))
def execDozeWake (m : Nat) (s : State) : Out := .next (s.onlyIf (s.mayWrite m && State.pwrMaster m) (·.wake))
def execWakeComplete (s : State) : Out := .next (s.onlyIf (!s.dead) (·.wakeDone))
def execUnitPowerRequest (m : Nat) (v : Word) (s : State) : Out :=
  .next (s.onlyIf (s.mayWrite m && State.pwrMaster m) (·.unitPower m v))
def execDomainPowerDownDone (d : Nat) (s : State) : Out := .next (s.onlyIf (!s.dead) (·.domDown d))
def execDomainPowerUpDone (d : Nat) (s : State) : Out := .next (s.onlyIf (!s.dead) (·.domUp d))
def execTilePark (m t : Nat) (v : Bool) (s : State) : Out :=
  .next (s.onlyIf (s.mayWrite m && State.pwrMaster m) (·.tilePark t v))
def execTileParkComplete (t : Nat) (s : State) : Out := .next (s.onlyIf (!s.dead) (·.parkDone t))
def execTileUnparkComplete (t : Nat) (s : State) : Out := .next (s.onlyIf (!s.dead) (·.unparkDone t))
def execTileClboff (m t : Nat) (v : Bool) (s : State) : Out :=
  .next (s.onlyIf (s.mayWrite m && State.pwrMaster m) (·.tileClb t v))
def execTileSpoff (m t : Nat) (v : Bool) (s : State) : Out :=
  .next (s.onlyIf (s.mayWrite m && State.pwrMaster m) (·.tileSp t v))
def execSupplyWarning (rail mv : Nat) (s : State) : Out := .next (s.onlyIf (!s.dead) (·.supplyWarning rail mv))
def execSupplyHoldEnd (s : State) : Out := .next s.holdEnd
def execSupplyRecoveryCrossing (rail : Nat) (up : Bool) (s : State) : Out := .next (s.supplyCross rail up)

end Sys2Proof.Machine
end

