-- ==== Sys2Proof/Machine/CfgUnit.lean ====
section
/-! DEFINITION. Configuration transactions: the shadow, IMGLOAD, validation and ABORT (R496 to R503, R508). -/

namespace Sys2Proof.Machine

/-- Bits of the bank's word at byte offset `o` that Table 16.6 and its formats assign (R496). -/
def bankMask (o : Nat) : Word :=
  if o < 0x8000 then 0x8000FFFF8000FFFF
  else if o < 0xC000 then 0xC3FFC0FFC3FFC0FF
  else if o < 0xC800 then 0xFCFFFFFFFFFFFFFF
  else if o < 0xCA00 then
    (if o % 32 = 0 then 0xFFFFFFFFFFFF01FF else if o % 32 = 24 then 0 else 0x0000FFFFFFFFF000)
  else if o < 0xCA10 then 0xFFFFFFFFFFFFFFFF
  else if o < 0xD000 then 0
  else if o < 0xE000 then
    (if o % 64 = 0 then 0x803FFFFF003FFFFF else if o % 64 = 8 then 0xFFFF else 0xFFFFFFFFFFFFFFFF)
  else if o < 0xE800 then 0xFFE0FFE0FFE0FFE0
  else if o = 0xE800 then 0x0000000003FF03FF
  else if o < 0xE838 then 0x8000000000001FFF
  else if o < 0x10000 then 0
  else if o < 0x14000 then (if o % 16 = 0 then 0xFFF0 else 0x80000FFFFFFFFFFF)
  else if o < 0x20000 then 0
  else if o < 0xA0000 then
    let x := o % 0x80
    if x = 0 then 0x0000FFFF003FFFFF
    else if x = 8 then 0x003FFFFFFFFFFFFF
    else if x = 0x10 then 0xC00FFF0F00000000
    else if x < 0x20 ∨ 0x60 ≤ x then 0
    else if x % 16 = 0 then 0xE3FFFFFFFFFFFFFF else 0xFFFFFFFFFFFFFFFF
  else 0

/-- The lowest byte of a word that is not 0. -/
def lowByte (w : Word) : Nat := ((List.range 8).find? (fun i => decide (fld w (8 * i + 7) (8 * i) ≠ 0))).getD 0

/-- Two inclusive ranges meet. -/
def rangesMeet (x y : Nat × Nat) : Bool := decide (x.1 ≤ y.2 ∧ y.1 ≤ x.2 ∧ x.1 ≤ x.2 ∧ y.1 ≤ y.2)

/-- Offsets of the ranges that meet a range that stands before them in the list (offset, range). -/
def overlapping : List (Nat × (Nat × Nat)) → List Nat
  | [] => []
  | x :: xs => (xs.filter (fun y => rangesMeet x.2 y.2)).map (·.1) ++ overlapping xs

/-- Valid image entries of a bank: offset and IADDR range (R498). -/
def bankImages (b : List (Nat × Word)) : List (Nat × (Nat × Nat)) :=
  ((List.range 64).filter (fun j => bit (bankWord b (0xD000 + j * 64)) 63)).map (fun j =>
    let w := bankWord b (0xD000 + j * 64)
    (0xD000 + j * 64, (fld w 53 32, fld w 21 0)))

/-- Valid placement entries of a bank (R137). -/
def bankPlaces (b : List (Nat × Word)) : List (Nat × (Nat × Nat)) :=
  ((List.range 1024).filter (fun j => bit (bankWord b (0x10008 + j * 16)) 63)).map (fun j =>
    let w := bankWord b (0x10008 + j * 16)
    (0x10000 + j * 16, (fld w 43 22, fld w 21 0)))

/-- A list names a number twice. -/
def repeated (xs : List Nat) : Bool := xs.eraseDups.length ≠ xs.length

/-- Bytes of instruction words, in ascending IADDR. -/
def wordBytes (ws : List Word) : List Byte := ws.flatMap (fun w => natToBytes 8 w.toNat)

namespace State

/-- Code words of an IADDR range as the backing holds them. -/
def codeRange (s : State) (lo n : Nat) : List Word := (List.range n).map (fun i => smGet s.code (lo + i) 0)

/-- Offsets at which a bank fails validation (R501), by the kinds of Table 16.6: reserved bits, bindings, inbound and
group entries, images, placement, descriptors. -/
def bankFaults (s : State) (b : List (Nat × Word)) : List Nat :=
  let reserved := (b.filter (fun e => decide (e.2 &&& ~~~bankMask (e.1 * 8) ≠ 0))).map (fun e =>
    e.1 * 8 + lowByte (e.2 &&& ~~~bankMask (e.1 * 8)))
  let halves := (b.filter (fun e => decide (e.1 < 0x1000))).flatMap (fun e =>
    [(e.1 * 8, fld e.2 31 0), (e.1 * 8 + 4, fld e.2 63 32)])
  let binds := (halves.filter (fun h => h.2.testBit 31 && (match s.chan? (h.2 % 65536) with
    | some c => if h.1 < 0x4000 then decide (c.ckind ≠ ckWafer ∧ c.ckind ≠ ckPoll) else decide (c.pkind ≠ pkGraph)
    | none => true))).map (·.1)
  let inb := (b.filter (fun e => decide (0x1800 ≤ e.1 ∧ e.1 < 0x1900) && bit e.2 63 &&
    (decide (fld e.2 62 60 = 0) || repeated (((List.range (fld e.2 59 58 + 1)).map (fun i => fld e.2 (10 * i + 9) (10 * i)))) ||
      (match s.chan? (fld e.2 55 40) with
       | some c => !c.tcls || decide (c.pkind ≠ pkFabric ∨ c.ckind ≠ ckWafer)
       | none => true)))).map (fun e => e.1 * 8)
  let grps := ((List.range 16).filter (fun g =>
    let e := bankGroup b g
    e.valid && (decide (e.members.length < 2) || repeated (e.members.map (fun m => nth e.mems m 0))))).map (fun g => 0xC800 + g * 32)
  let imgs := bankImages b
  let digs := (imgs.filter (fun x =>
    decide (digestBytes (sha384 (wordBytes (s.codeRange x.2.1 (x.2.2 + 1 - x.2.1)))) ≠ bankBytes b (x.1 + 0x10) 48))).map
      (fun x => x.1 + 0x10)
  let places := bankPlaces b
  let plbad := (places.filter (fun x => decide (x.2.2 < x.2.1))).map (·.1)
  let descs := (bankDescs b).flatMap (fun n =>
    match bankEntry b n with
    | none => []
    | some d =>
      (if d.frame % 64 ≠ 0 ∨ d.frame < 64 ∨ 1048576 < d.frame then [descOff n + 8] else []) ++
      (if !d.fen && decide (d.flow ≠ 0) then [descOff n + 0x10] else []) ++
      (if d.root && !bankLoaded b d.entry then [descOff n] else []))
  reserved ++ binds ++ inb ++ grps ++ overlapping imgs ++ digs ++ plbad ++ overlapping places ++ descs

/-- The first failing offset of a bank, none where it is valid. -/
def validate (s : State) (b : List (Nat × Word)) : Option Nat :=
  match s.bankFaults b with
  | [] => none
  | x :: xs => some (xs.foldl min x)

/-- A master's record of the configuration unit (R499). -/
def cfgRec (s : State) (m : Nat) : CfgRec := (s.cfg.recs.find? (fun r => decide (r.master = m))).getD ⟨m, 0, 0, 0, 0⟩

def setCfgRec (s : State) (r : CfgRec) : State :=
  { s with cfg.recs := r :: s.cfg.recs.filter (fun x => decide (x.master ≠ r.master)) }

/-- RSTAT of a master (Table 16.13). -/
def cfgStat (s : State) (m x : Nat) : State := s.setCfgRec { s.cfgRec m with rstat := x }

/-- A master may open a transaction (R499). -/
def mayOpen (s : State) (m : Nat) : Bool :=
  m = 0x18 || (decide (0x10 ≤ m ∧ m ≤ 0x17) && s.rbit Reg.CFG_CTRL (m - 0x10)) || (m = 0x19 && s.rbit Reg.CFG_CTRL 9)

/-- OPEN (R499). -/
def cfgOpen (s : State) (m : Nat) : State :=
  if s.cfg.txn ≠ .idle then s.cfgStat m 1
  else if !s.mayOpen m then s.cfgStat m 5
  else { s with cfg := { s.cfg with txn := .copying, owner := m, late := false, loads := [], shadow := [] } }.cfgStat m 0

/-- The copy of the bank in force into the shadow is complete (R499). -/
def cfgCopied (s : State) : State :=
  if s.cfg.txn = .copying then { s with cfg := { s.cfg with txn := .opened, shadow := s.cfg.bank } } else s

/-- `CFG_ADDR` of a master 8 further (R508). -/
def cfgNext (s : State) (m : Nat) : State :=
  let r := s.cfgRec m
  s.setCfgRec { r with addr := setFld r.addr 19 3 (fld r.addr 19 3 + 1) }

/-- A write of `CFG_DATA` (R499). -/
def cfgDataWrite (s : State) (m : Nat) (v : Word) : State :=
  let a := (s.cfgRec m).addr
  let s1 := s.cfgNext m
  if s.cfg.txn = .idle ∨ s.cfg.owner ≠ m then s1.cfgStat m 2
  else if bit a 63 then s1.cfgStat m 5
  else if s.cfg.txn ≠ .opened then s1.cfgStat m 1
  else { s1 with cfg.shadow := smPut s1.cfg.shadow (fld a 19 3) 0 v }

/-- A read of `CFG_DATA` (R508). -/
def cfgDataRead (s : State) (m : Nat) : Word × State :=
  let a := (s.cfgRec m).addr
  (smGet (if bit a 63 then s.cfg.bank else s.cfg.shadow) (fld a 19 3) 0, s.cfgNext m)

/-- What bars a command of the owner in the OPEN state: its RSTAT (R500). (DEDUCED, log entry 72) -/
def cfgBar (s : State) (m : Nat) : Option Nat :=
  if s.cfg.txn = .idle ∨ s.cfg.owner ≠ m then some 2 else if s.cfg.txn ≠ .opened then some 1 else none

/-- IMGLOAD (R500). -/
def cfgImgload (s : State) (m : Nat) : State :=
  match s.cfgBar m with
  | some x => s.cfgStat m x
  | none =>
    let r := s.cfgRec m
    let src := r.arg0.toNat
    let first := fld r.arg1 63 42
    let n := fld r.arg1 22 0
    let want : Nat × Nat := (first, first + n - 1)
    if n = 0 ∨ 4194304 < n ∨ 4194304 < first + n ∨ s.sdramTop < src + 8 * n then s.cfgStat m 6
    else if (([s.cfg.shadow, s.cfg.bank] ++ s.cfg.old.map (·.2)).flatMap bankImages).any (fun x => rangesMeet want x.2) ||
        s.cfg.loads.any (fun (l : ImgLoad) => rangesMeet want (l.first, l.first + l.count - 1)) then s.cfgStat m 4
    else
      let b := s.memRead src (8 * n)
      let ws := (List.range n).map (fun i => w64 (bytesToNat ((b.1.drop (8 * i)).take 8)))
      let d := (sha384 b.1).toNat
      let s1 := ({ b.2 with
        code := ws.zipIdx.foldl (fun c x => smPut c (first + x.2) 0 x.1) b.2.code
        cfg.loads := b.2.cfg.loads ++ [⟨first, n⟩] } : State).codeDrop (first / 8) ((first + n + 7) / 8)
      ((List.range 6).foldl (fun (s : State) j => s.rset (Reg.CFG_IMG_DIGEST j) (w64 (d / 2 ^ (64 * j)))) s1).cfgStat m 0

/-- COMMIT: the transaction waits for the owner's stores (R501). -/
def cfgCommit (s : State) (m : Nat) : State :=
  match s.cfgBar m with
  | some x => s.cfgStat m x
  | none => { s with cfg.txn := .validating }.cfgStat m 0

/-- The owner's stores are performed, and validation ends (R501, R502). -/
def cfgValidated (s : State) : State :=
  let o := s.cfg.owner
  if s.cfg.txn ≠ .validating ∨ (0x10 ≤ o ∧ o ≤ 0x18 ∧ !s.eClear (o - 0x10)) then s
  else
    match s.validate s.cfg.shadow with
    | some x => ({ s with cfg.txn := .opened }.cfgStat o 3).rset Reg.CFG_REJECT (w64 (2 ^ 63 + x % 2 ^ 20))
    | none =>
      let at_ := (s.rget Reg.CFG_TXN_AT).toNat
      { s with cfg := { s.cfg with txn := .armed, whenAt := at_, late := decide (at_ = 0) || decide (at_ < s.tick.nextWafer) } }.cfgStat o 0

/-- ABORT (R503). -/
def cfgAbort (s : State) (m : Nat) : State :=
  if s.cfg.txn = .idle ∨ (m ≠ s.cfg.owner ∧ m ≠ 0x18) then s.cfgStat m 2
  else
    { s with
      cfg := { s.cfg with txn := .idle, shadow := [], owner := 0, loads := [], late := false }
      code := s.cfg.loads.foldl (fun c (l : ImgLoad) => c.filter (fun e => !(decide (l.first ≤ e.1 ∧ e.1 < l.first + l.count)))) s.code }.cfgStat m 0

/-- A write of `CFG_TXN_CMD` (Table 16.13). -/
def cfgCommand (s : State) (m : Nat) (v : Word) : State :=
  let op := fld v 3 0
  if op = 1 then s.cfgOpen m else if op = 2 then s.cfgCommit m else if op = 3 then s.cfgAbort m
  else if op = 4 then s.cfgImgload m else s.cfgStat m 6

/-- `CFG_TXN_STATUS` as a master reads it (Table 16.13). -/
def cfgStatus (s : State) (m : Nat) : Word :=
  let st := match s.cfg.txn with
    | .idle => 0
    | .copying => 1
    | .opened => 2
    | .validating => 3
    | .armed => 4
  w64 (st * 2 ^ 60 + s.cfg.owner % 4096 * 2 ^ 48 + b2n s.cfg.late * 16 + (s.cfgRec m).rstat)

end State

def execCfgOpen (m : Nat) (s : State) : Out := .next (s.onlyIf (s.mayWrite m) (·.cfgOpen m))
def execCfgShadowCopyDone (s : State) : Out := .next (s.onlyIf (!s.dead) (·.cfgCopied))
def execCfgDataWrite (m : Nat) (v : Word) (s : State) : Out := .next (s.onlyIf (s.mayWrite m) (·.cfgDataWrite m v))
def execCfgDataRead (m : Nat) (s : State) : Out :=
  let r := s.cfgDataRead m
  .next { r.2 with lastRead := r.1 }
def execCfgImgload (m : Nat) (s : State) : Out := .next (s.onlyIf (s.mayWrite m) (·.cfgImgload m))
def execCfgCommit (m : Nat) (s : State) : Out := .next (s.onlyIf (s.mayWrite m) (·.cfgCommit m))
def execCfgValidationDone (s : State) : Out := .next (s.onlyIf (!s.dead) (·.cfgValidated))
def execCfgAbort (m : Nat) (s : State) : Out := .next (s.onlyIf (s.mayWrite m) (·.cfgAbort m))
def execCfgLockSet (m : Nat) (v : Word) (s : State) : Out :=
  .next (s.onlyIf (s.mayWrite m) (fun s => s.rset Reg.CFG_LOCK (s.rget Reg.CFG_LOCK ||| (v &&& 1))))

end Sys2Proof.Machine
end

