-- ==== Sys2Proof/Machine/BootRom.lean ====
section
/-! DEFINITION. Resets and what they keep, the boot flash and its images, the fuses (R487 to R493, R506, R507). -/

namespace Sys2Proof.Machine

/-- A component of an image (Table 16.4). -/
structure Comp where
  type   : Nat
  index  : Nat
  off    : Nat
  len    : Nat
  target : Nat
  digest : List Byte
  deriving DecidableEq, Repr

/-- An image's header and directory (Table 16.3). -/
structure Image where
  slot   : Nat
  pers   : Nat
  svn    : Nat
  flags  : Nat
  len    : Nat
  keyIdx : Nat
  build  : Nat
  comps  : List Comp
  deriving DecidableEq, Repr

/-- First flash address of a slot (Table 16.2). -/
def slotBase (k : Nat) : Nat := if k = 0 then 0x01000000 else 0x05000000

/-- The lengths that a component's content may have (Table 16.4). -/
def Comp.lenOk (c : Comp) : Bool :=
  if c.type = 1 ∨ c.type = 4 then decide (c.len ≤ 131072)
  else if c.type = 2 then decide (c.len = 81936)
  else if c.type = 3 then decide (c.len % 64 = 0 ∧ 64 ≤ c.len ∧ c.len ≤ 512)
  else if c.type = 5 ∨ c.type = 8 then decide (c.len % 16 = 0)
  else if c.type = 6 then decide (c.len % 8 = 0 ∧ c.target + c.len / 8 ≤ 4194304)
  else decide (c.len ≤ 0xA0000)

/-- INDEX and TARGET of a component (Table 16.4). -/
def Comp.namesOk (c : Comp) : Bool :=
  if c.type = 1 then decide (c.index = 0 ∧ c.target < 8192)
  else if c.type = 4 then decide (c.index < 8 ∧ c.target / 2 ^ 18 = 0 ∧ natField c.target 15 13 = 0)
  else if c.type = 6 then true
  else if c.type = 8 then decide (c.index < 2 ∧ c.target = 0)
  else decide (c.index = 0 ∧ c.target = 0)

/-- The directory meets Table 16.4. (DEDUCED, log entry 69) -/
def Image.dirOk (i : Image) : Bool :=
  let cs := i.comps
  let count (t : Nat) : Nat := (cs.filter (fun c => decide (c.type = t))).length
  let once (t : Nat) : Bool := !repeated ((cs.filter (fun c => decide (c.type = t))).map (·.index))
  cs.all (fun c => decide (1 ≤ c.type ∧ c.type ≤ 8 ∧ c.off % 64 = 0 ∧ 0x100 + 64 * cs.length ≤ c.off ∧ c.off + c.len ≤ i.len) &&
      c.lenOk && c.namesOk) &&
    decide (count 1 = 1 ∧ count 2 = 1 ∧ count 7 = 1 ∧ count 3 ≤ 1 ∧ count 5 ≤ 1) && once 4 && once 8 &&
    (overlapping ((cs.filter (fun c => decide (0 < c.len))).map (fun c => (0, (c.off, c.off + c.len - 1))))).isEmpty

namespace State

/-- Bytes of the boot flash. (DESIGN CHOICE, log entry 9) -/
def flashBytes (s : State) (a n : Nat) : List Byte := smBytes s.boot.flash 0xFF a n
def flashNat (s : State) (a n : Nat) : Nat := bytesToNat (s.flashBytes a n)

/-- PHASE of boot (Table 16.11). -/
def phase (s : State) : Nat := s.rfld Reg.BOOT_STATUS 63 60

/-- The directory entry at a flash address. -/
def flashComp (s : State) (a : Nat) : Comp :=
  { type := s.flashNat a 2, index := s.flashNat (a + 2) 2, off := s.flashNat (a + 4) 4, len := s.flashNat (a + 8) 4,
    target := s.flashNat (a + 12) 4, digest := s.flashBytes (a + 16) 48 }

/-- The header in a slot, none where it does not meet Table 16.3. -/
def flashHeader (s : State) (k : Nat) : Option Image :=
  let b := slotBase k
  let n := s.flashNat (b + 0x0C) 2
  let i : Image := { slot := k, pers := s.flashNat (b + 6) 2, svn := s.flashNat (b + 8) 4, flags := s.flashNat (b + 0x0E) 2,
                     len := s.flashNat (b + 0x10) 4, keyIdx := s.flashNat (b + 0x14) 1, build := s.flashNat (b + 0x18) 8,
                     comps := (List.range (min n 32)).map (fun j => s.flashComp (b + 0x100 + 64 * j)) }
  if s.flashNat b 4 = 0x5A341600 ∧ s.flashNat (b + 4) 2 = 1 ∧ 1 ≤ n ∧ n ≤ 32 ∧ i.svn ≤ 64 ∧ i.flags < 8 ∧ i.len % 64 = 0 ∧
      i.len ≤ 0x03FFFF00 ∧ i.keyIdx ≤ 3 ∧ s.flashNat (b + 0x15) 3 = 0 ∧ s.flashNat (b + 0x20) 0xE0 = 0 then some i else none

/-- Bits [127:0] and the whole of an image's digest (R492). -/
def imageDigest (s : State) (i : Image) : BitVec 384 := sha384 (s.flashBytes (slotBase i.slot) i.len)

/-- The image in a slot, or the ERR code of the first condition of R492 that does not hold. -/
def flashImage (s : State) (k : Nat) : Except Nat Image :=
  match s.flashHeader k with
  | none => .error 1
  | some i =>
    let g := slotBase k + i.len
    let key := s.flashBytes g 97
    if !i.dirOk then .error 7
    else if nth s.boot.keyHash i.keyIdx none ≠ some (sha384 key) ∨ s.boot.revoked.testBit i.keyIdx then .error 2
    else if s.flashNat g 1 ≠ 4 ∨ !ecdsaVerify (beNat (s.flashBytes (g + 1) 48)) (beNat (s.flashBytes (g + 49) 48)) (s.imageDigest i)
        (beNat (s.flashBytes (g + 0x80) 48)) (beNat (s.flashBytes (g + 0xB0) 48)) then .error 3
    else if i.svn < s.boot.fuseSvn then .error 4
    else if i.pers = 0 ∨ !(List.range 4).any (fun j => decide (s.rfld Reg.BOOT_PERS_SUP (16 * j + 15) (16 * j) = i.pers)) then .error 5
    else .ok i

/-- A component's bytes, checked against its DIGEST (R492). -/
def compBytes (s : State) (i : Image) (c : Comp) : Except Nat (List Byte) :=
  let b := s.flashBytes (slotBase i.slot + c.off) c.len
  if digestBytes (sha384 b) = c.digest then .ok b else .error 6

/-- The outputs that follow from what a reset keeps; no change is recorded (R314, R488). -/
def tripQuiet (s : State) : State := { s with trip := (tripEval s 0).trip }

/-- What no reset touches: the queue, the count of free values, flash, fuses, the boot counter, the state of the rails and
the trip drivers' own lasting state (R317, R491, R514). -/
def bare (s : State) (strap : Bool) : State :=
  { State.reset with
    pending := s.pending, free := s.free, lastRead := s.lastRead
    power := { Reset.power with low := s.power.low }
    trip := { State.reset.trip with rail := s.trip.rail }
    boot := { Reset.boot with strap := strap, count := s.boot.count, flash := s.boot.flash, fuseSvn := s.boot.fuseSvn,
                              revoked := s.boot.revoked, keyHash := s.boot.keyHash } }

/-- FORCE and every `TRP_OUTk_CFG` carried over (R314). (DEDUCED, log entry 39) -/
def keepTrip (old s : State) : State :=
  (List.range 32).foldl (fun (s : State) k => s.rset (Reg.TRP_OUT_CFG k) (old.rget (Reg.TRP_OUT_CFG k)))
    { s with trip.force := old.trip.force }

/-- A power-on reset: every unit, the C4 state with it (R465, R487).  The hold of R314 carries FORCE of cause SUPPLY where
the always-on rail brought the reset on. -/
def powerOn (s : State) (strap : Bool) : State :=
  let s1 := s.bare strap
  if s.trip.rail ∧ s.trip.force = .supply then ({ keepTrip s s1 with pins.alive := false }).tripQuiet else s1

/-- Every dirty line written back to SDRAM (R488). -/
def flushAll (s : State) : State := s.mem.l2.foldl (fun (s : State) f => s.l2Clean f) s

/-- A warm reset with its cause code (R487 to R489, R503); what a C3 fault has retired stays retired (R451). (DEDUCED, log
entry 71) -/
def warmReset (s0 : State) (cause : Nat) : State :=
  let keeps := decide (cause = 3 ∨ cause = 4)
  let s := if keeps then s0.flushAll else s0
  let s1 := s.bare s.boot.strap
  let s2 := { s1 with
    fclLog := s.fclLog
    fab.links := s.fab.links.map (fun (l : Link) => { Reset.link with
      signal := l.signal, state := if l.state = .failed then .failed else .down })
    engines := s.engines.map (fun (e : Engine) => { Reset.engine with failed := e.failed })
    mem := { Reset.mem with sdram := if keeps then s.mem.sdram else [] }
    pins := { Reset.pins with alive := s.pins.alive }
    trip.outs := s.trip.outs.map (fun o => { Reset.tripOut with
      stuck := o.stuck, t := o.t, cond := o.cond, sensed := o.sensed, drvOff := o.drvOff }) }
  let s3 := if s.trip.rail then keepTrip s s2 else s2
  let s4 := ([Reg.FCL_CTRL, Reg.FCL_FIRST 4, Reg.FCL_FIRST_WAFER 4, Reg.FCL_FIRST_TAG 4, Reg.FCL_FIRST_TIME 4]).foldl
    (fun (x : State) a => x.rset a (s.rget a)) s3
  let s5 := ((s4.rset Reg.FCL_STATUS (s.rget Reg.FCL_STATUS &&& 0x18)).rset Reg.FCL_OVF (s.rget Reg.FCL_OVF &&& 0x10)).rset
    Reg.BOOT_CAUSE (w64 (s.rfld Reg.BOOT_CAUSE 3 0 * 16 + cause))
  let s6 := (List.range 9).foldl (fun (x : State) n => x.rsetBit (Reg.CEN_STATUS n) 9 (s.engineAt n).failed) s5
  let s7 := (List.range 16).foldl (fun (x : State) t =>
    (x.rsetFld (Reg.TIL_STATUS t) 9 8 (if s.tileState t = 2 then 2 else 0)).rset (Reg.L2C_WAYDIS t) (s.rget (Reg.L2C_WAYDIS t))) s6
  (((s7.stillRetired s 0).stillRetired s 2).rsetBit Reg.BOOT_STATUS 55 keeps).tripQuiet

/-- A rail at its reset level for 100 ns (R314, R446, Table 16.1): rail 6 is the always-on rail; a device that a reset holds already
stays held. -/
def supplyReset (s : State) (rail : Nat) : State :=
  let low := if s.power.low.contains rail then s.power.low else s.power.low ++ [rail]
  let s1 := setForce { s with power.low := low, pins.aliveEn := false } .supply
  if rail = 6 then s1.powerOn s.boot.strap else if s.boot.held then s1 else s1.warmReset 2

/-- A write of `BOOT_RESET` (R487, R507). -/
def hostReset (s : State) (m : Nat) (v : Word) : State :=
  if (m = 0x18 ∨ m = 0x19) ∧ fld v 31 0 = 0x5A5A0001 then s.warmReset 4 else s

/-- The `BOOT_X` registers take an access (R507). -/
def flashOpen (s : State) (m : Nat) : Bool :=
  decide (0x10 ≤ m ∧ m ≤ 0x19) && (s.rbit Reg.BOOT_CTRL 0 || decide (s.phase = 6))

/-- A flash address that commands may not touch: the boot counter's and the slot in use's (R507). -/
def flashBarred (s : State) (a : Nat) : Bool :=
  decide (0x10000 ≤ a ∧ a < 0x20000) ||
    (s.boot.keyIdx.isSome && decide (slotBase s.boot.slot ≤ a ∧ a < slotBase s.boot.slot + 0x04000000))

/-- A write of `BOOT_XCMD` (R507); one while a command is in progress is ignored, and a reserved operation ends with
ERROR. -/
def flashCommand (s : State) (m : Nat) (v : Word) : State :=
  let op := fld v 3 0
  let a := s.rfld Reg.BOOT_XADDR 31 3 * 8
  if s.boot.flashOp.isSome then s
  else if !s.flashOpen m then s.rsetFld Reg.BOOT_XSTATUS 3 0 1
  else if op = 0 ∨ 3 < op then s.rsetFld Reg.BOOT_XSTATUS 3 0 2
  else if s.flashBarred a then s.rsetFld Reg.BOOT_XSTATUS 3 0 1
  else { s with boot.flashOp := some (op, a, s.rget Reg.BOOT_XDATA) }

/-- The flash command in progress completes; `ok` is what the flash reports (R507).  Programming clears bits and sets
none, as flash memory does. (PRESUMED, log entry 70) -/
def flashDone (s : State) (ok : Bool) : State :=
  match s.boot.flashOp with
  | none => s
  | some (op, a, d) =>
    let s1 := { s with boot.flashOp := none }.rsetFld Reg.BOOT_XSTATUS 3 0 (if ok then 0 else 2)
    if !ok then s1
    else if op = 1 then s1.rset Reg.BOOT_XDATA (w64 (s1.flashNat a 8))
    else if op = 2 then
      { s1 with boot.flash := smPutBytes s1.boot.flash 0xFF a (natToBytes 8 (w64 (s1.flashNat a 8) &&& d).toNat) }
    else { s1 with boot.flash := s1.boot.flash.filter (fun e => decide (e.1 / 65536 ≠ a / 65536)) }

/-- A write of `BOOT_SVN_ADV` (R506, R507). -/
def svnAdvance (s : State) (m : Nat) (v : Word) : State :=
  if (m = 0x18 ∨ m = 0x19) ∧ !s.locked ∧ bit v 0 then
    { s with boot.fuseSvn := max s.boot.fuseSvn (s.rfld Reg.BOOT_SVN 14 8) }
  else s

/-- A write of `BOOT_REVOKE`; the running image's slot is refused (R506, R507). -/
def keyRevoke (s : State) (m : Nat) (v : Word) : State :=
  if (m = 0x18 ∨ m = 0x19) ∧ !s.locked then
    { s with boot.revoked := (List.range 4).foldl (fun r i =>
        if bit v i && decide (s.boot.keyIdx ≠ some i) then r ||| 2 ^ i else r) s.boot.revoked }
  else s

end State

def execPowerOnReset (strap : Bool) (s : State) : Out := .next (s.powerOn strap)
def execPinReset (s : State) : Out := .next (s.warmReset 3)
def execHostReset (m : Nat) (v : Word) (s : State) : Out := .next (s.onlyIf (s.mayBoot m) (·.hostReset m v))
def execSupplyReset (rail : Nat) (s : State) : Out := .next (s.supplyReset rail)
def execBootFlashRead (m : Nat) (s : State) : Out := .next (s.onlyIf (s.mayBoot m) (·.flashCommand m 1))
def execBootFlashProgram (m : Nat) (s : State) : Out := .next (s.onlyIf (s.mayBoot m) (·.flashCommand m 2))
def execBootFlashErase (m : Nat) (s : State) : Out := .next (s.onlyIf (s.mayBoot m) (·.flashCommand m 3))
def execBootFlashDone (ok : Bool) (s : State) : Out := .next (s.flashDone ok)
def execBootSvnAdvance (m : Nat) (v : Word) (s : State) : Out := .next (s.onlyIf (s.mayBoot m) (·.svnAdvance m v))
def execBootKeyRevoke (m : Nat) (v : Word) (s : State) : Out := .next (s.onlyIf (s.mayBoot m) (·.keyRevoke m v))

end Sys2Proof.Machine
end

