-- ==== Sys2Proof/Machine/Pins.lean ====
section
/-! DEFINITION. Junction sensors, the Ethernet and 10BASE-T1L ports, MSI-X, and the host function's reset (R280, R518,
R522 to R529, R536). -/

namespace Sys2Proof.Machine

/-- Register block of a port: 0 and 1 Ethernet, 2 to 17 the 10BASE-T1L ports (R536). -/
def portBlock (i : Nat) : Nat := if i < 2 then 0x52 + i else 0x60 + (i - 2)

/-- Address of a port's register at an offset of Table 16.16. -/
def portReg (i o : Nat) : Nat := csrAddr (portBlock i) o

/-- The largest junction temperature of the grade, in 0.125 °C (Table 17.4). -/
def gradeMax : Int := if Config.gradeI then 840 else 760

/-- A frame's EtherType after any VLAN tag (R528). -/
def etherType (f : List Byte) : Nat :=
  let t := beNat ((f.drop 12).take 2)
  if t = 0x8100 then beNat ((f.drop 16).take 2) else t

/-- The payload of an untagged or tagged frame. -/
def framePayload (f : List Byte) : List Byte := if beNat ((f.drop 12).take 2) = 0x8100 then f.drop 18 else f.drop 14

namespace State

/-- The hottest sensor as `BOOT_TEMP` shows it (Table 17.13). -/
def tempWord (s : State) : Word :=
  let h := (List.range 20).foldl (fun b k => if nth s.pins.temps b 0 < nth s.pins.temps k 0 then k else b) 0
  w64 (h * 65536 + wrapInt 16 (nth s.pins.temps h 0))

/-- A reading of junction sensor `k` in 0.125 °C (R518). (DESIGN CHOICE, log entry 82) -/
def tempReading (s : State) (k : Nat) (t : Int) : State :=
  let was := nth s.pins.temps k 0
  let s1 := { s with
    pins.temps := updAt s.pins.temps k (fun _ => t)
    pins.hot := updAt s.pins.hot k (fun h => if t < 1000 then none else match h with
      | some x => some x
      | none => some s.clock) }
  let w := s1.tempWord
  let s2 := s1.rset Reg.BOOT_TEMP w
  let s3 := if signedOf 16 (s2.rget Reg.BOOT_TEMPMAX).toNat < signedOf 16 w.toNat then s2.rset Reg.BOOT_TEMPMAX w else s2
  if gradeMax < t ∧ was ≤ gradeMax then (s3.rsetBit Reg.BOOT_TEMPSTAT 0 true).event 0x020 k 0x101 k else s3

/-- A sensor has been at 125 °C for 10 µs (R518). -/
def tempCritical (s : State) (k : Nat) : State :=
  match nth s.pins.hot k none with
  | some t0 => if t0 + 10000 ≤ s.clock then s.grave 0x020 0x10 k (k * 65536 + 0x102) else s
  | none => s

/-- MSI-X vector `v` from a write of `PCI_IRQ` by an engine or the sequencer (R523). -/
def pciIrq (s : State) (m : Nat) (v : Word) : State :=
  let x := fld v 5 0
  if 0x10 ≤ m ∧ m ≤ 0x18 ∧ x ≠ 0 then s.raiseVector x else s

/-- The PCIe link is up, at a width and speed that the partners have agreed on (Table 17.15). -/
def pciUp (s : State) : State :=
  if s.rbit Reg.PCI_STATUS 8 then s
  else
    let r := s.drawNat
    let w := 2 ^ (r.1 % 4)
    (r.2.rsetBit Reg.PCI_STATUS 8 true).rsetFld Reg.PCI_STATUS 7 0 (w * 16 + (r.1 / 4 % 5 + 1))

/-- A reset of the host function (R280, R503): `kind` 0 Function Level Reset, 1 hot reset, 2 link down. -/
def pcieReset (s : State) (kind : Nat) : State :=
  let s1 := (s.masterReset 0x19).abortOf 0x19
  if kind = 0 then s1.rsetBit Reg.PCI_STATUS 9 true
  else if kind = 2 then s1.rsetFld Reg.PCI_STATUS 8 0 0
  else s1

/-- The port is enabled, powered and clocked, and runs (R434, R464, R485). -/
def portOn (s : State) (i : Nat) : Bool :=
  !s.dead && s.rbit (portReg i 0) 0 && s.domOn (if i < 2 then 130 else 131) && s.rbit Reg.CLK_STATUS 7 &&
    !(s.rbit Reg.FCL_STATUS 4 && decide (i < 2))

def portAt (s : State) (i : Nat) : Port := nth s.ports i Reset.port
def updPort (s : State) (i : Nat) (f : Port → Port) : State := { s with ports := updAt s.ports i f }

/-- Descriptors of a ring, and the address of descriptor `k` (Table 17.18). -/
def ringSize (s : State) (a : Nat) : Nat := 2 ^ (min 8 (s.rfld a 3 0) + 6)
def ringDesc (s : State) (a k : Nat) : Nat := s.rfld a 47 12 * 4096 + k % s.ringSize a * 32

/-- A range that a port may read or write: installed memory. -/
def portSolid (s : State) (a n : Nat) : Bool := decide (s.accessKind a n ≠ .hole ∧ s.accessKind a n ≠ .device)

/-- A received PAUSE frame holds the transmitter for its quanta of 512 bit times (IEEE 802.3, Table 17.18).
(PRESUMED, log entry 80) -/
def pauseFrame (s : State) (i : Nat) (f : List Byte) : State :=
  let p := framePayload f
  if beNat (p.take 2) = 1 then
    s.updPort i (fun x => { x with pauseT := s.clock + (beNat ((p.drop 2).take 2) * 2048 + 99) / 100 })
  else s

/-- A frame received on a port at SFD time `ts`, its FCS right or wrong (R525, R528, Table 17.11). (DEDUCED, log entry 79) -/
def frameIn (s0 : State) (i ts : Nat) (fcs : Bool) (f : List Byte) : State :=
  let s := if fcs && decide (i < 2 ∧ etherType f = 0x88F7) && s0.portOn i then s0.classSent 2 0x14 0x11 else s0
  let rx := portReg i 0x18
  let head := s.rfld (portReg i 0x20) 13 0
  if !s.portOn i then s
  else if fcs ∧ i < 2 ∧ s.rbit (portReg i 0) 2 ∧ etherType f = 0x8808 then s.pauseFrame i f
  else if fcs ∧ 2 ≤ i ∧ etherType f = 0x88F7 then s
  else if head % s.ringSize rx = s.rfld (portReg i 0x28) 13 0 % s.ringSize rx then
    (s.rinc (portReg i 0x48)).rsetBit (portReg i 8) 2 true
  else
    let d := s.ringDesc rx head
    let r := s.memRead d 8
    let buf := bytesToNat r.1
    let stat := if !r.2.portSolid buf 2048 then 3 else if !fcs then 1 else if 2048 < f.length then 2 else 0
    let s1 := if stat = 3 then r.2 else r.2.memWrite none buf (f.take 2048)
    let s2 := s1.memWrite none (d + 8) (natToBytes 8 (stat * 2 ^ 24 + f.length % 65536) ++ natToBytes 8 ts)
    s2.rset (portReg i 0x20) (w64 ((head + 1) % s.ringSize rx))

/-- The gates of entry `e`, and its interval (Table 17.18). -/
def gclOpen (s : State) (i e c : Nat) : Bool := s.rbit (portReg i (0x1000 + 8 * e)) (32 + c)
def gclNs (s : State) (i e : Nat) : Nat := s.rfld (portReg i (0x1000 + 8 * e)) 31 0
def gclValid (s : State) (i e : Nat) : Bool := decide (e < 256) && s.rbit (portReg i (0x1000 + 8 * e)) 63

/-- The time at which the gate of class `c`, open now, closes, from entry `e` on that ends at `t`: the list runs on until
the next tick, where entry 0 follows (R526). -/
def gateCloses (s : State) (i c : Nat) : Nat → Nat → Nat → Nat
  | 0, _, t => t
  | n + 1, e, t =>
    let tick := (s.rget Reg.TCK_NEXT).toNat
    if !s.gclOpen i e c then t - s.gclNs i e
    else if !s.gclValid i (e + 1) ∨ tick ≤ t then
      (if s.gclOpen i 0 c then tick + s.gclNs i 0 else tick)
    else gateCloses s i c n (e + 1) (t + s.gclNs i (e + 1))

/-- A frame of `n` bytes of class `c` may start now (R526): its gate is open and it ends, at 25 Gb/s with preamble and FCS,
before the gate closes. -/
def gateAllows (s : State) (i c n : Nat) : Bool :=
  if 2 ≤ i ∨ !s.rbit (portReg i 0) 3 then true
  else
    let p := s.portAt i
    s.gclOpen i p.gate c && decide (s.now + ((n + 12) * 8 + 24) / 25 ≤ s.gateCloses i c 256 p.gate p.gateEnd)

/-- The next frame of traffic class `c` is sent (R525, R526): the oldest descriptor of the class that is not sent.
(DEDUCED, log entry 79) -/
def frameOut (s : State) (i c : Nat) : State :=
  let tx := portReg i 0x30
  let n := s.ringSize tx
  let head := s.rfld (portReg i 0x38) 13 0 % n
  let count := (s.rfld (portReg i 0x40) 13 0 + n - head) % n
  let p := s.portAt i
  let ks := ((List.range count).map (fun j => (head + j) % n)).filter (fun k => !p.ahead.contains k)
  let info (k : Nat) : Nat := bytesToNat (s.memView (s.ringDesc tx k + 8) 8)
  if !s.portOn i ∨ s.clock < p.pauseT then s
  else
    match ks.find? (fun k => decide (natField (info k) 22 20 = c)) with
    | none => s
    | some k =>
      let len := info k % 65536
      if !s.gateAllows i c len then s.rsetBit (portReg i 8) 3 true
      else
        let d := s.ringDesc tx k
        let r := s.memRead d 8
        let buf := bytesToNat r.1
        let stat := if 2048 < len then 2 else if !r.2.portSolid buf (max len 1) then 3 else 0
        let b : List Byte × State := if stat = 0 then r.2.memRead buf len else ([], r.2)
        let s1 := b.2.memWrite none (d + 8) (natToBytes 8 (info k / 2 ^ 28 * 2 ^ 28 + stat * 2 ^ 24 + info k % 2 ^ 24) ++ natToBytes 8 s.now)
        let ahead := k :: p.ahead
        let go := ((List.range count).find? (fun j => !ahead.contains ((head + j) % n))).getD count
        let gone := (List.range go).map (fun j => (head + j) % n)
        (s1.updPort i (fun x => { x with ahead := ahead.filter (fun y => !gone.contains y),
                                         last := if stat = 0 then b.1 else x.last })).rset (portReg i 0x38) (w64 ((head + go) % n))

/-- The next gate entry comes into force: entry 0 after a tick, else the one after the entry
whose interval has ended (R526). -/
def gateNext (s : State) (i : Nat) : State :=
  let p := s.portAt i
  if 2 ≤ i ∨ !s.portOn i ∨ !s.rbit (portReg i 0) 3 then s
  else if p.gateTick ≠ s.tick.count then
    s.updPort i (fun x => { x with gate := 0, gateTick := s.tick.count, gateEnd := s.tick.lastEdge + s.gclNs i 0 })
  else if p.gateEnd ≤ s.now ∧ s.gclValid i (p.gate + 1) then
    s.updPort i (fun x => { x with gate := p.gate + 1, gateEnd := p.gateEnd + s.gclNs i (p.gate + 1) })
  else s

/-- A sensor frame's item on 10BASE-T1L port `p` with SFD time `ts` (R528, R529, Table 17.12). -/
def sensorFrame (s : State) (p ts : Nat) (payload : List Byte) : State :=
  let i := p + 2
  let bad := s.rinc (portReg i 0x58)
  let w (k : Nat) : Nat := bytesToNat ((payload.drop (8 * k)).take 8)
  let nw := w 0 % 65536
  let fits := decide (payload.length = 8 * (nw + 2) ∨ (payload.length = 46 ∧ 8 * (nw + 2) < 46))
  if !s.portOn i then s
  else if payload.length < 16 ∨ natField (w 0) 63 56 ≠ 1 ∨ !fits ∨ !s.rbit (portReg i 0x50) 16 then bad
  else
    match s.chan? (s.rfld (portReg i 0x50) 15 0) with
    | none => bad
    | some c =>
      if c.tcls ∨ c.width ≠ 8 ∨ c.pkind ≠ pkTsl ∨ c.punit ≠ p then bad
      else
        let timed := (w 0).testBit 51
        let t := if timed then w 1 else ts
        let w0 := (setFld (w64 (w 0)) 35 32 p).toNat
        (s.classSent 1 0x15 0x10).unitPacket c ([w0, t] ++ (List.range nw).map (fun k => w (k + 2))) t

/-- A write of a port's register (R526, R536). -/
def portWrite (s : State) (i o : Nat) (v : Word) : State :=
  if o = 0 ∨ o = 0x10 ∨ o = 0x18 ∨ o = 0x30 then
    (if s.running then s.rsetBit (portReg i 8) 4 true
     else s.rwrite (portReg i o) (if o = 0x18 ∨ o = 0x30 then setFld v 3 0 (min 8 (fld v 3 0)) else v))
  else if 0x1000 ≤ o then
    s.updPort i (fun p => { p with gclPend := p.gclPend ++ [((o - 0x1000) / 8, v)] })
  else s.rwrite (portReg i o) v

end State

def execTempOverGrade (k : Nat) (t : Int) (s : State) : Out := .next (s.tempReading k t)
def execTempCritical (k : Nat) (s : State) : Out := .next (s.onlyIf (!s.dead) (·.tempCritical k))
def execPcieFunctionReset (kind : Nat) (s : State) : Out := .next (s.pcieReset kind)
def execPciIrqWrite (m : Nat) (v : Word) (s : State) : Out := .next (s.onlyIf (s.mayWrite m) (·.pciIrq m v))
def execEthFrameReceive (i ts : Nat) (fcs : Bool) (f : List Byte) (s : State) : Out := .next (s.frameIn i ts fcs f)
def execEthRxTailWrite (m i : Nat) (v : Word) (s : State) : Out :=
  .next (s.onlyIf (s.mayWrite m) (·.portWrite i 0x28 v))
def execEthTxTailWrite (m i : Nat) (v : Word) (s : State) : Out :=
  .next (s.onlyIf (s.mayWrite m) (·.portWrite i 0x40 v))
def execEthFrameTransmit (i c : Nat) (s : State) : Out := .next (s.frameOut i c)
def execEthGateEntry (i : Nat) (s : State) : Out := .next (s.gateNext i)
def execTslSensorFrame (p ts : Nat) (payload : List Byte) (s : State) : Out := .next (s.sensorFrame p ts payload)

end Sys2Proof.Machine
end

