-- ==== Sys2Proof/Machine/Regio.lean ====
section
/-! DEFINITION. Reads and writes of any register by a master: the values that registers show, the access codes, the units'
own write rules, and the requests that come over PCIe, I²C and JTAG (R9, R222, R236, R437, R464, R493, R531, R532, R537). -/

namespace Sys2Proof.Machine

/-- The blocks that stay readable after a C4 fault (R464, item 7). -/
def openBlock (b : Nat) : Bool := decide (b ≤ 5 ∨ b = 0x40 ∨ b = 0x41)

/-- The power domain that holds a register, none where it is never switched (Table 14.7). -/
def regDomain (a : Nat) : Option Nat :=
  let b := regBlock a
  let o := regOff a
  if 0x10 ≤ b ∧ b < 0x20 then
    let t := b - 0x10
    let p := (o - 0x4000) / 0x100
    if o < 0x3000 then some (7 * t + 3)
    else if o < 0x4000 then none
    else some (7 * t + (if p < 8 then 0 else if p < 16 then 1 else 2))
  else if 0x30 ≤ b ∧ b < 0x38 then some (117 + (b - 0x30))
  else if b = 0x3A ∨ b = 0x3B then some 125
  else if b = 0x3C ∨ b = 0x3D then some 126
  else if b = 0x50 then some 132
  else if b = 0x52 ∨ b = 0x53 then some 130
  else if 0x60 ≤ b ∧ b < 0x70 then some 131
  else none

/-- Clock domains that hold power domain-like units: whether clock domain `d` runs (Table 14.6). -/
def clockRuns (s : State) (d : Nat) : Bool :=
  if d < 64 then
    let t := d / 4
    if d % 4 = 0 then s.domOn (7 * t)
    else if d % 4 = 1 then s.domOn (7 * t + 1) && decide (s.tileState t < 2)
    else if d % 4 = 2 then s.domOn (7 * t + 2)
    else true
  else if 67 ≤ d ∧ d ≤ 70 then s.domOn 127
  else if d = 71 then s.domOn 128 || s.domOn 129
  else if d = 72 then s.domOn 130 || s.domOn 131
  else if d = 73 then s.domOn 132
  else true

/-- `LinkState` as `FAB_LINKp_STATUS` codes it (Table 13.16). -/
def LinkState.code : LinkState → Nat
  | .down => 0
  | .train => 1
  | .hello => 2
  | .up => 3
  | .restricted => 4
  | .sleep => 5
  | .failed => 6

/-- `DlState` as `MST_DL_STATE` codes it (Table 3.11). -/
def DlState.code : DlState → Nat
  | .idle => 0
  | .watch => 1
  | .paused => 2
  | .confirm => 3
  | .declare => 4

/-- `RunState` as `CEN_STATUS` codes it (Table 12.13). -/
def RunState.code : RunState → Nat
  | .halted => 0
  | .running => 1
  | .waiting => 2
  | .stalled => 3

/-- A number with `w` bits per element, the first lowest. -/
def packBits (w : Nat) (xs : List Nat) : Word := w64 (xs.foldr (fun x acc => acc * 2 ^ w + x % 2 ^ w) 0)

namespace State

/-- JTAG EXTEST, CLAMP and HIGHZ take effect (R531). -/
def jtagLive (s : State) : Bool := !s.running && !s.rbit Reg.TRP_CTRL 0

/-- The JTAG instruction in effect: EXTEST, CLAMP and HIGHZ decode as BYPASS while RUN or ARM is 1 (R531). -/
def jtagEffect (s : State) : Nat := if 3 ≤ s.pins.jtag ∧ !s.jtagLive then 0 else s.pins.jtag

/-- A field of `CLK_DOMj` (R433, Table 14.13). (DESIGN CHOICE, log entry 58) -/
def clockCode (s : State) (d : Nat) : Nat :=
  if 76 ≤ d ∨ !clockRuns s d then 0
  else if !s.rbit Reg.CLK_CTRL 0 || decide (d = 66) || decide (3 ≤ s.jtagEffect) ||
      (decide (d < 64) && decide (s.tileState (d / 4) = 1)) then 2
  else 1

/-- A field of `PWR_DOMj` (Table 14.15). -/
def domCode (s : State) (d : Nat) : Nat :=
  if 134 ≤ d then 0
  else if s.power.moving.any (fun r => decide (r.1 = d)) then 3
  else nth s.power.doms d 0

/-- `TCK_SLOTs_STATE` (Table 1.7). -/
def slotWord (k : Slot) : Word :=
  w64 (b2n k.wide * 2 ^ 39 + b2n k.quar * 2 ^ 38 + b2n k.suspect * 2 ^ 37 + k.state % 16 * 2 ^ 32 + k.epoch % 2 ^ 32)

/-- TCK registers as they read (Table 1.3). (DESIGN CHOICE, log entry 102) -/
def tckValue (s : State) (o : Nat) (w : Word) : Word :=
  let k := s.slotAt ((o - 0x100) / 0x20)
  if o = 0x10 then setBit w 2 s.admitHeld
  else if o = 0x18 then w64 s.now
  else if o = 0x50 then w64 s.closed.length
  else if o = 0x80 then w64 (s.now / 1000)
  else if o < 0x100 then w
  else if o % 0x20 = 0 then w64 k.wafer
  else if o % 0x20 = 8 then slotWord k
  else if o % 0x20 = 0x10 then w64 k.openT
  else w64 k.closeT

/-- The oldest epoch of an uncommitted wafer (R497). -/
def oldestEpoch (s : State) : Nat := s.epochsInUse.foldl min s.epochNow

/-- CFG registers as they read (Table 16.12). -/
def cfgValue (s : State) (m o : Nat) (w : Word) : Word × State :=
  let r := s.cfgRec m
  if o = 0x18 then (s.cfgStatus m, s)
  else if o = 0x28 then (r.addr, s)
  else if o = 0x30 then s.cfgDataRead m
  else if o = 0x38 then (r.arg0, s)
  else if o = 0x40 then (r.arg1, s)
  else if o = 0x58 then (w64 s.oldestEpoch, s)
  else (w, s)

/-- BOOT registers as they read (Table 16.10); the `BOOT_X` registers show nothing to a master without access (R507). -/
def bootValue (s : State) (m o : Nat) (w : Word) : Word :=
  if o = 0x18 then w64 (s.boot.count % 2 ^ 32)
  else if o = 0x30 then setFld w 6 0 s.boot.fuseSvn
  else if (o = 0x80 ∨ o = 0x88) ∧ !s.flashOpen m then 0
  else if o = 0x98 then setBit w 63 s.boot.flashOp.isSome
  else w

/-- FCL registers as they read (Table 15.13). -/
def fclValue (s : State) (o : Nat) (w : Word) : Word :=
  let r : FclRec := (s.fclLog.head?).getD ⟨0, 0, 0, 0⟩
  let k := s.slotAt ((o - 0x1C0) / 8)
  if o = 0x08 then setBit w 2 (!s.recOpen.isEmpty)
  else if o = 0x100 then r.word
  else if o = 0x108 then r.wafer
  else if o = 0x110 then r.tag
  else if o = 0x118 then r.time
  else if o = 0x128 then w64 s.fclLog.length
  else if o = 0x158 then w64 s.recQ.length
  else if o = 0x160 then packBits 4 (s.slots.map (·.inc))
  else if o = 0x180 then setBit w 0 s.journalOn
  else if 0x1C0 ≤ o ∧ o < 0x200 then w64 (b2n k.nojrnl * 2 ^ 63 + k.journal.length)
  else if 0x300 ≤ o ∧ !s.rbit Reg.FCL_STATUS 4 then 0
  else w

/-- BASE of `PWR_STATUS` (R439, Table 14.16): 1 where a domain that RUN keeps on is off. -/
def powerBase (s : State) : Nat :=
  if s.power.doze ≠ 0 then s.power.doze else if s.power.doms.all (fun d => decide (d = 1)) then 0 else 1

/-- `PWR_STATUS` as it reads (Table 14.16). -/
def powerStatus (s : State) (w : Word) : Word :=
  let b := s.powerBase
  setBit (setFld (setFld w 14 12 b) 10 8 (if s.hold || s.power.wakeHeld then 5 else b)) 0
    (!s.power.waiting.isEmpty || s.power.wakeHeld)

/-- PSTATE of a tile (Table 14.16): a tile whose park waits for the next tick is PARKING already. -/
def parkState (s : State) (t : Nat) : Nat := if s.power.parkReq.contains (t, true) then 1 else nth s.power.park t 0

/-- PWR registers as they read (Table 14.15). -/
def pwrValue (s : State) (o : Nat) (w : Word) : Word :=
  if o = 0x08 then s.powerStatus w
  else if o = 0x18 then packBits 1 ((List.range 15).map (fun i => b2n (decide (nth s.power.doms (unitDomain i) 0 ≠ 0))))
  else if 0x100 ≤ o ∧ o < 0x180 then setFld w 9 8 (s.parkState ((o - 0x100) / 8))
  else if 0x200 ≤ o then packBits 2 ((List.range 32).map (fun i => s.domCode (32 * ((o - 0x200) / 8) + i)))
  else w

/-- CLK and NOC registers as they read (Tables 14.11 and 14.13).  How many crossings there are, and how many flits each
router forwards, the manual does not say: which count of crossings uses bridges is open, and a router's counter grows by a free number of
flits, those of the read itself among them, before it is read. -/
def clkValue (s : State) (o : Nat) (w : Word) : Word × State :=
  if o = 0x10 then
    (w64 (Config.bridged (!s.rbit Reg.CLK_CTRL 0 || decide (3 ≤ s.jtagEffect))
      (maskOf ((List.range 16).filter (fun t => decide (s.tileState t = 1)))) % 256), s)
  else if 0x100 ≤ o then (packBits 2 ((List.range 32).map (fun i => s.clockCode (32 * ((o - 0x100) / 8) + i))), s)
  else (w, s)

def nocValue (s : State) (o : Nat) (w : Word) : Word × State :=
  if o = 0x10 then ((match s.oldestWafer with
    | some x => w64 (8 + x % 8)
    | none => 0), s)
  else if o = 0x18 then
    let c := if s.tick.started then (s.now - s.tick.lastEdge) * 3 / 2 else 0
    (w64 (c / 1024 % 2 ^ 32 * 2 ^ 16 + c % 1024), s)
  else if 0x400 ≤ o then
    let r := s.drawWord
    (w + r.1, r.2.rset (csrAddr 0x6 o) (w + r.1))
  else (w, s)

/-- SCH registers as they read (Table 9.7). -/
def schValue (s : State) (o : Nat) (w : Word) : Word :=
  if o = 0x10 then w64 s.acts.length
  else if o = 0x30 then w64 (s.frameGaps.foldl (fun n g => n + (g.2 - g.1)) 0)
  else if o = 0x38 then w64 s.startReqs.length
  else if o = 0x40 then w64 s.flowQ.length
  else if o = 0x50 then w64 s.delays.length
  else if o = 0x88 then setBit w 0 s.trcArea
  else w

/-- LKU registers as they read (Table 9.9). -/
def lkuValue (s : State) (m o : Nat) (w : Word) : Word :=
  if o = 0x18 then s.lkuResp m
  else if o = 0x28 then w64 (s.locks.filter (·.holder.isSome)).length
  else if o = 0x30 then w64 (s.locks.foldl (fun n l => n + l.waiters.length) 0)
  else if o = 0x38 then w64 s.fabricWaits
  else if 0x1000 ≤ o then s.lockState ((o - 0x1000) / 8)
  else w

/-- CHN registers as they read (Table 11.9). -/
def chnValue (s : State) (m o : Nat) (w : Word) : Word :=
  let r := s.chnRec m
  if o = 0x10 then w64 (s.chans.filter (·.live)).length
  else if o = 0x18 then w64 s.qramFree
  else if o = 0x20 then setBit w 0 (bit w 0 && decide (fld w 47 16 * 65536 + s.rfld Reg.CHN_OVF_SIZE 47 16 * 65536 ≤ s.sdramTop))
  else if o = 0x30 then w64 s.ovfFree
  else if o = 0x40 then r.arg0
  else if o = 0x48 then r.arg1
  else if o = 0x58 then r.resp
  else if o = 0x60 then r.data
  else w

/-- MODE of `MST_STATUS` (Table 3.10). -/
def mstMode (s : State) (t : Nat) : Nat :=
  let x := s.tileAt t
  if s.tileState t = 2 then 4
  else if s.tileState t = 3 then 5
  else if x.oldest then 3
  else if x.spilling then 2
  else b2n s.throttle

/-- TIL, MST, UCS, slice and PEX registers of tile `t` as they read (Tables 2.15, 2.21, 3.8, 8.11). -/
def tileValue (s : State) (t o : Nat) (w : Word) : Word :=
  if o < 0x1000 then (if o = 0x30 then w64 (s.readyCount t) else w)
  else if o = 0x1008 then setFld w 2 0 (s.mstMode t)
  else if o = 0x1010 then w64 (s.mstOcc t)
  else if o = 0x1040 then setBit w 0 (bit w 0 && decide (fld w 47 26 * 0x4000000 + 0x4000000 ≤ s.sdramTop))
  else if o = 0x1058 then w64 (s.spillOcc t)
  else if o = 0x1060 then w64 (s.rsvOcc t)
  else if o = 0x1098 then packBits 4 ((List.range 8).map (fun k => (s.dlState t k).code))
  else if o = 0x3038 then w64 (s.deferred.filter (fun d => decide (d.slice = t))).length
  else if 0x4000 ≤ o ∧ o % 0x100 = 0 then
    let p := (o - 0x4000) / 0x100
    setFld (setFld (setFld w 15 13 (s.ebUsed t p)) 12 9 (s.sbUsed t p)) 8 4 (s.inflight t p)
  else w

/-- CEN registers of engine `n` as they read (Table 12.12). -/
def cenValue (s : State) (n o : Nat) (w : Word) : Word × State :=
  let e := s.engineAt n
  if o = 0x08 then (setFld (setBit (setBit w 4 e.ie) 3 e.loop.active) 2 0 e.run.code, s)
  else if o = 0x20 then (w64 (s.ePending n), s)
  else if o = 0x28 then (w ||| 0xF, s)
  else if o = 0x60 then (s.rget (Reg.CEN_DOORBELL n), s)
  else if o = 0x70 then s.ramRead n
  else (w, s)

/-- CMP and ENC registers of unit `u` as they read (Table 12.14); units 2 and 3 are Glaze. -/
def jobValue (s : State) (m u o : Nat) (w : Word) : Word :=
  let k := nth s.keys ((o - 0x200) / 8) ⟨false, 0, 0, none⟩
  if o = 0x08 then setBit w 1 (s.jobOf u).isSome
  else if o = 0x18 then w64 (s.outstanding m u)
  else if 0x200 ≤ o then w64 (b2n k.valid * 2 ^ 63 + k.policy % 8)
  else w

/-- TRP registers as they read (Table 10.14). (DEDUCED, log entry 105) -/
def trpValue (s : State) (o : Nat) (w : Word) : Word :=
  if o = 0x08 then setFld (setBit (setBit (setFld w 7 6 s.trip.force.code) 5 (decide (s.trip.force ≠ .none))) 4 (s.rbit Reg.TRP_CTRL 0)) 8 8
    (b2n s.trip.rail)
  else if o = 0x10 then w64 (tripBits s (·.t))
  else if o = 0x18 then w64 (tripBits s (·.h))
  else if o = 0x20 then w64 (tripBits s (·.g))
  else if o = 0x28 then w64 (tripBits s (·.sensed) * 2 ^ 32 + tripBits s (·.cond))
  else if 0x2000 ≤ o ∧ o < 0x3000 ∧ o % 0x40 = 0x20 then
    let c := (o - 0x2000) / 0x40
    let x := s.afeCh c
    let wr := s.rget (Reg.TRP_CH_WIN c)
    let fill := (bit wr 50 && decide (x.ppFill < 2 ^ clampNat 1 12 (fld wr 3 0))) ||
      (bit wr 51 && decide (x.rmsFill < 2 ^ clampNat 1 12 (fld wr 7 4)))
    w64 (b2n fill * 256 + b2n (bit wr 48) * 128 + b2n (s.chanNok c) * 64 + x.cond)
  else w

/-- FAB registers as they read (Table 13.15). -/
def fabValue (s : State) (o : Nat) (w : Word) : Word :=
  let p := (o - 0x200) / 0x40
  let l := s.linkAt p
  if o = 0x98 then w64 s.retainUsed
  else if 0x200 ≤ o ∧ o < 0x400 ∧ o % 0x40 = 0x08 then w64 (l.reason % 16 * 16 + l.state.code)
  else if 0x200 ≤ o ∧ o < 0x400 ∧ o % 0x40 = 0x18 then
    (match l.peer with
     | some h => w64 (2 ^ 63 + l.ident % 2 ^ 32 * 2 ^ 16 + h.port % 8 * 2 ^ 10 + h.device % 2 ^ 10)
     | none => w64 (l.ident % 2 ^ 32 * 2 ^ 16))
  else w

/-- ETH and TSL registers of port `i` as they read (Table 17.16).  Whether a powered, enabled port has a link, and whether
it is synchronised, lies with its partner: a free value (Table 17.18). -/
def portValue (s : State) (i o : Nat) (w : Word) : Word × State :=
  if o ≠ 8 then (w, s)
  else if !s.portOn i then (setFld w 1 0 0, s)
  else let r := s.drawNat; (setFld w 1 0 (r.1 % 4), r.2)

/-- What a register shows before the effect of the read on it.  `MST_CONFLICT` counts what happens within single cycles: it is
held as 0 until a lookup comes, and is a free value then until a read clears it. (DESIGN CHOICE, log entry 57) -/
def regValue (s : State) (m a : Nat) : Word × State :=
  let b := regBlock a
  let o := regOff a
  let w := s.rget a
  if b = 0 then (s.tckValue o w, s)
  else if b = 1 then s.cfgValue m o w
  else if b = 2 then (s.bootValue m o w, s)
  else if b = 3 then (s.fclValue o w, s)
  else if b = 4 then (s.pwrValue o w, s)
  else if b = 5 then s.clkValue o w
  else if b = 6 then s.nocValue o w
  else if b = 8 then (s.schValue o w, s)
  else if b = 9 then (s.lkuValue m o w, s)
  else if b = 0xA then (s.chnValue m o w, s)
  else if 0x10 ≤ b ∧ b < 0x20 ∧ o = 0x1080 ∧ s.rget a ≠ 0 then s.drawWord
  else if 0x10 ≤ b ∧ b < 0x20 then (s.tileValue (b - 0x10) o w, s)
  else if 0x30 ≤ b ∧ b ≤ 0x38 then s.cenValue (b - 0x30) o w
  else if 0x3A ≤ b ∧ b ≤ 0x3D then (s.jobValue m (b - 0x3A) o w, s)
  else if b = 0x41 then (s.trpValue o w, s)
  else if b = 0x48 then (s.fabValue o w, s)
  else if b = 0x52 ∨ b = 0x53 then s.portValue (b - 0x52) o w
  else if 0x60 ≤ b ∧ b < 0x70 then s.portValue (b - 0x60 + 2) o w
  else (w, s)

/-- What a read leaves in a register that records a largest value: the quantity as it stands (R537). -/
def maxNow (s : State) (a : Nat) : Option Nat :=
  let b := regBlock a
  let o := regOff a
  if a = Reg.TCK_LAG_MAX then some s.closed.length
  else if a = Reg.SCH_ACT_MAX then some s.acts.length
  else if a = Reg.SCH_DLY_MAX then some s.delays.length
  else if a = Reg.BOOT_TEMPMAX then some (s.rget Reg.BOOT_TEMP).toNat
  else if 0x10 ≤ b ∧ b < 0x20 then
    let t := b - 0x10
    if o = 0x38 then some (s.readyCount t)
    else if o = 0x1018 then some (s.mstOcc t)
    else if 0x4000 ≤ o ∧ o % 0x100 = 0x40 then some (s.inflight t ((o - 0x4000) / 0x100))
    else none
  else if b = 0x40 ∧ 0x100 ≤ o ∧ o < 0x1100 ∧ o % 0x40 = 0x38 then some (s.afeCh ((o - 0x100) / 0x40)).lastY
  else none

/-- A register behind a fence: its domain is off, held in retention, or its tile parked (R437, R440). -/
def regFenced (s : State) (a : Nat) : Bool :=
  match regDomain a with
  | some d => !s.domOn d
  | none => false

/-- A parked tile's TIL, MST, UCS and PEX registers (R440). -/
def regParked (s : State) (a : Nat) : Bool :=
  let b := regBlock a
  decide (0x10 ≤ b ∧ b < 0x20 ∧ ¬(0x3000 ≤ regOff a ∧ regOff a < 0x4000)) && decide (s.tileState (b - 0x10) = 3)

/-- The registers that a parked tile still shows (R440). -/
def parkedShows (a : Nat) : Bool := decide (regOff a = 0 ∨ regOff a = 0x10 ∨ regOff a = 0x1008)

/-- `TIL_STATUS` and `MST_STATUS` of a parked tile show their state alone. -/
def parkedValue (s : State) (a : Nat) : Word :=
  if regOff a = 0 then s.rget a else if regOff a = 0x10 then 0x300 else 5

/-- The read of a register by a master (R9, R10, R222): WO and unlisted registers read 0, an RC register takes its reset
value or the standing quantity. -/
def regRead (s : State) (m a : Nat) : Word × State :=
  match regRowAt a with
  | none => (0, s)
  | some r =>
    if r.wo then (0, s)
    else
      let x := s.regValue m a
      if r.rc then (x.1, x.2.rset a (match s.maxNow a with
        | some n => w64 n
        | none => r.reset))
      else x

/-- Master `m` may read block `b`: after a C4 fault, and for the host while boot is FAILED, only the blocks of item 7 (R464,
R493). (DEDUCED, log entry 76) -/
def mayRead (s : State) (m b : Nat) : Bool := (!s.dead && !(decide (m = 0x19) && decide (s.phase = 6))) || openBlock b

/-- A register read with the fences of R437 and R440. -/
def csrRead (s : State) (m a : Nat) : Word × State :=
  if !s.mayRead m (regBlock a) then (0, s)
  else if s.regParked a && parkedShows a then (s.parkedValue a, s)
  else if s.regFenced a then (0, s.rsetBit Reg.PWR_STATUS 3 true)
  else if s.regParked a then (0, s)
  else s.regRead m a

/-- A write that is accepted only while `bar` does not hold, and otherwise sets bit `i` of status register `st`. -/
def gated (s : State) (bar : Bool) (st i : Nat) (f : State → State) : State := if bar then s.rsetBit st i true else f s

/-- A write of an RWL register whose low `n` bits are clamped. (DEDUCED, log entry 73) -/
def clampLow (s : State) (a n lo hi : Nat) (v : Word) : State :=
  if s.locked then s else s.rset a (w64 (clampNat lo hi (fld v (n - 1) 0)))

/-- A write of a TCK register (Tables 1.4 and 1.5, R24, R32). (DESIGN CHOICE, log entries 29 and 102) -/
def tckWrite (s : State) (a : Nat) (v : Word) : State :=
  let o := regOff a
  if o = 0 then s.tckCtrl v
  else if o = 0x08 then s.tckPeriod v
  else if o = 0x20 then (if s.running then s else { s with now := v.toNat })
  else if o = 0x28 then s.rset a (w64 (wrapInt 32 (clampInt (-500000) 500000 (signedOf 32 (fld v 31 0)))))
  else if o = 0x60 then
    let was := s.lagAt
    (s.rset a (w64 (clampNat 1 4096 (fld v 12 0)))).lagWarn was
  else s.rwrite a v

/-- A write of a CFG register (Tables 16.12 and 16.13). -/
def cfgWrite (s : State) (m a : Nat) (v : Word) : State :=
  let o := regOff a
  let r := s.cfgRec m
  if o = 0x10 then s.cfgCommand m v
  else if o = 0x28 then s.setCfgRec { r with addr := v &&& 0x80000000000FFFF8 }
  else if o = 0x30 then s.cfgDataWrite m v
  else if o = 0x38 then s.setCfgRec { r with arg0 := v }
  else if o = 0x40 then s.setCfgRec { r with arg1 := v &&& 0xFFFFFC00007FFFFF }
  else s.rwrite a v

/-- A write of a BOOT register (R507). -/
def bootWrite (s : State) (m a : Nat) (v : Word) : State :=
  let o := regOff a
  if o = 0x58 then s.hostReset m v
  else if o = 0x60 then s.svnAdvance m v
  else if o = 0x68 then s.keyRevoke m v
  else if o = 0x80 ∨ o = 0x88 then (if s.flashOpen m then s.rwrite a v else s)
  else if o = 0x90 then s.flashCommand m v
  else s.rwrite a v

/-- A write of an FCL register (R455, R461, R463, R485, R486). -/
def fclWrite (s : State) (a : Nat) (v : Word) : State :=
  let o := regOff a
  if o = 0 then s.fclCtrl v
  else if o = 0x18 then s.fclClear v
  else if o = 0x120 then (if bit v 0 then { s with fclLog := s.fclLog.drop 1 } else s)
  else if o = 0x180 then s.gated s.running Reg.FCL_STATUS 0 (·.rwrite a v)
  else if o = 0x188 then s.gated s.running Reg.FCL_STATUS 0 (·.clampLow a 13 0 4096 v)
  else if o = 0x200 then (if bit v 0 then { s with pins.kickT := s.clock } else s)
  else if o = 0x208 then s.gated s.running Reg.FCL_STATUS 0 (·.clampLow a 20 100 1000000 v)
  else if 0x300 ≤ o then (if s.rbit Reg.FCL_STATUS 4 then s.rset a v else s)
  else s.rwrite a v

/-- A write of a PWR register, by the masters of R450. -/
def pwrWrite (s : State) (m a : Nat) (v : Word) : State :=
  let o := regOff a
  if !pwrMaster m then s
  else if o = 0 then (if bit v 0 then s.dozeEnter else s.wake)
  else if o = 0x10 then s.unitPower m v
  else if 0x100 ≤ o ∧ o < 0x180 then
    let t := (o - 0x100) / 8
    ((s.tileClb t (bit v 1)).tileSp t (bit v 2)).tilePark t (bit v 0)
  else s.rwrite a v

/-- A write of an SCH register (R274, R276, R288, Table 9.8). -/
def schWrite (s : State) (a : Nat) (v : Word) : State :=
  let o := regOff a
  if o = 0x20 ∨ o = 0x28 ∨ o = 0x88 then s.gated s.running Reg.SCH_STATUS 0 (·.rwrite a v)
  else if o = 0x48 then s.clampLow a 20 100 1000000 v
  else if o = 0x90 then
    let ring := clampNat 10 24 (fld v 4 0)
    s.gated s.running Reg.SCH_STATUS 0 (fun s =>
      if s.locked then s else s.rset a (w64 (min (clampNat 8 16 (fld v 12 8)) (ring - 1) * 256 + ring)))
  else if o = 0xA0 then s.rset a (if (s.rget Reg.SCH_TRC_WR).toNat < v.toNat then s.rget Reg.SCH_TRC_WR else v)
  else s.rwrite a v

/-- A write of a CHN register (R354, R355). -/
def chnWrite (s : State) (m a : Nat) (v : Word) : State :=
  let o := regOff a
  if o = 0x20 ∨ o = 0x28 then s.gated s.running Reg.CHN_STATUS 0 (·.rwrite a v)
  else if o = 0x38 then s.gated s.running Reg.CHN_STATUS 0 (·.clampLow a 16 1 65535 v)
  else if o = 0x40 then (if chnMaster m then s.setChnRec { s.chnRec m with arg0 := v &&& 0x8FFFFFFFFC00FFFF } else s)
  else if o = 0x48 then (if chnMaster m then s.setChnRec { s.chnRec m with arg1 := v } else s)
  else if o = 0x50 then (if chnMaster m then s.chnCommand m v else s)
  else s.rwrite a v

/-- A write of a register of tile `t` (R75, R76, R82, R217, R243, R245). -/
def tileWrite (s : State) (t a : Nat) (v : Word) : State :=
  let o := regOff a
  if o = 0x08 then s.tilControl t v
  else if o = 0x28 then s.clampLow a 11 64 1024 v
  else if o = 0x1090 then s.clampLow a 14 100 10000 v
  else if o = 0x2038 then s.clampLow a 16 10 60000 v
  else if o = 0x2040 then s.clampLow a 14 10 10000 v
  else if o = 0x1038 then (if s.running then s else s.rwrite a v)
  else if o = 0x2000 then s.ucsControl t v
  else if o = 0x3000 then s.lockWays t v
  else if o = 0x3008 then s.groupPower t v
  else if 0x4000 ≤ o ∧ o % 0x100 = 8 then s.peRetire t ((o - 0x4000) / 0x100) v
  else s.rwrite a v

/-- A write of a device-wide L2C register (R228, Table 8.12): WALLOC is 0 under UC. -/
def l2cWrite (s : State) (a : Nat) (v : Word) : State :=
  let o := regOff a
  let v' := if fld v 2 1 = 2 then setBit v 0 false else v
  if o = 0x10 ∨ (0x100 ≤ o ∧ o % 0x20 = 0x10) then s.gated s.running Reg.L2C_STATUS 0 (·.rwrite a v')
  else if 0x100 ≤ o then s.gated s.running Reg.L2C_STATUS 0 (·.rwrite a v)
  else if o = 0x18 then s.clampLow a 20 100 1000000 v
  else if o = 0x20 then s.clampLow a 16 10 60000 v
  else if o = 0x50 then s.mntStart v
  else s.rwrite a v

/-- A write of a register of engine `n` (R383, R384). -/
def cenWrite (s : State) (m n a : Nat) (v : Word) : State :=
  let o := regOff a
  if o = 0 then s.cenCtrl m n v
  else if o = 0x10 then (if m = 0x18 ∨ m = 0x19 then s.rwrite a v else s)
  else if o = 0x68 then (if cenMaster n m then s.rwrite a v else s)
  else if o = 0x70 then s.ramWrite m n v
  else if !cenOther n m then s
  else if o = 0x48 then (s.rwrite a v).updEngine n (fun e => { e with wdogT := s.clock })
  else if o = 0x50 then (s.rwrite a v).updEngine n (fun e => { e with timed := 0 })
  else if o = 0x58 then s.doorbell n v
  else if o = 0x60 then s.rset (Reg.CEN_DOORBELL n) (s.rget (Reg.CEN_DOORBELL n) &&& ~~~v)
  else s.rwrite a v

/-- A write of a CMP or ENC register (R382, R385). -/
def unitWrite (s : State) (m u a : Nat) (v : Word) : State :=
  let o := regOff a
  if o = 0x10 then s.submit m u v
  else if o = 0x120 then s.keyCommand m v
  else if o = 0x128 then s.keyZeroize v
  else if 0x100 ≤ o ∧ o < 0x120 then s.rset a v
  else s.rwrite a v

/-- A write of an AFE or TRP register (R292, R307, R320, R323). -/
def afeWrite (s : State) (a : Nat) (v : Word) : State :=
  let o := regOff a
  if (shadowBase a).isSome then s.shadowWrite a v
  else if o = 0 then s.afeCtrl v
  else if 0x100 ≤ o ∧ o < 0x1100 ∧ o % 0x40 = 0 then s.afeChannelCfg ((o - 0x100) / 0x40) v
  else if 0x2000 ≤ o ∧ o < 0x2200 ∧ o % 0x20 = 0 then s.afeTachCfg ((o - 0x2000) / 0x20) v
  else s.rwrite a v

def trpWrite (s : State) (a : Nat) (v : Word) : State :=
  let o := regOff a
  if (shadowBase a).isSome then s.shadowWrite a v
  else if o = 0 then s.trpCtrl v
  else if o = 0x30 then tripEval s (fld v 31 0)
  else if o = 0x48 then (if bit v 0 then s.rsetBit Reg.TRP_FIRST 63 false else s)
  else if 0x1000 ≤ o ∧ o < 0x1400 ∧ o % 0x20 = 0 then s.trpOutCfg ((o - 0x1000) / 0x20) v
  else s.rwrite a v

/-- A write of a FAB register (R422, Table 13.16). (DEDUCED, log entry 74) -/
def fabWrite (s : State) (a : Nat) (v : Word) : State :=
  let o := regOff a
  if o = 0 then
    let keep := s.running && decide (fld v 11 0 &&& 0xF0F ≠ s.rfld a 11 0)
    let v' := if s.running then setFld v 11 0 (s.rfld a 11 0) else v
    let s1 := (s.rwrite a v')
    let s2 := if keep then s1.rsetBit Reg.FAB_STATUS 0 true else s1
    if s2.rfld a 11 0 = s.rfld a 11 0 then s2 else if s2.planned then s2.planLoad.linksChanged else s2.linksChanged
  else if o = 0x10 then s.gated s.running Reg.FAB_STATUS 0 (fun s => (s.rwrite a v).linksChanged)
  else if 0x100 ≤ o ∧ o < 0x180 then s.gated s.running Reg.FAB_STATUS 0 (·.rwrite a v)
  else if o = 0x50 then s.clampLow a 20 100 1000000 v
  else if o = 0x58 then s.clampLow a 20 10 100000 v
  else if o = 0x60 then s.clampLow a 20 10 1000000 v
  else if o = 0x68 then s.clampLow a 20 1000 1000000 v
  else if o = 0x70 then s.clampLow a 20 5 10000 v
  else if 0x200 ≤ o ∧ o < 0x400 ∧ o % 0x40 = 0 then s.linkCtrl ((o - 0x200) / 0x40) v
  else s.rwrite a v

/-- A write of a register by its unit's rules. -/
def regWrite (s : State) (m a : Nat) (v : Word) : State :=
  let b := regBlock a
  let o := regOff a
  if (regRowAt a).isNone then s
  else if b = 0 then s.tckWrite a v
  else if b = 1 then s.cfgWrite m a v
  else if b = 2 then s.bootWrite m a v
  else if b = 3 then s.fclWrite a v
  else if b = 4 then s.pwrWrite m a v
  else if b = 6 then (if 0x100 ≤ o ∧ o < 0x300 then s.reserve ((o - 0x100) / 8) v else s.rwrite a v)
  else if b = 8 then s.schWrite a v
  else if b = 9 then (if o = 0x10 then s.lkuRequest m v else if o = 0x20 then s.lkuMreset m v else s.rwrite a v)
  else if b = 0xA then s.chnWrite m a v
  else if 0x10 ≤ b ∧ b < 0x20 then s.tileWrite (b - 0x10) a v
  else if b = 0x20 then s.l2cWrite a v
  else if b = 0x24 then
    (if o = 0 then s.sdcConfig v else if o = 0x20 then s.clampLow a 20 500 1000000 v else s.rwrite a v)
  else if 0x30 ≤ b ∧ b ≤ 0x38 then s.cenWrite m (b - 0x30) a v
  else if 0x3A ≤ b ∧ b ≤ 0x3D then s.unitWrite m (b - 0x3A) a v
  else if b = 0x40 then s.afeWrite a v
  else if b = 0x41 then s.trpWrite a v
  else if b = 0x48 then s.fabWrite a v
  else if b = 0x50 then (if o = 0x18 then s.pciIrq m v else s.rwrite a v)
  else if b = 0x52 ∨ b = 0x53 then s.portWrite (b - 0x52) o v
  else if 0x60 ≤ b ∧ b < 0x70 then s.portWrite (b - 0x60 + 2) o v
  else s.rwrite a v

/-- A submission register: its unit answers even for a domain that is off (Table 14.8). -/
def isSubmit (a : Nat) : Bool := decide (0x3A ≤ regBlock a ∧ regBlock a ≤ 0x3D ∧ regOff a = 0x10)

/-- A register write with the fences of R437 and R440, and the limits of R464 and R493. -/
def csrWrite (s : State) (m a : Nat) (v : Word) : State :=
  if !(if regBlock a = 2 then s.mayBoot m else s.mayWrite m) then s
  else if s.regFenced a && !isSubmit a then
    (if s.regParked a && parkedShows a then s else s.rsetBit Reg.PWR_STATUS 3 true)
  else if s.regParked a then s
  else s.regWrite m a v

/-- The registers as engines and the other masters reach them. -/
def io : Io := ⟨csrRead, csrWrite⟩

/-- A register read by a command: the value comes back in `lastRead`. -/
def readInto (s : State) (m a : Nat) : State := let r := s.csrRead m a; { r.2 with lastRead := r.1 }

/-- A completion of a host request: Unsupported Request, or the bytes read (R221, R464). -/
def complete (s : State) (ur : Bool) (bs : List Byte) : State :=
  { s with pins.pcieUr := ur, pins.pcieData := bs }

/-- A request that meets a hole: Unsupported Request, and a C0 event (R221). -/
def hostHole (s : State) (a : Nat) : State := (s.holeEvent 0x19 a).complete true []

/-- A host request at a local address (R221, R222, R236, R464, R493): `data` is what a write carries. (DEDUCED, log entry 77) -/
def hostAccess (s : State) (write snoop : Bool) (a n : Nat) (data : List Byte) : State :=
  match s.accessKind a n with
  | .device =>
    if n ≠ 8 ∨ a % 8 ≠ 0 then s.hostHole a
    else if !s.mayRead 0x19 (regBlock a) then s.complete true []
    else if write then (s.csrWrite 0x19 a (w64 (bytesToNat data))).complete false []
    else let r := s.csrRead 0x19 a; { r.2 with lastRead := r.1 }.complete false (natToBytes 8 r.1.toNat)
  | .hole | .qram => s.hostHole a
  | k =>
    if !s.mayRead 0x19 0xFF then s.complete true []
    else
      let direct := !snoop && s.rbit Reg.PCI_CTRL 1 && decide (k = .sdram)
      if write then
        (if direct then ((piecesOf a n).foldl (fun (x : State × List Byte) p =>
            (x.1.sdWrite p.1 (x.2.take p.2), x.2.drop p.2)) (s, data)).1
         else s.memWrite none a data).complete false []
      else
        let r := if direct then (piecesOf a n).foldl (fun (x : List Byte × State) p =>
            let y := x.2.sdRead p.1 p.2; (x.1 ++ y.1, y.2)) ([], s)
          else s.memRead a n
        { r.2 with lastRead := w64 (bytesToNat (r.1.take 8)) }.complete false r.1

/-- PCIE_REQUEST (R236, R443, R523): a request at offset `off` of BAR0 or, with `bar2`, of the window of `PCI_WIN`. -/
def pcieRequest (s : State) (bar2 write noSnoop : Bool) (off n : Nat) (data : List Byte) : State :=
  if s.boot.held || !s.domOn 132 then s
  else
    let s1 := (s.wakeBy 10).pciUp
    let base := if bar2 then s1.rfld Reg.PCI_WIN 47 28 * 2 ^ 28 else csrBase
    s1.hostAccess write (!noSnoop) (base + off) n data

/-- A read over I²C (R532): eight bytes of a register of a readable block, 0 otherwise, and the offset advances. -/
def i2cRead (s : State) : State :=
  let b := s.pins.i2c / 65536
  let o := s.pins.i2c % 65536
  let r := if openBlock b ∧ o % 8 = 0 then s.csrRead 0x1A (csrAddr b o) else (0, s)
  { r.2 with lastRead := r.1, pins.i2c := b * 65536 + (o + 8) % 65536 }

/-- The JTAG instruction register takes an instruction (R531). -/
def jtag (s : State) (i : Nat) : State := { s with pins.jtag := i }

end State

/-! A read of a register that records a largest value (R537). -/

def execTckLagMaxRead (m : Nat) (s : State) : Out := .next (s.readInto m Reg.TCK_LAG_MAX)
def execTilReadyqMaxRead (m t : Nat) (s : State) : Out := .next (s.readInto m (Reg.TIL_READYQ_MAX t))
def execPexInflightMaxRead (m t p : Nat) (s : State) : Out := .next (s.readInto m (Reg.PEX_INFLIGHT_MAX t p))
def execMstOccMaxRead (m t : Nat) (s : State) : Out := .next (s.readInto m (Reg.MST_OCC_MAX t))
def execSchActMaxRead (m : Nat) (s : State) : Out := .next (s.readInto m Reg.SCH_ACT_MAX)
def execSchDlyMaxRead (m : Nat) (s : State) : Out := .next (s.readInto m Reg.SCH_DLY_MAX)
def execBootTempmaxRead (m : Nat) (s : State) : Out := .next (s.readInto m Reg.BOOT_TEMPMAX)
def execFclRecovMaxRead (m : Nat) (s : State) : Out := .next (s.readInto m Reg.FCL_RECOV_MAX)

/-- A read of any RC register (R9). -/
def execRcCounterRead (m a : Nat) (s : State) : Out :=
  .next (match regRowAt a with
    | some r => if r.rc then s.readInto m a else s
    | none => s)

/-- A write of any register (R9). -/
def execRegisterWrite (m a : Nat) (v : Word) (s : State) : Out := .next (s.csrWrite m a v)
def execPcieRequest (bar2 write noSnoop : Bool) (off n : Nat) (data : List Byte) (s : State) : Out :=
  .next (s.pcieRequest bar2 write noSnoop off n data)
def execI2cAddressWrite (b hi lo : Nat) (s : State) : Out := .next { s with pins.i2c := b * 65536 + hi * 256 + lo }
def execI2cRead (s : State) : Out := .next s.i2cRead
def execJtagBypass (s : State) : Out := .next (s.jtag 0)

/-- IDCODE shifts out the identity register (R531, R534). -/
def execJtagIdcode (s : State) : Out := .next { s.jtag 1 with lastRead := regReset Reg.BOOT_ID_JTAG }
def execJtagSamplePreload (s : State) : Out := .next (s.jtag 2)
def execJtagExtest (s : State) : Out := .next (s.jtag 3)
def execJtagClamp (s : State) : Out := .next (s.jtag 4)
def execJtagHighz (s : State) : Out := .next (s.jtag 5)

end Sys2Proof.Machine
end

