-- ==== Sys2Proof/Machine/Boot.lean ====
section
/-! DEFINITION. The boot ROM: the release of a reset, the choice of an image, REGINIT, LOAD and READY (R485, R490 to R494,
R514, R530). -/

namespace Sys2Proof.Machine

/-- Little-endian words of `k` bytes each. -/
def leNats (k : Nat) (bs : List Byte) : List Nat :=
  (List.range ((bs.length + k - 1) / k)).map (fun i => bytesToNat ((bs.drop (k * i)).take k))

/-- Words that are not 0, by position. -/
def sparseWords (ws : List Nat) : List (Nat × Word) :=
  (ws.zipIdx.filter (fun x => decide (w64 x.1 ≠ 0))).map (fun x => (x.2, w64 x.1))

/-- Bytes that are not 0, by position. -/
def sparseBytes (bs : List Byte) : List (Nat × Byte) :=
  (bs.zipIdx.filter (fun x => decide (x.1 ≠ 0))).map (fun x => (x.2, x.1))

/-- Records of 16 bytes: two words each. -/
def wordPairs (bs : List Byte) : List (Word × Word) :=
  (List.range (bs.length / 16)).map (fun i =>
    (w64 (bytesToNat ((bs.drop (16 * i)).take 8)), w64 (bytesToNat ((bs.drop (16 * i + 8)).take 8))))

/-- An address of the control and status register range. -/
def inCsr (a : Nat) : Bool := decide (csrBase ≤ a ∧ a < csrBase + 0x1000000)

/-- A block that REGINIT 0 may write: PWR, CLK or SDC (R494). -/
def init0Block (a : Nat) : Bool := inCsr a && decide (regBlock a = 4 ∨ regBlock a = 5 ∨ regBlock a = 0x24)

/-- Components of one type, in directory order. -/
def Image.ofType (i : Image) (t : Nat) : List Comp := i.comps.filter (fun c => decide (c.type = t))

namespace State

/-- A failure's code in `BOOT_STATUS.ERR` (Table 16.11). -/
def bootErr (s : State) (e : Nat) : State := s.rsetFld Reg.BOOT_STATUS 47 40 e

/-- PHASE of boot. -/
def setPhase (s : State) (p : Nat) : State := s.rsetFld Reg.BOOT_STATUS 63 60 p

/-- Boot ends in FAILED (R493). -/
def bootFailed (s : State) (e : Nat) : State := { (s.bootErr e).setPhase 6 with boot.keyIdx := none }

/-- Register records written by the boot ROM; a record that resets the device ends them. -/
def regInit (s : State) (rs : List (Word × Word)) : State :=
  rs.foldl (fun (s : State) r => if s.boot.held then s else s.csrWrite 0x18 r.1.toNat r.2) s

/-- VERIFY of a slot and REGINIT 0 (R492 to R494): the state that waits for SDRAM, or the code of the failure. -/
def slotStart (s : State) (k : Nat) : Except Nat State :=
  match s.flashImage k with
  | .error e => .error e
  | .ok i =>
    let d := (s.imageDigest i).toNat
    let s1 := { ((((s.rsetBit Reg.BOOT_STATUS 57 (decide (k = 1))).rset Reg.BOOT_PERS (w64 i.pers)).rsetFld Reg.BOOT_SVN 14 8 i.svn).rset
      Reg.BOOT_BUILD (w64 i.build)).rset Reg.BOOT_DIGEST_LO (w64 d) |>.rset Reg.BOOT_DIGEST_HI (w64 (d / 2 ^ 64)) with
        boot.slot := k, boot.keyIdx := some i.keyIdx }
    match (i.ofType 8).find? (fun c => decide (c.index = 0)) with
    | none => .ok (s1.setPhase 3)
    | some c =>
      match s.compBytes i c with
      | .error e => .error e
      | .ok bs =>
        if (wordPairs bs).all (fun r => init0Block r.1.toNat) then .ok ((s1.setPhase 3).regInit (wordPairs bs)) else .error 10

/-- VERIFY from slot `k` on: a slot that fails gives way to the other one, once (R493). -/
def bootFrom (s : State) (k : Nat) : State :=
  match s.slotStart k with
  | .ok t => t
  | .error e =>
    if s.rbit Reg.BOOT_STATUS 56 then s.bootFailed e
    else
      let s1 := (s.bootErr e).rsetBit Reg.BOOT_STATUS 56 true
      match s1.slotStart (1 - k) with
      | .ok t => t
      | .error e' => s1.bootFailed e'

/-- The recovery sequencer runs its boot ROM (R375). -/
def romStart (s : State) : State :=
  (s.updEngine 8 (fun e => { e with run := .running, pc := 0, wdogT := s.clock })).rsetBit (Reg.CEN_CTRL 8) 0 true

/-- The ROM and clock phases, and VERIFY from the preferred slot on (R485, R490, R491, R494, R514, R530).
(DEDUCED, log entry 68) -/
def resetRelease (s : State) (flashOk token : Bool) : State :=
  if !s.boot.held || !s.power.low.isEmpty then s
  else
    let s1 := { s with boot.held := false, boot.freed := s.clock, boot.count := s.boot.count + 1 }
    let s2 := romStart <| if s1.rfld Reg.BOOT_CAUSE 3 0 = 1 then s1.rsetBit Reg.FCL_STATUS 4 (s1.boot.strap && token) else s1
    if s2.dead then (s2.setPhase 7).pciUp
    else
      let s3 := (tripEval ((s2.rsetFld Reg.CLK_STATUS 10 0 0x7FF).rsetBit Reg.CLK_CTRL 0 true) 0).pciUp
      if !flashOk then s3.bootFailed 1
      else (s3.setPhase 2).bootFrom (if (s3.flashNat 0 1).testBit 0 then 0 else 1)

/-- An engine's RAM images (Table 16.4): instruction RAM in the first 64 KiB, then data RAM; the vault keeps the program. -/
def loadRams (s : State) (n : Nat) (bs : List Byte) : State :=
  let code := sparseWords (leNats 8 (bs.take 65536))
  s.updEngine n (fun e => { e with iram := code, iramNew := [], image := code, dram := sparseBytes (bs.drop 65536) })

/-- MICROCODE (R212, R213, Table 7.8). -/
def loadMicrocode (s : State) (i : Image) (c : Comp) (bs : List Byte) : Except Nat State :=
  let pers := bytesToNat (bs.take 2)
  if pers ≠ i.pers then .error 5
  else
    let ws := (leNats 20 (bs.drop 16)).zipIdx.filter (fun x => decide (x.1 ≠ 0))
    let img := ws.map (fun x => (x.2, withParity (BitVec.ofNat 160 x.1)))
    let s1 := { s with ucsMaster := img, ucsSecond := img }
    let v := w64 (pers * 2 ^ 48 + bytesToNat ((bs.drop 2).take 1) * 2 ^ 40 + bytesToNat ((bs.drop 3).take 1) * 2 ^ 32 +
      beNat (c.digest.drop 44))
    .ok ((List.range 16).foldl (fun (s : State) t => (s.ucsLoad t).rset (Reg.UCS_VERSION t) v) s1)

/-- One record of KEYS (R494): a record that does not authenticate leaves its slot empty and sets KEYFAIL. -/
def loadKey (s : State) (r : List Byte) : State :=
  let slot := bytesToNat (r.take 1)
  let iv := (r.drop 4).take 12
  match gcmOpen (natToBytes 32 Config.fusedKek.toNat) iv (r.take 4) ((r.drop 16).take 32) ((r.drop 48).take 16) with
  | some key =>
    if slot < 8 then s.keySet slot (bytesToNat ((r.drop 1).take 1) % 8) (BitVec.ofNat 256 (bytesToNat key))
    else s.rsetBit Reg.BOOT_STATUS 54 true
  | none => s.rsetBit Reg.BOOT_STATUS 54 true

/-- An ENGINE program (R375, R494, Table 16.4). -/
def loadEngine (s : State) (c : Comp) (bs : List Byte) : State :=
  ((s.loadRams c.index bs).rset (Reg.CEN_ENTRY c.index) (w64 (natField c.target 12 0))).rsetBit (Reg.CEN_CTRL c.index) 2 (c.target.testBit 16)

/-- CHANNELS: one CREATE per record (R494). -/
def loadChannels : List (Word × Word) → State → Except Nat State
  | [], s => .ok s
  | r :: rs, s =>
    let x := s.createChan r.1 r.2
    if x.1 = 0 then loadChannels rs x.2.2 else .error 11

/-- GRAPH words, into the code store's backing (R494). -/
def loadGraph (s : State) (c : Comp) (bs : List Byte) : State :=
  { s with code := (leNats 8 bs).zipIdx.foldl (fun m x => smPut m (c.target + x.2) 0 (w64 x.1)) s.code }

/-- One component's load. -/
def loadComp (i : Image) (s : State) (c : Comp) : Except Nat State :=
  match s.compBytes i c with
  | .error e => .error e
  | .ok bs =>
    if c.type = 1 then .ok (s.loadRams 8 bs)
    else if c.type = 2 then s.loadMicrocode i c bs
    else if c.type = 3 then .ok ((List.range (bs.length / 64)).foldl (fun (s : State) j => s.loadKey ((bs.drop (64 * j)).take 64)) s)
    else if c.type = 4 then .ok (s.loadEngine c bs)
    else if c.type = 5 then loadChannels (wordPairs bs) s
    else if c.type = 6 then .ok (s.loadGraph c bs)
    else if c.type = 7 then
      let b := sparseWords (leNats 8 bs)
      (match s.validate b with
       | some _ => .error 9
       | none => .ok { s with cfg.bank := b }.bankRegs)
    else if c.index = 0 then .ok s
    else if (wordPairs bs).all (fun r => inCsr r.1.toNat) then .ok (s.regInit (wordPairs bs))
    else .error 10

/-- Components in the order of LOAD. -/
def loadComps (i : Image) : List Comp → State → Except Nat State
  | [], s => .ok s
  | c :: cs, s =>
    match loadComp i s c with
    | .ok t => loadComps i cs t
    | .error e => .error e

/-- READY (R494). -/
def bootReady (s : State) (i : Image) : State :=
  let s1 := (s.setPhase 5).rset Reg.BOOT_TIME (w64 ((s.clock - s.boot.freed) / 1000))
  let s2 := ((i.ofType 4).filter (fun c => c.target.testBit 17)).foldl (fun (s : State) c => s.eStart c.index) s1
  let s3 := { s2.rsetBit Reg.FCL_CTRL 0 true with pins.aliveEn := true, pins.aliveT := s2.clock, pins.kickT := s2.clock }
  let s4 := if i.flags.testBit 2 then s3.csrWrite 0x18 Reg.CFG_LOCK 1 else s3
  let s5 := if i.flags.testBit 1 then
      (s4.csrWrite 0x18 Reg.AFE_CTRL (s4.rget Reg.AFE_CTRL ||| 1)).csrWrite 0x18 Reg.TCK_CTRL (s4.rget Reg.TCK_CTRL ||| 1)
    else s4
  let s6 := if i.flags.testBit 0 then s5.csrWrite 0x18 Reg.TRP_CTRL (s5.rget Reg.TRP_CTRL ||| 1) else s5
  let entry := (((i.ofType 1).head?).map (·.target)).getD 0
  s6.updEngine 8 (fun e => { e with run := .running, pc := entry, wdogT := s6.clock }) |>.rsetBit (Reg.CEN_CTRL 8) 0 true

/-- SDRAM trained, or not (R493, R494): LOAD and READY; a failure in LOAD discards what was loaded and goes to the other
slot. -/
def sdramTrained (s : State) (ok : Bool) : State :=
  if s.boot.held || decide (s.phase ≠ 3) then s
  else if !ok then s.bootFailed 8
  else if !s.rbit Reg.SDC_STATUS 0 then s
  else
    match s.flashImage s.boot.slot with
    | .error e => s.bootFailed e
    | .ok i =>
      match loadComps i ((List.range 8).flatMap (fun t => i.ofType (t + 1))) (s.setPhase 4) with
      | .ok t => if t.boot.held then t else t.bootReady i
      | .error e =>
        if s.rbit Reg.BOOT_STATUS 56 then s.bootFailed e
        else
          let s1 := (s.bootErr e).rsetBit Reg.BOOT_STATUS 56 true
          { s1.setPhase 2 with boot.keyIdx := none }.bootFrom (1 - s.boot.slot)

end State

def execResetRelease (flashOk token : Bool) (s : State) : Out := .next (s.resetRelease flashOk token)
def execBootSdramTrained (ok : Bool) (s : State) : Out := .next (s.sdramTrained ok)

end Sys2Proof.Machine
end

