-- ==== Sys2Proof/Machine/EngineExec.lean ====
section
/-! DEFINITION. The commands of the channel engines: bundles, the triggers of each port as a bundle of one move, events,
reset, and the registers of an engine (R356 to R376, R383, R384). -/

namespace Sys2Proof.Machine

/-- Trigger port of an operation of ALU unit `u` (Table 12.2). -/
def aluPort (u op : Nat) : Nat := (if u = 0 then 0x110 else 0x150) + op

namespace State

/-- A bundle of one move from port `p` to register W`d`. -/
def moveFrom (io : Io) (s : State) (n p d : Nat) : State :=
  if s.eRuns n then
    let r := (s.drainOne n).readPort n p
    runMoves io r.2 n [(d, r.1)]
  else s

end State

open State

/-- An engine executes the bundle at its program counter (R358). -/
def execEngineBundle (n : Nat) (s : State) : Out := .next (runBundle State.io s n)

/-! ALU triggers (R360): unit `u`, trigger value `t`. -/

def execAluAdd (n u : Nat) (t : Word) (s : State) : Out := .next (oneMove State.io s n (aluPort u 0) t)
def execAluSub (n u : Nat) (t : Word) (s : State) : Out := .next (oneMove State.io s n (aluPort u 1) t)
def execAluAnd (n u : Nat) (t : Word) (s : State) : Out := .next (oneMove State.io s n (aluPort u 2) t)
def execAluOr (n u : Nat) (t : Word) (s : State) : Out := .next (oneMove State.io s n (aluPort u 3) t)
def execAluXor (n u : Nat) (t : Word) (s : State) : Out := .next (oneMove State.io s n (aluPort u 4) t)
def execAluAndn (n u : Nat) (t : Word) (s : State) : Out := .next (oneMove State.io s n (aluPort u 5) t)
def execAluShl (n u : Nat) (t : Word) (s : State) : Out := .next (oneMove State.io s n (aluPort u 6) t)
def execAluShr (n u : Nat) (t : Word) (s : State) : Out := .next (oneMove State.io s n (aluPort u 7) t)
def execAluSar (n u : Nat) (t : Word) (s : State) : Out := .next (oneMove State.io s n (aluPort u 8) t)
def execAluRol (n u : Nat) (t : Word) (s : State) : Out := .next (oneMove State.io s n (aluPort u 9) t)
def execAluEq (n u : Nat) (t : Word) (s : State) : Out := .next (oneMove State.io s n (aluPort u 10) t)
def execAluNe (n u : Nat) (t : Word) (s : State) : Out := .next (oneMove State.io s n (aluPort u 11) t)
def execAluLts (n u : Nat) (t : Word) (s : State) : Out := .next (oneMove State.io s n (aluPort u 12) t)
def execAluLtu (n u : Nat) (t : Word) (s : State) : Out := .next (oneMove State.io s n (aluPort u 13) t)
def execAluLes (n u : Nat) (t : Word) (s : State) : Out := .next (oneMove State.io s n (aluPort u 14) t)
def execAluLeu (n u : Nat) (t : Word) (s : State) : Out := .next (oneMove State.io s n (aluPort u 15) t)
def execAluMins (n u : Nat) (t : Word) (s : State) : Out := .next (oneMove State.io s n (aluPort u 16) t)
def execAluMaxs (n u : Nat) (t : Word) (s : State) : Out := .next (oneMove State.io s n (aluPort u 17) t)
def execAluMinu (n u : Nat) (t : Word) (s : State) : Out := .next (oneMove State.io s n (aluPort u 18) t)
def execAluMaxu (n u : Nat) (t : Word) (s : State) : Out := .next (oneMove State.io s n (aluPort u 19) t)
def execAluPass (n u : Nat) (t : Word) (s : State) : Out := .next (oneMove State.io s n (aluPort u 20) t)
def execAluClz (n u : Nat) (t : Word) (s : State) : Out := .next (oneMove State.io s n (aluPort u 21) t)
def execAluPopc (n u : Nat) (t : Word) (s : State) : Out := .next (oneMove State.io s n (aluPort u 22) t)
def execAluSx8 (n u : Nat) (t : Word) (s : State) : Out := .next (oneMove State.io s n (aluPort u 23) t)
def execAluSx16 (n u : Nat) (t : Word) (s : State) : Out := .next (oneMove State.io s n (aluPort u 24) t)
def execAluSx32 (n u : Nat) (t : Word) (s : State) : Out := .next (oneMove State.io s n (aluPort u 25) t)

/-! Multiplier triggers (R361). -/

def execMulLo (n : Nat) (t : Word) (s : State) : Out := .next (oneMove State.io s n 0x190 t)
def execMulHis (n : Nat) (t : Word) (s : State) : Out := .next (oneMove State.io s n 0x191 t)
def execMulHiu (n : Nat) (t : Word) (s : State) : Out := .next (oneMove State.io s n 0x192 t)

/-! Load and store triggers (R364 to R366, R373). -/

def execLsuLdu8 (n : Nat) (t : Word) (s : State) : Out := .next (oneMove State.io s n 0x210 t)
def execLsuLdu16 (n : Nat) (t : Word) (s : State) : Out := .next (oneMove State.io s n 0x211 t)
def execLsuLdu32 (n : Nat) (t : Word) (s : State) : Out := .next (oneMove State.io s n 0x212 t)
def execLsuLdu64 (n : Nat) (t : Word) (s : State) : Out := .next (oneMove State.io s n 0x213 t)
def execLsuLds8 (n : Nat) (t : Word) (s : State) : Out := .next (oneMove State.io s n 0x214 t)
def execLsuLds16 (n : Nat) (t : Word) (s : State) : Out := .next (oneMove State.io s n 0x215 t)
def execLsuLds32 (n : Nat) (t : Word) (s : State) : Out := .next (oneMove State.io s n 0x216 t)
def execLsuSt8 (n : Nat) (t : Word) (s : State) : Out := .next (oneMove State.io s n 0x218 t)
def execLsuSt16 (n : Nat) (t : Word) (s : State) : Out := .next (oneMove State.io s n 0x219 t)
def execLsuSt32 (n : Nat) (t : Word) (s : State) : Out := .next (oneMove State.io s n 0x21A t)
def execLsuSt64 (n : Nat) (t : Word) (s : State) : Out := .next (oneMove State.io s n 0x21B t)
def execLsuFence (n : Nat) (t : Word) (s : State) : Out := .next (oneMove State.io s n 0x21F t)

/-! Program control triggers (R362, R363, R371 to R374). -/

def execPcuJump (n : Nat) (t : Word) (s : State) : Out := .next (oneMove State.io s n 0x310 t)
def execPcuCall (n : Nat) (t : Word) (s : State) : Out := .next (oneMove State.io s n 0x311 t)
def execPcuRet (n : Nat) (t : Word) (s : State) : Out := .next (oneMove State.io s n 0x312 t)
def execPcuRete (n : Nat) (t : Word) (s : State) : Out := .next (oneMove State.io s n 0x313 t)
def execPcuLoop (n : Nat) (t : Word) (s : State) : Out := .next (oneMove State.io s n 0x314 t)
def execPcuIsync (n : Nat) (t : Word) (s : State) : Out := .next (oneMove State.io s n 0x315 t)
def execPcuHalt (n : Nat) (t : Word) (s : State) : Out := .next (oneMove State.io s n 0x316 t)
def execPcuWait (n : Nat) (t : Word) (s : State) : Out := .next (oneMove State.io s n 0x317 t)
def execPcuEvmask (n : Nat) (t : Word) (s : State) : Out := .next (oneMove State.io s n 0x318 t)
def execPcuWdog (n : Nat) (t : Word) (s : State) : Out := .next (oneMove State.io s n 0x319 t)

/-! Channel triggers (R367 to R369). -/

def execChpSend (n : Nat) (t : Word) (s : State) : Out := .next (oneMove State.io s n 0x410 t)
def execChpSende (n : Nat) (t : Word) (s : State) : Out := .next (oneMove State.io s n 0x411 t)
def execChpRecv (n : Nat) (t : Word) (s : State) : Out := .next (oneMove State.io s n 0x412 t)
def execChpDrop (n : Nat) (t : Word) (s : State) : Out := .next (oneMove State.io s n 0x413 t)
def execChpFlush (n : Nat) (t : Word) (s : State) : Out := .next (oneMove State.io s n 0x414 t)

/-- CHP.EVQ is read into register W`d` (R370). -/
def execChpEvqRead (n d : Nat) (s : State) : Out := .next (moveFrom State.io s n 0x405 d)

/-! Events (R371, R372, R374). -/

def execEngineEventTake (n : Nat) (s : State) : Out := .next (s.eventTake n)
def execEngineWatchdogExpiry (n : Nat) (s : State) : Out := .next (s.onlyIf (!s.dead && s.engineOn n) (·.engineWatchdog n))
def execEngineTimer (n : Nat) (s : State) : Out := .next (s.onlyIf (!s.dead && s.engineOn n) (·.engineTimer n))

/-! The registers of an engine (R383, R384).  CEN_RUN and CEN_RESET are writes of `CEN_CTRL`; CEN_RESET has RESET set. -/

def execCenRun (m n : Nat) (v : Word) (s : State) : Out := .next (s.csrWrite m (Reg.CEN_CTRL n) (v &&& 5))
def execCenReset (m n : Nat) (v : Word) (s : State) : Out := .next (s.csrWrite m (Reg.CEN_CTRL n) (v ||| 2))
def execCenDoorbell (m n : Nat) (v : Word) (s : State) : Out := .next (s.csrWrite m (Reg.CEN_DOORBELL n) v)
def execCenRamdataRead (m n : Nat) (s : State) : Out := .next (s.readInto m (Reg.CEN_RAMDATA n))
def execCenRamdataWrite (m n : Nat) (v : Word) (s : State) : Out := .next (s.csrWrite m (Reg.CEN_RAMDATA n) v)

/-- A memory of the engine errs (R374, Table 12.6). -/
def execEngineRamError (n kind i : Nat) (e : Codeword) (s : State) : Out :=
  .next (s.onlyIf (!s.dead && s.engineOn n) (·.engineRamError n kind i e))

end Sys2Proof.Machine
end

