-- ==== Sys2Proof/Machine/Dispatch.lean ====
section
/-! DEFINITION. The dispatch: one arm per command, each a direct call of its meaning. -/

namespace Sys2Proof.Machine

/-- The effect of a command on everything but the queue of waiting commands. -/
def exec (i : Instr) (s : State) : Host.Outcome State Fault Refusal :=
  match i with
  | .tick => Sys2Proof.Machine.execTick s
  | .waferAdmit => Sys2Proof.Machine.execWaferAdmit s
  | .waferCommit => Sys2Proof.Machine.execWaferCommit s
  | .subtickEdge => Sys2Proof.Machine.execSubtickEdge s
  | .tckRun m v => Sys2Proof.Machine.execTckRun m v s
  | .tckPeriodWrite m v => Sys2Proof.Machine.execTckPeriodWrite m v s
  | .tckTimeSet m v => Sys2Proof.Machine.execTckTimeSet m v s
  | .timeSourceLost => Sys2Proof.Machine.execTimeSourceLost s
  | .timeSourceReturn => Sys2Proof.Machine.execTimeSourceReturn s
  | .tckLagMaxRead m => Sys2Proof.Machine.execTckLagMaxRead m s
  | .tilReadyqMaxRead m t => Sys2Proof.Machine.execTilReadyqMaxRead m t s
  | .pexInflightMaxRead m t p => Sys2Proof.Machine.execPexInflightMaxRead m t p s
  | .mstOccMaxRead m t => Sys2Proof.Machine.execMstOccMaxRead m t s
  | .schActMaxRead m => Sys2Proof.Machine.execSchActMaxRead m s
  | .schDlyMaxRead m => Sys2Proof.Machine.execSchDlyMaxRead m s
  | .afePkholdRead m c => Sys2Proof.Machine.execAfePkholdRead m c s
  | .bootTempmaxRead m => Sys2Proof.Machine.execBootTempmaxRead m s
  | .fclRecovMaxRead m => Sys2Proof.Machine.execFclRecovMaxRead m s
  | .rcCounterRead m a => Sys2Proof.Machine.execRcCounterRead m a s
  | .registerWrite m a v => Sys2Proof.Machine.execRegisterWrite m a v s
  | .tokenArrival t n => Sys2Proof.Machine.execTokenArrival t n s
  | .spillWrite t => Sys2Proof.Machine.execSpillWrite t s
  | .spillFetch t n => Sys2Proof.Machine.execSpillFetch t n s
  | .reserveReload t => Sys2Proof.Machine.execReserveReload t s
  | .deadlockWindowExpiry t k => Sys2Proof.Machine.execDeadlockWindowExpiry t k s
  | .deadlockConfirm t k => Sys2Proof.Machine.execDeadlockConfirm t k s
  | .mstPurgeWalk t k => Sys2Proof.Machine.execMstPurgeWalk t k s
  | .mstEccError t n c e => Sys2Proof.Machine.execMstEccError t n c e s
  | .dispatchGrant t => Sys2Proof.Machine.execDispatchGrant t s
  | .readyQueueAdmit t => Sys2Proof.Machine.execReadyQueueAdmit t s
  | .firingCommit f => Sys2Proof.Machine.execFiringCommit f s
  | .storeDrain t p => Sys2Proof.Machine.execStoreDrain t p s
  | .eventBufferDrain t p => Sys2Proof.Machine.execEventBufferDrain t p s
  | .actIdReturn a => Sys2Proof.Machine.execActIdReturn a s
  | .peRetire m t p v => Sys2Proof.Machine.execPeRetire m t p v s
  | .peRetireComplete t p => Sys2Proof.Machine.execPeRetireComplete t p s
  | .statclr m t v => Sys2Proof.Machine.execStatclr m t v s
  | .fireIllegalEncoding f => Sys2Proof.Machine.execFireIllegalEncoding f s
  | .firePass f => Sys2Proof.Machine.execFirePass f s
  | .fireAdd f => Sys2Proof.Machine.execFireAdd f s
  | .fireSub f => Sys2Proof.Machine.execFireSub f s
  | .fireAdds f => Sys2Proof.Machine.execFireAdds f s
  | .fireSubs f => Sys2Proof.Machine.execFireSubs f s
  | .fireNeg f => Sys2Proof.Machine.execFireNeg f s
  | .fireNegs f => Sys2Proof.Machine.execFireNegs f s
  | .fireAbs f => Sys2Proof.Machine.execFireAbs f s
  | .fireAbss f => Sys2Proof.Machine.execFireAbss f s
  | .fireMul f => Sys2Proof.Machine.execFireMul f s
  | .fireMulh f => Sys2Proof.Machine.execFireMulh f s
  | .fireMuls f => Sys2Proof.Machine.execFireMuls f s
  | .fireDiv f => Sys2Proof.Machine.execFireDiv f s
  | .fireRem f => Sys2Proof.Machine.execFireRem f s
  | .fireMin f => Sys2Proof.Machine.execFireMin f s
  | .fireMax f => Sys2Proof.Machine.execFireMax f s
  | .fireAnd f => Sys2Proof.Machine.execFireAnd f s
  | .fireOr f => Sys2Proof.Machine.execFireOr f s
  | .fireXor f => Sys2Proof.Machine.execFireXor f s
  | .fireNot f => Sys2Proof.Machine.execFireNot f s
  | .fireAndn f => Sys2Proof.Machine.execFireAndn f s
  | .fireShl f => Sys2Proof.Machine.execFireShl f s
  | .fireShr f => Sys2Proof.Machine.execFireShr f s
  | .fireSar f => Sys2Proof.Machine.execFireSar f s
  | .fireRol f => Sys2Proof.Machine.execFireRol f s
  | .fireRor f => Sys2Proof.Machine.execFireRor f s
  | .fireClz f => Sys2Proof.Machine.execFireClz f s
  | .firePopc f => Sys2Proof.Machine.execFirePopc f s
  | .fireCmpeq f => Sys2Proof.Machine.execFireCmpeq f s
  | .fireCmpne f => Sys2Proof.Machine.execFireCmpne f s
  | .fireCmplt f => Sys2Proof.Machine.execFireCmplt f s
  | .fireCmple f => Sys2Proof.Machine.execFireCmple f s
  | .fireCmpun f => Sys2Proof.Machine.execFireCmpun f s
  | .fireSel f => Sys2Proof.Machine.execFireSel f s
  | .fireSwitch f => Sys2Proof.Machine.execFireSwitch f s
  | .fireGate f => Sys2Proof.Machine.execFireGate f s
  | .fireMerge f => Sys2Proof.Machine.execFireMerge f s
  | .fireLoopgate t n => Sys2Proof.Machine.execFireLoopgate t n s
  | .fireFadd f => Sys2Proof.Machine.execFireFadd f s
  | .fireFsub f => Sys2Proof.Machine.execFireFsub f s
  | .fireFmul f => Sys2Proof.Machine.execFireFmul f s
  | .fireFdiv f => Sys2Proof.Machine.execFireFdiv f s
  | .fireFneg f => Sys2Proof.Machine.execFireFneg f s
  | .fireFabs f => Sys2Proof.Machine.execFireFabs f s
  | .fireFmin f => Sys2Proof.Machine.execFireFmin f s
  | .fireFmax f => Sys2Proof.Machine.execFireFmax f s
  | .fireFma f => Sys2Proof.Machine.execFireFma f s
  | .fireFms f => Sys2Proof.Machine.execFireFms f s
  | .fireFnma f => Sys2Proof.Machine.execFireFnma f s
  | .fireFsqrt f => Sys2Proof.Machine.execFireFsqrt f s
  | .fireFrsqrt f => Sys2Proof.Machine.execFireFrsqrt f s
  | .fireFrint f => Sys2Proof.Machine.execFireFrint f s
  | .fireCvt f => Sys2Proof.Machine.execFireCvt f s
  | .fireFclass f => Sys2Proof.Machine.execFireFclass f s
  | .fireSplat f => Sys2Proof.Machine.execFireSplat f s
  | .fireXlane f => Sys2Proof.Machine.execFireXlane f s
  | .fireInslane f => Sys2Proof.Machine.execFireInslane f s
  | .firePerm f => Sys2Proof.Machine.execFirePerm f s
  | .fireVsel f => Sys2Proof.Machine.execFireVsel f s
  | .fireHsum f => Sys2Proof.Machine.execFireHsum f s
  | .fireHmin f => Sys2Proof.Machine.execFireHmin f s
  | .fireHmax f => Sys2Proof.Machine.execFireHmax f s
  | .fireDot f => Sys2Proof.Machine.execFireDot f s
  | .fireLoad f => Sys2Proof.Machine.execFireLoad f s
  | .fireStore f => Sys2Proof.Machine.execFireStore f s
  | .fireStorex f => Sys2Proof.Machine.execFireStorex f s
  | .fireCopy f => Sys2Proof.Machine.execFireCopy f s
  | .fireIfetch f => Sys2Proof.Machine.execFireIfetch f s
  | .fireIstore f => Sys2Proof.Machine.execFireIstore f s
  | .fireFence f => Sys2Proof.Machine.execFireFence f s
  | .fireClean f => Sys2Proof.Machine.execFireClean f s
  | .fireClinv f => Sys2Proof.Machine.execFireClinv f s
  | .fireCmul f => Sys2Proof.Machine.execFireCmul f s
  | .fireFft4 f => Sys2Proof.Machine.execFireFft4 f s
  | .fireIfft4 f => Sys2Proof.Machine.execFireIfft4 f s
  | .fireCmag f => Sys2Proof.Machine.execFireCmag f s
  | .fireCphase f => Sys2Proof.Machine.execFireCphase f s
  | .fireCpolar f => Sys2Proof.Machine.execFireCpolar f s
  | .fireHilb f => Sys2Proof.Machine.execFireHilb f s
  | .fireResamp f => Sys2Proof.Machine.execFireResamp f s
  | .fireMoment f => Sys2Proof.Machine.execFireMoment f s
  | .fireNewact f => Sys2Proof.Machine.execFireNewact f s
  | .fireFreeact f => Sys2Proof.Machine.execFireFreeact f s
  | .fireIter f => Sys2Proof.Machine.execFireIter f s
  | .fireChtag f => Sys2Proof.Machine.execFireChtag f s
  | .fireSelf f => Sys2Proof.Machine.execFireSelf f s
  | .fireTagq f => Sys2Proof.Machine.execFireTagq f s
  | .fireFan t n => Sys2Proof.Machine.execFireFan t n s
  | .fireChsend f => Sys2Proof.Machine.execFireChsend f s
  | .fireChpart f => Sys2Proof.Machine.execFireChpart f s
  | .fireChend f => Sys2Proof.Machine.execFireChend f s
  | .fireChpoll f => Sys2Proof.Machine.execFireChpoll f s
  | .fireLkacq f => Sys2Proof.Machine.execFireLkacq f s
  | .fireLktry f => Sys2Proof.Machine.execFireLktry f s
  | .fireLkrel f => Sys2Proof.Machine.execFireLkrel f s
  | .fireLkhand f => Sys2Proof.Machine.execFireLkhand f s
  | .fireDelay f => Sys2Proof.Machine.execFireDelay f s
  | .fireTickwait f => Sys2Proof.Machine.execFireTickwait f s
  | .fireSchstat f => Sys2Proof.Machine.execFireSchstat f s
  | .fireCrumb f => Sys2Proof.Machine.execFireCrumb f s
  | .fireCodeCommit f => Sys2Proof.Machine.execFireCodeCommit f s
  | .fireVote f => Sys2Proof.Machine.execFireVote f s
  | .fireRsend f => Sys2Proof.Machine.execFireRsend f s
  | .fireTimeq f => Sys2Proof.Machine.execFireTimeq f s
  | .fireExtOp f => Sys2Proof.Machine.execFireExtOp f s
  | .extReply ws => Sys2Proof.Machine.execExtReply ws s
  | .extReplyTimeout n => Sys2Proof.Machine.execExtReplyTimeout n s
  | .ucsFetchParityError t a f flips => Sys2Proof.Machine.execUcsFetchParityError t a f flips s
  | .ucsWordRepair t a ok => Sys2Proof.Machine.execUcsWordRepair t a ok s
  | .ucsScrubRead t flips ok => Sys2Proof.Machine.execUcsScrubRead t flips ok s
  | .ucsReload m t v => Sys2Proof.Machine.execUcsReload m t v s
  | .ucsReloadDone t => Sys2Proof.Machine.execUcsReloadDone t s
  | .mntClean m v => Sys2Proof.Machine.execMntClean m v s
  | .mntInval m v => Sys2Proof.Machine.execMntInval m v s
  | .mntClinv m v => Sys2Proof.Machine.execMntClinv m v s
  | .mntPin m v => Sys2Proof.Machine.execMntPin m v s
  | .mntUnpin m v => Sys2Proof.Machine.execMntUnpin m v s
  | .mntComplete => Sys2Proof.Machine.execMntComplete s
  | .l2cLockWrite m t v => Sys2Proof.Machine.execL2cLockWrite m t v s
  | .wayGroupPowerRequest m t v => Sys2Proof.Machine.execWayGroupPowerRequest m t v s
  | .wayGroupPowerDownDone t g => Sys2Proof.Machine.execWayGroupPowerDownDone t g s
  | .l2FillComplete n => Sys2Proof.Machine.execL2FillComplete n s
  | .l2ScrubRead t e => Sys2Proof.Machine.execL2ScrubRead t e s
  | .sdramPatrolRead c e => Sys2Proof.Machine.execSdramPatrolRead c e s
  | .l2EccError kind t y x e => Sys2Proof.Machine.execL2EccError kind t y x e s
  | .sdramEccError a e e2 => Sys2Proof.Machine.execSdramEccError a e e2 s
  | .sdcCfgWrite m v => Sys2Proof.Machine.execSdcCfgWrite m v s
  | .sdramTrainingDone => Sys2Proof.Machine.execSdramTrainingDone s
  | .sdramRefresh c => Sys2Proof.Machine.execSdramRefresh c s
  | .sdramRefreshRateChange c b => Sys2Proof.Machine.execSdramRefreshRateChange c b s
  | .pcieRequest bar2 write noSnoop off n data => Sys2Proof.Machine.execPcieRequest bar2 write noSnoop off n data s
  | .schedGrant => Sys2Proof.Machine.execSchedGrant s
  | .flowItemRelease fl => Sys2Proof.Machine.execFlowItemRelease fl s
  | .flowWaitWarning n => Sys2Proof.Machine.execFlowWaitWarning n s
  | .lkuAcq m v => Sys2Proof.Machine.execLkuAcq m v s
  | .lkuTry m v => Sys2Proof.Machine.execLkuTry m v s
  | .lkuRel m v => Sys2Proof.Machine.execLkuRel m v s
  | .lkuHand m v => Sys2Proof.Machine.execLkuHand m v s
  | .lkuCancel m v => Sys2Proof.Machine.execLkuCancel m v s
  | .lkuMreset m v => Sys2Proof.Machine.execLkuMreset m v s
  | .afeStart m v => Sys2Proof.Machine.execAfeStart m v s
  | .afeChannelConfig m c v => Sys2Proof.Machine.execAfeChannelConfig m c v s
  | .afeTachConfig m t v => Sys2Proof.Machine.execAfeTachConfig m t v s
  | .shadowWrite m a v => Sys2Proof.Machine.execShadowWrite m a v s
  | .protectionSample c x => Sys2Proof.Machine.execProtectionSample c x s
  | .measurementSample c k x => Sys2Proof.Machine.execMeasurementSample c k x s
  | .tachCrossing t v => Sys2Proof.Machine.execTachCrossing t v s
  | .tachEdgeQualify t => Sys2Proof.Machine.execTachEdgeQualify t s
  | .overspeedTimeout t => Sys2Proof.Machine.execOverspeedTimeout t s
  | .biasReading c v b => Sys2Proof.Machine.execBiasReading c v b s
  | .graphDemandApply => Sys2Proof.Machine.execGraphDemandApply s
  | .graphDemandDiscard y => Sys2Proof.Machine.execGraphDemandDiscard y s
  | .graphDemandTimeout k => Sys2Proof.Machine.execGraphDemandTimeout k s
  | .trpReset m v => Sys2Proof.Machine.execTrpReset m v s
  | .trpFirstClr m v => Sys2Proof.Machine.execTrpFirstClr m v s
  | .trpArm m v => Sys2Proof.Machine.execTrpArm m v s
  | .aliveSilenceForce => Sys2Proof.Machine.execAliveSilenceForce s
  | .tripRailLoss mv => Sys2Proof.Machine.execTripRailLoss mv s
  | .tripRailRestore => Sys2Proof.Machine.execTripRailRestore s
  | .tripConfigMismatch kind y => Sys2Proof.Machine.execTripConfigMismatch kind y s
  | .driverSenseMismatch k => Sys2Proof.Machine.execDriverSenseMismatch k s
  | .driverCurrentLimit k => Sys2Proof.Machine.execDriverCurrentLimit k s
  | .driverRetry k => Sys2Proof.Machine.execDriverRetry k s
  | .dieLinkLoss => Sys2Proof.Machine.execDieLinkLoss s
  | .dieLinkCorrection e => Sys2Proof.Machine.execDieLinkCorrection e s
  | .chnCreate m => Sys2Proof.Machine.execChnCreate m s
  | .chnDestroy m => Sys2Proof.Machine.execChnDestroy m s
  | .chnFlush m => Sys2Proof.Machine.execChnFlush m s
  | .chnDropPacket m => Sys2Proof.Machine.execChnDropPacket m s
  | .chnQuery m => Sys2Proof.Machine.execChnQuery m s
  | .windowComplete y => Sys2Proof.Machine.execWindowComplete y s
  | .staleTailExpiry y => Sys2Proof.Machine.execStaleTailExpiry y s
  | .queueReset y => Sys2Proof.Machine.execQueueReset y s
  | .qramEccError y kind n both e => Sys2Proof.Machine.execQramEccError y kind n both e s
  | .overflowMoveBack y => Sys2Proof.Machine.execOverflowMoveBack y s
  | .engineBundle n => Sys2Proof.Machine.execEngineBundle n s
  | .aluAdd n u t => Sys2Proof.Machine.execAluAdd n u t s
  | .aluSub n u t => Sys2Proof.Machine.execAluSub n u t s
  | .aluAnd n u t => Sys2Proof.Machine.execAluAnd n u t s
  | .aluOr n u t => Sys2Proof.Machine.execAluOr n u t s
  | .aluXor n u t => Sys2Proof.Machine.execAluXor n u t s
  | .aluAndn n u t => Sys2Proof.Machine.execAluAndn n u t s
  | .aluShl n u t => Sys2Proof.Machine.execAluShl n u t s
  | .aluShr n u t => Sys2Proof.Machine.execAluShr n u t s
  | .aluSar n u t => Sys2Proof.Machine.execAluSar n u t s
  | .aluRol n u t => Sys2Proof.Machine.execAluRol n u t s
  | .aluEq n u t => Sys2Proof.Machine.execAluEq n u t s
  | .aluNe n u t => Sys2Proof.Machine.execAluNe n u t s
  | .aluLts n u t => Sys2Proof.Machine.execAluLts n u t s
  | .aluLtu n u t => Sys2Proof.Machine.execAluLtu n u t s
  | .aluLes n u t => Sys2Proof.Machine.execAluLes n u t s
  | .aluLeu n u t => Sys2Proof.Machine.execAluLeu n u t s
  | .aluMins n u t => Sys2Proof.Machine.execAluMins n u t s
  | .aluMaxs n u t => Sys2Proof.Machine.execAluMaxs n u t s
  | .aluMinu n u t => Sys2Proof.Machine.execAluMinu n u t s
  | .aluMaxu n u t => Sys2Proof.Machine.execAluMaxu n u t s
  | .aluPass n u t => Sys2Proof.Machine.execAluPass n u t s
  | .aluClz n u t => Sys2Proof.Machine.execAluClz n u t s
  | .aluPopc n u t => Sys2Proof.Machine.execAluPopc n u t s
  | .aluSx8 n u t => Sys2Proof.Machine.execAluSx8 n u t s
  | .aluSx16 n u t => Sys2Proof.Machine.execAluSx16 n u t s
  | .aluSx32 n u t => Sys2Proof.Machine.execAluSx32 n u t s
  | .mulLo n t => Sys2Proof.Machine.execMulLo n t s
  | .mulHis n t => Sys2Proof.Machine.execMulHis n t s
  | .mulHiu n t => Sys2Proof.Machine.execMulHiu n t s
  | .lsuLdu8 n t => Sys2Proof.Machine.execLsuLdu8 n t s
  | .lsuLdu16 n t => Sys2Proof.Machine.execLsuLdu16 n t s
  | .lsuLdu32 n t => Sys2Proof.Machine.execLsuLdu32 n t s
  | .lsuLdu64 n t => Sys2Proof.Machine.execLsuLdu64 n t s
  | .lsuLds8 n t => Sys2Proof.Machine.execLsuLds8 n t s
  | .lsuLds16 n t => Sys2Proof.Machine.execLsuLds16 n t s
  | .lsuLds32 n t => Sys2Proof.Machine.execLsuLds32 n t s
  | .lsuSt8 n t => Sys2Proof.Machine.execLsuSt8 n t s
  | .lsuSt16 n t => Sys2Proof.Machine.execLsuSt16 n t s
  | .lsuSt32 n t => Sys2Proof.Machine.execLsuSt32 n t s
  | .lsuSt64 n t => Sys2Proof.Machine.execLsuSt64 n t s
  | .lsuFence n t => Sys2Proof.Machine.execLsuFence n t s
  | .pcuJump n t => Sys2Proof.Machine.execPcuJump n t s
  | .pcuCall n t => Sys2Proof.Machine.execPcuCall n t s
  | .pcuRet n t => Sys2Proof.Machine.execPcuRet n t s
  | .pcuRete n t => Sys2Proof.Machine.execPcuRete n t s
  | .pcuLoop n t => Sys2Proof.Machine.execPcuLoop n t s
  | .pcuIsync n t => Sys2Proof.Machine.execPcuIsync n t s
  | .pcuHalt n t => Sys2Proof.Machine.execPcuHalt n t s
  | .pcuWait n t => Sys2Proof.Machine.execPcuWait n t s
  | .pcuEvmask n t => Sys2Proof.Machine.execPcuEvmask n t s
  | .pcuWdog n t => Sys2Proof.Machine.execPcuWdog n t s
  | .chpSend n t => Sys2Proof.Machine.execChpSend n t s
  | .chpSende n t => Sys2Proof.Machine.execChpSende n t s
  | .chpRecv n t => Sys2Proof.Machine.execChpRecv n t s
  | .chpDrop n t => Sys2Proof.Machine.execChpDrop n t s
  | .chpFlush n t => Sys2Proof.Machine.execChpFlush n t s
  | .chpEvqRead n d => Sys2Proof.Machine.execChpEvqRead n d s
  | .engineEventTake n => Sys2Proof.Machine.execEngineEventTake n s
  | .cenRun m n v => Sys2Proof.Machine.execCenRun m n v s
  | .cenReset m n v => Sys2Proof.Machine.execCenReset m n v s
  | .engineWatchdogExpiry n => Sys2Proof.Machine.execEngineWatchdogExpiry n s
  | .engineTimer n => Sys2Proof.Machine.execEngineTimer n s
  | .cenDoorbell m n v => Sys2Proof.Machine.execCenDoorbell m n v s
  | .cenRamdataRead m n => Sys2Proof.Machine.execCenRamdataRead m n s
  | .cenRamdataWrite m n v => Sys2Proof.Machine.execCenRamdataWrite m n v s
  | .engineRamError n kind y e => Sys2Proof.Machine.execEngineRamError n kind y e s
  | .deflateJob m u v => Sys2Proof.Machine.execDeflateJob m u v s
  | .inflateJob m u v => Sys2Proof.Machine.execInflateJob m u v s
  | .fondantJob m u v => Sys2Proof.Machine.execFondantJob m u v s
  | .fondantDeflateJob m u v => Sys2Proof.Machine.execFondantDeflateJob m u v s
  | .unfondantJob m u v => Sys2Proof.Machine.execUnfondantJob m u v s
  | .inflateUnfondantJob m u v => Sys2Proof.Machine.execInflateUnfondantJob m u v s
  | .encryptJob m u v => Sys2Proof.Machine.execEncryptJob m u v s
  | .decryptJob m u v => Sys2Proof.Machine.execDecryptJob m u v s
  | .unwrapJob m u v => Sys2Proof.Machine.execUnwrapJob m u v s
  | .transformJobDone u => Sys2Proof.Machine.execTransformJobDone u s
  | .transformUnitError u bad => Sys2Proof.Machine.execTransformUnitError u bad s
  | .keyLoad m v => Sys2Proof.Machine.execKeyLoad m v s
  | .keyErase m v => Sys2Proof.Machine.execKeyErase m v s
  | .encZeroize m v => Sys2Proof.Machine.execEncZeroize m v s
  | .recoveryDispatch => Sys2Proof.Machine.execRecoveryDispatch s
  | .linkFrameReceive p f => Sys2Proof.Machine.execLinkFrameReceive p f s
  | .linkResendTimeout p => Sys2Proof.Machine.execLinkResendTimeout p s
  | .linkSignalDetect p => Sys2Proof.Machine.execLinkSignalDetect p s
  | .linkFrameLock p => Sys2Proof.Machine.execLinkFrameLock p s
  | .linkTrainingFailure p => Sys2Proof.Machine.execLinkTrainingFailure p s
  | .linkSignalLoss p => Sys2Proof.Machine.execLinkSignalLoss p s
  | .linkHelloTimeout p => Sys2Proof.Machine.execLinkHelloTimeout p s
  | .linkWake p => Sys2Proof.Machine.execLinkWake p s
  | .helloSend p => Sys2Proof.Machine.execHelloSend p s
  | .helloReceive p m => Sys2Proof.Machine.execHelloReceive p m s
  | .mgmtReceive m => Sys2Proof.Machine.execMgmtReceive m s
  | .routeReceive m => Sys2Proof.Machine.execRouteReceive m s
  | .rdreqReceive m => Sys2Proof.Machine.execRdreqReceive m s
  | .rdrespReceive m => Sys2Proof.Machine.execRdrespReceive m s
  | .wrreqReceive m => Sys2Proof.Machine.execWrreqReceive m s
  | .wrackReceive m => Sys2Proof.Machine.execWrackReceive m s
  | .rerrReceive m => Sys2Proof.Machine.execRerrReceive m s
  | .rscredReceive m => Sys2Proof.Machine.execRscredReceive m s
  | .rsgrantReceive m => Sys2Proof.Machine.execRsgrantReceive m s
  | .rsitemReceive m => Sys2Proof.Machine.execRsitemReceive m s
  | .rscloseSend k => Sys2Proof.Machine.execRscloseSend k s
  | .rscloseReceive m => Sys2Proof.Machine.execRscloseReceive m s
  | .rsackReceive m => Sys2Proof.Machine.execRsackReceive m s
  | .voteMessage m => Sys2Proof.Machine.execVoteMessage m s
  | .voteTimeout f => Sys2Proof.Machine.execVoteTimeout f s
  | .resyncSourcePoint g w => Sys2Proof.Machine.execResyncSourcePoint g w s
  | .resyncMinorityPoint g w => Sys2Proof.Machine.execResyncMinorityPoint g w s
  | .rsyreqReceive m => Sys2Proof.Machine.execRsyreqReceive m s
  | .rsydataReceive m => Sys2Proof.Machine.execRsydataReceive m s
  | .rsyackReceive m => Sys2Proof.Machine.execRsyackReceive m s
  | .resyncTimeout g w => Sys2Proof.Machine.execResyncTimeout g w s
  | .e2eackReceive m => Sys2Proof.Machine.execE2eackReceive m s
  | .e2eResendTimeout d vc => Sys2Proof.Machine.execE2eResendTimeout d vc s
  | .deviceLossTimeout d => Sys2Proof.Machine.execDeviceLossTimeout d s
  | .timeExchange p => Sys2Proof.Machine.execTimeExchange p s
  | .syncReceive p m => Sys2Proof.Machine.execSyncReceive p m s
  | .dreqReceive p m => Sys2Proof.Machine.execDreqReceive p m s
  | .drespReceive p m => Sys2Proof.Machine.execDrespReceive p m s
  | .timeBoundGrowth => Sys2Proof.Machine.execTimeBoundGrowth s
  | .xportIdentity d => Sys2Proof.Machine.execXportIdentity d s
  | .nocFlitError k kind n e side band again => Sys2Proof.Machine.execNocFlitError k kind n e side band again s
  | .nocReservationWrite m r v => Sys2Proof.Machine.execNocReservationWrite m r v s
  | .domainOffReturn kind n a => Sys2Proof.Machine.execDomainOffReturn kind n a s
  | .pllLossOfLock p => Sys2Proof.Machine.execPllLossOfLock p s
  | .refclkLoss => Sys2Proof.Machine.execRefclkLoss s
  | .dozeEnter m => Sys2Proof.Machine.execDozeEnter m s
  | .dozeTileFence => Sys2Proof.Machine.execDozeTileFence s
  | .dozeWake m => Sys2Proof.Machine.execDozeWake m s
  | .wakeComplete => Sys2Proof.Machine.execWakeComplete s
  | .unitPowerRequest m v => Sys2Proof.Machine.execUnitPowerRequest m v s
  | .domainPowerDownDone d => Sys2Proof.Machine.execDomainPowerDownDone d s
  | .tilePark m t v => Sys2Proof.Machine.execTilePark m t v s
  | .tileParkComplete t => Sys2Proof.Machine.execTileParkComplete t s
  | .tileUnparkComplete t => Sys2Proof.Machine.execTileUnparkComplete t s
  | .tileClboff m t v => Sys2Proof.Machine.execTileClboff m t v s
  | .tileSpoff m t v => Sys2Proof.Machine.execTileSpoff m t v s
  | .supplyWarning rail mv => Sys2Proof.Machine.execSupplyWarning rail mv s
  | .supplyHoldEnd => Sys2Proof.Machine.execSupplyHoldEnd s
  | .supplyReset rail => Sys2Proof.Machine.execSupplyReset rail s
  | .faultReport c src kind loc detail tagged tag wafered wafer => Sys2Proof.Machine.execFaultReport c src kind loc detail tagged tag wafered wafer s
  | .peCheckerError f unit => Sys2Proof.Machine.execPeCheckerError f unit s
  | .peSubstitution t p => Sys2Proof.Machine.execPeSubstitution t p s
  | .waferReplay k => Sys2Proof.Machine.execWaferReplay k s
  | .journalRestore k => Sys2Proof.Machine.execJournalRestore k s
  | .tileRetirement t => Sys2Proof.Machine.execTileRetirement t s
  | .tileStructureError t kind y e => Sys2Proof.Machine.execTileStructureError t kind y e s
  | .sequencerMemoryError kind e => Sys2Proof.Machine.execSequencerMemoryError kind e s
  | .recoveryWatchdogExpiry => Sys2Proof.Machine.execRecoveryWatchdogExpiry s
  | .sequencerWatchdogExpiry => Sys2Proof.Machine.execSequencerWatchdogExpiry s
  | .aliveToggle => Sys2Proof.Machine.execAliveToggle s
  | .aliveEnable m v => Sys2Proof.Machine.execAliveEnable m v s
  | .fclClear m v => Sys2Proof.Machine.execFclClear m v s
  | .fclLogPop m v => Sys2Proof.Machine.execFclLogPop m v s
  | .fclSeqKick m v => Sys2Proof.Machine.execFclSeqKick m v s
  | .powerOnReset strap => Sys2Proof.Machine.execPowerOnReset strap s
  | .pinReset => Sys2Proof.Machine.execPinReset s
  | .hostReset m v => Sys2Proof.Machine.execHostReset m v s
  | .resetRelease flashOk token => Sys2Proof.Machine.execResetRelease flashOk token s
  | .bootSdramTrained ok => Sys2Proof.Machine.execBootSdramTrained ok s
  | .cfgOpen m => Sys2Proof.Machine.execCfgOpen m s
  | .cfgShadowCopyDone => Sys2Proof.Machine.execCfgShadowCopyDone s
  | .cfgDataWrite m v => Sys2Proof.Machine.execCfgDataWrite m v s
  | .cfgDataRead m => Sys2Proof.Machine.execCfgDataRead m s
  | .cfgImgload m => Sys2Proof.Machine.execCfgImgload m s
  | .cfgCommit m => Sys2Proof.Machine.execCfgCommit m s
  | .cfgValidationDone => Sys2Proof.Machine.execCfgValidationDone s
  | .cfgAbort m => Sys2Proof.Machine.execCfgAbort m s
  | .cfgLockSet m v => Sys2Proof.Machine.execCfgLockSet m v s
  | .bootFlashRead m => Sys2Proof.Machine.execBootFlashRead m s
  | .bootFlashProgram m => Sys2Proof.Machine.execBootFlashProgram m s
  | .bootFlashErase m => Sys2Proof.Machine.execBootFlashErase m s
  | .bootFlashDone ok => Sys2Proof.Machine.execBootFlashDone ok s
  | .bootSvnAdvance m v => Sys2Proof.Machine.execBootSvnAdvance m v s
  | .bootKeyRevoke m v => Sys2Proof.Machine.execBootKeyRevoke m v s
  | .tempOverGrade k t => Sys2Proof.Machine.execTempOverGrade k t s
  | .tempCritical k => Sys2Proof.Machine.execTempCritical k s
  | .pcieFunctionReset kind => Sys2Proof.Machine.execPcieFunctionReset kind s
  | .pciIrqWrite m v => Sys2Proof.Machine.execPciIrqWrite m v s
  | .ethFrameReceive y ts fcs f => Sys2Proof.Machine.execEthFrameReceive y ts fcs f s
  | .ethRxTailWrite m y v => Sys2Proof.Machine.execEthRxTailWrite m y v s
  | .ethTxTailWrite m y v => Sys2Proof.Machine.execEthTxTailWrite m y v s
  | .ethFrameTransmit y c => Sys2Proof.Machine.execEthFrameTransmit y c s
  | .ethGateEntry y => Sys2Proof.Machine.execEthGateEntry y s
  | .tslSensorFrame p ts payload => Sys2Proof.Machine.execTslSensorFrame p ts payload s
  | .i2cAddressWrite b hi lo => Sys2Proof.Machine.execI2cAddressWrite b hi lo s
  | .i2cRead => Sys2Proof.Machine.execI2cRead s
  | .jtagBypass => Sys2Proof.Machine.execJtagBypass s
  | .jtagIdcode => Sys2Proof.Machine.execJtagIdcode s
  | .jtagSamplePreload => Sys2Proof.Machine.execJtagSamplePreload s
  | .jtagExtest => Sys2Proof.Machine.execJtagExtest s
  | .jtagClamp => Sys2Proof.Machine.execJtagClamp s
  | .jtagHighz => Sys2Proof.Machine.execJtagHighz s
  | .supplyRecoveryCrossing rail up => Sys2Proof.Machine.execSupplyRecoveryCrossing rail up s
  | .domainPowerUpDone d => Sys2Proof.Machine.execDomainPowerUpDone d s
  | .pllLockRegained p => Sys2Proof.Machine.execPllLockRegained p s

end Sys2Proof.Machine
end

