-- ==== Sys2Proof/Machine/Step.lean ====
section
/-! DEFINITION. One step of the block: the command at the front of the queue, or the passing of time. -/

namespace Sys2Proof.Machine

/-- Device time 1 ns later, unless that would reach a whole microsecond, which only SUBTICK_EDGE does (R15, R32).
(DESIGN CHOICE, log entry 3) -/
def idle (s : State) : State :=
  if (s.now + 1) % 1000 = 0 then s else { s with now := s.now + 1, clock := s.clock + 1 }

/-- One step: the front command runs on the state with the rest of the queue; an empty queue lets time pass. -/
def step (s : State) : Host.Outcome State Fault Refusal :=
  match s.pending with
  | [] => .next (idle s)
  | c :: rest => exec c { s with pending := rest }

/-- The state with the command that the word spells put at the front of its queue; unchanged where it spells none. -/
def State.withFetchWord (s : State) (nbits w : Nat) : State :=
  match decodeTableWord nbits w with
  | none => s
  | some c => { s with pending := c :: s.pending }

end Sys2Proof.Machine
end

