-- ==== Sys2Proof/Safety.lean ====
section
/-! DEFINITION. What the claims speak of: commands that complete with an effect, firings that are ready to execute, and
the state in which a firing's results are staged. -/

namespace Sys2Proof.Safety

open Sys2Proof.Machine

/-- The command answers a next state, of which `P` holds. -/
def Completes (c : Instr) (s : State) (P : State → Prop) : Prop :=
  ∃ t, Sys2Proof.Machine.exec c s = .next t ∧ P t

/-- Firing `n` is dispatched, waits for nothing that still stands, and holds a legal word of opcode `opc`; its
activation is not quarantined, and its tile is not being retired (R45, R46, R58, R475). -/
structure Ready (s : State) (n opc : Nat) (f : Firing) (a : Act) (row : OpRow) : Prop where
  alive : s.dead = false
  found : s.firing? n = some f
  stage : f.stage = .dispatched
  wait  : State.canGo f.wait = true
  opc   : f.iw.opc = opc
  act   : s.act? f.act = some a
  serves : s.tileFenced f.tile = false
  runs  : a.state ≠ .quarantined
  legal : legalRow f.iw (s.arityOf f.epoch f.word) = some row

/-- The buffers of the firing's PE have room for `ns` stores and for the effects (R58, R62). -/
abbrev Room (s : State) (f : Firing) (ns : Nat) (es : List Effect) : Prop :=
  s.sbUsed f.tile f.pe + ns ≤ 8 ∧ s.ebUsed f.tile f.pe + (es.filter State.inEvents).length ≤ 4

/-- The state whose firing `f` holds its staged results and has nothing more to wait for; everything else is as in `s`,
but for the replies of its remote loads, which it has used (R58, R63). -/
def staged (s : State) (f : Firing) (outs : List OutTok) (stores : List StoreRec) (effects : List Effect)
    (raised : Flags7) (nd : Bool) : State :=
  { s with
    firings := s.firings.map (fun x => if x.id = f.id then
      { x with stage := .executed, wait := .none, outs := outs, stores := stores, effects := effects, raised := raised,
               nd := nd } else x)
    fab.remote := s.fab.remote.filter (fun r => decide (r.firing ≠ some f.id)) }

/-- The inputs of a computing operation as the operation sees them (R143, R187). -/
def opInputs (f : Firing) (a : Act) (x : Ins) : OpIn :=
  ⟨fenvOf a.mode f.iw.rnd, f.iw.ty, f.iw.lit, f.lty, x.l, x.r, x.c⟩

/-- A ready firing has read its inputs: `x` holds them, no memory input waits or traps, only the ports in the mask `ok`
carry a context token, and `s1` is the state after the reads (R48, R116). -/
structure Inputs (s : State) (f : Firing) (a : Act) (row : OpRow) (ok : Nat) (x : Ins) (s1 : State) : Prop where
  noCtx : f.ctxBad ok = false
  read  : s.readIns f a row = (x, s1)
  wait  : x.wait = none
  bad   : x.bad = []

/-- The value `v` of a firing can be stored where its mode says: the stores, the ND of the address, and the state after the
address was formed (R70, R113, R116). -/
def Stores (s1 : State) (f : Firing) (a : Act) (v : Value) (stores : List StoreRec) (effects : List Effect) (nd : Bool)
    (s2 : State) : Prop :=
  s1.memResult f a f.iw.ty v = (.ok ⟨[], stores, effects, nd⟩, s2)

/-- A firing of `c n` computes `op` of its inputs and stages the result, with the flags that `op` raises, for every mode
that its row permits (R63, R64, R116, R134, R144). -/
def ComputesBy (c : Nat → Instr) (opc : Nat) (op : OpIn → Option OpRes) (isInt : Bool) : Prop :=
  ∀ (s : State) (n : Nat) (f : Firing) (a : Act) (row : OpRow) (x : Ins) (s1 s2 : State) (z : OpRes)
    (stores : List StoreRec) (effects : List Effect) (nd : Bool),
    Ready s n opc f a row → Inputs s f a row 0 x s1 → op (opInputs f a x) = some z →
    Stores s1 f a z.val stores effects nd s2 → enabledCauses a.mode isInt (orFlags z.flags) = [] →
    Room s2 f stores.length effects →
    Sys2Proof.Machine.exec (c n) s = .next (staged s2 f (f.outsAB ⟨z.val, f.comp z.ty (orFlags z.flags) x.nd⟩) stores effects
      (orFlags z.flags) (f.inhNd || x.nd || nd))

/-- The microsequence of a microcoded firing runs from `entry` to its END: its PE's microsequencer holds no other firing and none
waits before it, and the walk over the words meets no error and no wait (R205, R210, R211). -/
structure Sequenced (s : State) (f : Firing) (a : Act) (entry : Nat) (x : Ins) (q : MicroSeq) : Prop where
  turn : s.useqBusy f = false
  new  : ∀ p ∈ s.useqs, p.firing ≠ f.id
  ends : s.microWalk (fenvOf a.mode f.iw.rnd) f.iw.ty 20000 (MicroSeq.start f.tile f.pe f.id entry x.l x.r x.c) = (.done, q)

/-- The same of a microcoded operation, whose microsequence runs to its END first (R205, R210). -/
def MicrocodedBy (c : Nat → Instr) (opc entry : Nat) (op : OpIn → Option OpRes) (isInt : Bool) : Prop :=
  ∀ (s : State) (n : Nat) (f : Firing) (a : Act) (row : OpRow) (x0 x : Ins) (s1 s2 sx : State) (z : OpRes) (q : MicroSeq)
    (stores : List StoreRec) (effects : List Effect) (nd : Bool),
    Ready s n opc f a row → Inputs s f a row 0 x0 sx → Sequenced s f a entry x0 q →
    Inputs (s.useqFree f) f a row 0 x s1 → op (opInputs f a x) = some z →
    Stores s1 f a z.val stores effects nd s2 → enabledCauses a.mode isInt (orFlags z.flags) = [] →
    Room s2 f stores.length effects →
    Sys2Proof.Machine.exec (c n) s = .next (staged s2 f (f.outsAB ⟨z.val, f.comp z.ty (orFlags z.flags) x.nd⟩) stores effects
      (orFlags z.flags) (f.inhNd || x.nd || nd))

/-- A firing of `c n` whose result raises an enabled trap stages nothing but its exception token, or without a handler its
quarantine, for every mode that its row permits (R147, R198 to R203). -/
def TrapsBy (c : Nat → Instr) (opc : Nat) (op : OpIn → Option OpRes) (isInt : Bool) : Prop :=
  ∀ (s : State) (n : Nat) (f : Firing) (a : Act) (row : OpRow) (x : Ins) (s1 s2 : State) (z : OpRes)
    (stores : List StoreRec) (effects : List Effect) (nd : Bool) (cause : Nat),
    Ready s n opc f a row → Inputs s f a row 0 x s1 → op (opInputs f a x) = some z →
    Stores s1 f a z.val stores effects nd s2 → firstCause (enabledCauses a.mode isInt (orFlags z.flags)) = some cause →
    Room s2 f 0 [.noHandler] →
    let k := if causeFlag cause = 0 then 0 else causeLane f.iw.ty cause z.flags
    let info : TrapInfo :=
      { cause := cause, raised := orFlags z.flags, lane := k
        opl := reported (srcL row.ins f.iw.mode) (f.reportTy 0) k cause x.l
        opr := reported (srcR row.ins f.iw.mode) (f.reportTy 1) k cause x.r
        opc := reported (srcC row.ins f.iw.mode) (f.reportTy 2) k cause x.c }
    (bit a.mode 2 = true → f.excIn = false → Sys2Proof.Machine.exec (c n) s = .next (staged s2 f
      [excToken f.tag f.word a.handler f.inhFlags (f.inhNd || x.nd) info] [] [] (orFlags z.flags) false)) ∧
    (¬ (bit a.mode 2 = true ∧ f.excIn = false) →
      Sys2Proof.Machine.exec (c n) s = .next (staged s2 f [] [] [.noHandler] (orFlags z.flags) false))

/-- What tokens carry, without the fields that only their transport uses (Table 2.2). -/
def carried (ks : List Token) : List (Tag × TVal) := ks.map (fun k => (k.tag, k.tv))

/-- The `n`-th token for tile `t` may arrive, is of its slot's incarnation and for a port of an instruction of this device, and its
activation is LIVE (R39, R43, R44, R49, R97, R425). -/
structure Accepted (s : State) (t n : Nat) (k : Token) (a : Act) : Prop where
  alive : s.dead = false
  token : s.netTok t n = some k
  may   : s.mayArrive t k = true
  inc   : k.inc = (s.slotAt (tagSlot k.tag)).inc
  port  : tagPort k.tag ≠ 3
  here  : tagDevice k.tag = s.localId
  act   : s.act? (tagAct k.tag) = some a
  live  : a.state = .live

/-- Tile `t` holds nothing under the token's key: no entry, and no lookup that waits for a fetch (R85). -/
abbrev KeyFree (s : State) (t : Nat) (key : Nat) : Prop :=
  (∀ e ∈ s.mst, e.tile = t → e.key ≠ key) ∧ ∀ m ∈ s.mfetch, m.tile = t → tagKey m.tok.tag ≠ key

/-- Way `w` is the lowest free way of the set of a key (R86). -/
abbrev FreeWay (s : State) (t key w : Nat) : Prop :=
  (List.range 8).find? (fun w => !(s.mst.filter (fun x => decide (x.tile = t) &&
    x.inSet (s.bankSet t key).1 (s.bankSet t key).2)).any (fun x => decide (x.way = w))) = some w

/-- One token to destination field `x` under a changed activation, slot or iteration (R63, R66, R163). -/
def retag (f : Firing) (x act slot iter : Nat) (tv : TVal) : List OutTok :=
  match destOf f.iaddr x with
  | none => []
  | some d => [⟨mkTag (tagDevice f.tag) act slot iter d.1 d.2, tv⟩]

/-- The integer types (Table 4.2). -/
abbrev IntType (ty : Nat) : Prop := (tyInfo ty).kind = .sint ∨ (tyInfo ty).kind = .uint

/-- The integer that lane `k` of a value stands for under the instruction's type (R148). -/
def laneVal (x : OpIn) (v : Value) (k : Nat) : Int :=
  laneInt (laneSigned x.ty) (tyInfo x.ty).w (lane (tyInfo x.ty).w k v)

/-- An integer that the lane type represents. -/
abbrev Fits (x : OpIn) (e : Int) : Prop := laneMin (laneSigned x.ty) (tyInfo x.ty).w ≤ e ∧ e ≤ laneMax (laneSigned x.ty) (tyInfo x.ty).w

/-- Every lane of `op` is the exact result modulo 2^w, with V exactly where the exact result does not fit (R183). -/
def LanesWrap (op : OpIn → Option OpRes) (exact : Int → Int → Int) : Prop :=
  ∀ x : OpIn, IntType x.ty → ∃ z, op x = some z ∧ z.ty = x.ty ∧ ∀ k < (tyInfo x.ty).lanes,
    ((lane (tyInfo x.ty).w k z.val : Nat) : Int) = exact (laneVal x x.l k) (laneVal x x.r k) % (2 ^ (tyInfo x.ty).w : Nat) ∧
    (Fits x (exact (laneVal x x.l k) (laneVal x x.r k)) → z.flags[k]? = some 0) ∧
    (¬ Fits x (exact (laneVal x x.l k) (laneVal x x.r k)) → z.flags[k]? = some flV)

/-- Every lane of `op` is the exact result held within the lane type, with SAT exactly where it was clamped (R183). -/
def LanesClamp (op : OpIn → Option OpRes) (exact : Int → Int → Int) : Prop :=
  ∀ x : OpIn, IntType x.ty → ∃ z, op x = some z ∧ z.ty = x.ty ∧ ∀ k < (tyInfo x.ty).lanes,
    laneVal x z.val k = clampInt (laneMin (laneSigned x.ty) (tyInfo x.ty).w) (laneMax (laneSigned x.ty) (tyInfo x.ty).w)
      (exact (laneVal x x.l k) (laneVal x x.r k)) ∧
    (Fits x (exact (laneVal x x.l k) (laneVal x x.r k)) → z.flags[k]? = some 0) ∧
    (¬ Fits x (exact (laneVal x x.l k) (laneVal x x.r k)) → z.flags[k]? = some flSAT)

/-- The magnitude that a finite pattern without its sign stands for, as a rational number (R187). -/
def magVal (f : Fmt) (b : Nat) : Rat :=
  if f.expOf b = 0 then (f.fracOf b : Rat) * 2 ^ (1 - f.bias - f.mw)
  else ((2 ^ f.mw + f.fracOf b : Nat) : Rat) * 2 ^ ((f.expOf b : Int) - f.bias - f.mw)

/-- A maintenance operation `op` for the line that `L2C_MNT_ADDR` names has begun: it stands, with BUSY set, and nothing else in
memory has changed (R238, R239). -/
def Maintains (s u : State) (op : Nat) : Prop :=
  u.mem = { s.mem with maint := some ⟨op, s.rfld Reg.L2C_MNT_ADDR 47 6, s.rfld Reg.L2C_MNT_ADDR 47 6 + 1, none⟩ } ∧
    u.rbit Reg.L2C_MNT_STATUS 63 = true

/-- The state in which the trigger of engine `n`'s bundle acts: the store buffer has drained its oldest entry, and every result
pipe has moved on (R361, R365). -/
def begun (s : State) (n : Nat) : State :=
  (s.drainOne n).updEngine n (fun e => { e with
    alu0q := pipeStep 1 0 e.alu0q, alu1q := pipeStep 1 0 e.alu1q, mulq := pipeStep 2 0 e.mulq, lsuq := pipeStep 3 (.word 0) e.lsuq,
    chpq := pipeStep 3 [] e.chpq, chps := pipeStep 3 0 e.chps })

/-- The engine goes on with its next bundle; at the end of a loop's body that is the body's first while passes are left (R363). -/
def goesOn (e : Engine) : Engine :=
  let last := e.loop.active && decide (e.pc = (e.loop.start + e.loop.len - 1) % 8192)
  { e with
    run := .running
    pc := if last = true ∧ 1 < e.loop.left then e.loop.start else (e.pc + 1) % 8192
    loop := if last then (if 1 < e.loop.left
        then { e.loop with left := e.loop.left - 1, buffed := e.loop.buffed || e.loop.kept, kept := true } else Reset.loop)
      else e.loop }

/-- The bundle of command `c` ends normally: `b` is the state that its trigger leaves, and engine `n` becomes `e`; nothing else
changes but the count of bundles, the count of bundles run from the loop buffer, and RUN where the engine halts (R361, R362). -/
def Ends (c : Instr) (s b : State) (n : Nat) (e : Engine) : Prop :=
  Completes c s (fun v => v = { b with engines := updAt b.engines n (fun _ => e), csr := v.csr } ∧
    v.rget (Reg.CEN_BUNDLES n) = b.rget (Reg.CEN_BUNDLES n) + 1 ∧ (e.run ≠ .halted → v.rget (Reg.CEN_CTRL n) = b.rget (Reg.CEN_CTRL n)) ∧
    (e.run = .halted → v.rbit (Reg.CEN_CTRL n) 0 = false) ∧
    ∀ a, a ≠ Reg.CEN_BUNDLES n → a ≠ Reg.CEN_LBUF n → a ≠ Reg.CEN_CTRL n → v.rget a = b.rget a)

/-- The same of a bundle after which the engine goes on. -/
def Runs (c : Instr) (s b : State) (n : Nat) : Prop := Ends c s b n (goesOn (b.engineAt n))

/-- Link `p` leaves for state `st`: it has lost its peer, its unacknowledged frames and its partial messages, the other links are
as before, and then what follows from a change of links follows, or for port X from its loss (R389, R421). -/
def Leaves (c : Instr) (s : State) (p : Nat) (st : LinkState) : Prop :=
  ∃ x, Sys2Proof.Machine.exec c s =
      .next (if p = 6 then (if (s.linkAt p).state = .up then x.xDown else x) else x.linksChanged) ∧
    (x.linkAt p).state = st ∧ (x.linkAt p).peer = none ∧ (x.linkAt p).kept = [] ∧ (x.linkAt p).rx = [[], [], [], []] ∧
    (∀ q, q ≠ p → x.linkAt q = s.linkAt q) ∧ x.mem = s.mem ∧ x.chans = s.chans ∧ x.fab.retained = s.fab.retained

/-- Message `m` reaches this device as the next of its source and virtual channel; `d` is the state in which it has been
acknowledged and its number is used up (R397, R398). -/
def Arrives (s : State) (m : Msg) (d : State) : Prop :=
  s.dead = false ∧ s.fabOn = true ∧ s.power.doze = 0 ∧ m.dst = s.localId ∧ m.body.length = m.ncw ∧
  smGet s.fab.rxSeq (m.src * 4 + m.vc) 0 = m.eseq ∧
  d = { s with fab.rxSeq := smPut s.fab.rxSeq (m.src * 4 + m.vc) 0 ((m.eseq + 1) % 65536) }.e2eAckSend m.src m.vc m.eseq

/-- The memories, the registers, the code store, the control store and the filter counters list only what differs from what an
unlisted key reads as, with keys strictly rising. -/
structure Canonical (s : State) : Prop where
  mem  : s.memOk = true
  csr  : smWf regReset s.csr
  code : smWf (fun _ => 0) s.code
  ucs  : smWf (fun _ => 0) s.ucs
  filt : smWf (fun _ => 0) s.filt

end Sys2Proof.Safety
end

