-- ==== Sys2Proof/Certificates/Slice0/Obligations.lean ====
section
/-! DEFINITION. The statements about the SZ4160, for the provers. -/



open Sys2Proof Sys2Proof.Machine Sys2Proof.Safety

/-- A step with command c at the front of the queue is exec of c on the state with the rest of the queue. With an
empty queue the step lets one nanosecond pass, but for the last nanosecond of a microsecond, which only SUBTICK_EDGE
passes: the model's own choice (log entry 3). -/
def Obligations.StepRunsTheFrontCommand : Prop :=
  (∀ (s : State) (c : Instr) (q : List Instr),
    Sys2Proof.Machine.step { s with pending := c :: q } = Sys2Proof.Machine.exec c { s with pending := q }) ∧
  (∀ s : State, s.pending = [] → (s.now + 1) % 1000 ≠ 0 →
    Sys2Proof.Machine.step s = .next { s with now := s.now + 1, clock := s.clock + 1 }) ∧
  (∀ s : State, s.pending = [] → (s.now + 1) % 1000 = 0 → Sys2Proof.Machine.step s = .next s)

/-- Every command, in every state, answers a next state: no command ends in a fault or in a refusal. -/
def Obligations.EveryCommandAnswersANextState : Prop :=
  ∀ (c : Instr) (s : State), ∃ t, Sys2Proof.Machine.exec c s = .next t

/-- In the state after reset every register reads its reset value: TCK_EPOCH 0, TCK_PERIOD 1,000, TCK_CTRL with ADMIT
alone set, TCK_LAG_WARN 8. No activation, firing, token, start request, lock, or channel exists, all eight wafer slots
are FREE, no command waits, and no C4 state stands. -/
def Obligations.ResetLeavesTheResetValues : Prop :=
  (∀ a, State.reset.rget a = regReset a) ∧
  State.reset.rget Reg.TCK_EPOCH = 0 ∧ State.reset.rget Reg.TCK_PERIOD = 1000 ∧ State.reset.rget Reg.TCK_CTRL = 4 ∧
  State.reset.rget Reg.TCK_LAG_WARN = 8 ∧ State.reset.acts = [] ∧ State.reset.firings = [] ∧ State.reset.net = [] ∧
  State.reset.startReqs = [] ∧ State.reset.locks = [] ∧ State.reset.chans = [] ∧ State.reset.pending = [] ∧
  State.reset.dead = false ∧ State.reset.slots.length = 8 ∧ ∀ k ∈ State.reset.slots, k.state = 0

/-- After reset the memories (SDRAM, scratch, boot flash), the registers, the code store, the control store and the
filter counters are in canonical form: keys strictly rising, and no entry equal to what an unlisted key reads as. The
form is the model's own choice (log entry 8); that a register holds its reset value where nothing is listed is R9's. -/
def Obligations.ResetTablesAreCanonical : Prop :=
  Canonical State.reset

/-- From every state whose memories (SDRAM, scratch, boot flash), registers, code store, control store and filter
counters are in canonical form, every step, whatever its command, leads to a state in which they are so again: equal
contents stay equal data. The form is the model's own choice (log entry 8). -/
def Obligations.StepsKeepTablesCanonical : Prop :=
  ∀ s t : State, Canonical s → Sys2Proof.Machine.step s = .next t → Canonical t

/-- For every instruction word w, encoding the fields that decode reads from w gives w again, so no bit of a word is
dropped. For all fields within their widths (opcode 10 bits, type 4, rounding 2, mode 4, literal 12, destinations 16
each), decoding the encoded word gives the fields. The same holds of a tag's six fields. -/
def Obligations.InstructionWordRoundTrip : Prop :=
  (∀ w : Word, encodeIWord (decodeIWord w) = w) ∧
  (∀ i : IWord, i.opc < 1024 → i.ty < 16 → i.rnd < 4 → i.mode < 16 → i.lit < 4096 → i.da < 65536 → i.db < 65536 →
    decodeIWord (encodeIWord i) = i) ∧
  (∀ g : Tag, mkTag (tagDevice g) (tagAct g) (tagSlot g) (tagIter g) (tagIaddr g) (tagPort g) = g) ∧
  (∀ d act slot iter iaddr port : Nat, d < 1024 → act < 65536 → slot < 8 → iter < 2048 → iaddr < 4194304 → port < 4 →
    tagDevice (mkTag d act slot iter iaddr port) = d ∧ tagAct (mkTag d act slot iter iaddr port) = act ∧
    tagSlot (mkTag d act slot iter iaddr port) = slot ∧ tagIter (mkTag d act slot iter iaddr port) = iter ∧
    tagIaddr (mkTag d act slot iter iaddr port) = iaddr ∧ tagPort (mkTag d act slot iter iaddr port) = port)

/-- For all 128 data bits, the encoded codeword has syndrome 0, carries the data in its low bits and checks clean.
With any one of its 36 symbols changed by any non-zero pattern, the decoder names that symbol and that pattern, and
the corrected word is the encoded one. The syndrome is the sum of c_j times h_j over the 36 symbols, SYN holds S_i in
[4i + 3:4i], and an error record holds SYN, the symbol and the magnitude. In general the decoder's verdict is the case
of the syndrome: clean when it is 0; symbol j by S0 when S0 is not 0 and S is S0 times h_j for some j; symbol 32 by S3
when only S3 is not 0; otherwise uncorrectable. -/
def Obligations.SingleSymbolErrorsAreCorrected : Prop :=
  (∀ d : BitVec 128, d144Syn (d144Encode d) = .zero ∧ d144Data (d144Encode d) = d ∧ d144Check (d144Encode d) = .clean) ∧
  (∀ (d : BitVec 128) (j : Nat) (m : BitVec 4), j < 36 → m ≠ 0 →
    d144Check (d144Flip (d144Encode d) j m) = .corrected j m ∧ d144Correct (d144Flip (d144Encode d) j m) = d144Encode d) ∧
  (∀ c : Codeword, d144Syn c =
    (List.range 36).foldl (fun x j => x.add (Sym4.scale (d144Sym c j) (d144Col j))) .zero) ∧
  (∀ s : Sym4, natField s.toNat 3 0 = s.s0.toNat ∧ natField s.toNat 7 4 = s.s1.toNat ∧ natField s.toNat 11 8 = s.s2.toNat ∧
    natField s.toNat 15 12 = s.s3.toNat) ∧
  (∀ (c : Codeword) (j : Nat) (m : BitVec 4), d144Check c = .corrected j m →
    natField (eccDetail c) 15 0 = (d144Syn c).toNat ∧ natField (eccDetail c) 21 16 = j ∧
    natField (eccDetail c) 25 22 = m.toNat ∧ d144Correct c = d144Flip c j m) ∧
  (∀ c : Codeword, d144Syn c = .zero → d144Check c = .clean) ∧
  (∀ (c : Codeword) (j : Nat), j < 36 → (d144Syn c).s0 ≠ 0 → Sym4.scale (d144Syn c).s0 (d144Col j) = d144Syn c →
    d144Check c = .corrected j (d144Syn c).s0) ∧
  (∀ c : Codeword, d144Syn c ≠ .zero → (d144Syn c).s0 = 0 → (d144Syn c).s1 = 0 → (d144Syn c).s2 = 0 →
    d144Check c = .corrected 32 (d144Syn c).s3) ∧
  (∀ c : Codeword, (d144Syn c).s0 = 0 → ((d144Syn c).s1 ≠ 0 ∨ (d144Syn c).s2 ≠ 0) → d144Check c = .uncorrectable) ∧
  (∀ c : Codeword, (d144Syn c).s0 ≠ 0 → (∀ j < 36, Sym4.scale (d144Syn c).s0 (d144Col j) ≠ d144Syn c) →
    d144Check c = .uncorrectable)

/-- The data symbols of a codeword are the data's 4-bit groups, and its check symbols are those that R246 gives from
the sum over the data symbols. The columns are h_j = (1, u, v, u² + uv + ωv²) with the given u and v, but for h_32; no
three of them are linearly dependent; the all-zero codeword is valid. An encoded codeword in which two different
symbols are changed by non-zero patterns is found uncorrectable, and one changed in a single symbol is corrected to
the encoded word. -/
def Obligations.DoubleSymbolErrorsAreDetected : Prop :=
  (∀ (d : BitVec 128) (j : Nat), j < 32 → d144Sym (d144Encode d) j = BitVec.extractLsb' (4 * j) 4 d) ∧
  (∀ d : BitVec 128, let D := d144Sum (d.setWidth 144) 32
    d144Sym (d144Encode d) 34 = D.s1 ∧ d144Sym (d144Encode d) 35 = D.s2 ∧
    d144Sym (d144Encode d) 33 = D.s0 ^^^ D.s1 ^^^ D.s2 ∧
    d144Sym (d144Encode d) 32 = D.s3 ^^^ D.s1 ^^^ gfMul 8 D.s2) ∧
  (∀ j < 36, j ≠ 32 → ∃ u v : BitVec 4, d144Col j = ⟨1, u, v, gfMul u u ^^^ gfMul u v ^^^ gfMul 8 (gfMul v v)⟩ ∧
    (j < 32 → u.toNat = (if j ≤ 13 then j + 2 else j + 3) % 16 ∧ v.toNat = (if j ≤ 13 then j + 2 else j + 3) / 16) ∧
    (j = 33 → u = 0 ∧ v = 0) ∧ (j = 34 → u = 1 ∧ v = 0) ∧ (j = 35 → u = 0 ∧ v = 1)) ∧
  d144Col 32 = ⟨0, 0, 0, 1⟩ ∧ d144Syn 0 = .zero ∧ d144Syn (d144Encode 0) = .zero ∧
  (∀ (i j k : Nat) (a b c : BitVec 4), i < j → j < k → k < 36 →
    ((Sym4.scale a (d144Col i)).add (Sym4.scale b (d144Col j))).add (Sym4.scale c (d144Col k)) = .zero →
    a = 0 ∧ b = 0 ∧ c = 0) ∧
  (∀ (d : BitVec 128) (j k : Nat) (m n : BitVec 4), j < 36 → k < 36 → j ≠ k → m ≠ 0 → n ≠ 0 →
    d144Check (d144Flip (d144Flip (d144Encode d) j m) k n) = .uncorrectable) ∧
  (∀ (d : BitVec 128) (j : Nat) (m : BitVec 4), j < 36 → m ≠ 0 →
    d144Correct (d144Flip (d144Encode d) j m) = d144Encode d)

/-- For each integer and logic operation but DIV, REM and PASS, and for each compare: a dispatched firing of a legal
word of its opcode, whose inputs are read, in any mode that the word may have, stages its result for its destinations
with the result's TYPE and the OR of the inherited flags and the flags of every lane, and its store where the mode
stores, when no enabled trap applies and the commit buffers have room. Everything else is as the reads of memory left
it. -/
def Obligations.IntegerFiringsComplete : Prop :=
  ComputesBy .fireAdd 0x001 opAdd false ∧ ComputesBy .fireSub 0x002 opSub false ∧ ComputesBy .fireAdds 0x003 opAdds false ∧
  ComputesBy .fireSubs 0x004 opSubs false ∧ ComputesBy .fireNeg 0x005 opNeg false ∧ ComputesBy .fireNegs 0x006 opNegs false ∧
  ComputesBy .fireAbs 0x007 opAbs false ∧ ComputesBy .fireAbss 0x008 opAbss false ∧ ComputesBy .fireMul 0x009 opMul false ∧
  ComputesBy .fireMulh 0x00A opMulh false ∧ ComputesBy .fireMuls 0x00B opMuls false ∧ ComputesBy .fireMin 0x00E opMin false ∧
  ComputesBy .fireMax 0x00F opMax false ∧ ComputesBy .fireAnd 0x010 opAnd false ∧ ComputesBy .fireOr 0x011 opOr false ∧
  ComputesBy .fireXor 0x012 opXor false ∧ ComputesBy .fireNot 0x013 opNot false ∧ ComputesBy .fireAndn 0x014 opAndn false ∧
  ComputesBy .fireShl 0x015 opShl false ∧ ComputesBy .fireShr 0x016 opShr false ∧ ComputesBy .fireSar 0x017 opSar false ∧
  ComputesBy .fireRol 0x018 opRol false ∧ ComputesBy .fireRor 0x019 opRor false ∧ ComputesBy .fireClz 0x01A opClz false ∧
  ComputesBy .firePopc 0x01B opPopc false ∧ ComputesBy .fireCmpeq 0x080 opCmpeq false ∧ ComputesBy .fireCmpne 0x081 opCmpne false ∧
  ComputesBy .fireCmplt 0x082 opCmplt false ∧ ComputesBy .fireCmple 0x083 opCmple false ∧ ComputesBy .fireCmpun 0x084 opCmpun false

/-- For each floating-point operation that is not microcoded, for CVT and FCLASS, for each lane operation and
reduction, and for LOAD and COPY: a dispatched firing of a legal word of its opcode, whose inputs are read, stages its
result for its destinations, and its store where the mode stores, when no enabled trap applies and the commit buffers
have room. Everything else is as the reads of memory left it. -/
def Obligations.FloatLaneAndCopyFiringsComplete : Prop :=
  ComputesBy .fireFadd 0x100 opFadd false ∧ ComputesBy .fireFsub 0x101 opFsub false ∧ ComputesBy .fireFmul 0x102 opFmul false ∧
  ComputesBy .fireFneg 0x104 opFneg false ∧ ComputesBy .fireFabs 0x105 opFabs false ∧ ComputesBy .fireFmin 0x106 opFmin false ∧
  ComputesBy .fireFmax 0x107 opFmax false ∧ ComputesBy .fireFma 0x108 opFma false ∧ ComputesBy .fireFms 0x109 opFms false ∧
  ComputesBy .fireFnma 0x10A opFnma false ∧ ComputesBy .fireFrint 0x10D opFrint false ∧ ComputesBy .fireCvt 0x110 opCvt false ∧
  ComputesBy .fireFclass 0x111 opFclass false ∧ ComputesBy .fireSplat 0x180 opSplat false ∧
  ComputesBy .fireXlane 0x181 opXlane false ∧ ComputesBy .fireInslane 0x182 opInslane false ∧
  ComputesBy .firePerm 0x183 opPerm false ∧ ComputesBy .fireVsel 0x184 opVsel false ∧ ComputesBy .fireHsum 0x185 opHsum false ∧
  ComputesBy .fireHmin 0x186 opHmin false ∧ ComputesBy .fireHmax 0x187 opHmax false ∧ ComputesBy .fireDot 0x188 opDot false ∧
  ComputesBy .fireLoad 0x1C0 opLoad false ∧ ComputesBy .fireCopy 0x1C3 opCopy false

/-- For DIV, REM, FDIV, FSQRT, FRSQRT and the signal operations: a dispatched firing of a legal word of its opcode
whose inputs are read, which finds its PE's microsequencer free, and whose microsequence runs over the words of the
control store from its operation's entry word (Table 7.1) to END gives the microsequencer up and stages the result
that the catalogue defines, when no enabled trap applies and the commit buffers have room; for DIV and REM the trap is
IDZ. CPOLAR stages the magnitude for A and the phase for B. -/
def Obligations.MicrocodedFiringsComplete : Prop :=
  MicrocodedBy .fireDiv 0x00C 9 opDiv true ∧ MicrocodedBy .fireRem 0x00D 10 opRem true ∧
  MicrocodedBy .fireFdiv 0x103 11 opFdiv false ∧ MicrocodedBy .fireFsqrt 0x10B 12 opFsqrt false ∧
  MicrocodedBy .fireFrsqrt 0x10C 13 opFrsqrt false ∧ MicrocodedBy .fireCmul 0x200 0 opCmul false ∧
  MicrocodedBy .fireFft4 0x201 1 opFft4 false ∧ MicrocodedBy .fireIfft4 0x202 2 opIfft4 false ∧
  MicrocodedBy .fireCmag 0x204 3 opCmag false ∧ MicrocodedBy .fireCphase 0x205 4 opCphase false ∧
  MicrocodedBy .fireHilb 0x208 6 opHilb false ∧ MicrocodedBy .fireResamp 0x20C 7 opResamp false ∧
  MicrocodedBy .fireMoment 0x210 8 opMoment false ∧
  (∀ (s sx : State) (n : Nat) (f : Firing) (a : Act) (row : OpRow) (x0 : Ins) (q : MicroSeq) (m p : OpRes),
    Ready s n 0x206 f a row → Inputs s f a row 0 x0 sx → Sequenced s f a 5 x0 q →
    opCmag ⟨fenvOf a.mode f.iw.rnd, f.iw.ty, f.iw.lit, f.lty, f.lv, 0, 0⟩ = some m →
    opCphase ⟨fenvOf a.mode f.iw.rnd, f.iw.ty, f.iw.lit, f.lty, f.lv, 0, 0⟩ = some p →
    enabledCauses a.mode false (orFlags (List.zipWith (· ||| ·) m.flags p.flags)) = [] → Room (s.useqFree f) f 0 [] →
    Sys2Proof.Machine.exec (.fireCpolar n) s = .next (staged (s.useqFree f) f
      (f.outTo f.iw.da ⟨m.val, f.comp f.iw.ty (orFlags (List.zipWith (· ||| ·) m.flags p.flags)) false⟩ ++
       f.outTo f.iw.db ⟨p.val, f.comp f.iw.ty (orFlags (List.zipWith (· ||| ·) m.flags p.flags)) false⟩) [] []
      (orFlags (List.zipWith (· ||| ·) m.flags p.flags)) false))

/-- A ready firing of PASS, STORE or STOREX stages its L token for A and B with its TYPE and inherited flags, and its
store to the address that its descriptor forms. A ready firing of SEL hands on L where C is true and R where it is
false: a token keeps its TYPE and EXC, a value from memory or the literal has the instruction's TYPE. -/
def Obligations.HandingFiringsComplete : Prop :=
  (∀ (s s1 s2 : State) (n : Nat) (f : Firing) (a : Act) (row : OpRow) (x : Ins) (stores : List StoreRec) (effects : List Effect)
      (nd : Bool) (c : Nat → Instr) (opc : Nat),
    (c = .firePass ∧ opc = 0x000 ∨ c = .fireStore ∧ opc = 0x1C1 ∨ c = .fireStorex ∧ opc = 0x1C2) →
    Ready s n opc f a row → Inputs s f a row 0 x s1 → Stores s1 f a f.lv stores effects nd s2 → Room s2 f stores.length effects →
    Sys2Proof.Machine.exec (c n) s =
      .next (staged s2 f (f.outsAB ⟨f.lv, f.hand f.ltok x.nd⟩) stores effects 0 (f.inhNd || x.nd || nd))) ∧
  (∀ (s s1 s2 : State) (n : Nat) (f : Firing) (a : Act) (row : OpRow) (x : Ins) (stores : List StoreRec) (effects : List Effect)
      (nd : Bool) (v : Value) (t : Option TVal),
    Ready s n 0x088 f a row → Inputs s f a row 3 x s1 →
    (v, t) = (if fld x.c 31 0 ≠ 0 then (x.l, f.inL) else (x.r, f.inR)) →
    Stores s1 f a v stores effects nd s2 → Room s2 f stores.length effects →
    Sys2Proof.Machine.exec (.fireSel n) s =
      .next (staged s2 f (f.outsAB ⟨v, match t with
        | some t => f.hand t x.nd
        | none => f.comp f.iw.ty 0 x.nd⟩) stores effects 0 (f.inhNd || x.nd || nd)))

/-- A ready SWITCH sends L to A where C is true and to B otherwise; a ready GATE sends L to A and B where C is true
and emits nothing otherwise; a ready MERGE sends the one token that arrived, on L or on R, to A and B; a ready ITER
sends L to A with ITER + 1 modulo 2,048 and to B with the literal as ITER. C is true when its bits [31:0] are not all
zero. None of them stores anything or has another effect. -/
def Obligations.SteeringFiringsComplete : Prop :=
  (∀ (s s1 : State) (n : Nat) (f : Firing) (a : Act) (row : OpRow) (x : Ins),
    Ready s n 0x090 f a row → Inputs s f a row 7 x s1 → Room s1 f 0 [] →
    Sys2Proof.Machine.exec (.fireSwitch n) s =
      .next (staged s1 f (f.outTo (if fld x.c 31 0 ≠ 0 then f.iw.da else f.iw.db) (f.handL x.nd)) [] [] 0 false)) ∧
  (∀ (s s1 : State) (n : Nat) (f : Firing) (a : Act) (row : OpRow) (x : Ins),
    Ready s n 0x091 f a row → Inputs s f a row 7 x s1 → Room s1 f 0 [] →
    Sys2Proof.Machine.exec (.fireGate n) s =
      .next (staged s1 f (if fld x.c 31 0 ≠ 0 then f.outsAB (f.handL x.nd) else []) [] [] 0 false)) ∧
  (∀ (s : State) (n : Nat) (f : Firing) (a : Act) (row : OpRow) (t : TVal),
    Ready s n 0x092 f a row → (f.inL = some t ∨ f.inL = none ∧ f.inR = some t) → Room s f 0 [] →
    Sys2Proof.Machine.exec (.fireMerge n) s = .next (staged s f (f.outsAB ⟨t.v, f.hand t false⟩) [] [] 0 false)) ∧
  (∀ (s : State) (n : Nat) (f : Firing) (a : Act) (row : OpRow),
    Ready s n 0x282 f a row → Room s f 0 [] →
    Sys2Proof.Machine.exec (.fireIter n) s = .next (staged s f
      (retag f f.iw.da f.act f.slot ((tagIter f.tag + 1) % 2048) (f.handL false) ++
       retag f f.iw.db f.act f.slot (f.iw.lit % 2048) (f.handL false)) [] [] 0 false))

/-- A ready CHTAG sends L to A and B under the activation that R's context token names and that activation's slot,
with ITER kept or 0; SELF sends the context token of the firing's activation; TAGQ sends ITER or SLOT as a u32;
FREEACT emits nothing and stages the end of its activation; NEWACT with a valid descriptor places its start request,
in its flow's queue where the descriptor names a flow and in the ready lists otherwise, and waits: the detectors of
its slot start again, and nothing else changes. -/
def Obligations.ContextFiringsComplete : Prop :=
  (∀ (s : State) (n : Nat) (f : Firing) (a b : Act) (row : OpRow) (r : TVal),
    Ready s n 0x283 f a row → f.inR = some r → stCtx r.st = true → s.act? (fld r.v 15 0) = some b → Room s f 0 [] →
    let iter := if f.iw.lit.testBit 0 then tagIter f.tag else 0
    Sys2Proof.Machine.exec (.fireChtag n) s = .next (staged s f
      (retag f f.iw.da (fld r.v 15 0) b.slot iter (f.handL false) ++ retag f f.iw.db (fld r.v 15 0) b.slot iter (f.handL false))
      [] [] 0 false)) ∧
  (∀ (s : State) (n : Nat) (f : Firing) (a : Act) (row : OpRow), Ready s n 0x284 f a row → Room s f 0 [] →
    Sys2Proof.Machine.exec (.fireSelf n) s = .next (staged s f
      (f.outsAB ⟨BitVec.ofNat 256 f.act, mkStatus 1 false true f.inhNd f.inhFlags⟩) [] [] 0 false)) ∧
  (∀ (s : State) (n : Nat) (f : Firing) (a : Act) (row : OpRow), Ready s n 0x285 f a row → Room s f 0 [] →
    Sys2Proof.Machine.exec (.fireTagq n) s = .next (staged s f
      (f.outsAB ⟨BitVec.ofNat 256 (if f.iw.lit = 0 then tagIter f.tag else f.slot), f.comp 1 0 false⟩) [] [] 0 false)) ∧
  (∀ (s : State) (n : Nat) (f : Firing) (a : Act) (row : OpRow), Ready s n 0x281 f a row → Room s f 0 [.freeAct] →
    Sys2Proof.Machine.exec (.fireFreeact n) s = .next (staged s f [] [] [.freeAct] 0 false)) ∧
  (∀ (s : State) (n : Nat) (f : Firing) (a : Act) (row : OpRow) (e : Entry),
    Ready s n 0x280 f a row → bankEntry (s.bankOf a.epoch) f.iw.lit = some e →
    let r : StartReq :=
      { root := false, desc := f.iw.lit, slot := f.slot, inc := f.inc, wafer := f.wafer, epoch := f.epoch, prio := e.prio, act := a.id,
        firing := f.id, flow := if e.fen then some e.flow else none, arr := s.now, no := s.arrNo, warned := false }
    Sys2Proof.Machine.exec (.fireNewact n) s = .next { s.progress f.slot with
      arrNo := s.arrNo + 1
      flowQ := if e.fen then s.flowQ ++ [r] else s.flowQ
      startReqs := if e.fen then s.startReqs else s.startReqs ++ [r]
      firings := s.firings.map (fun y => if y.id = f.id then { y with wait := .alloc } else y) })

/-- A ready DELAY or TICKWAIT for whose tokens the delay lists have room reserves an entry for each and stages their
delayed release, and sends nothing yet. A FENCE or CODE_COMMIT, once every store and send that committed before it
reached stage 6 is performed (and, for scope FABRIC, every remote store acknowledged), hands L on, and CODE_COMMIT
stages its mark. SCHSTAT sends the sampled statistic as an indeterminate u64, CRUMB hands L on and stages a result
crumb with its code and the low 64 bits of L, and TIMEQ sends device time, the sub-tick count or the time since the
wafer's open time. -/
def Obligations.SchedulerFiringsComplete : Prop :=
  (∀ (s : State) (n : Nat) (f : Firing) (a : Act) (row : OpRow) (ticks : Bool),
    Ready s n (if ticks then 0x2E1 else 0x2E0) f a row → f.ctxBad 0 = false → Room s f 0 [] →
    s.delayUsed + (f.outsAB (f.handL false)).length ≤ 16384 →
    Sys2Proof.Machine.exec (if ticks then .fireTickwait n else .fireDelay n) s = .next (staged
      { s with firings := s.firings.map (fun y => if y.id = f.id then { y with reserved := (f.outsAB (f.handL false)).length } else y) }
      f [] [] [.delay f.iw.lit ticks (f.outsAB (f.handL false))] 0 false)) ∧
  (∀ (s : State) (n : Nat) (f : Firing) (a : Act) (row : OpRow) (code : Bool),
    Ready s n (if code then 0x2F0 else 0x1C8) f a row → f.ctxBad 0 = false → Room s f 0 [] →
    s.fenced (if f.fenceSeq = 0 then s.cseq + 1 else f.fenceSeq) (!code && f.iw.lit.testBit 0) = true →
    Sys2Proof.Machine.exec (if code then .fireCodeCommit n else .fireFence n) s = .next (staged s f (f.outsAB (f.handL false)) []
      (if code then [.codeCommit] else []) 0 f.inhNd)) ∧
  (∀ (s : State) (n : Nat) (f : Firing) (a : Act) (row : OpRow), Ready s n 0x2E8 f a row → f.ctxBad 0 = false → Room s f 0 [] →
    let k := f.iw.lit % 16
    let v := if natField f.iw.lit 11 8 = 0 then s.rget (Reg.SCH_QDEPTH k)
      else if natField f.iw.lit 11 8 = 1 then s.rget (Reg.SCH_QWAIT k) else s.rget (Reg.SCH_LOAD k)
    Sys2Proof.Machine.exec (.fireSchstat n) s =
      .next (staged s f (f.outsAB ⟨BitVec.ofNat 256 v.toNat, f.comp 3 0 true⟩) [] [] 0 false)) ∧
  (∀ (s : State) (n : Nat) (f : Firing) (a : Act) (row : OpRow) (p : Nat), Ready s n 0x2EC f a row → f.ctxBad 0 = false →
    p = f.act * 2 ^ 35 + f.iw.lit % 4096 * 2 ^ 23 → Room s f 0 [.crumb 0x04 (w64 f.lv.toNat) p] →
    Sys2Proof.Machine.exec (.fireCrumb n) s =
      .next (staged s f (f.outsAB (f.handL false)) [] [.crumb 0x04 (w64 f.lv.toNat) p] 0 f.inhNd)) ∧
  (∀ (s : State) (n : Nat) (f : Firing) (a : Act) (row : OpRow), Ready s n 0x308 f a row → f.ctxBad 0 = false → Room s f 0 [] →
    let v := if f.iw.lit = 0 then s.now else if f.iw.lit = 1 then s.now / 1000
      else wrapInt 64 ((s.now : Int) - (s.slotAt f.slot).openT)
    Sys2Proof.Machine.exec (.fireTimeq n) s =
      .next (staged s f (f.outsAB ⟨BitVec.ofNat 256 v, f.comp 3 0 true⟩) [] [] 0 false))

/-- A ready CHSEND, CHPART or CHEND whose output binding names a live channel of the word's width that has room stages
the send of its word, closing the packet for CHSEND and CHEND, and hands L on; for a context token the word is its
context word and the width must be 8 bytes or more. A ready CHPOLL whose input binding names a live poll channel of
its width stages the poll and sends nothing before its commit. Nothing else changes. -/
def Obligations.ChannelFiringsComplete : Prop :=
  (∀ (s : State) (n opc : Nat) (f : Firing) (a : Act) (row : OpRow) (h w : Nat) (c : Chan) (i : Nat → Instr) (close : Bool),
    (i = .fireChsend ∧ opc = 0x2C0 ∧ close = true ∨ i = .fireChpart ∧ opc = 0x2C1 ∧ close = false ∨
      i = .fireChend ∧ opc = 0x2C2 ∧ close = true) →
    Ready s n opc f a row → f.ctxBad 1 = false → s.outBinding a.epoch f.iw.lit = some h → s.chan? h = some c → c.width = f.size →
    (stCtx f.ltok.st = true → 8 ≤ c.width) → s.openLen c.handle a.id f.slot f.inc < c.maxlen →
    s.canAppend c (.graph a.id f.slot f.inc) = true →
    w = (if stCtx f.ltok.st then State.ctxWord (tagDevice f.tag) (fld f.lv 15 0) f.slot f.inc
      else f.lv.toNat % 2 ^ (8 * f.size)) →
    Room s f 0 [.chSend c.handle w close (stCtx f.ltok.st)] →
    Sys2Proof.Machine.exec (i n) s = .next (staged s f (f.outsAB (f.handL false)) []
      [.chSend c.handle w close (stCtx f.ltok.st)] 0 f.inhNd)) ∧
  (∀ (s : State) (n : Nat) (f : Firing) (a : Act) (row : OpRow) (h : Nat) (c : Chan),
    Ready s n 0x2C4 f a row → f.ctxBad 0 = false → s.inBinding a.epoch f.iw.lit = some h → s.chan? h = some c →
    c.ckind = ckPoll → c.width = f.size → Room s f 0 [] →
    Sys2Proof.Machine.exec (.fireChpoll n) s = .next (staged s f [] [] [.chPoll c.handle] 0 false))

/-- A ready LKACQ or LKTRY of a lock that is free, with nobody waiting, reserves it for the firing's owner and stages
the status 1 where the lock was marked ABANDONED and 0 otherwise, and the holding that its commit makes of the
reservation. LKTRY of a lock that another owner holds stages status 2 and no holding. LKREL and LKHAND by the holder
stage the release, and the handing to the activation that R names, and hand L on. -/
def Obligations.LockFiringsComplete : Prop :=
  (∀ (s : State) (n : Nat) (f : Firing) (a : Act) (row : OpRow) (tryIt : Bool),
    Ready s n (if tryIt then 0x2D1 else 0x2D0) f a row → f.ctxBad 0 = false → f.granted = none →
    (s.lockAt (f.iw.lit % 1024)).holder = none → (s.lockAt (f.iw.lit % 1024)).withheld = false →
    (s.lockAt (f.iw.lit % 1024)).waiters = [] → Room s f 0 [.lockHold (f.iw.lit % 1024)] →
    Completes (if tryIt then .fireLktry n else .fireLkacq n) s (fun t =>
      (t.lockAt (f.iw.lit % 1024)).holder = some ⟨f.tile, f.act⟩ ∧ (t.lockAt (f.iw.lit % 1024)).resv = true ∧
      ∃ y, t.firing? n = some y ∧ y.stage = .executed ∧ y.stores = [] ∧ y.effects = [.lockHold (f.iw.lit % 1024)] ∧
        y.outs = f.outTo f.iw.da (f.handL tryIt) ++
          f.outTo f.iw.db ⟨BitVec.ofNat 256 (if (s.lockAt (f.iw.lit % 1024)).aband then 1 else 0), f.comp 1 0 true⟩)) ∧
  (∀ (s : State) (n : Nat) (f : Firing) (a : Act) (row : OpRow) (o : Owner),
    Ready s n 0x2D1 f a row → f.ctxBad 0 = false → f.granted = none → (s.lockAt (f.iw.lit % 1024)).holder = some o →
    o ≠ ⟨f.tile, f.act⟩ → Room s f 0 [] →
    Sys2Proof.Machine.exec (.fireLktry n) s = .next (staged s f
      (f.outTo f.iw.da (f.handL true) ++ f.outTo f.iw.db ⟨BitVec.ofNat 256 2, f.comp 1 0 true⟩) [] [] 0 f.inhNd)) ∧
  (∀ (s : State) (n : Nat) (f : Firing) (a : Act) (row : OpRow),
    Ready s n 0x2D2 f a row → f.ctxBad 0 = false → (s.lockAt (f.iw.lit % 1024)).holder = some ⟨f.tile, f.act⟩ →
    (s.lockAt (f.iw.lit % 1024)).resv = false → Room s f 0 [.lockRel (f.iw.lit % 1024)] →
    Sys2Proof.Machine.exec (.fireLkrel n) s =
      .next (staged s f (f.outsAB (f.handL false)) [] [.lockRel (f.iw.lit % 1024)] 0 f.inhNd)) ∧
  (∀ (s : State) (n : Nat) (f : Firing) (a : Act) (row : OpRow) (r : TVal),
    Ready s n 0x2D3 f a row → f.inR = some r → stCtx r.st = true → f.ctxBad 3 = false →
    (s.lockAt (f.iw.lit % 1024)).holder = some ⟨f.tile, f.act⟩ → (s.lockAt (f.iw.lit % 1024)).resv = false →
    Room s f 0 [.lockHand (f.iw.lit % 1024) (fld r.v 15 0)] →
    Sys2Proof.Machine.exec (.fireLkhand n) s =
      .next (staged s f (f.outsAB (f.handL false)) [] [.lockHand (f.iw.lit % 1024) (fld r.v 15 0)] 0 f.inhNd))

/-- A ready IFETCH whose descriptor forms an address with a presence cell, and whose cell can be accessed: where the
cell is FULL it stages the loaded value for A and B; where the cell is EMPTY or DEFERRED and its slice has room, the
read is recorded with its tag and destinations, the firing stages no token, and its commit makes the cell DEFERRED. A
ready ISTORE that meets no trap cause (its cell neither FULL nor reserved) stages its store with the cell and hands L
on. A ready CLEAN or CLINV of an SDRAM line with no fill in progress stages the maintenance of that line and hands L
on; in the scratch window it only hands L on. -/
def Obligations.MemoryCellFiringsComplete : Prop :=
  (∀ (s s1 s2 : State) (n : Nat) (f : Firing) (a : Act) (row : OpRow) (l : Loc) (cell : Nat × Nat) (g : Got),
    Ready s n 0x1C4 f a row → f.ctxBad 0 = false →
    s.addrOf f a (desc12 f.iw.lit) f.size (if f.iw.mode = mIDXR then f.idxL else 0) = (.ok l, s1) →
    s1.cellOf a (desc12 f.iw.lit) l f.size = some cell → s1.cellState cell = 2 → s1.cellBad l f.size = [] →
    s1.graphLoad f l f.size = (.ok g, s2) →
    Room s2 f 0 [] →
    Sys2Proof.Machine.exec (.fireIfetch n) s =
      .next (staged s2 f (f.outsAB ⟨BitVec.ofNat 256 g.v, f.comp f.iw.ty 0 g.nd⟩) [] [] 0 false)) ∧
  (∀ (s s1 : State) (n : Nat) (f : Firing) (a : Act) (row : OpRow) (l : Loc) (cell : Nat × Nat),
    Ready s n 0x1C4 f a row → f.ctxBad 0 = false →
    s.addrOf f a (desc12 f.iw.lit) f.size (if f.iw.mode = mIDXR then f.idxL else 0) = (.ok l, s1) →
    s1.cellOf a (desc12 f.iw.lit) l f.size = some cell → s1.cellState cell ≠ 2 → s1.cellState cell ≠ 3 →
    s1.cellBad l f.size = [] → (s1.deferred.filter (fun d => decide (d.slice = s1.cellSlice l.addr))).length < 8192 →
    Room s1 f 0 [] →
    let d : Deferred :=
      { id := s1.nextFid, slice := s1.cellSlice l.addr, cell := cell, ea := l.addr, tile := f.tile, pe := f.pe, tag := f.tag,
        inc := f.inc, dests := (destOf f.iaddr f.iw.da).toList ++ (destOf f.iaddr f.iw.db).toList, ty := f.iw.ty,
        flags := f.inhFlags, nd := f.inhNd || l.nd, done := false }
    Sys2Proof.Machine.exec (.fireIfetch n) s = .next (staged { s1 with nextFid := s1.nextFid + 1, deferred := s1.deferred ++ [d] } f
      [] [] [.deferred s1.nextFid] 0 false)) ∧
  (∀ (s s1 : State) (n : Nat) (f : Firing) (a : Act) (row : OpRow) (l : Loc) (cell : Nat × Nat) (stores : List StoreRec)
      (effects : List Effect),
    Ready s n 0x1C5 f a row → f.ctxBad 0 = false →
    s.addrOf f a (desc12 f.iw.lit) f.size (if f.iw.mode = mSTOX then f.idxR else 0) = (.ok l, s1) →
    s1.cellOf a (desc12 f.iw.lit) l f.size = some cell → s1.cellStateOf f cell ≠ 2 → s1.cellStateOf f cell ≠ 3 →
    s1.storeTo l f.iw.ty (natToBytes f.size f.lv.toNat) (some cell) = ([], stores, effects) →
    s1.touchesHeader cell.1 8 = false → Room s1 f stores.length [] →
    Sys2Proof.Machine.exec (.fireIstore n) s = .next (staged s1 f (f.outsAB (f.handL false)) stores [] 0
      (f.inhNd || l.nd))) ∧
  (∀ (s s1 : State) (n : Nat) (f : Firing) (a : Act) (row : OpRow) (l : Loc) (inval : Bool),
    Ready s n (if inval then 0x1CD else 0x1CC) f a row → f.ctxBad 0 = false →
    s.addrOf f a (desc12 f.iw.lit) f.size (if f.iw.mode = mIDXR then f.idxL else 0) = (.ok l, s1) →
    touchesCsr l.addr f.size = false → l.device = s1.localId → s1.accessKind l.addr f.size = .sdram →
    s1.splitDiffers l.addr f.size = false → (∀ x ∈ s1.mem.fills, x.line ≠ l.addr / 64) → Room s1 f 0 [] →
    Sys2Proof.Machine.exec (if inval then .fireClinv n else .fireClean n) s =
      .next (staged s1 f (f.outsAB (f.handL false)) [] [.maint inval (l.addr / 64)] 0 (f.inhNd || l.nd))) ∧
  (∀ (s s1 : State) (n : Nat) (f : Firing) (a : Act) (row : OpRow) (l : Loc) (inval : Bool),
    Ready s n (if inval then 0x1CD else 0x1CC) f a row → f.ctxBad 0 = false →
    s.addrOf f a (desc12 f.iw.lit) f.size (if f.iw.mode = mIDXR then f.idxL else 0) = (.ok l, s1) →
    touchesCsr l.addr f.size = false → l.device = s1.localId → s1.accessKind l.addr f.size = .scratch → Room s1 f 0 [] →
    Sys2Proof.Machine.exec (if inval then .fireClinv n else .fireClean n) s =
      .next (staged s1 f (f.outsAB (f.handL false)) [] [] 0 f.inhNd))

/-- A ready firing of a floating-point operation that is not microcoded, of a conversion, a floating compare or a
reduction whose result raises a flag that its activation's mode enables stages no result, no store and no effect but
one: where HNDL is set and no input token carries EXC, the exception token to the handler, with the cause, the flags
raised, the lane and the operand fields, under the tag of the firing; otherwise the quarantine of its activation
(NOHANDLER). ILLEGAL_ENCODING, the firing of a reserved encoding, has the trap for its whole effect: it completes with
the staged exception token of cause ILLOP, whose operand fields are those of its token and literal inputs, or without
a handler with the staged quarantine; it reads and writes no memory. The exception token of the manual's felt-roll
example (activation 0x0417 of device 3, slot 2, iteration 6, the f32 FDIV at IADDR 0x02_3A08 that divides 10.0 by +0
read from memory, handler at IADDR 0x02_3F00) has the tag 0x00C1_05D0_0608_FC00, the status word 0x7824 and the value
that the manual prints. -/
def Obligations.EnabledTrapsDeliverAnExceptionToken : Prop :=
  TrapsBy .fireFadd 0x100 opFadd false ∧ TrapsBy .fireFsub 0x101 opFsub false ∧ TrapsBy .fireFmul 0x102 opFmul false ∧
  TrapsBy .fireFmin 0x106 opFmin false ∧ TrapsBy .fireFmax 0x107 opFmax false ∧ TrapsBy .fireFma 0x108 opFma false ∧
  TrapsBy .fireFms 0x109 opFms false ∧ TrapsBy .fireFnma 0x10A opFnma false ∧ TrapsBy .fireFrint 0x10D opFrint false ∧
  TrapsBy .fireCvt 0x110 opCvt false ∧ TrapsBy .fireCmplt 0x082 opCmplt false ∧ TrapsBy .fireCmple 0x083 opCmple false ∧
  TrapsBy .fireHsum 0x185 opHsum false ∧ TrapsBy .fireHmin 0x186 opHmin false ∧ TrapsBy .fireHmax 0x187 opHmax false ∧
  TrapsBy .fireDot 0x188 opDot false ∧
  (∀ (s : State) (n : Nat) (f : Firing) (a : Act),
    s.dead = false → s.firing? n = some f → f.stage = .dispatched → State.canGo f.wait = true → s.tileFenced f.tile = false →
    legalRow f.iw (s.arityOf f.epoch f.word) = none → s.act? f.act = some a → a.state ≠ .quarantined →
    Room s f 0 [.noHandler] →
    let x := s.illegalInputs f
    (bit a.mode 2 = true → f.excIn = false → Sys2Proof.Machine.exec (.fireIllegalEncoding n) s =
      .next (staged s f [excToken f.tag f.word a.handler f.inhFlags f.inhNd ⟨0x0F, 0, 0, x.1, x.2.1, x.2.2⟩] [] [] 0 false)) ∧
    (¬ (bit a.mode 2 = true ∧ f.excIn = false) →
      Sys2Proof.Machine.exec (.fireIllegalEncoding n) s = .next (staged s f [] [] [.noHandler] 0 false))) ∧
  (excToken (mkTag 3 0x417 2 6 0x023A08 0) (encodeIWord ⟨0x103, 4, 0, 3, 0, 0, 0⟩) 0x023F00 flNX false
      ⟨cDZ, flDZ, 0, 0x41200000, 0, 0⟩ =
    ⟨0x00C105D00608FC00, ⟨0x000000004120000040C23A0812000064, 0x7824⟩⟩)

/-- A ready VOTE on a device that is the only member of its group forms its outcome at once: its own value to A and
the status of a vote with one participant to B, or, where the member abstains, the status of a vote without
participants. With an unreached outcome, because another member can be reached and has not answered, it keeps its own
message, opens its record, sends the message to each such member, and waits. A ready RSEND whose binding is set, of
the word's width, with a credit in hand, stages the send of its word and hands L on; towards a lost device it stages
the loss of the item. A ready extension operation, while port X is up and fewer than 1,024 requests are outstanding,
opens one request for its firing under an identifier that no outstanding request has, sends its header and inputs over
port X, and waits for the reply. -/
def Obligations.FabricFiringsComplete : Prop :=
  (∀ (s : State) (n : Nat) (f : Firing) (a : Act) (row : OpRow) (me : Nat),
    Ready s n 0x300 f a row → f.ctxBad 0 = false →
    (bankGroup (s.bankOf f.epoch) f.vkey.group).local s.localId = some me →
    (bankGroup (s.bankOf f.epoch) f.vkey.group).members = [me] → s.voteRec? f.vkey = none → s.votesOf f.vkey = [] →
    Room s f 0 [] →
    Completes (.fireVote n) s (fun t => ∃ y, t.firing? n = some y ∧ y.stage = .executed ∧ y.stores = [] ∧
      ∃ r st : TVal, y.outs = f.outTo f.iw.da r ++ f.outTo f.iw.db st ∧ r.v = f.lv ∧ stType st.st = 1 ∧
        fld st.v 3 0 = (if s.abstains f.slot then 6 else 5))) ∧
  (∀ (s : State) (n : Nat) (f : Firing) (a : Act) (row : OpRow) (me o : Nat),
    let g := bankGroup (s.bankOf f.epoch) f.vkey.group
    let m : VoteMsg :=
      { group := f.vkey.group, wafer := f.wafer, iaddr := f.iaddr, iter := tagIter f.tag, key := f.vkey.key, member := me,
        abstain := s.abstains f.slot, tv := f.ltok, digest := groupDigest (s.bankOf f.epoch) f.vkey.group }
    Ready s n 0x300 f a row → f.ctxBad 0 = false → g.local s.localId = some me → g.members.filter (fun x => decide (x ≠ me)) = [o] →
    s.unreachable (nth g.mems o 0) = false → s.voteRec? f.vkey = none → s.votesOf f.vkey = [] → s.fab.waiting = [] →
    s.retainUsed + 5 ≤ 16384 →
    Completes (.fireVote n) s (fun t => t.votes = s.votes ++ [m] ∧
      t.voteRecs = s.voteRecs ++ [⟨f.vkey.group, f.wafer, f.iaddr, tagIter f.tag, f.vkey.key, f.id, s.clock, none, 0⟩] ∧
      (∃ r : Retained, t.fab.retained = s.fab.retained ++ [r] ∧ r.msg.dst = nth g.mems o 0 ∧ r.msg.kind = 0x18 ∧ r.msg.arg = f.wafer ∧
        r.msg.body = State.voteBody m (s.slotAt f.slot).wide (s.slotAt f.slot).suspect) ∧
      t.firings = s.firings.map (fun y => if y.id = f.id then { y with wait := .vote } else y))) ∧
  (∀ (s : State) (n : Nat) (f : Firing) (a : Act) (row : OpRow) (w d i : Nat),
    Ready s n 0x304 f a row → f.ctxBad 0 = false → w = s.remoteBinding a.epoch (f.iw.lit % 4096) → d = natField w 25 16 →
    i = natField w 7 0 → w.testBit 31 = true → f.size = 4 * 2 ^ natField w 15 14 → (s.rsBind d i).refused = false →
    s.deviceLost d = false → s.rsPending d i < (s.rsBind d i).credits →
    Room s f 0 [.rsend d i (w.testBit 30) (f.lv.toNat % 2 ^ (8 * f.size)) f.size] →
    Sys2Proof.Machine.exec (.fireRsend n) s = .next (staged s f (f.outsAB (f.handL false)) []
      [.rsend d i (w.testBit 30) (f.lv.toNat % 2 ^ (8 * f.size)) f.size] 0 f.inhNd)) ∧
  (∀ (s : State) (n : Nat) (f : Firing) (a : Act) (row : OpRow) (w : Nat),
    Ready s n 0x304 f a row → f.ctxBad 0 = false → w = s.remoteBinding a.epoch (f.iw.lit % 4096) → w.testBit 31 = true →
    f.size = 4 * 2 ^ natField w 15 14 → (s.rsBind (natField w 25 16) (natField w 7 0)).refused = false →
    s.deviceLost (natField w 25 16) = true → Room s f 0 [.rsLost (natField w 25 16)] →
    Sys2Proof.Machine.exec (.fireRsend n) s =
      .next (staged s f (f.outsAB (f.handL false)) [] [.rsLost (natField w 25 16)] 0 f.inhNd)) ∧
  (∀ (s s1 : State) (n : Nat) (f : Firing) (a : Act) (row : OpRow) (x : Ins),
    Ready s n f.iw.opc f a row → 0x3C0 ≤ f.iw.opc → Inputs s f a row 0 x s1 → (s1.linkAt 6).state = .up →
    s1.xOf f = none → s1.xreqs.length < 1024 →
    Completes (.fireExtOp n) s (fun t => ∃ q, (∀ r ∈ s1.xreqs, r.reqid ≠ q) ∧
      t.xreqs = s1.xreqs ++ [({ reqid := q, firing := f.id, since := s1.clock, aband := false, l := x.l, r := x.r, c := x.c } : XReq)] ∧
      t.firings = s1.firings.map (fun y => if y.id = f.id then { y with nd := x.nd, wait := .xreply } else y) ∧
      (∃ body, (t.linkAt 6) = (s1.linkAt 6).push s1.clock 0 (State.xHeader f row.ins q :: body)) ∧
      t.storeBuf = s1.storeBuf ∧ t.net = s1.net))

/-- A well-formed RESULT reply whose REQID is that of an open request of a firing closes the request and stages the
outputs that the reply carries, of its TYPE with its flags, where no enabled trap applies; a FAULT reply, and the
reply timeout once it has run out, close the request and stage the trap XERR with its ECODE, which is all ones for the
timeout; the timeout of a request whose firing is gone only closes it. A vote timeout that has run out stages the
outcome of the messages that are present, the silent members excluded. A reply that no request awaits changes no
firing and no request. -/
def Obligations.RepliesEndTheirFirings : Prop :=
  (∀ (s : State) (h : BitVec 128) (body : List (BitVec 128)) (x : XReq) (f : Firing) (a : Act) (row : OpRow),
    let out (k : Nat) : TVal := ⟨tyMask (fld h 107 104) (BitVec.ofNat 256 ((nth body k 0).toNat + (nth body (k + 1) 0).toNat * 2 ^ 128)),
      f.comp (fld h 107 104) (BitVec.ofNat 7 (fld h 103 97)) f.nd⟩
    s.dead = false → s.xreqs.find? (fun y => decide (y.reqid = fld h 127 113)) = some x → x.aband = false → fld h 112 110 = 0 →
    fld h 107 104 ≤ 0xD → body.length = 2 * (b2n (bit h 109) + b2n (bit h 108)) → s.firing? x.firing = some f → f.id = x.firing →
    s.act? f.act = some a → legalRow f.iw (s.arityOf f.epoch f.word) = some row →
    enabledCauses a.mode false (BitVec.ofNat 7 (fld h 103 97)) = [] → Room s f 0 [] →
    Sys2Proof.Machine.exec (.extReply (h :: body)) s = .next (staged { s with xreqs := s.xreqs.filter (fun y => decide (y ≠ x)) } f
      (if isMemForm f.iw.mode then (if bit h 109 then f.outsAB (out 0) else [])
        else (if bit h 109 then f.outTo f.iw.da (out 0) else []) ++
          (if bit h 108 then f.outTo f.iw.db (out (if bit h 109 then 2 else 0)) else []))
      [] [] (BitVec.ofNat 7 (fld h 103 97)) f.nd)) ∧
  (∀ (s : State) (h : BitVec 128) (x : XReq) (f : Firing) (a : Act) (row : OpRow),
    s.dead = false → s.xreqs.find? (fun y => decide (y.reqid = fld h 127 113)) = some x → x.aband = false → fld h 112 110 = 1 →
    fld h 107 104 ≤ 0xD → bit h 109 = false → bit h 108 = false → s.firing? x.firing = some f → f.id = x.firing →
    s.act? f.act = some a → legalRow f.iw (s.arityOf f.epoch f.word) = some row → Room s f 0 [.noHandler] →
    Sys2Proof.Machine.exec (.extReply [h]) s = .next (if bit a.mode 2 && !f.excIn
      then staged { s with xreqs := s.xreqs.filter (fun y => decide (y ≠ x)) } f
        [excToken f.tag f.word a.handler f.inhFlags (f.inhNd || f.nd) ⟨0x14, 0, 0, fld h 63 0, x.reqid % 32768, 0⟩] [] [] 0 false
      else staged { s with xreqs := s.xreqs.filter (fun y => decide (y ≠ x)) } f [] [] [.noHandler] 0 false)) ∧
  (∀ (s : State) (h : BitVec 128) (ws : List (BitVec 128)), s.dead = false →
    (∀ y ∈ s.xreqs, y.reqid ≠ fld h 127 113) →
    Completes (.extReply (h :: ws)) s (fun t => t.firings = s.firings ∧ t.xreqs = s.xreqs)) ∧
  (∀ (s : State) (n : Nat) (x : XReq) (f : Firing) (a : Act),
    s.dead = false → s.xreqs[n]? = some x → x.aband = false →
    x.since + clampNat 10 1000000 (s.rfld Reg.FAB_XTMO 19 0) * 1000 ≤ s.clock → s.firing? x.firing = some f →
    s.act? f.act = some a → Room s f 0 [.noHandler] →
    Completes (.extReplyTimeout n) s (fun t => t.xreqs = s.xreqs.filter (fun y => decide (y ≠ x)) ∧ ∃ y, t.firing? x.firing = some y ∧ y.stage = .executed ∧
      y.stores = [] ∧ (if bit a.mode 2 && !f.excIn
        then y.outs = [excToken f.tag f.word a.handler f.inhFlags (f.inhNd || f.nd)
          ⟨0x14, 0, 0, 2 ^ 64 - 1, x.reqid % 32768, 0⟩] ∧ y.effects = []
        else y.outs = [] ∧ y.effects = [.noHandler]))) ∧
  (∀ (s : State) (n : Nat) (x : XReq), s.dead = false → s.xreqs[n]? = some x → x.aband = true →
    x.since + clampNat 10 1000000 (s.rfld Reg.FAB_XTMO 19 0) * 1000 ≤ s.clock →
    Sys2Proof.Machine.exec (.extReplyTimeout n) s = .next { s with xreqs := s.xreqs.filter (fun y => decide (y ≠ x)) }) ∧
  (∀ (s : State) (n : Nat) (f : Firing) (r : VoteRec) (me : Nat),
    let g := bankGroup (s.bankOf f.epoch) f.vkey.group
    let silent := g.members.filter (fun m => decide (m ≠ me) && !(s.votesOf f.vkey).any (fun x => decide (x.member = m)))
    let o := s.outcomeOf f g me { r with excl := maskOf silent }
    s.dead = false → s.firing? n = some f → f.wait = .vote → s.voteRec? f.vkey = some r →
    r.since + clampNat 10 100000 (s.rfld Reg.FAB_VOTE_TMO 19 0) * 1000 ≤ s.clock → r.part = none →
    g.local s.localId = some me → Room s f 0 [] →
  Completes (.voteTimeout n) s (fun t => t.firings = s.firings.map (fun y => if y.id = f.id then { y with
      stage := .executed, wait := .none
      outs := f.outTo f.iw.da ⟨o.value.v, mkStatus (stType o.value.st) false false (o.nd || f.inhNd) (f.inhFlags ||| stFlags o.value.st)⟩ ++
        f.outTo f.iw.db ⟨BitVec.ofNat 256 o.status, mkStatus 1 false false (o.nd || f.inhNd) f.inhFlags⟩
      stores := [], effects := [.vote f.vkey.group (decide (o.code = 2))], raised := 0, nd := false } else y)))

/-- For every integer type and every lane: ADD, SUB, MUL, NEG and ABS give the exact result modulo 2^w and raise V
exactly where it is not representable; ADDS, SUBS, MULS, NEGS and ABSS give the exact result clamped to the type and
raise SAT exactly where it was clamped; DIV and REM raise DZ exactly where the divisor is 0, DIV raises V exactly
where its exact quotient is not representable, and REM raises nothing else. MULH, the logic operations, shifts,
rotates, CLZ, POPC, MIN and MAX raise no flag. V and SAT never trap: no mode enables a trap for them. -/
def Obligations.IntegerLanesWrapOrClamp : Prop :=
  LanesWrap opAdd (fun a b => a + b) ∧ LanesWrap opSub (fun a b => a - b) ∧ LanesWrap opMul (fun a b => a * b) ∧
  LanesWrap opNeg (fun a _ => -a) ∧ LanesWrap opAbs (fun a _ => if a < 0 then -a else a) ∧
  LanesClamp opAdds (fun a b => a + b) ∧ LanesClamp opSubs (fun a b => a - b) ∧ LanesClamp opMuls (fun a b => a * b) ∧
  LanesClamp opNegs (fun a _ => -a) ∧ LanesClamp opAbss (fun a _ => if a < 0 then -a else a) ∧
  (∀ x : OpIn, IntType x.ty → ∃ z, opDiv x = some z ∧ ∀ k < (tyInfo x.ty).lanes,
    z.flags[k]? = some (if laneVal x x.r k = 0 then flDZ
      else if laneMax (laneSigned x.ty) (tyInfo x.ty).w < Int.tdiv (laneVal x x.l k) (laneVal x x.r k) then flV else 0)) ∧
  (∀ x : OpIn, IntType x.ty → ∃ z, opRem x = some z ∧ ∀ k < (tyInfo x.ty).lanes,
    z.flags[k]? = some (if laneVal x x.r k = 0 then flDZ else 0)) ∧
  (∀ op ∈ [opMulh, opAnd, opOr, opXor, opNot, opAndn, opShl, opShr, opSar, opRol, opRor, opClz, opPopc, opMin, opMax],
    ∀ x : OpIn, ∃ z, op x = some z ∧ orFlags z.flags = 0) ∧
  (∀ (mode : BitVec 16) (isInt : Bool), enabledCauses mode isInt (flV ||| flSAT) = [])

/-- For every integer type and every lane: DIV truncates toward zero, gives UMAX, MAX or MIN for a zero divisor, and
MIN for MIN divided by −1; REM has the sign of L and gives L for a zero divisor; MULH is the high half of the exact
product; MIN and MAX are the smaller and the larger value. An integer division by zero traps, with cause IDZ, exactly
where TIDZ is set. -/
def Obligations.DivisionAndHighProductLanes : Prop :=
  (∀ x : OpIn, IntType x.ty → ∃ q r : OpRes, opDiv x = some q ∧ opRem x = some r ∧ q.ty = x.ty ∧ r.ty = x.ty ∧
    ∀ k < (tyInfo x.ty).lanes,
      (laneVal x x.r k ≠ 0 → laneVal x q.val k =
        (if laneMax (laneSigned x.ty) (tyInfo x.ty).w < Int.tdiv (laneVal x x.l k) (laneVal x x.r k)
          then laneMin (laneSigned x.ty) (tyInfo x.ty).w else Int.tdiv (laneVal x x.l k) (laneVal x x.r k)) ∧
        laneVal x r.val k = Int.tmod (laneVal x x.l k) (laneVal x x.r k)) ∧
      (laneVal x x.r k = 0 → laneVal x q.val k =
        (if laneVal x x.l k < 0 then laneMin (laneSigned x.ty) (tyInfo x.ty).w else laneMax (laneSigned x.ty) (tyInfo x.ty).w) ∧
        laneVal x r.val k = laneVal x x.l k)) ∧
  (∀ x : OpIn, IntType x.ty → ∃ h mi ma : OpRes, opMulh x = some h ∧ opMin x = some mi ∧ opMax x = some ma ∧
    h.ty = x.ty ∧ mi.ty = x.ty ∧ ma.ty = x.ty ∧ ∀ k < (tyInfo x.ty).lanes,
      laneVal x h.val k = laneVal x x.l k * laneVal x x.r k / (2 ^ (tyInfo x.ty).w : Nat) ∧
      laneVal x mi.val k = min (laneVal x x.l k) (laneVal x x.r k) ∧
      laneVal x ma.val k = max (laneVal x x.l k) (laneVal x x.r k)) ∧
  (∀ (mode : BitVec 16) (fl : Flags7), enabledCauses mode true fl = (if fl &&& flDZ ≠ 0 ∧ bit mode 10 = true then [cIDZ] else []))

/-- For every integer type, lane and bit position j below the lane width w, with L and R the lane's unsigned numbers:
SHL takes bit j − R of L where there is one and 0 otherwise, so a shift of w or more gives 0; SHR takes bit j + R, 0
beyond the top; SAR takes bit j + R, the sign bit beyond the top; ROL takes bit (j − R) modulo w and ROR bit (j + R)
modulo w, so R = w gives L unchanged; AND, OR, XOR, NOT and ANDN act on bit j alone. R is the lane's whole unsigned
number, and no shift or rotate raises a flag. -/
def Obligations.BitwiseLanes : Prop :=
  ∀ x : OpIn, IntType x.ty → ∃ an o xo no nd sl sr sa rl rr : OpRes,
    opAnd x = some an ∧ opOr x = some o ∧ opXor x = some xo ∧ opNot x = some no ∧ opAndn x = some nd ∧
    opShl x = some sl ∧ opShr x = some sr ∧ opSar x = some sa ∧ opRol x = some rl ∧ opRor x = some rr ∧
    (∀ z ∈ [sl, sr, sa, rl, rr], orFlags z.flags = 0 ∧ z.ty = x.ty) ∧
    ∀ k < (tyInfo x.ty).lanes, ∀ j < (tyInfo x.ty).w,
      let w := (tyInfo x.ty).w
      let L := lane w k x.l
      let R := lane w k x.r
      (lane w k an.val).testBit j = (L.testBit j && R.testBit j) ∧ (lane w k o.val).testBit j = (L.testBit j || R.testBit j) ∧
      (lane w k xo.val).testBit j = (L.testBit j != R.testBit j) ∧ (lane w k no.val).testBit j = !L.testBit j ∧
      (lane w k nd.val).testBit j = (L.testBit j && !R.testBit j) ∧
      (lane w k sl.val).testBit j = (decide (R ≤ j) && L.testBit (j - R)) ∧
      (lane w k sr.val).testBit j = (decide (j + R < w) && L.testBit (j + R)) ∧
      (lane w k sa.val).testBit j = L.testBit (min (j + R) (w - 1)) ∧
      (lane w k rl.val).testBit j = L.testBit ((j + (w - R % w)) % w) ∧
      (lane w k rr.val).testBit j = L.testBit ((j + R) % w)

/-- For a scalar integer type CMPEQ, CMPNE, CMPLT and CMPLE give the u32 value 1 where the relation of the two values
holds and 0 otherwise; for an integer vector type every lane of the v8u32 result is all ones or all zeros by its own
relation; no flag is raised. For f32 and f64 a NaN operand makes CMPEQ, CMPLT and CMPLE 0 and CMPNE and CMPUN 1, and
−0 equals +0. -/
def Obligations.ComparesFollowTheirRelation : Prop :=
  (∀ (x : OpIn) (op : OpIn → Option OpRes) (rel : Int → Int → Prop), IntType x.ty →
    (op = opCmpeq ∧ rel = (· = ·) ∨ op = opCmpne ∧ rel = (· ≠ ·) ∨ op = opCmplt ∧ rel = (· < ·) ∨ op = opCmple ∧ rel = (· ≤ ·)) →
    ∃ z, op x = some z ∧ orFlags z.flags = 0 ∧
      ((tyInfo x.ty).lanes = 1 → z.ty = 1 ∧ (rel (laneVal x x.l 0) (laneVal x x.r 0) → z.val = 1) ∧
        (¬ rel (laneVal x x.l 0) (laneVal x x.r 0) → z.val = 0)) ∧
      ((tyInfo x.ty).lanes ≠ 1 → z.ty = 7 ∧ ∀ k < (tyInfo x.ty).lanes,
        (rel (laneVal x x.l k) (laneVal x x.r k) → lane (tyInfo x.ty).w k z.val = 2 ^ (tyInfo x.ty).w - 1) ∧
        (¬ rel (laneVal x x.l k) (laneVal x x.r k) → lane (tyInfo x.ty).w k z.val = 0))) ∧
  (∀ x : OpIn, x.ty = 4 ∨ x.ty = 5 →
    (tyFmt x.ty).isNaN (lane (tyInfo x.ty).w 0 x.l) = true ∨ (tyFmt x.ty).isNaN (lane (tyInfo x.ty).w 0 x.r) = true →
    ∃ e n l le u : OpRes, opCmpeq x = some e ∧ opCmpne x = some n ∧ opCmplt x = some l ∧ opCmple x = some le ∧
      opCmpun x = some u ∧ e.val = 0 ∧ n.val = 1 ∧ l.val = 0 ∧ le.val = 0 ∧ u.val = 1 ∧ orFlags l.flags = flNV ∧
      orFlags le.flags = flNV) ∧
  (∀ x : OpIn, x.ty = 4 ∨ x.ty = 5 → lane (tyInfo x.ty).w 0 x.l = (tyFmt x.ty).signBit → lane (tyInfo x.ty).w 0 x.r = 0 →
    ∃ e : OpRes, opCmpeq x = some e ∧ e.val = 1 ∧ orFlags e.flags = 0)

/-- In FADD, FSUB, FMUL, FDIV and the fused operations of f32 and f64, a NaN operand makes the result the first NaN
operand in the order L, R, C with its quiet bit set and its sign and payload unchanged, and NV is raised where any
operand is signalling. With no NaN operand, infinity minus infinity, zero times infinity, zero divided by zero,
infinity divided by infinity and the square root of a number below −0 give the default NaN and raise NV. -/
def Obligations.NanOperandsGiveTheirPayload : Prop :=
  ∀ (f : Fmt) (env : FEnv) (l r c : Nat), f = fmt32 ∨ f = fmt64 → l < 2 ^ f.width → r < 2 ^ f.width → c < 2 ^ f.width →
    ((f.isNaN l = true ∨ f.isNaN r = true) → ∀ g ∈ [fAdd, fSub, fMul, fDiv],
      g f env l r = ⟨f.quiet (if f.isNaN l then l else r), if f.isSNaN l || f.isSNaN r then flNV else 0⟩) ∧
    ((f.isNaN l = true ∨ f.isNaN r = true ∨ f.isNaN c = true) → ∀ g ∈ [fFma, fFms, fFnma],
      (g f env l r c).bits = f.quiet (if f.isNaN l then l else if f.isNaN r then r else c) ∧
      (f.isSNaN l = true ∨ f.isSNaN r = true ∨ f.isSNaN c = true → (g f env l r c).flags = flNV)) ∧
    fAdd f env f.infBits (f.signBit + f.infBits) = ⟨f.dNaN, flNV⟩ ∧ fSub f env f.infBits f.infBits = ⟨f.dNaN, flNV⟩ ∧
    fMul f env 0 f.infBits = ⟨f.dNaN, flNV⟩ ∧ fDiv f env 0 0 = ⟨f.dNaN, flNV⟩ ∧ fDiv f env f.infBits f.infBits = ⟨f.dNaN, flNV⟩ ∧
    (f.isNaN l = false → dazOp f env l ≠ f.signBit → f.isNeg l = true → fSqrt f env l = ⟨f.dNaN, flNV⟩)

/-- For f32 and f64 without FTZ, for every exact number ± m × 2^e with m not 0, the delivered pattern and flags are
these: unless OF is raised, the pattern is finite, of the number's sign, and its magnitude v is a neighbour of the
exact magnitude in the format: toward zero it does not exceed it, away from zero it is not below it, to nearest it is
no farther than any other pattern of the format, and the next pattern beyond it passes the exact magnitude. NX is
raised exactly where v differs from the exact magnitude, and UF only with NX. Where OF is raised, NX is raised, and
the pattern is an infinity or the largest finite number as the rounding and the sign say. -/
def Obligations.RoundingIsCorrect : Prop :=
  ∀ (f : Fmt) (env : FEnv) (neg : Bool) (m : Nat) (e : Int), f = fmt32 ∨ f = fmt64 → env.ftz = false → m ≠ 0 →
    let r := roundFin f env neg m e
    let down : Bool := decide (env.rm = .rtz) || decide (env.rm = .rup) && neg || decide (env.rm = .rdn) && !neg
    let up : Bool := decide (env.rm = .rup) && !neg || decide (env.rm = .rdn) && neg
    let mag := fAbs f r.bits
    (r.flags &&& flOF = 0 → f.isNeg r.bits = neg ∧ mag < f.infBits ∧
      (down = true → magVal f mag ≤ (m : Rat) * 2 ^ e ∧ (mag + 1 < f.infBits → (m : Rat) * 2 ^ e < magVal f (mag + 1))) ∧
      (up = true → (m : Rat) * 2 ^ e ≤ magVal f mag ∧ (0 < mag → magVal f (mag - 1) < (m : Rat) * 2 ^ e)) ∧
      (env.rm = .rne → ∀ b < f.infBits, |magVal f mag - (m : Rat) * 2 ^ e| ≤ |magVal f b - (m : Rat) * 2 ^ e|) ∧
      (r.flags &&& flNX ≠ 0 ↔ magVal f mag ≠ (m : Rat) * 2 ^ e)) ∧
    (r.flags &&& flUF ≠ 0 → r.flags = flUF ||| flNX) ∧
    (r.flags &&& flOF ≠ 0 → r.flags = flOF ||| flNX ∧ f.isNeg r.bits = neg ∧
      mag = (if env.rm = .rne ∨ up = true then f.infBits else f.maxBits))

/-- In running service, when device time has reached the nominal time T of the next tick, TICK takes place: the next
nominal time is T plus the period in force in microseconds, and T is the last edge. Before T, TICK changes nothing.
Closing at T makes a closed wafer of the next number, from the previous closing tick to T, in every live WAFER channel
a window over the same interval, and the closed number is written to TCK_WAFER_CLOSED. With 4,096 closed wafers
waiting the tick is held: no wafer is closed, the number still advances, TCK_HELD counts and HELD is set; and the next
wafer that closes is WIDE and spans from the last closing tick. -/
def Obligations.TicksAdvanceAndCloseWafers : Prop :=
  (∀ s : State, s.dead = false → s.running = true → s.tick.started = true → (s.rget Reg.TCK_NEXT).toNat ≤ s.now →
    Completes .tick s (fun t =>
      t.rget Reg.TCK_NEXT = w64 ((s.rget Reg.TCK_NEXT).toNat + t.tick.period * 1000) ∧
      t.tick.lastEdge = (s.rget Reg.TCK_NEXT).toNat)) ∧
  (∀ s : State, s.now < (s.rget Reg.TCK_NEXT).toNat → Sys2Proof.Machine.exec .tick s = .next s) ∧
  (∀ (s : State) (T : Nat), s.closed.length < 4096 →
    (∃ c, (s.closeWafer T).closed = s.closed ++ [c] ∧ c.num = s.tick.nextWafer ∧ c.openT = s.tick.prevClose ∧ c.closeT = T ∧
      c.wide = s.tick.heldSince ∧ (c.wide = true → c.suspect = true)) ∧
    (s.closeWafer T).rget Reg.TCK_WAFER_CLOSED = w64 s.tick.nextWafer ∧ (s.closeWafer T).tick.prevClose = T ∧
    (s.closeWafer T).tick.nextWafer = s.tick.nextWafer + 1 ∧ (s.closeWafer T).tick.heldSince = false ∧
    (∀ c ∈ s.chans, c.live = true → c.ckind = ckWafer →
      { c with windows := c.windows ++ [⟨s.tick.nextWafer, s.tick.prevClose, T, 0, 0, false⟩] } ∈ (s.closeWafer T).chans)) ∧
  (∀ (s : State) (T : Nat), 4096 ≤ s.closed.length →
    (s.closeWafer T).closed = s.closed ∧ (s.closeWafer T).chans = s.chans ∧
    (s.closeWafer T).rget Reg.TCK_HELD = s.rget Reg.TCK_HELD + 1 ∧ (s.closeWafer T).rbit Reg.TCK_STATUS 1 = true ∧
    (s.closeWafer T).tick.prevClose = s.tick.prevClose ∧ (s.closeWafer T).tick.nextWafer = s.tick.nextWafer + 1 ∧
    (s.closeWafer T).tick.heldSince = true)

/-- WAFER_ADMIT takes the first closed wafer, where admission is not withheld and its slot, its number modulo 8, is
free: it leaves the list of closed wafers, TCK_WAFER_ADMITTED holds its number, its slot holds it with its open and
close times under the present epoch, and each root descriptor of the bank in force has its start request; the slot is
RUNNING where there is one. Nothing happens in the other slots' wafers. Where admission is withheld, or the slot is
taken, nothing changes. WAFER_COMMIT commits the wafer that is due, which is COMPLETE and the oldest in flight:
TCK_WAFER_COMMITTED holds its number and its slot is FREE with no journal, and the messages of its votes are gone; the
closed wafers stay. A wafer that is not the oldest is never due. -/
def Obligations.WafersAreAdmittedAndCommitInOrder : Prop :=
  (∀ (s : State) (c : ClosedWafer) (rest : List ClosedWafer), s.dead = false → s.closed = c :: rest → s.admitHeld = false →
    (s.slotAt (c.num % 8)).state = 0 → s.slots.length = 8 →
    Completes .waferAdmit s (fun t => t.closed = rest ∧ t.rget Reg.TCK_WAFER_ADMITTED = w64 c.num ∧
      (t.slotAt (c.num % 8)).wafer = c.num ∧ (t.slotAt (c.num % 8)).epoch = s.epochNow ∧
      (t.slotAt (c.num % 8)).openT = c.openT ∧ (t.slotAt (c.num % 8)).closeT = c.closeT ∧
      (t.slotAt (c.num % 8)).wide = c.wide ∧ (t.slotAt (c.num % 8)).suspect = c.suspect ∧
      (∀ n ∈ bankRoots (s.bankOf s.epochNow), bankEntry (s.bankOf s.epochNow) n ≠ none → (t.slotAt (c.num % 8)).state = 1 ∧
        ∃ r ∈ t.startReqs ++ t.flowQ, r.root = true ∧ r.desc = n ∧ r.slot = c.num % 8 ∧ r.wafer = c.num ∧ r.epoch = s.epochNow) ∧
      (∀ k < 8, k ≠ c.num % 8 → (t.slotAt k).wafer = (s.slotAt k).wafer ∧
        ((t.slotAt k).state = (s.slotAt k).state ∨ (t.slotAt k).state = 2)) ∧
      t.firings = s.firings ∧ t.acts = s.acts ∧ t.chans = s.chans)) ∧
  (∀ s : State, (s.closed = [] ∨ s.admitHeld = true ∨
      ∃ c rest, s.closed = c :: rest ∧ (s.slotAt (c.num % 8)).state ≠ 0) →
    Sys2Proof.Machine.exec .waferAdmit s = .next s) ∧
  (∀ (s : State) (k : Nat), s.dead = false → s.settle.commitDue = some k → s.slots.length = 8 →
    Completes .waferCommit s (fun t => t.rget Reg.TCK_WAFER_COMMITTED = w64 (s.slotAt k).wafer ∧ (t.slotAt k).state = 0 ∧
      (t.slotAt k).journal = [] ∧ (t.slotAt k).crumbs = [] ∧ t.closed = s.closed ∧
      (∀ v ∈ t.votes, v.wafer ≠ (s.slotAt k).wafer) ∧ (∀ j < 8, j ≠ k → t.slotAt j = s.settle.slotAt j) ∧
      t = s.settle.commitWafer k)) ∧
  (∀ (s : State) (k : Nat), s.commitDue = some k → k < 8 ∧ (s.slotAt k).state = 2 ∧ s.oldestWafer = some (s.slotAt k).wafer) ∧
  (∀ (s : State) (c : ClosedWafer) (rest : List ClosedWafer), s.closed = c :: rest → s.rbit Reg.TCK_CTRL 2 = false →
    Sys2Proof.Machine.exec .waferAdmit s = .next s)

/-- TCK_RUN on a device outside fabric service sets RUN, and the first tick is the first whole multiple of n
microseconds that lies at least n microseconds after the write; its wafer has the number of TCK_WAFER_BASE and opened
one period before. SUBTICK_EDGE moves device time to the next whole multiple of 1,000 ns; on a stopped device it does
nothing else. TCK_TIME_SET sets device time while RUN is 0 and changes nothing while RUN is 1. The loss of the
selected source sets SRCLOST, and its return clears it, and nothing else changes. TCK_PERIOD is 1,000 after reset, and
two ticks of an interval lie n times 1,000 ns apart, where n is the period in force. On an unlocked device that does
not follow fabric time, TCK_PERIOD_WRITE of a value n from 50 to 1,000,000 puts n into TCK_PERIOD, and into the writes
that wait for a tick where service has started; of a value outside that range it sets BADPER and changes nothing else.
Locked, or under fabric time, the write changes nothing. -/
def Obligations.TimeCommandsActOnDeviceTime : Prop :=
  (∀ (s : State) (m : Nat) (v : Word), s.mayWrite m = true → s.running = false → s.tick.started = false →
    s.rbit Reg.FAB_CTRL 0 = false → s.rbit Reg.FAB_STATUS 10 = false → s.rfld Reg.TCK_PERIOD 19 0 ≠ 0 → s.now + 2000 * s.rfld Reg.TCK_PERIOD 19 0 < 2 ^ 64 →
    Completes (.tckRun m v) s (fun t => t.running = true ∧ t.tick.started = true ∧
      t.tick.nextWafer = (s.rget Reg.TCK_WAFER_BASE).toNat ∧ t.tick.period = s.rfld Reg.TCK_PERIOD 19 0 ∧
      (t.rget Reg.TCK_NEXT).toNat % (s.rfld Reg.TCK_PERIOD 19 0 * 1000) = 0 ∧
      s.now + s.rfld Reg.TCK_PERIOD 19 0 * 1000 ≤ (t.rget Reg.TCK_NEXT).toNat ∧
      (t.rget Reg.TCK_NEXT).toNat < s.now + 2 * (s.rfld Reg.TCK_PERIOD 19 0 * 1000) ∧
      t.tick.prevClose = (t.rget Reg.TCK_NEXT).toNat - s.rfld Reg.TCK_PERIOD 19 0 * 1000 ∧ s.now ≤ t.tick.prevClose)) ∧
  (∀ s : State, s.dead = true → Sys2Proof.Machine.exec .subtickEdge s =
    .next { s with now := (s.now / 1000 + 1) * 1000, clock := s.clock + (1000 - s.now % 1000) }) ∧
  (∀ s : State, s.dead = false → s.tick.shadowDue = false →
    Completes .subtickEdge s (fun t => t = ({ s with now := (s.now / 1000 + 1) * 1000, clock := s.clock + (1000 - s.now % 1000) }.releaseDelays
      { s with now := (s.now / 1000 + 1) * 1000, clock := s.clock + (1000 - s.now % 1000) }.delaysDue
      ).sampleStats.routeApply.reloadTick.rsRetry.rsGrantAll.dlSubtick)) ∧
  (∀ (s : State) (m : Nat) (v : Word), s.mayWrite m = true →
    Sys2Proof.Machine.exec (.tckTimeSet m v) s = .next (if s.running then s else { s with now := v.toNat })) ∧
  (∀ s : State, s.rfld Reg.TCK_CTRL 7 6 ≠ 0 →
    Sys2Proof.Machine.exec .timeSourceLost s = .next (s.rsetBit Reg.TCK_STATUS 3 true)) ∧
  (∀ s : State, s.rfld Reg.TCK_CTRL 7 6 = 0 → Sys2Proof.Machine.exec .timeSourceLost s = .next s) ∧
  (∀ s : State, Sys2Proof.Machine.exec .timeSourceReturn s = .next (s.rsetBit Reg.TCK_STATUS 3 false)) ∧
  State.reset.rget Reg.TCK_PERIOD = 1000 ∧
  (∀ s : State, s.dead = false → s.running = true → s.tick.started = true → (s.rget Reg.TCK_NEXT).toNat ≤ s.now →
    Completes .tick s (fun t => t.rget Reg.TCK_NEXT = w64 ((s.rget Reg.TCK_NEXT).toNat + t.tick.period * 1000))) ∧
  (∀ (s : State) (m : Nat) (v : Word), s.mayWrite m = true → s.locked = false → s.follower = false →
    50 ≤ fld v 19 0 → fld v 19 0 ≤ 1000000 →
    Completes (.tckPeriodWrite m v) s (fun t => t.rget Reg.TCK_PERIOD = w64 (fld v 19 0) ∧ t.now = s.now ∧
      t.tick.pend = (if s.tick.started then s.tick.pend ++ [(s.now, fld v 19 0)] else s.tick.pend) ∧
      (∀ a, a ≠ Reg.TCK_PERIOD → t.rget a = s.rget a))) ∧
  (∀ (s : State) (m : Nat) (v : Word), s.mayWrite m = true → s.locked = false → s.follower = false →
    (fld v 19 0 < 50 ∨ 1000000 < fld v 19 0) →
    Sys2Proof.Machine.exec (.tckPeriodWrite m v) s = .next (s.rsetBit Reg.TCK_STATUS 4 true)) ∧
  (∀ (s : State) (m : Nat) (v : Word), s.mayWrite m = true → (s.locked = true ∨ s.follower = true) →
    Sys2Proof.Machine.exec (.tckPeriodWrite m v) s = .next s)

/-- TCK_EPOCH is 0 after reset. A tick without a due transaction and without due code words swaps nothing. A swap at
the tick of wafer w sets TCK_EPOCH to the present epoch plus one, or to 1 after 0xFFFF_FFFF; so the value 0 never
returns. -/
def Obligations.BankSwapsRaiseTheEpoch : Prop :=
  State.reset.rget Reg.TCK_EPOCH = 0 ∧
  (∀ (s : State) (w T : Nat), (∀ x ∈ s.staged, x.due = false) → (s.cfg.txn ≠ .armed ∨ (s.cfg.late = false ∧ w < s.cfg.whenAt)) →
    s.bankSwap w T = s) ∧
  (∀ (s : State) (w T : Nat), (∃ x ∈ s.staged, x.due = true) ∨ (s.cfg.txn = .armed ∧ (s.cfg.late = true ∨ s.cfg.whenAt ≤ w)) →
    s.rget Reg.TCK_EPOCH = w64 s.epochNow →
    (s.epochNow < 2 ^ 32 - 1 → (s.bankSwap w T).rget Reg.TCK_EPOCH = w64 (s.epochNow + 1)) ∧
    (s.epochNow = 2 ^ 32 - 1 → (s.bankSwap w T).rget Reg.TCK_EPOCH = 1))

/-- A read by a master that may read, of a register behind no fence: TCK_LAG_MAX leaves the number of closed wafers,
TIL_READYQ_MAX the length of the tile's ready queue, PEX_INFLIGHT_MAX the PE's firings in flight, MST_OCC_MAX the
tile's entries, SCH_ACT_MAX the activations, SCH_DLY_MAX the delay entries, BOOT_TEMPMAX the temperature,
AFE_CHc_PKHOLD the channel's latest value, and FCL_RECOV_MAX its reset value. The master gets the value that stood
before, and nothing else changes. RC_COUNTER_READ does so for every RC register. -/
def Obligations.MaximumReadsLeaveTheStandingQuantity : Prop :=
  (∀ (s : State) (m : Nat), s.mayRead m 0 = true → Sys2Proof.Machine.exec (.tckLagMaxRead m) s =
    .next { s.rset Reg.TCK_LAG_MAX (w64 s.closed.length) with lastRead := s.rget Reg.TCK_LAG_MAX }) ∧
  (∀ (s : State) (m t : Nat), t < 16 → s.mayRead m (0x10 + t) = true → s.regFenced (Reg.TIL_READYQ_MAX t) = false →
    s.tileState t ≠ 3 → Sys2Proof.Machine.exec (.tilReadyqMaxRead m t) s =
    .next { s.rset (Reg.TIL_READYQ_MAX t) (w64 (s.readyCount t)) with lastRead := s.rget (Reg.TIL_READYQ_MAX t) }) ∧
  (∀ (s : State) (m t p : Nat), t < 16 → p < 17 → s.mayRead m (0x10 + t) = true →
    s.regFenced (Reg.PEX_INFLIGHT_MAX t p) = false → s.tileState t ≠ 3 →
    Sys2Proof.Machine.exec (.pexInflightMaxRead m t p) s =
    .next { s.rset (Reg.PEX_INFLIGHT_MAX t p) (w64 (s.inflight t p)) with lastRead := s.rget (Reg.PEX_INFLIGHT_MAX t p) }) ∧
  (∀ (s : State) (m t : Nat), t < 16 → s.mayRead m (0x10 + t) = true → s.regFenced (Reg.MST_OCC_MAX t) = false →
    s.tileState t ≠ 3 → Sys2Proof.Machine.exec (.mstOccMaxRead m t) s =
    .next { s.rset (Reg.MST_OCC_MAX t) (w64 (s.mstOcc t)) with lastRead := s.rget (Reg.MST_OCC_MAX t) }) ∧
  (∀ (s : State) (m : Nat), s.mayRead m 8 = true → Sys2Proof.Machine.exec (.schActMaxRead m) s =
    .next { s.rset Reg.SCH_ACT_MAX (w64 s.acts.length) with lastRead := s.rget Reg.SCH_ACT_MAX }) ∧
  (∀ (s : State) (m : Nat), s.mayRead m 8 = true → Sys2Proof.Machine.exec (.schDlyMaxRead m) s =
    .next { s.rset Reg.SCH_DLY_MAX (w64 s.delays.length) with lastRead := s.rget Reg.SCH_DLY_MAX }) ∧
  (∀ (s : State) (m : Nat), s.mayRead m 2 = true → Sys2Proof.Machine.exec (.bootTempmaxRead m) s =
    .next { s.rset Reg.BOOT_TEMPMAX (w64 (s.rget Reg.BOOT_TEMP).toNat) with lastRead := s.rget Reg.BOOT_TEMPMAX }) ∧
  (∀ (s : State) (m : Nat), s.mayRead m 3 = true → Sys2Proof.Machine.exec (.fclRecovMaxRead m) s =
    .next { s.rset Reg.FCL_RECOV_MAX 0 with lastRead := s.rget Reg.FCL_RECOV_MAX }) ∧
  (∀ (s : State) (m c : Nat), Sys2Proof.Machine.exec (.afePkholdRead m c) s =
    .next { s.rset (Reg.AFE_CH_PKHOLD c) (w64 (s.afeCh c).lastY) with lastRead := s.rget (Reg.AFE_CH_PKHOLD c) }) ∧
  (∀ (s : State) (m a : Nat) (r : RegRow), regRowAt a = some r → r.rc = true → r.wo = false → s.mayRead m (regBlock a) = true →
    s.regFenced a = false → s.regParked a = false →
    Completes (.rcCounterRead m a) s (fun t => t.lastRead = (s.regValue m a).1 ∧
      t.rget a = (match s.maxNow a with
        | some n => w64 n
        | none => r.reset) ∧ (∀ b, b ≠ a → t.rget b = (s.regValue m a).2.rget b)))

/-- A write takes the RW bits of its register from the value, the RWL bits where CFG_LOCK is 0, clears the W1C bits
and sets the W1S bits that the value has at 1, and keeps every other bit; REGISTER_WRITE to TCK_WAFER_BASE or
AFE_STATUS is exactly that write, and after a C4 fault it changes nothing. An 8-byte PCIe read of the register range
returns the register as the host reads it, a request through the window to an address that does not exist is
Unsupported Request. An I2C access sets its address and a read returns the register of an open block, 0 otherwise, and
moves on by 8. A JTAG instruction stays in its register, and IDCODE returns the identity. -/
def Obligations.RegisterAccessByOtherMasters : Prop :=
  (∀ (r : RegRow) (lock : Bool) (old v : Word) (i : Nat), i < 64 →
    (r.write lock old v).getLsbD i =
      ((if r.rw.getLsbD i || (!lock && r.rwl.getLsbD i) then v.getLsbD i else old.getLsbD i) &&
        !(v.getLsbD i && r.w1c.getLsbD i) || (v.getLsbD i && r.w1s.getLsbD i))) ∧
  (∀ (s : State) (m : Nat) (v : Word), s.mayWrite m = true → Sys2Proof.Machine.exec (.registerWrite m Reg.TCK_WAFER_BASE v) s =
    .next (if s.locked then s.rset Reg.TCK_WAFER_BASE (s.rget Reg.TCK_WAFER_BASE) else s.rset Reg.TCK_WAFER_BASE v)) ∧
  (∀ (s : State) (m : Nat) (v : Word), s.mayWrite m = true → ∀ r, regRowAt Reg.AFE_STATUS = some r →
    Sys2Proof.Machine.exec (.registerWrite m Reg.AFE_STATUS v) s =
      .next (s.rset Reg.AFE_STATUS (r.write s.locked (s.rget Reg.AFE_STATUS) v))) ∧
  (∀ (s : State) (m a : Nat) (v : Word), s.dead = true → Sys2Proof.Machine.exec (.registerWrite m a v) s = .next s) ∧
  (∀ (s : State) (off : Nat) (ns : Bool), s.boot.held = false → s.domOn 132 = true → s.power.doze = 0 →
    s.rbit Reg.PCI_STATUS 8 = true → off % 8 = 0 → off + 8 ≤ 0x1000000 → s.mayRead 0x19 (regBlock (csrBase + off)) = true →
    s.accessKind (csrBase + off) 8 = .device →
    Completes (.pcieRequest false false ns off 8 []) s (fun t => t.pins.pcieUr = false ∧
      t.pins.pcieData = natToBytes 8 (s.csrRead 0x19 (csrBase + off)).1.toNat ∧
      t.csr = (s.csrRead 0x19 (csrBase + off)).2.csr)) ∧
  (∀ (s : State) (off n : Nat) (ns w : Bool) (data : List Byte), s.boot.held = false → s.domOn 132 = true → s.power.doze = 0 →
    s.rbit Reg.PCI_STATUS 8 = true → s.accessKind (s.rfld Reg.PCI_WIN 47 28 * 2 ^ 28 + off) n = .hole →
    Completes (.pcieRequest true w ns off n data) s (fun t => t.pins.pcieUr = true ∧ t.pins.pcieData = [] ∧ t.mem = s.mem)) ∧
  (∀ (s : State) (b hi lo : Nat), Sys2Proof.Machine.exec (.i2cAddressWrite b hi lo) s =
    .next { s with pins.i2c := b * 65536 + hi * 256 + lo }) ∧
  (∀ (s : State) (b o : Nat), s.pins.i2c = b * 65536 + o → o < 65536 → Completes .i2cRead s (fun t =>
    t.lastRead = (if openBlock b = true ∧ o % 8 = 0 then (s.csrRead 0x1A (csrAddr b o)).1 else 0) ∧
    t.pins.i2c = b * 65536 + (o + 8) % 65536)) ∧
  (∀ s : State, Sys2Proof.Machine.exec .jtagBypass s = .next { s with pins.jtag := 0 } ∧
    Sys2Proof.Machine.exec .jtagIdcode s = .next { s with pins.jtag := 1, lastRead := 0x0416095B } ∧
    Sys2Proof.Machine.exec .jtagSamplePreload s = .next { s with pins.jtag := 2 } ∧
    Sys2Proof.Machine.exec .jtagExtest s = .next { s with pins.jtag := 3 } ∧
    Sys2Proof.Machine.exec .jtagClamp s = .next { s with pins.jtag := 4 } ∧
    Sys2Proof.Machine.exec .jtagHighz s = .next { s with pins.jtag := 5 })

/-- A token that may arrive at its tile leaves the network. With the INC of an earlier replay it is discarded and
nothing else happens. A token of a LIVE activation for an instruction with this one token input, for MERGE, or for a
reserved encoding makes a ready firing with that input. The first token of an instruction with more inputs becomes an
entry in the lowest free way of its set. The last missing token of an entry in the store makes a ready firing with the
inputs that the entry and the token hold, and the entry is freed; one that is not the last is added to the entry. A
token for a port that the instruction does not use, or that the entry holds already, is discarded, counted in
TIL_BADPORT, and its activation is quarantined with BADPORT or COLLIDE. A token of an activation that is FREE or
ENDING counts in TIL_ORPHAN and is discarded. A token for port 3 or another device counts in TIL_BADPORT and is
discarded. A token that may not arrive yet stays. -/
def Obligations.TokensMatchInTheStore : Prop :=
  (∀ (s : State) (t n : Nat) (k : Token), s.dead = false → s.netTok t n = some k → s.mayArrive t k = true →
    k.inc ≠ (s.slotAt (tagSlot k.tag)).inc →
    Sys2Proof.Machine.exec (.tokenArrival t n) s = .next { s with net := State.netErase t n s.net }.settle) ∧
  (∀ (s : State) (t n : Nat) (k : Token), s.netTok t n = some k → s.mayArrive t k = false →
    Sys2Proof.Machine.exec (.tokenArrival t n) s = .next s) ∧
  (∀ (s : State) (t n : Nat) (k : Token) (a : Act), Accepted s t n k a →
    ((∃ m, s.tokenMatch a k = .need m ∧ (m = 1 ∨ m = 2 ∨ m = 4) ∧ m.testBit (tagPort k.tag) = true) ∨
      (s.tokenMatch a k = .merge ∧ tagPort k.tag ≤ 1) ∨ s.tokenMatch a k = .illegal) → s.readyRoom t = true →
    Completes (.tokenArrival t n) s (fun u => carried u.net = carried (State.netErase t n s.net) ∧ u.mst = s.mst ∧
      ∃ f, u.firings = s.firings ++ [f] ∧ f.id = s.nextFid ∧ f.tile = t ∧ f.stage = .ready ∧ f.tag = k.tag &&& ~~~3 ∧ f.inc = a.inc ∧
      f.word = (if k.stray then unloadedWord else s.fetchWord a.epoch (tagIaddr k.tag)) ∧
      f.inL = (if tagPort k.tag = 0 then some k.tv else none) ∧
      f.inR = (if tagPort k.tag = 1 then some k.tv else none) ∧ f.inC = (if tagPort k.tag = 2 then some k.tv else none))) ∧
  (∀ (s : State) (t n : Nat) (k : Token) (a : Act) (m w : Nat), Accepted s t n k a → s.tokenMatch a k = .need m →
    ¬ (m = 1 ∨ m = 2 ∨ m = 4) → m.testBit (tagPort k.tag) = true → KeyFree s t (tagKey k.tag) → FreeWay s t (tagKey k.tag) w →
    Completes (.tokenArrival t n) s (fun u => carried u.net = carried (State.netErase t n s.net) ∧ u.firings = s.firings ∧
      u.rget (Reg.TIL_LOOKUPS t) = s.rget (Reg.TIL_LOOKUPS t) + 1 ∧
      ∃ e, u.mst = s.mst ++ [e] ∧ e.tile = t ∧ e.key = tagKey k.tag ∧ e.kind = .operand ∧ e.need = m ∧ e.inc = a.inc ∧ e.count = 1 ∧
        e.at (tagPort k.tag) = some k.tv ∧ e.place = .way (s.bankSet t (tagKey k.tag)).1 (s.bankSet t (tagKey k.tag)).2 w)) ∧
  (∀ (s : State) (t n : Nat) (k : Token) (a : Act) (m : Nat) (e : MEntry), Accepted s t n k a → s.tokenMatch a k = .need m →
    ¬ (m = 1 ∨ m = 2 ∨ m = 4) → (∀ x ∈ s.mst, x.tile = t → x.key = tagKey k.tag → x.inc = a.inc) →
    (∀ x ∈ s.mfetch, x.tile = t → tagKey x.tok.tag ≠ tagKey k.tag) → s.mstFind t (tagKey k.tag) a.inc State.isPair = some e →
    e.inStore = true → e.at (tagPort k.tag) = none → e.need.testBit (tagPort k.tag) = true → e.count < 3 →
    ((e.add (tagPort k.tag) k.tv).full = true → s.readyRoom t = true →
      Completes (.tokenArrival t n) s (fun u => carried u.net = carried (State.netErase t n s.net) ∧
        (∀ x ∈ u.mst, x ∈ s.mst ∧ x ≠ e) ∧ (∀ x ∈ s.mst, x.key ≠ e.key → x ∈ u.mst) ∧
        ∃ f, u.firings = s.firings ++ [f] ∧ f.id = s.nextFid ∧ f.stage = .ready ∧ f.tile = t ∧ f.tag = k.tag &&& ~~~3 ∧
          f.word = s.fetchWord a.epoch (tagIaddr k.tag) ∧
          f.inL = (if tagPort k.tag = 0 then some k.tv else e.at 0) ∧ f.inR = (if tagPort k.tag = 1 then some k.tv else e.at 1) ∧
          f.inC = (if tagPort k.tag = 2 then some k.tv else e.at 2))) ∧
    ((e.add (tagPort k.tag) k.tv).full = false →
      Completes (.tokenArrival t n) s (fun u => carried u.net = carried (State.netErase t n s.net) ∧ u.firings = s.firings ∧
        u.mst = s.mst.map (fun x => if x = e then e.add (tagPort k.tag) k.tv else x)))) ∧
  (∀ (s : State) (t n : Nat) (k : Token) (a : Act) (cause : Nat), Accepted s t n k a → t < 16 →
    ((cause = 3 ∧ ∃ m, s.tokenMatch a k = .need m ∧ (m = 1 ∨ m = 2 ∨ m = 4) ∧ m.testBit (tagPort k.tag) = false) ∨
      (cause = 3 ∧ s.tokenMatch a k = .merge ∧ tagPort k.tag = 2) ∨
      (∃ m e, s.tokenMatch a k = .need m ∧ ¬ (m = 1 ∨ m = 2 ∨ m = 4) ∧
        (∀ x ∈ s.mst, x.tile = t → x.key = tagKey k.tag → x.inc = a.inc) ∧
        (∀ x ∈ s.mfetch, x.tile = t → tagKey x.tok.tag ≠ tagKey k.tag) ∧
        s.mstFind t (tagKey k.tag) a.inc State.isPair = some e ∧ e.inStore = true ∧
        ((cause = 2 ∧ e.at (tagPort k.tag) ≠ none) ∨
          (cause = 3 ∧ e.at (tagPort k.tag) = none ∧ e.need.testBit (tagPort k.tag) = false)))) →
    Completes (.tokenArrival t n) s (fun u => u.rget (Reg.TIL_BADPORT t) = s.rget (Reg.TIL_BADPORT t) + 1 ∧
      u.rget (Reg.TIL_QUAR_LAST t) = w64 (2 ^ 63 + cause * 2 ^ 32 + a.slot * 2 ^ 22 + tagIaddr k.tag) ∧
      (∀ x ∈ u.acts, x.id = tagAct k.tag → x.state = .quarantined) ∧ (∀ f ∈ u.firings, f.act ≠ tagAct k.tag))) ∧
  (∀ (s : State) (t n : Nat) (k : Token), s.dead = false → s.netTok t n = some k → s.mayArrive t k = true →
    k.inc = (s.slotAt (tagSlot k.tag)).inc → tagPort k.tag ≠ 3 → tagDevice k.tag = s.localId →
    (s.act? (tagAct k.tag) = none ∨ ∃ a, s.act? (tagAct k.tag) = some a ∧ a.state = .ending) →
    Completes (.tokenArrival t n) s (fun u => carried u.net = carried (State.netErase t n s.net) ∧
      u.rget (Reg.TIL_ORPHAN t) = s.rget (Reg.TIL_ORPHAN t) + 1 ∧ u.firings = s.firings ∧ u.mst = s.mst ∧ u.acts = s.acts)) ∧
  (∀ (s : State) (t n : Nat) (k : Token), s.dead = false → s.netTok t n = some k → s.mayArrive t k = true →
    k.inc = (s.slotAt (tagSlot k.tag)).inc → (tagPort k.tag = 3 ∨ tagDevice k.tag ≠ s.localId) →
    Completes (.tokenArrival t n) s (fun u => carried u.net = carried (State.netErase t n s.net) ∧
      u.rget (Reg.TIL_BADPORT t) = s.rget (Reg.TIL_BADPORT t) + 1 ∧ u.firings = s.firings ∧ u.mst = s.mst ∧ u.acts = s.acts))

/-- FIRE_FAN of a token for an instruction of the FAN kind forms a token with the same value and status for each of A
and B that is not NONE, under the same ACT, SLOT and ITER. FIRE_LOOPGATE of the first L token makes the state entry
with a live count of 1 and sends the token on to A; of an L token whose state entry in the store has a live count
below the limit it raises that count by one and sends the token on to A; at the limit it holds the token in an entry
of its own, at the tail. A C token for a state entry with held tokens sends the one at the head on to A under its own
ITER; with nothing held it lowers the live count by one, and the state entry is freed when that was 1. None makes a
firing. -/
def Obligations.FanAndLoopgateWorkInTheStore : Prop :=
  (∀ (s : State) (t n : Nat) (k : Token) (a : Act), Accepted s t n k a → s.tokenMatch a k = .fan → tagPort k.tag = 0 →
    Completes (.fireFan t n) s (fun u => u.firings = s.firings ∧ u.mst = s.mst ∧
      carried u.net = carried (State.netErase t n s.net) ++
        ([(decodeIWord (s.fetchWord a.epoch (tagIaddr k.tag))).da, (decodeIWord (s.fetchWord a.epoch (tagIaddr k.tag))).db].filterMap
          (fun x => (destOf (tagIaddr k.tag) x).map (fun d =>
            (mkTag (tagDevice k.tag) (tagAct k.tag) (tagSlot k.tag) (tagIter k.tag) d.1 d.2, k.tv)))))) ∧
  (∀ (s : State) (t n : Nat) (k : Token) (a : Act) (d : Nat × Nat), Accepted s t n k a → s.tokenMatch a k = .loopgate →
    stCtx k.tv.st = false →
    destOf (tagIaddr k.tag) (decodeIWord (s.fetchWord a.epoch (tagIaddr k.tag))).da = some d →
    let lim := (decodeIWord (s.fetchWord a.epoch (tagIaddr k.tag))).lit % 2048
    let key := State.gateKey k.tag
    let sent : Tag × TVal := (mkTag (tagDevice k.tag) (tagAct k.tag) (tagSlot k.tag) (tagIter k.tag) d.1 d.2, k.tv)
    (∀ w, tagPort k.tag = 0 → 0 < lim → KeyFree s t key → FreeWay s t key w →
      Completes (.fireLoopgate t n) s (fun u => u.firings = s.firings ∧
        carried u.net = carried (State.netErase t n s.net) ++ [sent] ∧
        u.mst = s.mst ++ [{ MEntry.fresh t key .gateState 0 a.inc a.wafer with
          live := 1, place := .way (s.bankSet t key).1 (s.bankSet t key).2 w }])) ∧
    (∀ g, (∀ e ∈ s.mst, e.tile = t → e.key = key → e.inc = a.inc) → s.mstFind t key a.inc State.isGate = some g → g.inStore = true →
      (tagPort k.tag = 0 → g.live < lim →
        Completes (.fireLoopgate t n) s (fun u => u.firings = s.firings ∧
          u.mst = s.mst.map (fun x => if x = g then { g with live := g.live + 1 } else x) ∧
          carried u.net = carried (State.netErase t n s.net) ++ [sent])) ∧
      (∀ w, tagPort k.tag = 0 → lim ≤ g.live → FreeWay s t (State.heldKey k.tag g.tail) w →
        Completes (.fireLoopgate t n) s (fun u => u.firings = s.firings ∧
          carried u.net = carried (State.netErase t n s.net) ∧
          ∃ h, u.mst = s.mst.map (fun x => if x = g then { g with tail := (g.tail + 1) % 2097152 } else x) ++ [h] ∧ h.tile = t ∧
            h.key = State.heldKey k.tag g.tail ∧ h.kind = .held ∧ h.v0 = k.tv ∧ h.heldIter = tagIter k.tag ∧ h.inStore = true)) ∧
      (∀ h, tagPort k.tag = 2 → 0 < g.live → g.head ≠ g.tail →
        s.mstFind t (State.heldKey k.tag g.head) a.inc State.isHeld = some h → h.inStore = true →
        Completes (.fireLoopgate t n) s (fun u => u.firings = s.firings ∧
          carried u.net = carried (State.netErase t n s.net) ++
            [(mkTag (tagDevice k.tag) (tagAct k.tag) (tagSlot k.tag) h.heldIter d.1 d.2, h.v0)] ∧
          u.mst = (s.mst.filter (fun x => decide (x ≠ h))).map (fun x => if x = g then { g with head := (g.head + 1) % 2097152 } else x))) ∧
      (tagPort k.tag = 2 → 1 < g.live → g.head = g.tail →
        Completes (.fireLoopgate t n) s (fun u => u.firings = s.firings ∧ carried u.net = carried (State.netErase t n s.net) ∧
          u.mst = s.mst.map (fun x => if x = g then { g with live := g.live - 1 } else x))) ∧
      (tagPort k.tag = 2 → g.live = 1 → g.head = g.tail →
        Completes (.fireLoopgate t n) s (fun u => u.firings = s.firings ∧ carried u.net = carried (State.netErase t n s.net) ∧
          (∀ x ∈ u.mst, x ∈ s.mst ∧ x ≠ g) ∧ (∀ x ∈ s.mst, x.key ≠ g.key → x ∈ u.mst)))))

/-- SPILL_WRITE outside spilling completes the oldest write in transit: the entry is then in its bucket's slot, its
key word, its image and the bucket word with its USED bit are in the tile's spill area where that is enabled, and no
byte of SDRAM outside the bucket changes. SPILL_FETCH of a lookup whose incarnation is stale discards its token; whose
entry is in the store already, it lets the token meet it; whose entry lies in the table, it counts the fetch, and
where the token completes the entry a ready firing takes its place. RESERVE_RELOAD outside oldest-wafer mode does
nothing; in it, it brings an entry of the oldest wafer back from the reserve to a free way and counts it, and without
one it ends the reload. DEADLOCK_WINDOW_EXPIRY of a watching detector whose timer has reached the window moves it to
CONFIRM, and any other changes nothing. DEADLOCK_CONFIRM with a token or firing of the slot outside the stores returns
to WATCH with its timer at 0 and counts no deadlock; with none it quarantines the activations of the slot's entries
with cause 1 and counts one. A purge walk leaves no stale entry of the slot and takes no other. A clean codeword
changes nothing, and a corrected one counts in MST_ECC_CE. -/
def Obligations.StoreMaintenanceCommands : Prop :=
  (∀ (s : State) (t : Nat) (e : MEntry) (b n : Nat), s.dead = false → (s.tileAt t).spilling = false →
    s.mst.find? (fun x => decide (x.tile = t) && x.transit) = some e → e.place = .table b n true → n < 7 →
    Completes (.spillWrite t) s (fun u =>
      u.mst = s.mst.map (fun x => if x = e then { e with place := .table b n false } else x) ∧
      (s.spillEn t = false → u = { s with mst := u.mst }) ∧
      (s.spillEn t = true →
        smBytes u.mem.sdram 0 (s.spillBase t + b * 1024 + n * 8) 8 = natToBytes 8 (e.key * 4 + kindCode e.kind) ∧
        smBytes u.mem.sdram 0 (s.spillBase t + b * 1024 + 0x40 + n * 0x80) 80 = entryImage e ∧
        smBytes u.mem.sdram 0 (s.spillBase t + b * 1024 + 0x38) 8 = natToBytes 8 (u.bucketWord t b) ∧
        u.bucketWord t b / 2 ^ n % 2 = 1 ∧
        (∀ a, a < s.spillBase t + b * 1024 ∨ s.spillBase t + b * 1024 + 1024 ≤ a →
          smGet u.mem.sdram a 0 = smGet s.mem.sdram a 0) ∧
        u.mem.l2 = s.mem.l2 ∧ u.acts = s.acts ∧ u.firings = s.firings ∧ u.net = s.net))) ∧
  (∀ (s : State) (t n : Nat) (m : MFetch), s.dead = false → (s.mfetch.filter (fun x => decide (x.tile = t)))[n]? = some m →
    (s.mfetch.filter (fun x => decide (x.tile = t ∧ tagKey x.tok.tag = tagKey m.tok.tag))).head? = some m →
    (∀ a, s.act? (tagAct m.tok.tag) = some a → m.tok.inc ≠ (s.slotAt (tagSlot m.tok.tag)).inc) →
    Sys2Proof.Machine.exec (.spillFetch t n) s = .next { s with mfetch := s.mfetch.filter (fun x => decide (x ≠ m)) }) ∧
  (∀ (s : State) (t n : Nat) (m : MFetch) (a : Act) (e : MEntry), s.dead = false →
    (s.mfetch.filter (fun x => decide (x.tile = t)))[n]? = some m →
    (s.mfetch.filter (fun x => decide (x.tile = t ∧ tagKey x.tok.tag = tagKey m.tok.tag))).head? = some m →
    s.act? (tagAct m.tok.tag) = some a → a.state = .live → m.tok.inc = (s.slotAt (tagSlot m.tok.tag)).inc →
    s.mstFind t (tagKey m.tok.tag) a.inc State.isPair = some e → e.inStore = true →
    Sys2Proof.Machine.exec (.spillFetch t n) s = .next
      (({ s with mfetch := s.mfetch.filter (fun x => decide (x ≠ m)) }.meet t m.tok e).leaveOldest t).settle) ∧
  (∀ (s : State) (t n : Nat) (m : MFetch) (a : Act) (e : MEntry) (b c w : Nat), s.dead = false →
    (s.mfetch.filter (fun x => decide (x.tile = t)))[n]? = some m →
    (s.mfetch.filter (fun x => decide (x.tile = t ∧ tagKey x.tok.tag = tagKey m.tok.tag))).head? = some m →
    s.act? (tagAct m.tok.tag) = some a → a.state = .live → m.tok.inc = (s.slotAt (tagSlot m.tok.tag)).inc → e ∈ s.mst →
    e.tile = t → e.key = tagKey m.tok.tag → e.inc = a.inc → e.kind = .operand → e.place = .table b c false →
    (∀ x ∈ s.mst, x.tile = t → x.key = e.key → x = e) → FreeWay s t e.key w → e.at (tagPort m.tok.tag) = none →
    e.need.testBit (tagPort m.tok.tag) = true → e.count < 3 → (e.add (tagPort m.tok.tag) m.tok.tv).full = true →
    s.readyRoom t = true →
    Completes (.spillFetch t n) s (fun u => u.mfetch = s.mfetch.filter (fun x => decide (x ≠ m)) ∧
      u.rget (Reg.MST_FETCHES t) = s.rget (Reg.MST_FETCHES t) + 1 ∧ u.mst = s.mst.filter (fun x => decide (x ≠ e)) ∧
      ∃ f, u.firings = s.firings ++ [f] ∧ f.stage = .ready ∧ f.tile = t ∧ f.tag = m.tok.tag &&& ~~~3 ∧
        f.inL = (if tagPort m.tok.tag = 0 then some m.tok.tv else e.at 0) ∧
        f.inR = (if tagPort m.tok.tag = 1 then some m.tok.tv else e.at 1) ∧
        f.inC = (if tagPort m.tok.tag = 2 then some m.tok.tv else e.at 2))) ∧
  (∀ (s : State) (t : Nat), (s.tileAt t).oldest = false → Sys2Proof.Machine.exec (.reserveReload t) s = .next s) ∧
  (∀ (s : State) (t : Nat), s.dead = false → t < s.tiles.length → (s.tileAt t).oldest = true →
    (∀ e ∈ s.mst, e.tile = t → e.inReserve = true → s.isOldestWafer e.wafer = false) →
    Completes (.reserveReload t) s (fun u => (u.tileAt t).reload = false ∧ u.mst = s.mst)) ∧
  (∀ (s : State) (t w : Nat) (e : MEntry), s.dead = false → (s.tileAt t).oldest = true →
    s.mst.find? (fun e => decide (e.tile = t) && e.inReserve && s.isOldestWafer e.wafer) = some e → FreeWay s t e.key w →
    Completes (.reserveReload t) s (fun u => u.rget (Reg.MST_FETCHES t) = s.rget (Reg.MST_FETCHES t) + 1 ∧
      u.mst = s.mst.filter (fun x => decide (x ≠ e)) ++
        [{ e with place := .way (s.bankSet t e.key).1 (s.bankSet t e.key).2 w }])) ∧
  (∀ (s : State) (t k : Nat), s.dead = false → t < s.tiles.length → k < (s.tileAt t).det.length → s.dlState t k = .watch →
    (s.tileAt t).levels.window ≤ nth (s.tileAt t).detT k 0 →
    Completes (.deadlockWindowExpiry t k) s (fun u => nth (u.tileAt t).det k .idle = .confirm ∧ u.mst = s.mst ∧ u.csr = s.csr)) ∧
  (∀ (s : State) (t k : Nat), (s.dlState t k ≠ .watch ∨ nth (s.tileAt t).detT k 0 < (s.tileAt t).levels.window) →
    Sys2Proof.Machine.exec (.deadlockWindowExpiry t k) s = .next s) ∧
  (∀ (s : State) (t k : Nat), s.dead = false → t < s.tiles.length → k < (s.tileAt t).det.length →
    k < (s.tileAt t).detT.length → s.dlState t k = .confirm → s.slotBusy k = true →
    Completes (.deadlockConfirm t k) s (fun u => nth (u.tileAt t).det k .idle = .watch ∧ nth (u.tileAt t).detT k 0 = 0 ∧
      u.csr = s.csr ∧ u.acts = s.acts)) ∧
  (∀ (s : State) (t k : Nat), s.dead = false → s.dlState t k = .confirm → s.slotBusy k = false →
    let s1 := s.updTile t (fun x => { x with det := updAt x.det k (fun _ => .watch), detT := updAt x.detT k (fun _ => 0) })
    let acts := ((s.slotEntries t k).map (fun e => keyAct e.key)).eraseDups
    Sys2Proof.Machine.exec (.deadlockConfirm t k) s =
      .next ((acts.foldl (fun (s : State) a => s.quarantine a 1 t 2 0) s1).rinc (Reg.MST_DL_COUNT t))) ∧
  (∀ (s : State) (t k : Nat), s.dead = false → Completes (.mstPurgeWalk t k) s (fun u =>
    (∀ e ∈ u.mst, e ∈ s.mst) ∧ (∀ e ∈ u.mst, e.tile = t → keySlot e.key = k → e.inc = (s.slotAt k).inc) ∧
    (∀ e ∈ s.mst, ¬(e.tile = t ∧ keySlot e.key = k ∧ e.inc ≠ (s.slotAt k).inc) → e ∈ u.mst))) ∧
  (∀ (s : State) (t n c : Nat) (e : Codeword), d144Check e = .clean → Sys2Proof.Machine.exec (.mstEccError t n c e) s = .next s) ∧
  (∀ (s : State) (t n c j : Nat) (e : Codeword) (m : BitVec 4) (x : MEntry), s.dead = false →
    (s.mst.filter (fun y => decide (y.tile = t)))[n]? = some x → d144Check e = .corrected j m →
    Completes (.mstEccError t n c e) s (fun u => u.mst = s.mst ∧
      u.rget (Reg.MST_ECC_CE t) = s.rget (Reg.MST_ECC_CE t) + 1))

/-- FIRING_COMMIT of an executed firing of the current incarnation without effects beside its stores and tokens takes
the firing away, gives its stores to the store buffer and its tokens to the network with the next commit number, and
counts it; a firing of an older incarnation is discarded with no store and no token. STORE_DRAIN performs the oldest
committed store of a PE, whose bytes are then in the scratch window or in uncached SDRAM and no other byte changes;
EVENT_BUFFER_DRAIN performs the oldest event once no store of an earlier or the same commit and no earlier event of
its activation waits, and nothing before. DISPATCH_GRANT to one asking PE with one ready firing dispatches it there,
READY_QUEUE_ADMIT makes the held complete entry a ready firing, and ACT_ID_RETURN frees an ID with no token, store or
event left. -/
def Obligations.FiringsAreGrantedAndCommit : Prop :=
  (∀ (s : State) (n : Nat) (f : Firing) (a : Act), s.dead = false → s.firing? n = some f → f.stage = .executed →
    s.act? f.act = some a → f.inc = (s.slotAt f.slot).inc → f.effects = [] → f.iw.opc < 0x3C0 → f.iw.opc ≠ 0x280 → f.tile < 16 →
    f.pe < 17 → s.tileFenced f.tile = false → s.egressFull f = false →
    Completes (.firingCommit n) s (fun u => u.cseq = s.cseq + 1 ∧ (∀ g ∈ u.firings, g.id ≠ f.id) ∧
      u.storeBuf = s.storeBuf ++ f.stores.map (fun st => ⟨f.tile, f.pe, s.cseq + 1, f.act, f.slot, f.inc, f.wafer, st⟩) ∧
      u.eventBuf = s.eventBuf ∧ u.mem = s.mem ∧
      carried u.net = carried s.net ++ f.outs.map (fun o => (o.tag, o.tv)) ∧
      (∀ x ∈ u.net.drop s.net.length, x.barrier = s.cseq + 1 ∧ x.inc = f.inc ∧ x.seq = 0 ∧ x.srcTile = f.tile ∧ x.srcPe = f.pe) ∧
      u.rget (Reg.PEX_FIRED f.tile f.pe) = (s.rget (Reg.PEX_FIRED f.tile f.pe)) + 1 ∧
      u.rget (Reg.TIL_FIRINGS f.tile) = (s.rget (Reg.TIL_FIRINGS f.tile)) + 1)) ∧
  (∀ (s : State) (n : Nat) (f : Firing) (a : Act), s.dead = false → s.firing? n = some f → f.stage = .executed →
    s.act? f.act = some a → f.inc ≠ (s.slotAt f.slot).inc → f.granted = none →
    s.tileFenced f.tile = false → s.egressFull f = false → s.maintWaits f = false →
    (∀ l ∈ s.locks, ∀ w ∈ l.waiters, w.firing ≠ f.id + 1) →
    Completes (.firingCommit n) s (fun u => (∀ g ∈ u.firings, g.id ≠ f.id) ∧ u.storeBuf = s.storeBuf ∧ carried u.net = carried s.net ∧
      u.eventBuf = s.eventBuf ∧ u.mem = s.mem ∧ u.cseq = s.cseq)) ∧
  (∀ (s : State) (t p : Nat) (b : SbEntry), s.dead = false → s.storeBuf.find? (fun b => decide (b.tile = t ∧ b.pe = p)) = some b →
    Sys2Proof.Machine.exec (.storeDrain t p) s = .next ({ s with storeBuf := s.storeBuf.erase b }.performStore b).settle) ∧
  (∀ (s : State) (t p : Nat) (b : SbEntry), s.dead = false → s.storeBuf.find? (fun b => decide (b.tile = t ∧ b.pe = p)) = some b →
    b.st.device = s.localId → b.st.cell = none → b.st.addr % 64 + b.st.bytes.length ≤ 64 → 0 < b.st.bytes.length → s.journalled b.st.addr = false →
    (s.addrKind b.st.addr = .scratch → Completes (.storeDrain t p) s (fun u => u.storeBuf = s.storeBuf.erase b ∧
      smBytes u.mem.scratch 0 b.st.addr b.st.bytes.length = b.st.bytes ∧ u.mem.sdram = s.mem.sdram ∧
      ∀ x, ¬(b.st.addr ≤ x ∧ x < b.st.addr + b.st.bytes.length) → smGet u.mem.scratch x 0 = smGet s.mem.scratch x 0)) ∧
    (s.addrKind b.st.addr = .sdram → (s.sdramAttr b.st.addr).1 = 2 → Completes (.storeDrain t p) s (fun u =>
      u.storeBuf = s.storeBuf.erase b ∧ smBytes u.mem.sdram 0 b.st.addr b.st.bytes.length = b.st.bytes ∧ u.mem.scratch = s.mem.scratch ∧
      ∀ x, ¬(b.st.addr ≤ x ∧ x < b.st.addr + b.st.bytes.length) → smGet u.mem.sdram x 0 = smGet s.mem.sdram x 0))) ∧
  (∀ (s : State) (t p : Nat) (e : EbEntry), s.dead = false →
    s.eventBuf.find? (fun b => decide (b.tile = t ∧ b.pe = p)) = some e →
    let waits := s.storeBuf.any (fun b => decide (b.tile = t ∧ b.pe = p ∧ b.seq ≤ e.seq)) ||
      s.eventBuf.any (fun x => decide (x.act = e.act ∧ x.inc = e.inc ∧ x.seq < e.seq))
    (waits = true → Sys2Proof.Machine.exec (.eventBufferDrain t p) s = .next s) ∧
    (waits = false → Sys2Proof.Machine.exec (.eventBufferDrain t p) s = .next
        ({ s with eventBuf := s.eventBuf.erase e }.performEvent e).wakeChannel.rewindDead.settle)) ∧
  (∀ (s : State) (t p : Nat) (f : Firing) (a : Act), s.dead = false → s.tileLive t = true →
    ((List.range 17).map (fun k => ((s.tileAt t).rr + k) % 17)).filter (s.asking t) = [p] → (s.tileAt t).oldest = false → s.tileFenced t = false → s.firings = [f] → f.tile = t → f.stage = .ready →
    s.act? f.act = some a → a.state = .live →
    Completes (.dispatchGrant t) s (fun u => ∃ g, u.firings = [g] ∧ g.id = f.id ∧ g.stage = .dispatched ∧ g.pe = p ∧
      g.inL = f.inL ∧ g.inR = f.inR ∧ g.inC = f.inC ∧ u.net = s.net ∧ u.mst = s.mst)) ∧
  (∀ (s : State) (t : Nat) (e : MEntry) (a : Act), s.dead = false → s.readyRoom t = true →
    s.mst.find? (fun e => decide (e.tile = t ∧ e.kind = .complete) && e.inStore) = some e → s.act? (keyAct e.key) = some a →
    Completes (.readyQueueAdmit t) s (fun u => ∃ f, u.firings = s.firings ++ [f] ∧ f.stage = .ready ∧ f.tile = t ∧
      f.inL = e.at 0 ∧ f.inR = e.at 1 ∧ f.inC = e.at 2 ∧ ∀ x ∈ u.mst, x ≠ e)) ∧
  (∀ (s : State) (id : Nat) (a : Act), s.dead = false → s.act? id = some a → a.state ≠ .live → s.hasTokens id = false →
    (∀ b ∈ s.storeBuf, b.act ≠ id) → (∀ b ∈ s.eventBuf, b.act ≠ id) →
    Completes (.actIdReturn id) s (fun u => u.act? id = none ∧ u.storeBuf = s.storeBuf)) ∧
  (∀ (s : State) (id : Nat), (s.act? id = none ∨ s.hasTokens id = true) → Sys2Proof.Machine.exec (.actIdReturn id) s = .next s)

/-- PE_RETIRE with bit 0 of an IN_SERVICE PE on a tile that has a spare sets the PE to RETIRING and its request bit;
without a spare it sets REJ alone. PE_RETIRE_COMPLETE with no firing in flight puts the spare into service, takes the
PE out of the pool as RETIRED, and leaves no spare. STATCLR with bit 4 clears TIL_FIRINGS and TIL_LOOKUPS. -/
def Obligations.RetirementAndStatisticsCommands : Prop :=
  (∀ (s : State) (m t p : Nat) (v : Word), s.mayWrite m = true → bit v 0 = true → s.rfld (Reg.PEX_STATUS t p) 3 0 = 0 →
    s.rfld (Reg.TIL_SPARE t) 4 0 ≠ 0x1F → Sys2Proof.Machine.exec (.peRetire m t p v) s =
      .next ((s.rsetFld (Reg.PEX_STATUS t p) 3 0 2).rsetBit (Reg.PEX_CTRL t p) 0 true)) ∧
  (∀ (s : State) (m t p : Nat) (v : Word), s.mayWrite m = true → bit v 0 = true → s.rfld (Reg.TIL_SPARE t) 4 0 = 0x1F →
    Sys2Proof.Machine.exec (.peRetire m t p v) s = .next (s.rsetBit (Reg.PEX_STATUS t p) 16 true)) ∧
  (∀ (s : State) (t p : Nat), s.dead = false → t < 16 → p < 17 → s.rfld (Reg.TIL_SPARE t) 4 0 < 17 →
    s.rfld (Reg.TIL_SPARE t) 4 0 ≠ p → (∀ j ∈ s.recOpen, ¬(j.mech = 2 ∧ j.a = t ∧ j.b = p)) → s.rbit (Reg.PEX_CTRL t p) 0 = true → s.rfld (Reg.PEX_STATUS t p) 3 0 = 2 →
    s.inflight t p = 0 →
    Completes (.peRetireComplete t p) s (fun u => u.rfld (Reg.PEX_STATUS t p) 3 0 = 3 ∧
      u.rfld (Reg.PEX_STATUS t (s.rfld (Reg.TIL_SPARE t) 4 0)) 3 0 = 0 ∧ u.rbit (Reg.TIL_POOL t) p = false ∧
      u.rbit (Reg.TIL_POOL t) (s.rfld (Reg.TIL_SPARE t) 4 0) = true ∧ u.rget (Reg.TIL_SPARE t) = 0x1F ∧
      u.rbit (Reg.PEX_CTRL t p) 0 = false ∧ u.firings = s.firings ∧ u.mem = s.mem)) ∧
  (∀ (s : State) (t p : Nat), 0 < s.inflight t p → Sys2Proof.Machine.exec (.peRetireComplete t p) s = .next s) ∧
  (∀ (s : State) (m t : Nat) (v : Word), t < 16 → s.mayWrite m = true → bit v 4 = true →
    Completes (.statclr m t v) s (fun u => u.rget (Reg.TIL_FIRINGS t) = 0 ∧ u.rget (Reg.TIL_LOOKUPS t) = 0 ∧
      (∀ p < 17, u.rget (Reg.PEX_FIRED t p) = 0 ∧ u.rget (Reg.PEX_RETRY t p) = 0) ∧ u.firings = s.firings ∧ u.mem = s.mem))

/-- A parity error on a fetch marks the word BAD and asks the recovery sequencer for its rewrite, whether it lies in
the fetch path or in the stored bits; an even change of a group is not found. The repair of a word whose stored parity
is right counts a path error and rewrites nothing; the repair of a wrong word puts the master copy's word into the
store and counts it. Either way the word is no longer BAD. The scrub, when its interval has passed, reads one word and
moves on, and puts the master copy's word in place of a wrong one. UCS_RELOAD sets the reload bit and starts at word
0, and its end leaves every word of the tile from where it stands on equal to the master copy, and the other words as
they were. -/
def Obligations.ControlStoreCommands : Prop :=
  (∀ (s : State) (t a n : Nat) (f : Firing), s.dead = false → t < 16 → s.firing? n = some f → f.tile = t → f.stage = .dispatched →
    State.isMicro f.iw.opc = true → (∀ b ∈ s.ucsBad, ¬(b.tile = t ∧ b.addr = a)) → s.recQ.length < 16 →
    Completes (.ucsFetchParityError t a n 0) s (fun u => u.firings = s.firings ∧ u.ucsWord t a = s.ucsWord t a ∧
      u.ucsBad = s.ucsBad ++ [{ tile := t, addr := a, pe := f.pe, firing := n, path := true, scrub := false }] ∧
      ∃ j, u.recQ = s.recQ ++ [j] ∧ j.mech = 3 ∧ j.a = t ∧ j.b = a)) ∧
  (∀ (s : State) (t a n : Nat) (f : Firing) (flips : MicroWord), s.dead = false → t < 16 → s.firing? n = some f → f.tile = t →
    f.stage = .dispatched → State.isMicro f.iw.opc = true → (∀ b ∈ s.ucsBad, ¬(b.tile = t ∧ b.addr = a)) → s.recQ.length < 16 →
    flips ≠ 0 → parityBad (s.ucsWord t a ^^^ flips) ≠ 0 →
    Completes (.ucsFetchParityError t a n flips) s (fun u => u.firings = s.firings ∧ u.ucsWord t a = s.ucsWord t a ^^^ flips ∧
      u.ucsBad = s.ucsBad ++ [{ tile := t, addr := a, pe := f.pe, firing := n, path := false, scrub := false }] ∧
      ∃ j, u.recQ = s.recQ ++ [j] ∧ j.mech = 3 ∧ j.a = t ∧ j.b = a)) ∧
  (∀ (s : State) (t a n : Nat) (f : Firing) (flips : MicroWord), s.dead = false → s.firing? n = some f → f.tile = t →
    f.stage = .dispatched → State.isMicro f.iw.opc = true → (∀ b ∈ s.ucsBad, ¬(b.tile = t ∧ b.addr = a)) → flips ≠ 0 →
    parityBad (s.ucsWord t a ^^^ flips) = 0 →
    Sys2Proof.Machine.exec (.ucsFetchParityError t a n flips) s = .next (s.setUcs t a (s.ucsWord t a ^^^ flips))) ∧
  (∀ (s : State) (t a : Nat) (j : RecJob) (b : UcsBad), t < 16 → s.curJob 3 t a = some j →
    s.ucsBad.find? (fun b => decide (b.tile = t ∧ b.addr = a)) = some b → parityBad (s.ucsWord t a) = 0 →
    (∀ m ∈ s.marks, m.kind ≠ 4) → ∀ ok,
    Completes (.ucsWordRepair t a ok) s (fun u => u.ucs = s.ucs ∧ u.ucsBad = s.ucsBad.filter (fun x => decide (x ≠ b)) ∧
      u.recCur = none ∧ u.rget (Reg.UCS_PATHERR t) = s.rget (Reg.UCS_PATHERR t) + 1)) ∧
  (∀ (s : State) (t a : Nat) (j : RecJob) (b : UcsBad), t < 16 → s.curJob 3 t a = some j →
    s.ucsBad.find? (fun b => decide (b.tile = t ∧ b.addr = a)) = some b → parityBad (s.ucsWord t a) ≠ 0 →
    (∀ m ∈ s.marks, m.kind ≠ 3) →
    Completes (.ucsWordRepair t a true) s (fun u => u.ucsWord t a = smGet s.ucsMaster a 0 ∧
      u.ucsBad = s.ucsBad.filter (fun x => decide (x ≠ b)) ∧ u.recCur = none ∧
      u.rget (Reg.UCS_PERR t) = s.rget (Reg.UCS_PERR t) + 1 ∧ u.rget (Reg.UCS_RELOADS t) = s.rget (Reg.UCS_RELOADS t) + 1)) ∧
  (∀ (s : State) (t : Nat) (ok : Bool), s.dead = false → s.rbit (Reg.UCS_CTRL t) 0 = true →
    (s.tileAt t).scrubAt ≤ s.clock → parityBad (s.ucsWord t (s.rfld (Reg.UCS_SCRUB_POS t) 11 0)) = 0 →
    Completes (.ucsScrubRead t 0 ok) s (fun u => (∀ x y, u.ucsWord x y = s.ucsWord x y) ∧
      u.rget (Reg.UCS_SCRUB_POS t) = w64 ((s.rfld (Reg.UCS_SCRUB_POS t) 11 0 + 1) % 4096) ∧
      (∀ r, r ≠ Reg.UCS_SCRUB_POS t → u.rget r = s.rget r))) ∧
  (∀ (s : State) (t : Nat) (flips : MicroWord), s.dead = false → t < 16 → s.rbit (Reg.UCS_CTRL t) 0 = true →
    (s.tileAt t).scrubAt ≤ s.clock → parityBad (s.ucsWord t (s.rfld (Reg.UCS_SCRUB_POS t) 11 0) ^^^ flips) ≠ 0 → (∀ m ∈ s.marks, m.kind ≠ 3) →
    Completes (.ucsScrubRead t flips true) s (fun u =>
      u.ucsWord t (s.rfld (Reg.UCS_SCRUB_POS t) 11 0) = smGet s.ucsMaster (s.rfld (Reg.UCS_SCRUB_POS t) 11 0) 0 ∧
      u.rget (Reg.UCS_PERR t) = s.rget (Reg.UCS_PERR t) + 1)) ∧
  (∀ (s : State) (m t : Nat) (v : Word), s.mayWrite m = true → t < s.tiles.length → bit v 1 = true →
    s.rbit (Reg.UCS_CTRL t) 1 = false →
    Completes (.ucsReload m t v) s (fun u => u.rbit (Reg.UCS_CTRL t) 1 = true ∧ u.rbit (Reg.UCS_STATUS t) 4 = true ∧
      (u.tileAt t).reloadPos = 0 ∧ u.ucs = s.ucs)) ∧
  (∀ (s : State) (t : Nat), s.dead = false → t < 16 → s.rbit (Reg.UCS_CTRL t) 1 = true →
    (∀ b ∈ s.ucsBad, b.tile ≠ t) → smWf (fun _ => 0) s.ucsMaster →
    Completes (.ucsReloadDone t) s (fun u => (∀ a < 4096, u.ucsWord t a =
        if (s.tileAt t).reloadPos ≤ a then smGet s.ucsMaster a 0 else s.ucsWord t a) ∧
      (∀ x a, x ≠ t → u.ucsWord x a = s.ucsWord x a) ∧ u.rbit (Reg.UCS_CTRL t) 1 = false))

/-- A CLEAN, INVAL, CLINV, PIN or UNPIN command for one line of SDRAM, while no operation is in progress, makes that
operation stand with BUSY set and changes no line; PIN and UNPIN need the line in a cached region. While BUSY is set a
command only sets the status bit of a refused command. When the operation on line n completes, BUSY is 0 and nothing
stands: after CLEAN no frame of the line is dirty and SDRAM holds the data of a frame that was; after INVAL or CLINV
no frame of the line is valid; after UNPIN no frame of the line is bound. -/
def Obligations.CacheMaintenanceActsOnItsLines : Prop :=
  (∀ (s : State) (m : Nat) (v : Word), s.mayWrite m = true → s.rbit Reg.L2C_MNT_STATUS 63 = false → fld v 7 4 = 0 →
    s.rfld Reg.L2C_MNT_ADDR 47 6 * 64 + 64 ≤ s.sdramTop →
    Completes (.mntClean m v) s (fun u => Maintains s u 1) ∧
    Completes (.mntInval m v) s (fun u => Maintains s u 2) ∧
    Completes (.mntClinv m v) s (fun u => Maintains s u 3) ∧
    (s.cachedRange (s.rfld Reg.L2C_MNT_ADDR 47 6 * 64) (s.rfld Reg.L2C_MNT_ADDR 47 6 * 64 + 64) = true →
      Completes (.mntPin m v) s (fun u => Maintains s u 4) ∧
      Completes (.mntUnpin m v) s (fun u => Maintains s u 5))) ∧
  (∀ (s : State) (m : Nat) (v : Word), s.mayWrite m = true → s.rbit Reg.L2C_MNT_STATUS 63 = true → ∀ c : Nat → Word → Instr,
    (c = .mntClean ∨ c = .mntInval ∨ c = .mntClinv ∨ c = .mntPin ∨ c = .mntUnpin) →
    Sys2Proof.Machine.exec (c m v) s = .next (s.rsetBit Reg.L2C_STATUS 1 true)) ∧
  (∀ (s : State) (n op : Nat), s.mem.maint = some ⟨op, n, n + 1, none⟩ → (∀ f ∈ s.mem.fills, f.line ≠ n) → op ≠ 4 →
    Completes .mntComplete s (fun u => u.mem.maint = none ∧
      u.rget Reg.L2C_MNT_STATUS = w64 ((n + 1) % 2 ^ 42 * 64) ∧
      (op = 1 → ∀ f ∈ u.mem.l2, f.line = n → f.valid = true → f.dirty = false) ∧
      ((op = 2 ∨ op = 3) → ∀ f ∈ u.mem.l2, f.line = n → f.valid = false) ∧
      (op = 5 → ∀ f ∈ u.mem.l2, f.line = n → f.bound = false))) ∧
  (∀ (s : State) (n : Nat) (f : L2Line), s.mem.maint = some ⟨1, n, n + 1, none⟩ → (∀ x ∈ s.mem.fills, x.line ≠ n) →
    s.mem.l2.filter (fun x => decide (n ≤ x.line ∧ x.line < n + 1)) = [f] → f.valid = true → f.dirty = true →
    Completes .mntComplete s (fun u => smBytes u.mem.sdram 0 (n * 64) 64 = natToBytes 64 f.data.toNat)) ∧
  (∀ s : State, s.mem.maint = none → Sys2Proof.Machine.exec .mntComplete s = .next s)

/-- L2C_LOCK_WRITE during service only sets the slice's status bit; before service, unlocked, it leaves the lock and
mode bits of the 12 ways. A request to switch one group of ways off waits where the group has no locked way and
another way stays, and is refused otherwise; the end of the wait takes the group's status bit and the request away. A
fill that completes wakes the loads of its PE that wait for a fill, and that of a load into L1 leaves the line in the
PE's L1. -/
def Obligations.WayLocksPowerAndFills : Prop :=
  (∀ (s : State) (m t : Nat) (v : Word), s.mayWrite m = true → s.running = true →
    Sys2Proof.Machine.exec (.l2cLockWrite m t v) s = .next (s.rsetBit (Reg.L2C_SLICE_STATUS t) 3 true)) ∧
  (∀ (s : State) (m t : Nat) (v : Word), s.mayWrite m = true → s.running = false → s.locked = false →
    Completes (.l2cLockWrite m t v) s (fun u => u.rget (Reg.L2C_LOCK t) = v &&& 0x00000FFF00000FFF)) ∧
  (∀ (s : State) (m t g : Nat) (v : Word), s.mayWrite m = true → g < 3 →
    (∀ i < 3, i ≠ g → s.rbit (Reg.L2C_WGPWR t) i = bit v i) → s.rbit (Reg.L2C_WGPWR t) g = true → bit v g = false →
    (∀ i < 4, s.wayLocked t (4 * g + i) = false) → s.waysWithout t g ≠ [] →
    Completes (.wayGroupPowerRequest m t v) s (fun u => u.mem.groupReq = s.mem.groupReq ++ [(t, g, true)] ∧
      u.rbit (Reg.L2C_WGPWR t) g = false ∧ u.mem.l2 = s.mem.l2)) ∧
  (∀ (s : State) (m t g : Nat) (v : Word), s.mayWrite m = true → g < 3 →
    (∀ i < 3, i ≠ g → s.rbit (Reg.L2C_WGPWR t) i = bit v i) → s.rbit (Reg.L2C_WGPWR t) g = true → bit v g = false →
    ((∃ i < 4, s.wayLocked t (4 * g + i) = true) ∨ s.waysWithout t g = []) →
    Sys2Proof.Machine.exec (.wayGroupPowerRequest m t v) s =
      .next ((s.rsetBit (Reg.L2C_SLICE_STATUS t) 0 true).rsetBit Reg.PWR_STATUS 2 true)) ∧
  (∀ (s : State) (t g : Nat), g < 4 → s.mem.groupReq.contains (t, g, true) = true →
    Completes (.wayGroupPowerDownDone t g) s (fun u => u.rbit (Reg.L2C_WGPWR t) (4 + g) = false ∧
      u.mem.groupReq.contains (t, g, true) = false ∧ (∀ f ∈ u.mem.l2, f.slice = t → f.way / 4 ≠ g))) ∧
  (∀ (s : State) (t g : Nat), s.mem.groupReq.contains (t, g, true) = false →
    Sys2Proof.Machine.exec (.wayGroupPowerDownDone t g) s = .next s) ∧
  (∀ (s : State) (n : Nat) (f : Fill), s.mem.fills[n]? = some f →
    Completes (.l2FillComplete n) s (fun u => u.mem.fills = s.mem.fills.eraseIdx n ∧
      (∀ x ∈ u.firings, x.tile = f.tile → x.pe = f.pe → x.wait ≠ .fill) ∧
      (f.l1 = true → ∃ x ∈ u.mem.l1d, x.tile = f.tile ∧ x.pe = f.pe ∧ x.line = f.line)))

/-- A store within one line to uncached SDRAM or to the scratch window is read back by a snooped load of the same
bytes, and every byte outside it reads as before. A store to a cached line that the L2 holds, in a powered way, is
read back too, and leaves SDRAM as it was under write-back. A PE that had the line in its L1 and made the store sees
the new bytes there, and no other PE keeps a copy. -/
def Obligations.StoresAreSeenByLoads : Prop :=
  (∀ (s : State) (own : Option (Nat × Nat)) (a : Nat) (bs : List Byte), a % 64 + bs.length ≤ 64 → s.addrKind a = .sdram →
    (s.sdramAttr a).1 = 2 → (s.storeLine own a bs).viewLine a bs.length = bs ∧
    (∀ b, ¬(a ≤ b ∧ b < a + bs.length) → smGet (s.storeLine own a bs).mem.sdram b 0 = smGet s.mem.sdram b 0) ∧
    (s.storeLine own a bs).mem.l2 = s.mem.l2 ∧ (s.storeLine own a bs).mem.scratch = s.mem.scratch) ∧
  (∀ (s : State) (own : Option (Nat × Nat)) (a : Nat) (bs : List Byte), a % 64 + bs.length ≤ 64 → s.addrKind a = .scratch →
    (s.storeLine own a bs).viewLine a bs.length = bs ∧
    (∀ b, ¬(a ≤ b ∧ b < a + bs.length) → smGet (s.storeLine own a bs).mem.scratch b 0 = smGet s.mem.scratch b 0) ∧
    (s.storeLine own a bs).mem.sdram = s.mem.sdram ∧ (s.storeLine own a bs).mem.l2 = s.mem.l2) ∧
  (∀ (s : State) (own : Option (Nat × Nat)) (a : Nat) (bs : List Byte) (f : L2Line), a % 64 + bs.length ≤ 64 →
    s.addrKind a = .sdram → (s.sdramAttr a).1 = 0 → s.l2Get (a / 64) = some f → s.groupFills (homeSlice a) (f.way / 4) = true →
    (s.storeLine own a bs).viewLine a bs.length = bs ∧ (s.storeLine own a bs).mem.sdram = s.mem.sdram) ∧
  (∀ (s : State) (own : Option (Nat × Nat)) (a : Nat) (bs : List Byte),
    (s.addrKind a = .scratch ∨ (s.addrKind a = .sdram ∧ (s.sdramAttr a).1 = 2)) →
    (∀ x ∈ (s.storeLine own a bs).mem.l1d, x.line = a / 64 → some (x.tile, x.pe) = own) ∧
    (∀ x ∈ s.mem.l1d, x.line = a / 64 → some (x.tile, x.pe) = own →
      { x with data := linePut x.data (a % 64) bs } ∈ (s.storeLine own a bs).mem.l1d) ∧
    (∀ x ∈ s.mem.l1d, x.line ≠ a / 64 → x ∈ (s.storeLine own a bs).mem.l1d))

/-- A clean codeword changes nothing but a scrub's position. A corrected SDRAM codeword counts in SDC_ECC_CE; an
uncorrectable one that reads clean again counts in SDC_REREAD, and one that does not counts in SDC_ECC_UE and stops
the device with C4, but in a spilled entry's image asks for the replay of the entry's wafer; the patrol only counts
and flags it. A corrected L2 word counts in L2C_ECC_CE; an uncorrectable word of a clean frame is loaded again from
SDRAM, that of a dirty frame or of a tag is C4. An L1 line with an uncorrectable word is dropped. A good population is
taken by SDC_CFG with training pending, a bad one only flags, and training sets the capacity. A refresh changes
nothing; its rate is shown per channel. -/
def Obligations.MemoryErrorsAndController : Prop :=
  (∀ (s : State) (t p : Nat) (e : Codeword), d144Check e = .clean → s.rbit Reg.L2C_CTRL 0 = true → s.power.doze < 3 →
    s.scrubFrom t (s.rget (Reg.L2C_SCRUB_POS t)).toNat = some p →
    Sys2Proof.Machine.exec (.l2ScrubRead t e) s =
      .next (s.rset (Reg.L2C_SCRUB_POS t) (w64 ((s.scrubFrom t ((p + 1) % 65536)).getD ((p + 1) % 65536))))) ∧
  (∀ (s : State) (c : Nat) (e : Codeword), s.rbit Reg.SDC_CTRL 0 = true → s.rbit Reg.SDC_STATUS 0 = true → s.power.doze < 3 →
    Completes (.sdramPatrolRead c e) s (fun u => u.mem = s.mem ∧ u.recQ = s.recQ ∧ u.dead = s.dead ∧
      u.rget Reg.SDC_SCRUB_POS = w64 (if (s.rget Reg.SDC_SCRUB_POS).toNat + 128 < (s.rget Reg.SDC_CAPACITY).toNat / 4
        then (s.rget Reg.SDC_SCRUB_POS).toNat + 128 else 0) ∧
      (d144Check e = .clean → ∀ a, a ≠ Reg.SDC_SCRUB_POS → u.rget a = s.rget a) ∧
      (d144Check e = .uncorrectable → u.rget Reg.SDC_ECC_UE = s.rget Reg.SDC_ECC_UE + 1 ∧ u.rbit Reg.SDC_STATUS 1 = true))) ∧
  (∀ (s : State) (t w set j : Nat) (e : Codeword) (m : BitVec 4), t < 16 → d144Check e = .corrected j m →
    (∀ x ∈ s.marks, x.kind ≠ 1) →
    Completes (.l2EccError 2 t w set e) s (fun u => u.mem = s.mem ∧ u.dead = s.dead ∧
      u.rget (Reg.L2C_ECC_CE t) = s.rget (Reg.L2C_ECC_CE t) + 1)) ∧
  (∀ (s : State) (t w set : Nat) (e : Codeword) (f : L2Line), t < 16 → d144Check e = .uncorrectable →
    s.wayScratch t w = false → s.l2At t set w = some f → f.valid = true → f.dirty = false →
    Completes (.l2EccError 2 t w set e) s (fun u => u.dead = s.dead ∧ u.mem.sdram = s.mem.sdram ∧
      u.l2At t set w = some { f with data := (s.sdLine f.line).1 })) ∧
  (∀ (s : State) (t w set : Nat) (e : Codeword) (f : L2Line), t < 16 → d144Check e = .uncorrectable →
    s.l2At t set w = some f → f.valid = true → f.dirty = true → Completes (.l2EccError 2 t w set e) s (fun u => u.dead = true)) ∧
  (∀ (s : State) (t w set : Nat) (e : Codeword), t < 16 → d144Check e = .uncorrectable →
    Completes (.l2EccError 3 t w set e) s (fun u => u.dead = true)) ∧
  (∀ (s : State) (t p line : Nat) (e : Codeword), t < 16 → d144Check e = .uncorrectable →
    Completes (.l2EccError 1 t p line e) s (fun u => (∀ x ∈ u.mem.l1d, ¬(x.tile = t ∧ x.pe = p ∧ x.line = line)) ∧
      u.mem.l2 = s.mem.l2 ∧ u.mem.sdram = s.mem.sdram ∧ u.dead = s.dead)) ∧
  (∀ (s : State) (a j : Nat) (e e2 : Codeword) (m : BitVec 4), d144Check e = .corrected j m →
    Completes (.sdramEccError a e e2) s (fun u => u.mem = s.mem ∧ u.dead = s.dead ∧
      u.rget Reg.SDC_ECC_CE = s.rget Reg.SDC_ECC_CE + 1 ∧ u.rget (Reg.SDC_CH_LASTSYM (sdChannel a)) = w64 j)) ∧
  (∀ (s : State) (a : Nat) (e e2 : Codeword), d144Check e = .uncorrectable → d144Check e2 = .uncorrectable →
    s.spillImage a = none → Completes (.sdramEccError a e e2) s (fun u => u.dead = true ∧
      u.rget Reg.SDC_ECC_UE = s.rget Reg.SDC_ECC_UE + 1)) ∧
  (∀ (s : State) (a t : Nat) (slots : List Nat) (e e2 : Codeword), d144Check e = .uncorrectable → d144Check e2 = .uncorrectable →
    s.spillImage a = some (t, false, slots) → s.recQ.length < 16 → slots.any s.replayLimit = false →
    Completes (.sdramEccError a e e2) s (fun u => u.dead = s.dead ∧ u.mem = s.mem ∧
      u.rget Reg.SDC_ECC_UE = s.rget Reg.SDC_ECC_UE + 1 ∧ ∃ j, u.recQ = s.recQ ++ [j] ∧ j.mech = 5 ∧ j.cls = 2 ∧ j.slots = slots)) ∧
  (∀ (s : State) (a : Nat) (e e2 : Codeword), d144Check e = .uncorrectable → d144Check e2 = .clean →
    Completes (.sdramEccError a e e2) s (fun u => u.dead = s.dead ∧ u.mem = s.mem ∧
      u.rget Reg.SDC_REREAD = s.rget Reg.SDC_REREAD + 1)) ∧
  (∀ (s : State) (a : Nat) (e e2 : Codeword), d144Check e = .clean → Sys2Proof.Machine.exec (.sdramEccError a e e2) s = .next s) ∧
  (∀ (s : State) (m : Nat) (v : Word), s.mayWrite m = true → s.running = false → s.locked = false →
    State.channelGiB v ≠ 0 →
    Completes (.sdcCfgWrite m v) s (fun u => u.rget Reg.SDC_CFG = v &&& 0x00000000000CFE01 ∧ u.rget Reg.SDC_CAPACITY = 0 ∧
      u.rbit Reg.SDC_STATUS 0 = false ∧ u.mem = s.mem)) ∧
  (∀ (s : State) (m : Nat) (v : Word), s.mayWrite m = true → s.running = false → s.locked = false →
    State.channelGiB v = 0 →
    Completes (.sdcCfgWrite m v) s (fun u => u.rbit Reg.SDC_CFG 0 = false ∧ u.rbit Reg.SDC_STATUS 3 = true)) ∧
  (∀ s : State, s.rbit Reg.SDC_CFG 0 = true → s.rbit Reg.SDC_STATUS 0 = false →
    Completes .sdramTrainingDone s (fun u => u.rbit Reg.SDC_STATUS 0 = true ∧ u.rfld Reg.SDC_STATUS 7 4 = 15 ∧
      u.rget Reg.SDC_CAPACITY = w64 (4 * State.channelGiB (s.rget Reg.SDC_CFG) * 2 ^ 30) ∧
      (∀ c < 4, u.rfld (Reg.SDC_CH_STATUS c) 1 0 = 3))) ∧
  (∀ (s : State) (c : Nat), Sys2Proof.Machine.exec (.sdramRefresh c) s = .next s) ∧
  (∀ (s : State) (c : Nat) (d : Bool), c < 4 → Completes (.sdramRefreshRateChange c d) s (fun u =>
    u.rfld (Reg.SDC_CH_STATUS c) 3 2 = b2n d ∧
    (u.rbit Reg.SDC_STATUS 2 = true ↔ ∃ i < 4, u.rfld (Reg.SDC_CH_STATUS i) 3 2 = 1) ∧ u.mem = s.mem))

/-- SCHED_GRANT of a root request makes a LIVE activation with the lowest ID that no activation holds, for the
request's descriptor, slot, wafer and epoch, at the descriptor's level; the request leaves its list, and one start
token with the wafer number goes to the descriptor's entry, port L. Without a grantee nothing changes.
FLOW_ITEM_RELEASE moves the waiting item of a flow that has the lowest wafer number to its ready list, at its place by
arrival, when no item of the flow is in service, the flow is not held, and every older wafer in flight is COMPLETE,
and else changes nothing. FLOW_WAIT_WARNING sets its status bit once the item has waited for the set time, and before
that changes nothing. -/
def Obligations.TheSchedulerGrantsAndReleases : Prop :=
  (∀ (s : State) (r : StartReq) (e : Entry), s.dead = false → s.grantee = some r → s.reqEntry r = some e → r.root = true →
    Completes .schedGrant s (fun u => ∃ a, u.acts = a :: s.acts ∧ s.act? a.id = none ∧ (∀ j < a.id, (s.act? j).isSome = true) ∧
      a.state = .live ∧ a.desc = r.desc ∧
      a.slot = r.slot ∧ a.wafer = r.wafer ∧ a.epoch = r.epoch ∧ a.inc = r.inc ∧ a.base = e.prio ∧ a.eff = e.prio ∧
      a.mode = e.mode ∧ a.flags = 0 ∧ u.startReqs = s.startReqs.filter (fun q => decide (q ≠ r)) ∧
      carried u.net = carried s.net ++ [(mkTag s.localId a.id r.slot 0 e.entry 0,
        ⟨BitVec.ofNat 256 (r.wafer % 2 ^ 64), mkStatus 3 false false false 0⟩)] ∧
      u.net.map (·.inc) = s.net.map (·.inc) ++ [r.inc])) ∧
  (∀ s : State, s.grantee = none → Sys2Proof.Machine.exec .schedGrant s = .next s) ∧
  (∀ (s : State) (fl : Nat) (r : StartReq), s.dead = false → r ∈ s.flowQ → r.flow = some fl →
    (∀ x ∈ s.flowQ, x.flow = some fl → x = r ∨ r.wafer < x.wafer) →
    (s.flowBusy fl = false → s.flowHeld fl = false → (∀ k ∈ s.slots, k.state = 0 ∨ r.wafer ≤ k.wafer ∨ k.state = 2) →
      Sys2Proof.Machine.exec (.flowItemRelease fl) s = .next { s with
        flowQ := s.flowQ.filter (fun x => decide (x ≠ r)), startReqs := State.readyAt r s.startReqs }) ∧
    ((∃ k ∈ s.slots, k.state ≠ 0 ∧ k.state ≠ 2 ∧ k.wafer < r.wafer) → Sys2Proof.Machine.exec (.flowItemRelease fl) s = .next s)) ∧
  (∀ (s : State) (fl : Nat), (s.flowBusy fl = true ∨ s.flowHeld fl = true) →
    Sys2Proof.Machine.exec (.flowItemRelease fl) s = .next s) ∧
  (∀ (s : State) (n : Nat) (r : StartReq), s.dead = false → s.flowQ[n]? = some r → r.warned = false →
    r.arr + clampNat 100 1000000 (s.rfld Reg.SCH_FLOW_WARN 19 0) * 1000 ≤ s.now →
    Completes (.flowWaitWarning n) s (fun u => u.rbit Reg.SCH_STATUS 3 = true ∧ u.startReqs = s.startReqs ∧
      u.flowQ = s.flowQ.map (fun x => if x = r then { x with warned := true } else x))) ∧
  (∀ (s : State) (n : Nat) (r : StartReq), s.flowQ[n]? = some r →
    s.now < r.arr + clampNat 100 1000000 (s.rfld Reg.SCH_FLOW_WARN 19 0) * 1000 →
    Sys2Proof.Machine.exec (.flowWaitWarning n) s = .next s)

/-- For a master with no pending request: ACQ or TRY of a free lock gives it to the master's context, with the answer
ACQUIRED, or ABANDONED where the lock was marked; ACQ of a lock held by another waits, PENDING, behind the requests
that wait, or is refused as CYCLE where waiting would close one; TRY of a lock held by another answers BUSY and moves
no lock. REL by the holder frees the lock and answers RELEASED, and the one master that waits for it, where there is
one, has it; HAND by the holder gives it to the named context and answers HANDED; both answer OWNER to anyone else and
move no lock. A request while one is pending only sets a status bit. CANCEL withdraws the pending request and answers
CANCELLED. A reset of a master frees and marks the locks it holds. -/
def Obligations.LockRequestsAnswerTheirMaster : Prop :=
  (∀ (s : State) (m : Nat) (v : Word) (c : Nat → Word → Instr), (c = .lkuAcq ∨ c = .lkuTry) → s.mayWrite m = true →
    (s.lkuRec m).state ≠ 1 → (s.lockAt (fld v 25 16)).holder = none → (s.lockAt (fld v 25 16)).withheld = false →
    (s.lockAt (fld v 25 16)).waiters = [] →
    Completes (c m v) s (fun u => (u.lockAt (fld v 25 16)).holder = some ⟨m, fld v 15 0⟩ ∧
      (u.lockAt (fld v 25 16)).aband = false ∧ (u.lkuRec m).state = 2 ∧
      (u.lkuRec m).rstat = (if (s.lockAt (fld v 25 16)).aband then 1 else 0) ∧
      u.rget Reg.LKU_ACQS = s.rget Reg.LKU_ACQS + 1)) ∧
  (∀ (s : State) (m : Nat) (v : Word) (o : Owner), s.mayWrite m = true → (s.lkuRec m).state ≠ 1 →
    (s.lockAt (fld v 25 16)).holder = some o → o ≠ ⟨m, fld v 15 0⟩ →
    Completes (.lkuTry m v) s (fun u => u.locks = s.locks ∧ (u.lkuRec m).state = 2 ∧ (u.lkuRec m).rstat = 2) ∧
    (State.lockCycle s.chainMax s (fld v 25 16) ⟨m, fld v 15 0⟩ = false → m < 0x400 →
      Completes (.lkuAcq m v) s (fun u => (u.lockAt (fld v 25 16)).holder = some o ∧ (u.lkuRec m).state = 1 ∧
        (u.lockAt (fld v 25 16)).waiters = (s.lockAt (fld v 25 16)).waiters ++ [⟨⟨m, fld v 15 0⟩, fld v 31 28, 0⟩])) ∧
    (State.lockCycle s.chainMax s (fld v 25 16) ⟨m, fld v 15 0⟩ = true →
      Completes (.lkuAcq m v) s (fun u => u.locks = s.locks ∧ (u.lkuRec m).state = 2 ∧ (u.lkuRec m).rstat = 3 ∧
        u.rbit Reg.LKU_STATUS 1 = true))) ∧
  (∀ (s : State) (m : Nat) (v : Word), s.mayWrite m = true → (s.lkuRec m).state ≠ 1 →
    (s.lockAt (fld v 25 16)).holder ≠ some ⟨m, fld v 15 0⟩ →
    Completes (.lkuRel m v) s (fun u => u.locks = s.locks ∧ (u.lkuRec m).state = 2 ∧ (u.lkuRec m).rstat = 6) ∧
    Completes (.lkuHand m v) s (fun u => u.locks = s.locks ∧ (u.lkuRec m).state = 2 ∧ (u.lkuRec m).rstat = 6)) ∧
  (∀ (s : State) (m : Nat) (v : Word), s.mayWrite m = true → (s.lkuRec m).state ≠ 1 →
    (s.lockAt (fld v 25 16)).holder = some ⟨m, fld v 15 0⟩ →
    ((s.lockAt (fld v 25 16)).waiters = [] → Completes (.lkuRel m v) s (fun u =>
      (u.lockAt (fld v 25 16)).holder = none ∧ (u.lkuRec m).state = 2 ∧ (u.lkuRec m).rstat = 4)) ∧
    (∀ w : LockWait, (s.lockAt (fld v 25 16)).waiters = [w] → (s.lockAt (fld v 25 16)).withheld = false → w.firing = 0 →
      w.owner.master ≠ m → Completes (.lkuRel m v) s (fun u =>
        (u.lockAt (fld v 25 16)).holder = some w.owner ∧ (u.lockAt (fld v 25 16)).waiters = [] ∧ (u.lkuRec m).state = 2 ∧
        (u.lkuRec m).rstat = 4 ∧ (u.lkuRec w.owner.master).state = 2 ∧
        (u.lkuRec w.owner.master).rstat = (if (s.lockAt (fld v 25 16)).aband then 1 else 0))) ∧
    Completes (.lkuHand m v) s (fun u => (u.lockAt (fld v 25 16)).holder = some ⟨m, fld v 63 48⟩ ∧
      (u.lockAt (fld v 25 16)).waiters = (s.lockAt (fld v 25 16)).waiters ∧ (u.lkuRec m).state = 2 ∧
      (u.lkuRec m).rstat = 5)) ∧
  (∀ (s : State) (m : Nat) (v : Word) (c : Nat → Word → Instr), (c = .lkuAcq ∨ c = .lkuTry ∨ c = .lkuRel ∨ c = .lkuHand) →
    s.mayWrite m = true → (s.lkuRec m).state = 1 →
    Sys2Proof.Machine.exec (c m v) s = .next (s.rsetBit Reg.LKU_STATUS 2 true)) ∧
  (∀ (s : State) (m : Nat) (v : Word), s.mayWrite m = true → (s.lkuRec m).state = 1 →
    Completes (.lkuCancel m v) s (fun u => (u.lkuRec m).state = 2 ∧ (u.lkuRec m).rstat = 7 ∧
      ∀ k, ∀ w ∈ (u.lockAt k).waiters, w.owner ≠ ⟨m, (s.lkuRec m).ctx⟩)) ∧
  (∀ (s : State) (m : Nat) (v : Word), (s.lkuRec m).state ≠ 1 → Sys2Proof.Machine.exec (.lkuCancel m v) s = .next s) ∧
  (∀ (s : State) (m : Nat) (v : Word) (l : Lock) (c : Nat), s.mayWrite m = true → (m = 0x18 ∨ m = 0x19) → 16 ≤ fld v 11 0 →
    s.locks.Pairwise (fun x y => x.k ≠ y.k) → l ∈ s.locks → l.holder = some ⟨fld v 11 0, c⟩ → l.waiters = [] →
    Completes (.lkuMreset m v) s (fun u => (u.lockAt l.k).holder = none ∧ (u.lockAt l.k).aband = true ∧
      u.rbit Reg.LKU_STATUS 0 = true))

/-- AFE_START begins settling: no channel keeps a packet or a window. A channel or tachometer configuration is taken
before START, with EN 0 and BADCFG where it is invalid, and only flagged after it. A shadowed register, written at its
address or its shadow's, takes its value at once before RUN, and in service only its shadow does. A sample of a
disabled path does nothing, one that comes while the filter settles is counted, and a settled one enters the window,
or begins or joins the packet. A tachometer pin that crosses its threshold with hysteresis, upward or downward, begins
the edge's glitch wait, and any other level does nothing; once the wait has passed, a selected edge is counted and,
unless it follows the one kept before by less than 500 ns, its time recorded; any other is dropped. An overspeed level
clears when its time has passed. A bias class that has lasted long enough becomes the channel's health. -/
def Obligations.TheFrontEndTakesItsSamples : Prop :=
  (∀ (s : State) (m : Nat) (v : Word), s.mayWrite m = true → s.rbit Reg.AFE_CTRL 0 = false →
    Completes (.afeStart m v) s (fun u => u.rbit Reg.AFE_CTRL 0 = true ∧ u.afe.length = s.afe.length ∧
      (∀ a ∈ u.afe, a.pkt = [] ∧ a.win = [] ∧ a.mSkip = 0 ∧ a.pSkip = 0) ∧ ∀ x ∈ u.tachs, x = Reset.tach)) ∧
  (∀ (s : State) (m c : Nat) (v : Word), s.mayWrite m = true → s.rbit Reg.AFE_CTRL 0 = true →
    Sys2Proof.Machine.exec (.afeChannelConfig m c v) s = .next (s.rsetBit Reg.AFE_STATUS 0 true) ∧
    Sys2Proof.Machine.exec (.afeTachConfig m c v) s = .next (s.rsetBit Reg.AFE_STATUS 0 true)) ∧
  (∀ (s : State) (m c : Nat) (v : Word), s.mayWrite m = true → c < 64 → s.rbit Reg.AFE_CTRL 0 = false → s.locked = false →
    (fld v 15 12 ≤ 8 → fld v 23 20 ≤ 8 → (bit v 2 = true → bit v 1 = false ∧ 4 ≤ fld v 8 4 ∧ fld v 8 4 ≤ 20) →
      Completes (.afeChannelConfig m c v) s (fun u => u.rbit (Reg.AFE_CH_CFG c) 0 = bit v 0 ∧
        u.rfld (Reg.AFE_CH_CFG c) 15 12 = fld v 15 12 ∧ u.rbit Reg.AFE_STATUS 1 = s.rbit Reg.AFE_STATUS 1)) ∧
    ((8 < fld v 15 12 ∨ 8 < fld v 23 20 ∨ (bit v 2 = true ∧ bit v 1 = true) ∨
        (bit v 2 = true ∧ (fld v 8 4 < 4 ∨ 20 < fld v 8 4))) →
      Completes (.afeChannelConfig m c v) s (fun u => u.rbit (Reg.AFE_CH_CFG c) 0 = false ∧ u.rbit Reg.AFE_STATUS 1 = true))) ∧
  (∀ (s : State) (m t : Nat) (v : Word), s.mayWrite m = true → t < 16 → s.rbit Reg.AFE_CTRL 0 = false → s.locked = false →
    (50 ≤ fld v 47 32 → fld v 47 32 ≤ 5000 → -25000 ≤ signedOf 16 (fld v 31 16) → signedOf 16 (fld v 31 16) ≤ 25000 →
      fld v 63 48 ≤ 10000 →
      Completes (.afeTachConfig m t v) s (fun u => u.rbit (Reg.AFE_TACH_CFG t) 0 = bit v 0 ∧
        u.rbit Reg.AFE_STATUS 1 = s.rbit Reg.AFE_STATUS 1)) ∧
    ((fld v 47 32 < 50 ∨ 5000 < fld v 47 32 ∨ signedOf 16 (fld v 31 16) < -25000 ∨ 25000 < signedOf 16 (fld v 31 16) ∨
        10000 < fld v 63 48) →
      Completes (.afeTachConfig m t v) s (fun u => u.rbit (Reg.AFE_TACH_CFG t) 0 = false ∧ u.rbit Reg.AFE_STATUS 1 = true))) ∧
  (∀ (s : State) (m a b : Nat) (v : Word), s.mayWrite m = true → a ∈ shadowedRegs → (b = a ∨ b = shadowOf a) →
    (s.running = true → Sys2Proof.Machine.exec (.shadowWrite m b v) s = .next (s.rset (shadowOf a) (shadowValue a v))) ∧
    (s.running = false → Completes (.shadowWrite m b v) s (fun u => u.rget a = shadowValue a v ∧
      u.rget (shadowOf a) = shadowValue a v))) ∧
  (∀ (s : State) (c : Nat) (x : Int), (s.rbit Reg.AFE_CTRL 0 = false ∨ s.rbit (Reg.AFE_CH_CFG c) 0 = false ∨ s.analogLock = false) →
    Sys2Proof.Machine.exec (.protectionSample c x) s = .next s ∧
    ∀ k, Sys2Proof.Machine.exec (.measurementSample c k x) s = .next s) ∧
  (∀ (s : State) (c : Nat) (x : Int), s.analogLock = true → s.rbit Reg.AFE_CTRL 0 = true → s.rbit (Reg.AFE_CH_CFG c) 0 = true →
    c < s.afe.length →
    ((s.afeCh c).pSkip < settleOf (s.rbit (Reg.AFE_CH_CFG c) 24) → Completes (.protectionSample c x) s (fun u =>
      u = s.setAfeCh c { s.afeCh c with pSkip := (s.afeCh c).pSkip + 1 })) ∧
    (settleOf (s.rbit (Reg.AFE_CH_CFG c) 24) ≤ (s.afeCh c).pSkip → rangeLo ≤ x →
      x ≤ rangeHi (s.rbit (Reg.AFE_CH_CFG c) 1) → Completes (.protectionSample c x) s (fun u =>
        (u.afeCh c).win = (x :: (s.afeCh c).win).take 4096 ∧
        (s.rget (Reg.AFE_CH_PKHOLD c)).toNat ≤ (u.rget (Reg.AFE_CH_PKHOLD c)).toNat)) ∧
    (∀ k, (s.afeCh c).mSkip < settleOf (s.rbit (Reg.AFE_CH_CFG c) 16) → Completes (.measurementSample c k x) s (fun u =>
      (u.afeCh c).mSkip = (s.afeCh c).mSkip + 1 ∧ (u.afeCh c).pkt = (s.afeCh c).pkt ∧ u.chans = s.chans ∧ u.csr = s.csr)) ∧
    (∀ k ts, ts = k * 10 ^ 9 / rateOf (s.rfld (Reg.AFE_CH_CFG c) 15 12) →
      settleOf (s.rbit (Reg.AFE_CH_CFG c) 16) ≤ (s.afeCh c).mSkip → rangeLo ≤ x →
      x ≤ rangeHi (s.rbit (Reg.AFE_CH_CFG c) 1) → s.tick.started = true → s.tick.firstOpen ≤ ts →
      (s.afeCh c).pkt.length + 1 < s.rfld (Reg.AFE_CH_CFG c) 38 32 → s.rfld (Reg.AFE_CH_CFG c) 38 32 ≤ 64 →
      s.asmUsed + (State.afeBlocks ((s.afeCh c).pkt.length + 1) - State.afeBlocks (s.afeCh c).pkt.length) ≤ 4096 →
      ((s.afeCh c).pkt = [] → Completes (.measurementSample c k x) s (fun u => (u.afeCh c).pkt = [x] ∧ (u.afeCh c).pktK = k ∧
        (u.afeCh c).pktT = ts ∧ (u.afeCh c).pktOvr = false ∧ u.csr = s.csr)) ∧
      ((s.afeCh c).pkt ≠ [] → ts < s.packetEnd c (s.afeCh c).pktT → Completes (.measurementSample c k x) s (fun u =>
        (u.afeCh c).pkt = (s.afeCh c).pkt ++ [x] ∧ (u.afeCh c).pktK = (s.afeCh c).pktK ∧ (u.afeCh c).pktT = (s.afeCh c).pktT ∧
        (u.afeCh c).pktOvr = (s.afeCh c).pktOvr ∧ u.csr = s.csr)))) ∧
  (∀ (s : State) (t : Nat) (v thr hyst : Int), s.rbit Reg.AFE_CTRL 0 = true → s.rbit (Reg.AFE_TACH_CFG t) 0 = true →
    thr = signedOf 16 (s.rfld (Reg.AFE_TACH_CFG t) 31 16) → hyst = s.rfld (Reg.AFE_TACH_CFG t) 47 32 →
    ((s.tachAt t).level = false → 2 * thr + hyst ≤ 2 * v → Sys2Proof.Machine.exec (.tachCrossing t v) s =
      .next (s.setTach t { s.tachAt t with level := true, pend := some (true, s.now) })) ∧
    ((s.tachAt t).level = true → 2 * v ≤ 2 * thr - hyst → Sys2Proof.Machine.exec (.tachCrossing t v) s =
      .next (s.setTach t { s.tachAt t with level := false, pend := some (false, s.now) })) ∧
    (((s.tachAt t).level = false ∧ 2 * v < 2 * thr + hyst) ∨ ((s.tachAt t).level = true ∧ 2 * thr - hyst < 2 * v) →
      Sys2Proof.Machine.exec (.tachCrossing t v) s = .next s)) ∧
  (∀ (s : State) (t t0 : Nat) (r : Bool), t < 16 → t < s.tachs.length → (s.tachAt t).pend = some (r, t0) →
    (s.now < t0 + s.rfld (Reg.AFE_TACH_CFG t) 63 48 → Sys2Proof.Machine.exec (.tachEdgeQualify t) s = .next s) ∧
    (t0 + s.rfld (Reg.AFE_TACH_CFG t) 63 48 ≤ s.now →
      (if r then s.rbit (Reg.AFE_TACH_CFG t) 1 else s.rbit (Reg.AFE_TACH_CFG t) 2) = false →
      Sys2Proof.Machine.exec (.tachEdgeQualify t) s = .next (s.setTach t { s.tachAt t with pend := none })) ∧
    (t0 + s.rfld (Reg.AFE_TACH_CFG t) 63 48 ≤ s.now →
      (if r then s.rbit (Reg.AFE_TACH_CFG t) 1 else s.rbit (Reg.AFE_TACH_CFG t) 2) = true →
      (((s.tachAt t).kept = false ∨ (s.tachAt t).lastKept + 500 ≤ t0) →
        Completes (.tachEdgeQualify t) s (fun u => u.rget (Reg.AFE_TACH_LAST t) = w64 t0 ∧ (u.tachAt t).pend = none ∧
          (u.tachAt t).lastKept = t0 ∧ u.rget (Reg.AFE_TACH_EDGES t) = s.rget (Reg.AFE_TACH_EDGES t) + 1)) ∧
      ((s.tachAt t).kept = true → t0 < (s.tachAt t).lastKept + 500 → Sys2Proof.Machine.exec (.tachEdgeQualify t) s =
        .next ((s.setTach t { s.tachAt t with pend := none }).rinc (Reg.AFE_TACH_EDGES t))))) ∧
  (∀ (s : State) (t : Nat), t < s.tachs.length →
    (s.tachAt t).lastOvs + s.rfld (Reg.TRP_TACH_OS t) 63 32 + s.rfld (Reg.TRP_TACH_OS t) 63 32 / 64 < s.now →
    Completes (.overspeedTimeout t) s (fun u => (u.tachAt t).stD = false)) ∧
  (∀ (s : State) (t : Nat), t < s.tachs.length →
    (s.tachAt t).lastOvs + s.rfld (Reg.TRP_TACH_OS t) 31 0 + s.rfld (Reg.TRP_TACH_OS t) 31 0 / 64 < s.now →
    Completes (.overspeedTimeout t) s (fun u => (u.tachAt t).stA = false)) ∧
  (∀ (s : State) (c : Nat) (v : Int) (lost : Bool), c < s.afe.length →
    signedOf 16 (s.rfld (Reg.AFE_CH_HTH c) 15 0) ≤ signedOf 16 (s.rfld (Reg.AFE_CH_HTH c) 31 16) →
    signedOf 16 (s.rfld (Reg.AFE_CH_HTH c) 31 16) ≤ signedOf 16 (s.rfld (Reg.AFE_CH_HTH c) 47 32) →
    signedOf 16 (s.rfld (Reg.AFE_CH_HTH c) 47 32) ≤ signedOf 16 (s.rfld (Reg.AFE_CH_HTH c) 63 48) →
    Completes (.biasReading c v lost) s (fun u => ∃ k,
      k = healthClass (lost && s.rbit (Reg.AFE_CH_CFG c) 2) v (signedOf 16 (s.rfld (Reg.AFE_CH_HTH c) 15 0)) (signedOf 16 (s.rfld (Reg.AFE_CH_HTH c) 31 16))
        (signedOf 16 (s.rfld (Reg.AFE_CH_HTH c) 47 32)) (signedOf 16 (s.rfld (Reg.AFE_CH_HTH c) 63 48)) ∧
      (u.afeCh c).cand = k ∧
      (u.afeCh c).health = (if clampNat 1 10000 (s.rfld (Reg.AFE_CH_HQUAL c) 15 0) ≤
        (if k = (s.afeCh c).cand then (s.afeCh c).candN + 1 else 1) then k else (s.afeCh c).health)))

/-- After an evaluation, every output k holds its vote V; its latch H is V, or with LATCH the old H or V, cleared
where TRP_RESET names k and V is 0; T is 1 for a stuck output, and else EN and (FORCE or (ARMED and (H or G)));
conducting is T for an energise-to-trip output and EN and ARMED and not FORCE and not T for a de-energise-to-trip one,
and never without the driver rail. A change of T counts in TRP_OUTk_COUNT and writes the time. TRP_RESET evaluates
with the outputs that it names. -/
def Obligations.TripOutputsFollowTheirEquations : Prop :=
  (∀ (s : State) (named k : Nat), s.trip.outs.length = 32 → k < 32 → ∀ o o' cfg en force armed,
    o = nth s.trip.outs k Reset.tripOut → o' = nth (tripEval s named).trip.outs k Reset.tripOut →
    cfg = s.rget (Reg.TRP_OUT_CFG k) → en = bit cfg 0 → force = decide (s.trip.force ≠ .none) → armed = s.rbit Reg.TRP_CTRL 0 →
    o'.v = voteOf s k ∧ o'.g = o.g ∧ o'.stuck = o.stuck ∧
    o'.h = (if bit cfg 2 = true then (if named.testBit k = true ∧ voteOf s k = false then false else o.h || voteOf s k)
      else voteOf s k) ∧
    o'.t = (o.stuck || (en && (force || (armed && (o'.h || o.g))))) ∧
    o'.cond = (s.trip.rail && (if bit cfg 1 = true then en && o'.t else en && armed && !force && !o'.t)) ∧
    (o'.t ≠ o.t → (tripEval s named).rget (Reg.TRP_OUT_COUNT k) = s.rget (Reg.TRP_OUT_COUNT k) + 1 ∧
      (tripEval s named).rget (Reg.TRP_OUT_TIME k) = w64 s.now) ∧
    (o'.t = o.t → (tripEval s named).rget (Reg.TRP_OUT_COUNT k) = s.rget (Reg.TRP_OUT_COUNT k))) ∧
  (∀ (s : State) (named : Nat), (tripEval s named).trip.force = s.trip.force ∧ (tripEval s named).trip.rail = s.trip.rail ∧
    (tripEval s named).afe = s.afe ∧ (tripEval s named).mem = s.mem) ∧
  (∀ (s : State) (m : Nat) (v : Word), s.mayWrite m = true →
    Sys2Proof.Machine.exec (.trpReset m v) s = .next (tripEval s (fld v 31 0)))

/-- ARM is set and FORCE cleared by a write, but not while FORCE stands with cause C4 or ALIVE. Silence of ALIVE sets
FORCE. A demand word sets G of every output that it selects and no other; a word of another trip channel is discarded
and flagged; an expired watch sets its flag. Losing the driver rail leaves no output conducting, and its return is
evaluated. A mismatch of an output's configuration trips it for good. A sense mismatch sets the diagnostic bits; a
current limit turns a conducting driver off and the retry on again. Losing the die link clears DIEOK, and a codeword
of it that has been corrected is flagged, any other changes nothing. TRP_FIRST_CLR clears VALID alone. -/
def Obligations.TripCommandsActOnTheTripUnit : Prop :=
  (∀ (s : State) (m : Nat) (v : Word), s.mayWrite m = true → s.rbit Reg.FCL_STATUS 4 = false → s.dead = false →
    ((s.trip.force = .none ∨ s.trip.force = .supply) → Completes (.trpArm m v) s (fun u => u.rbit Reg.TRP_CTRL 0 = true ∧
      u.trip.force = .none)) ∧
    ((s.trip.force = .c4 ∨ s.trip.force = .alive) → Completes (.trpArm m v) s (fun u =>
      u.rbit Reg.TRP_CTRL 0 = s.rbit Reg.TRP_CTRL 0 ∧ u.trip = s.trip))) ∧
  (∀ (s : State) (m : Nat) (v : Word), s.mayWrite m = true → bit v 0 = true →
    Sys2Proof.Machine.exec (.trpFirstClr m v) s = .next (s.rsetBit Reg.TRP_FIRST 63 false)) ∧
  (∀ s : State, s.pins.aliveSeen = true → s.pins.aliveT + 150000 ≤ s.clock → Completes .aliveSilenceForce s (fun u =>
    (s.trip.force = .none → u.trip.force = .alive) ∧ (s.trip.force = .c4 → u.trip.force = .c4) ∧ u.trip.force ≠ .none)) ∧
  (∀ s : State, s.clock < s.pins.aliveT + 150000 → Sys2Proof.Machine.exec .aliveSilenceForce s = .next s) ∧
  (∀ (s s1 : State) (c : Chan) (w i : Nat) (a b x : Bool), s.rbit Reg.TRP_GSRC 16 = true → s.rbit Reg.AFE_STATUS 4 = true →
    s.chan? (s.rfld Reg.TRP_GSRC 15 0) = some c → c.ckind = ckTrip → s.takeNext c = (.word w i a b x, s1) →
    s1.trip.outs.length = 32 → Completes .graphDemandApply s (fun u => ∀ k < 32,
      (nth u.trip.outs k Reset.tripOut).g = (if w.testBit (32 + k) then w.testBit k else (nth s1.trip.outs k Reset.tripOut).g))) ∧
  (∀ s : State, s.rbit Reg.TRP_GSRC 16 = false → Sys2Proof.Machine.exec .graphDemandApply s = .next s) ∧
  (∀ (s : State) (i : Nat) (c : Chan), s.chans.find? (fun c => c.live && decide (c.index = i)) = some c → c.ckind = ckTrip →
    (s.rbit Reg.TRP_GSRC 16 = false ∨ s.rfld Reg.TRP_GSRC 15 0 ≠ c.handle) →
    c.items ≠ [] → s.rbit Reg.AFE_STATUS 4 = true → Completes (.graphDemandDiscard i) s (fun u =>
      u.rbit Reg.TRP_STATUS 9 = true ∧ u.trip = s.trip)) ∧
  (∀ (s : State) (k : Nat), k < 32 → s.trip.outs.length = 32 → s.rfld (Reg.TRP_OUT_CFG k) 31 16 ≠ 0 → s.rbit Reg.TRP_CTRL 0 = true →
    (nth s.trip.outs k Reset.tripOut).lastG + s.rfld (Reg.TRP_OUT_CFG k) 31 16 * 10 ^ 6 ≤ s.clock →
    Completes (.graphDemandTimeout k) s (fun u => u.rbit Reg.TRP_STATUS 1 = true ∧
      (nth u.trip.outs k Reset.tripOut).g = ((nth s.trip.outs k Reset.tripOut).g || s.rbit (Reg.TRP_OUT_CFG k) 3))) ∧
  (∀ (s : State) (mv : Nat), s.trip.rail = true → s.trip.outs.length = 32 → Completes (.tripRailLoss mv) s (fun u =>
    u.trip.rail = false ∧ ∀ o ∈ u.trip.outs, o.cond = false)) ∧
  (∀ (s : State) (mv : Nat), s.trip.rail = false → Sys2Proof.Machine.exec (.tripRailLoss mv) s = .next s) ∧
  (∀ s : State, Sys2Proof.Machine.exec .tripRailRestore s = .next (tripEval { s with trip.rail := true } 0)) ∧
  (∀ (s : State) (i : Nat), i < 32 → s.trip.outs.length = 32 → Completes (.tripConfigMismatch 0 i) s (fun u =>
    (nth u.trip.outs i Reset.tripOut).stuck = true ∧ (nth u.trip.outs i Reset.tripOut).t = true ∧
    u.rbit Reg.TRP_STATUS 3 = true)) ∧
  (∀ (s : State) (k : Nat), k < 32 → s.trip.outs.length = 32 → Completes (.driverSenseMismatch k) s (fun u =>
    u.rbit Reg.TRP_DIAG k = true ∧ u.rbit Reg.TRP_STATUS 2 = true ∧
    (nth u.trip.outs k Reset.tripOut).sensed = !(nth s.trip.outs k Reset.tripOut).cond ∧
    (nth u.trip.outs k Reset.tripOut).t = (nth s.trip.outs k Reset.tripOut).t ∧
    (nth u.trip.outs k Reset.tripOut).cond = (nth s.trip.outs k Reset.tripOut).cond)) ∧
  (∀ (s : State) (k : Nat), k < s.trip.outs.length → (nth s.trip.outs k Reset.tripOut).cond = true →
    Completes (.driverCurrentLimit k) s (fun u => u.csr = s.csr ∧ (nth u.trip.outs k Reset.tripOut).drvOff = true ∧
      (nth u.trip.outs k Reset.tripOut).sensed = false) ∧
    ((nth s.trip.outs k Reset.tripOut).drvOff = true → Completes (.driverRetry k) s (fun u => u.csr = s.csr ∧
      (nth u.trip.outs k Reset.tripOut).drvOff = false ∧ (nth u.trip.outs k Reset.tripOut).sensed = true))) ∧
  (∀ s : State, Completes .dieLinkLoss s (fun u => u.rbit Reg.AFE_STATUS 4 = false)) ∧
  (∀ (s : State) (e : Codeword),
    (∀ d i, d144Check e = .corrected d i → Completes (.dieLinkCorrection e) s (fun u => u.rbit Reg.AFE_STATUS 3 = true ∧
      u.trip = s.trip ∧ u.afe = s.afe)) ∧
    ((∀ d i, d144Check e ≠ .corrected d i) → Sys2Proof.Machine.exec (.dieLinkCorrection e) s = .next s))

/-- CREATE of an allowed channel with room takes the free index with the next generation, leaves every other channel
as it is, and answers 0 with the new handle; one that is not allowed answers 1 and makes nothing, one without room
answers 2 and makes nothing. A command on a handle with no live channel answers 3. DESTROY of an unbound channel ends
it with its items and open packets; of a bound one it answers 4. FLUSH and DROP_PACKET by the consumer empty the
queue, or drop the packet that is partly read, and by anyone else answer 5. QUERY shows words in use, the marks and
the next ISEQ, and clears the stale and reset marks. Each leaves its master's record DONE, and while another command
is pending it only sets a status bit. -/
def Obligations.ChannelCommandsAnswerTheirMaster : Prop :=
  (∀ (s : State) (m : Nat) (i g : Nat), s.mayWrite m = true → State.chnMaster m = true → (s.chnRec m).op ≤ 1 →
    State.chanOk (State.chanOfArgs (s.chnRec m).arg0 (s.chnRec m).arg1) = true → s.freeIndex = some (i, g) →
    ((State.chanOfArgs (s.chnRec m).arg0 (s.chnRec m).arg1).blocks ≤ s.qramFree →
      (State.chanOfArgs (s.chnRec m).arg0 (s.chnRec m).arg1).units ≤ s.ovfFree →
      Completes (.chnCreate m) s (fun u => ∃ c, u.chans = s.chans.filter (fun x => decide (x.index ≠ i)) ++ [c] ∧ c.index = i ∧
        c.gen = (if g = 15 then 1 else g + 1) ∧ c.live = true ∧ c.items = [] ∧ c.iseq = 0 ∧
        c.tcls = bit (s.chnRec m).arg0 63 ∧ c.qblk = fld (s.chnRec m).arg1 15 0 ∧
        (u.chnRec m).op = 0 ∧ (u.chnRec m).resp = w64 (2 ^ 63 + 2 * 2 ^ 60 + c.handle))) ∧
    ((s.qramFree < (State.chanOfArgs (s.chnRec m).arg0 (s.chnRec m).arg1).blocks ∨
        s.ovfFree < (State.chanOfArgs (s.chnRec m).arg0 (s.chnRec m).arg1).units) →
      Completes (.chnCreate m) s (fun u => u.chans = s.chans ∧ (u.chnRec m).op = 0 ∧
        (u.chnRec m).resp = w64 (2 ^ 63 + 2 * 2 ^ 60 + 2 * 2 ^ 32)))) ∧
  (∀ (s : State) (m : Nat), s.mayWrite m = true → State.chnMaster m = true → (s.chnRec m).op ≤ 1 →
    State.chanOk (State.chanOfArgs (s.chnRec m).arg0 (s.chnRec m).arg1) = false →
    Completes (.chnCreate m) s (fun u => u.chans = s.chans ∧ (u.chnRec m).op = 0 ∧
      (u.chnRec m).resp = w64 (2 ^ 63 + 2 * 2 ^ 60 + 2 ^ 32))) ∧
  (∀ (s : State) (m o : Nat) (c : Nat → Instr), s.mayWrite m = true → State.chnMaster m = true →
    (c = .chnCreate ∧ o = 1 ∨ c = .chnDestroy ∧ o = 2 ∨ c = .chnFlush ∧ o = 3 ∨ c = .chnDropPacket ∧ o = 4 ∨ c = .chnQuery ∧ o = 5) →
    ((s.chnRec m).op ≠ 0 → (s.chnRec m).op ≠ o →
      Sys2Proof.Machine.exec (c m) s = .next (s.rsetBit Reg.CHN_STATUS 4 true)) ∧
    (((s.chnRec m).op = 0 ∨ (s.chnRec m).op = o) → o ≠ 1 → s.chan? (fld (s.chnRec m).arg0 15 0) = none →
      Completes (c m) s (fun u => u.chans = s.chans ∧ (u.chnRec m).op = 0 ∧
        (u.chnRec m).resp = w64 (2 ^ 63 + 2 * 2 ^ 60 + 3 * 2 ^ 32 + fld (s.chnRec m).arg0 15 0)))) ∧
  (∀ (s : State) (m : Nat) (c : Chan), s.mayWrite m = true → State.chnMaster m = true → (s.chnRec m).op = 0 →
    s.chan? (fld (s.chnRec m).arg0 15 0) = some c →
    (s.isBound c.handle = true → Completes (.chnDestroy m) s (fun u => u.chans = s.chans ∧
      (u.chnRec m).resp = w64 (2 ^ 63 + 2 * 2 ^ 60 + 4 * 2 ^ 32 + fld (s.chnRec m).arg0 15 0))) ∧
    (s.isBound c.handle = false → Completes (.chnDestroy m) s (fun u =>
      (∀ x ∈ u.chans, x.index = c.index → x.live = false ∧ x.items = []) ∧ (∀ x ∈ s.chans, x.index ≠ c.index → x ∈ u.chans) ∧
      (∀ p ∈ u.openPkts, p.handle ≠ c.handle) ∧
      (u.chnRec m).resp = w64 (2 ^ 63 + 2 * 2 ^ 60 + fld (s.chnRec m).arg0 15 0))) ∧
    (State.isConsumer m c = false → Completes (.chnFlush m) s (fun u => u.chans = s.chans ∧
        (u.chnRec m).resp = w64 (2 ^ 63 + 2 * 2 ^ 60 + 5 * 2 ^ 32 + fld (s.chnRec m).arg0 15 0)) ∧
      Completes (.chnDropPacket m) s (fun u => u.chans = s.chans ∧
        (u.chnRec m).resp = w64 (2 ^ 63 + 2 * 2 ^ 60 + 5 * 2 ^ 32 + fld (s.chnRec m).arg0 15 0))) ∧
    (State.isConsumer m c = true → Completes (.chnFlush m) s (fun u =>
        (∀ x ∈ u.chans, x.index = c.index → x.items = [] ∧ x.last = c.iseq ∧ x.readPos = 0) ∧
        (u.chnRec m).resp = w64 (2 ^ 63 + 2 * 2 ^ 60 + fld (s.chnRec m).arg0 15 0)) ∧
      (∀ i rest, c.items = i :: rest → c.readPos ≠ 0 → Completes (.chnDropPacket m) s (fun u =>
        (∀ x ∈ u.chans, x.index = c.index → x.items = rest ∧ x.last = (i.iseq + 1) % 2 ^ 32 ∧ x.readPos = 0) ∧
        (u.chnRec m).resp = w64 (2 ^ 63 + 2 * 2 ^ 60 + fld (s.chnRec m).arg0 15 0))) ∧
      (c.readPos = 0 → Completes (.chnDropPacket m) s (fun u => u.chans = s.chans ∧
        (u.chnRec m).resp = w64 (2 ^ 63 + 2 * 2 ^ 60 + fld (s.chnRec m).arg0 15 0)))) ∧
    Completes (.chnQuery m) s (fun u => (∀ x ∈ u.chans, x.index = c.index → x.stale = false ∧ x.wasRst = false ∧ x.items = c.items) ∧
      (u.chnRec m).data = w64 (c.usedWords * 2 ^ 36 + b2n (c.items.any (·.ovf)) * 2 ^ 35 + b2n c.stale * 2 ^ 34 +
        b2n (decide (c.ckind ≠ ckWafer) && decide (c.gapCount ≠ 0)) * 2 ^ 33 + b2n c.wasRst * 2 ^ 32 + c.iseq) ∧
      (u.chnRec m).resp = w64 (2 ^ 63 + 2 * 2 ^ 60 + fld (s.chnRec m).arg0 15 0)))

/-- The next thing that a consumer takes is the gap before the oldest item, where there is one; otherwise the next
word of the oldest item, and with its last word the item leaves; an empty queue without a gap gives nothing. A window
that is due completes: exactly the stored items with an earlier time and no window join it. A stale tail sets the
channel's bit. A ring pointer that disagrees with its complement resets the queue, which keeps T-class items and those
of complete windows and is counted; one that agrees does nothing. An error that is corrected is counted, the loss of a
word of a complete window or of both copies of a channel's descriptor is C4, and an item in overflow moves back when
there is room. -/
def Obligations.QueuesKeepOrderAndReportLoss : Prop :=
  (∀ c : Chan, (c.gapCount ≠ 0 → (State.chanTake c).1 = .gap c.gapCount ∧ (State.chanTake c).2.1.items = c.items) ∧
    (c.gapCount = 0 → c.items = [] → (State.chanTake c).1 = .empty ∧ (State.chanTake c).2.1 = c) ∧
    (∀ i rest, c.gapCount = 0 → c.items = i :: rest →
      (State.chanTake c).1 = .word (nth i.words c.readPos 0) i.iseq (decide (c.readPos = 0))
        (decide (i.words.length ≤ c.readPos + 1)) i.ctx ∧
      (c.readPos + 1 < i.words.length → (State.chanTake c).2.1.items = c.items ∧ (State.chanTake c).2.1.readPos = c.readPos + 1) ∧
      (i.words.length ≤ c.readPos + 1 → (State.chanTake c).2.1.items = rest ∧ (State.chanTake c).2.1.readPos = 0 ∧
        (State.chanTake c).2.1.last = (i.iseq + 1) % 2 ^ 32))) ∧
  (∀ (s : State) (i : Nat) (c : Chan) (w : Window),
    s.chans.find? (fun c => c.live && decide (c.index = i)) = some c → c.windows.find? (fun w => !w.done) = some w →
    c.ckind = ckWafer → c.pkind = pkAfe → w.closeT ≤ (s.afeCh c.punit).lastT → s.waferOpen w.wafer = true →
    Completes (.windowComplete i) s (fun u => ∀ x ∈ u.chans, x.index = c.index → x.doneT = some w.closeT ∧
      x.items.map (fun y => (y.iseq, y.words)) = c.items.map (fun y => (y.iseq, y.words)) ∧
      ∀ y ∈ c.items, (y.win = none → y.time < w.closeT → { y with win := some w.wafer, src := none } ∈ x.items) ∧
        (y.win ≠ none ∨ w.closeT ≤ y.time → y ∈ x.items))) ∧
  (∀ (s : State) (i : Nat) (c : Chan), s.chans.find? (fun c => c.live && decide (c.index = i)) = some c →
    c.tmo ≠ 0 → c.items ≠ [] → c.tailT + c.tmo * 1000 ≤ s.clock → c.index < 4096 →
    Completes (.staleTailExpiry i) s (fun u => u.rbit (Reg.CHN_STALE (c.index / 64)) (c.index % 64) = true ∧
      u.rbit Reg.CHN_STATUS 1 = true ∧ ∀ x ∈ u.chans, x.index = c.index → x.stale = true ∧ x.items = c.items)) ∧
  (∀ (s : State) (i : Nat) (c : Chan), s.chans.find? (fun c => c.live && decide (c.index = i)) = some c →
    s.clock < c.tailT + c.tmo * 1000 → Sys2Proof.Machine.exec (.staleTailExpiry i) s = .next s) ∧
  (∀ (s : State) (i p x : Nat) (c : Chan), s.chans.find? (fun c => c.live && decide (c.index = i)) = some c →
    (({ c with ptrs := c.ptrs.flipped p (x % 2 ^ 32) } : Chan).ptrsAgree = true →
      Sys2Proof.Machine.exec (.queueReset ⟨i, p, x⟩) s = .next s) ∧
    (({ c with ptrs := c.ptrs.flipped p (x % 2 ^ 32) } : Chan).ptrsAgree = false →
    Completes (.queueReset ⟨i, p, x⟩) s (fun u => u.rget Reg.CHN_QRESETS = s.rget Reg.CHN_QRESETS + 1 ∧
      u.rget Reg.CHN_QRESET_LAST = w64 (2 ^ 63 + 2 ^ 32 + c.handle) ∧ u.rbit Reg.CHN_STATUS 3 = true ∧
      (∀ x ∈ u.chans, x.index = c.index → x.wasRst = true ∧ x.iseq = c.iseq ∧ (c.ckind ≠ ckWafer → c.tcls = false → x.items = []) ∧
        (c.ckind = ckWafer → c.tcls = false → x.items = c.items.filter (fun y => y.win.isSome)) ∧
        (c.tcls = true → x.items = c.items)) ∧ (∀ x ∈ s.chans, x.index ≠ c.index → x ∈ u.chans)))) ∧
  (∀ (s : State) (i kind n j : Nat) (both : Bool) (e : Codeword) (m : BitVec 4), d144Check e = .corrected j m →
    Completes (.qramEccError i kind n both e) s (fun u => u.chans = s.chans ∧ u.rget Reg.CHN_ECC_CE = s.rget Reg.CHN_ECC_CE + 1)) ∧
  (∀ (s : State) (i n : Nat) (both : Bool) (e : Codeword), d144Check e = .uncorrectable →
    Completes (.qramEccError i 1 n both e) s (fun u => u.dead = true) ∧
    Completes (.qramEccError i 4 n both e) s (fun u => u.dead = true) ∧
    Completes (.qramEccError i 2 n false e) s (fun u => u.chans = s.chans ∧ u.dead = s.dead)) ∧
  (∀ (s : State) (i : Nat) (c : Chan) (x : Item), s.chans.find? (fun c => c.live && decide (c.index = i)) = some c →
    c.items.find? (·.ovf) = some x →
    (State.ramWords c + x.words.length ≤ c.qblk * 256 / c.width → Completes (.overflowMoveBack i) s (fun u =>
      u = s.setChan { c with items := c.items.map (fun y => if y.iseq = x.iseq then { y with ovf := false } else y) })) ∧
    (c.qblk * 256 / c.width < State.ramWords c + x.words.length → Sys2Proof.Machine.exec (.overflowMoveBack i) s = .next s))

/-- A bundle of a running engine that writes an ALU trigger puts the operation's result, of the operand port O and the
value T written, into that unit's result port for the next bundle; the other unit's result, all registers and
everything outside the engine stay as they are, and the engine goes on. A MUL trigger does the same for the bundle
after the next, and until then MUL.Q reads its previous result. Arithmetic is modulo 2^64; a shift by 64 or more
leaves nothing but the sign for SAR. -/
def Obligations.EngineArithmeticIsReadLater : Prop :=
  (∀ p ∈ ([(.aluAdd, fun o t => o + t), (.aluSub, fun o t => o - t), (.aluAnd, fun o t => o &&& t), (.aluOr, fun o t => o ||| t),
      (.aluXor, fun o t => o ^^^ t), (.aluAndn, fun o t => o &&& ~~~t), (.aluShl, fun o t => o <<< t.toNat),
      (.aluShr, fun o t => o >>> t.toNat), (.aluSar, fun o t => o.sshiftRight t.toNat), (.aluRol, fun o t => o.rotateLeft (t.toNat % 64)),
      (.aluEq, fun o t => if o = t then 1 else 0), (.aluNe, fun o t => if o = t then 0 else 1),
      (.aluLts, fun o t => if o.toInt < t.toInt then 1 else 0), (.aluLtu, fun o t => if o.toNat < t.toNat then 1 else 0),
      (.aluLes, fun o t => if o.toInt ≤ t.toInt then 1 else 0), (.aluLeu, fun o t => if o.toNat ≤ t.toNat then 1 else 0),
      (.aluMins, fun o t => if o.toInt < t.toInt then o else t), (.aluMaxs, fun o t => if o.toInt < t.toInt then t else o),
      (.aluMinu, fun o t => if o.toNat < t.toNat then o else t), (.aluMaxu, fun o t => if o.toNat < t.toNat then t else o),
      (.aluPass, fun _ t => t), (.aluClz, fun _ t => BitVec.ofNat 64 (64 - t.toNat.size)),
      (.aluPopc, fun _ t => BitVec.ofNat 64 ((List.range 64).countP (fun i => t.getLsbD i))),
      (.aluSx8, fun _ t => (t.setWidth 8).signExtend 64), (.aluSx16, fun _ t => (t.setWidth 16).signExtend 64),
      (.aluSx32, fun _ t => (t.setWidth 32).signExtend 64)] : List ((Nat → Nat → Word → Instr) × (Word → Word → Word))),
    ∀ (s : State) (n u : Nat) (t : Word), u < 2 → s.eRuns n = true →
      Runs (p.1 n u t) s ((begun s n).updEngine n (fun e =>
        if u = 0 then { e with alu0q := [p.2 e.alu0o t] } else { e with alu1q := [p.2 e.alu1o t] })) n) ∧
  (∀ p ∈ ([(.mulLo, fun o t => o * t), (.mulHis, fun o t => (o.signExtend 128 * t.signExtend 128).extractLsb' 64 64),
      (.mulHiu, fun o t => (o.setWidth 128 * t.setWidth 128).extractLsb' 64 64)] : List ((Nat → Word → Instr) × (Word → Word → Word))),
    ∀ (s : State) (n : Nat) (t : Word), s.eRuns n = true →
      Runs (p.1 n t) s ((begun s n).updEngine n (fun e => { e with mulq := p.2 e.mulo t :: e.mulq.drop 1 })) n) ∧
  (∀ (s : State) (n : Nat) (q : List Word) (x : Word), (s.engineAt n).mulq = q → n < s.engines.length →
    ((s.updEngine n (fun e => { e with mulq := x :: (pipeStep 2 0 e.mulq).drop 1 })).readPort n 0x180).1 = nth q 0 0 ∧
    ((s.updEngine n (fun e => { e with mulq := pipeStep 2 0 (x :: e.mulq) })).readPort n 0x180).1 = x)

/-- A load trigger delivers, extended by zeros or the sign, what the load yields: the bytes of the data RAM or of
memory, or of the youngest store in the buffer that meets it and covers it whole; a load from another device is
issued, and its result comes later. A store enters the buffer, or the code-write queue for instruction RAM, and drains
in order. A load that faults records its cause and address and does nothing else. FENCE waits for the stores. JUMP,
CALL and RET end a loop; RETE sets IE; LOOP begins a loop or skips its body; ISYNC brings queued code into force and
discards what loops have buffered; HALT and WAIT stop; EVMASK sets the mask with faults enabled; WDOG restarts the
watchdog. -/
def Obligations.EngineLoadsStoresAndJumps : Prop :=
  (∀ p ∈ ([(.lsuLdu8, 1, false), (.lsuLdu16, 2, false), (.lsuLdu32, 4, false), (.lsuLdu64, 8, false), (.lsuLds8, 1, true),
      (.lsuLds16, 2, true), (.lsuLds32, 4, true)] : List ((Nat → Word → Instr) × Nat × Bool)),
    ∀ (s : State) (n : Nat) (t : Word), s.eRuns n = true →
    (∀ x b, State.eLoad State.io (begun s n) n t.toNat p.2.1 p.2.2 = .ok (x, b) →
      Runs (p.1 n t) s (b.updEngine n (fun e => { e with lsuq := x :: e.lsuq.drop 1 })) n) ∧
    (∀ f, State.eLoad State.io (begun s n) n t.toNat p.2.1 p.2.2 = .fault f → Completes (p.1 n t) s (fun v =>
      v.engineAt n = { (s.drainOne n).engineAt n with run := .running, fault := some (f.cause, f.addr) } ∧
      v.rget (Reg.CEN_FAULTADDR n) = w64 f.addr ∧ v.mem = (s.drainOne n).mem ∧ v.chans = (s.drainOne n).chans))) ∧
  (∀ (s : State) (n o k : Nat) (sgn : Bool), k ∈ [1, 2, 4, 8] → o + k ≤ 0x10000 → (s.engineAt n).sbuf = [] →
    ∀ v, v = bytesToNat (smBytes (s.engineAt n).dram 0 o k) → State.eLoad State.io s n (2 ^ 64 - 0x20000 + o) k sgn =
      .ok (.word (if sgn then (BitVec.ofNat (8 * k) v).signExtend 64 else BitVec.ofNat 64 v),
        if o % k = 0 then s else s.rinc (Reg.CEN_STALLS n))) ∧
  (∀ (s : State) (n a x k : Nat) (sgn : Bool), k ∈ [1, 2, 4, 8] → a % k = 0 → s.eKind a = .here x → s.addrKind x ≠ .device →
    (s.engineAt n).sbuf = [] → ∀ v, v = bytesToNat (s.memRead x k).1 → State.eLoad State.io s n a k sgn =
      .ok (.word (if sgn then (BitVec.ofNat (8 * k) v).signExtend 64 else BitVec.ofNat 64 v), (s.memRead x k).2)) ∧
  (∀ (s : State) (n a k : Nat) (sgn : Bool) (old : List EStore) (x : EStore), s.eCheck a k = none → k ∈ [1, 2, 4, 8] →
    (s.engineAt n).sbuf = old ++ [x] → x.addr ≤ a → a + k ≤ x.addr + x.size →
    ∀ v, v = x.data / 256 ^ (a - x.addr) % 256 ^ k → State.eLoad State.io s n a k sgn =
      .ok (.word (if sgn then (BitVec.ofNat (8 * k) v).signExtend 64 else BitVec.ofNat 64 v), s)) ∧
  (∀ (s : State) (n a d x k : Nat) (sgn : Bool), n < s.engines.length → k ∈ [1, 2, 4, 8] → a % k = 0 → s.eKind a = .away d x →
    (s.engineAt n).sbuf = [] → ∃ i b, State.eLoad State.io s n a k sgn = .ok (.load i, b) ∧
      (b.engineAt n).loads = (s.engineAt n).loads ++ [⟨i, k, sgn⟩]) ∧
  (∀ (s : State) (n a k : Nat) (sgn : Bool), k ∈ [1, 2, 4, 8] → a % k = 0 → s.eKind a = .hole →
    State.eLoad State.io s n a k sgn = .fault ⟨1, a, none, true⟩) ∧
  (∀ p ∈ ([(.lsuSt8, 1), (.lsuSt16, 2), (.lsuSt32, 4), (.lsuSt64, 8)] : List ((Nat → Word → Instr) × Nat)),
    ∀ (s b : State) (n : Nat) (t : Word), s.eRuns n = true →
    State.eStore State.io (begun s n) n t.toNat p.2 (((begun s n).engineAt n).lsuo.toNat % 256 ^ p.2) = .ok b →
    Runs (p.1 n t) s b n) ∧
  (∀ (s : State) (n a k v : Nat), k ∈ [1, 2, 4, 8] → a % k = 0 → v < 256 ^ k → s.eCheck a k = none →
    ((∃ o, s.eKind a = .dram o) ∨ ∃ x, s.eKind a = .here x ∧ s.addrKind x ≠ .device) → (s.engineAt n).sbuf.length < 8 →
    (s.engineAt n).iramNew.length ≤ 16 →
    State.eStore State.io s n a k v = .ok (s.updEngine n (fun e => { e with sbuf := e.sbuf ++ [⟨a, k, v⟩] }))) ∧
  (∀ (s : State) (n o : Nat) (x : EStore) (rest : List EStore), n < s.engines.length → (s.engineAt n).sbuf = x :: rest →
    (s.eKind x.addr = .dram o → ((s.drainOne n).engineAt n).sbuf = rest ∧ (s.drainOne n).mem = s.mem ∧
      smBytes ((s.drainOne n).engineAt n).dram 0 o x.size = natToBytes x.size x.data) ∧
    (s.eKind x.addr = .here o → s.drainOne n =
      (s.updEngine n (fun e => { e with sbuf := rest })).memWrite none o (natToBytes x.size x.data))) ∧
  (∀ (s : State) (n i v : Nat), n < s.engines.length → i < 8192 → v < 2 ^ 64 → (s.engineAt n).iramNew.length < 16 →
    (s.engineAt n).sbuf.length ≤ 8 →
    ∃ b, State.eStore State.io s n (2 ^ 64 - 0x10000 + i * 8) 8 v = .ok b ∧ (b.engineAt n).iram = (s.engineAt n).iram ∧
      (b.engineAt n).iramNew = (s.engineAt n).iramNew ++ [(i, BitVec.ofNat 64 v)]) ∧
  (∀ (s : State) (n : Nat) (t : Word) (e : Engine), s.eRuns n = true → (begun s n).engineAt n = e →
    ((begun s n).eClear n = true → Runs (.lsuFence n t) s (begun s n) n ∧ Runs (.pcuIsync n t) s
      ((begun s n).updEngine n (fun e => { State.applyCode e with
        loop := e.loop.refetch, loopSh := e.loopSh.map Loop.refetch })) n) ∧
    ((begun s n).eClear n = false → e.sbuf.length ≤ 8 → Completes (.lsuFence n t) s (fun v =>
      (v.engineAt n).run = .stalled ∧ (v.engineAt n).pc = e.pc ∧ (v.engineAt n).sbuf = [])) ∧
    Ends (.pcuJump n t) s (begun s n) n { e with run := .running, pc := fld t 12 0, loop := Reset.loop } ∧
    Ends (.pcuCall n t) s (begun s n) n
      { e with run := .running, pc := fld t 12 0, loop := Reset.loop, link := (e.pc + 1) % 8192 } ∧
    Ends (.pcuRet n t) s (begun s n) n { e with run := .running, pc := e.link, loop := Reset.loop } ∧
    Ends (.pcuRete n t) s (begun s n) n { e with
      run := .running, pc := fld ((begun s n).rget (Reg.CEN_EPC n)) 12 0, ie := true, loop := e.loopSh.getD e.loop, loopSh := none } ∧
    (e.loop.active = false → 1 ≤ fld t 6 0 → fld t 6 0 ≤ 64 → Ends (.pcuLoop n t) s (begun s n) n { e with
      run := .running, pc := if e.pcuo = 0 then (e.pc + 1 + fld t 6 0) % 8192 else (e.pc + 1) % 8192,
      loop := ⟨decide (e.pcuo ≠ 0), (e.pc + 1) % 8192, fld t 6 0, e.pcuo.toNat, false, true⟩,
      loopSh := e.loopSh.map Loop.refetch }) ∧
    (e.loop.active = true ∨ fld t 6 0 = 0 ∨ 64 < fld t 6 0 → Completes (.pcuLoop n t) s (fun v =>
      (v.engineAt n).fault = some (0, e.pc) ∧ (v.engineAt n).pc = e.pc ∧ (v.engineAt n).loop = e.loop)) ∧
    Ends (.pcuHalt n t) s (begun s n) n { goesOn e with run := .halted } ∧
    Ends (.pcuWait n t) s (begun s n) n { goesOn e with run := .waiting } ∧
    Runs (.pcuEvmask n t) s ((begun s n).rset (Reg.CEN_EVMASK n) ((t &&& 0xFFFFFFFF) ||| 0xF)) n ∧
    Runs (.pcuWdog n t) s ((begun s n).updEngine n (fun e => { e with wdogT := (begun s n).clock })) n) ∧
  (∀ (e : Engine) (i : Nat) (w : Word) (q : List (Nat × Word)), e.iramNew = q ++ [(i, w)] →
    smGet (State.applyCode e).iram i 0 = w ∧ (State.applyCode e).iramNew = [] ∧
    ∀ j, (∀ x ∈ e.iramNew, x.1 ≠ j) → smGet (State.applyCode e).iram j 0 = smGet e.iram j 0)

/-- A bundle whose moves swap two registers swaps them; a false guard stops a move; an illegal bundle records ILLEGAL
and does nothing; one that reads the result of a remote load that is still to be answered stalls. SEND appends the
word to the open packet, SENDE commits it and gives its ISEQ, RECV gives what the channel's next item gives, DROP and
FLUSH act on the channel, an operation on another unit's channel gives NOTOWN or CHERR, and a read of CHP.EVQ removes
the oldest entry. A fault or the lowest enabled cause is taken with EPC, CAUSE, IE 0 and the handler's address; a
fault with IE 0 resets the engine. RUN starts it at CEN_ENTRY or halts it; a reset, by RESET or the watchdog, clears
its registers and its open packets; doorbells, the timer, RAM access and RAM errors act as their registers say. -/
def Obligations.EngineBundlesEventsAndResets : Prop :=
  (∀ (s r : State) (n a b p : Nat), s.eRuns n = true → 1 ≤ a → a < 64 → 1 ≤ b → b < 64 → p < 8192 → (n = 8 → 4096 ≤ p) →
    r = (s.drainOne n).takeLoads n → (r.engineAt n).pc = p →
    (a ≠ b → smGet (r.engineAt n).iram p 0 = w64 ((b * 2 ^ 17 + a * 2 ^ 5 + 24) * 2 ^ 32 + (a * 2 ^ 17 + b * 2 ^ 5 + 24)) →
      Completes (.engineBundle n) s (fun v => v.mem = r.mem ∧ ∀ i,
        smGet (v.engineAt n).w i 0 = if i = a then smGet (r.engineAt n).w b 0
          else if i = b then smGet (r.engineAt n).w a 0 else smGet (r.engineAt n).w i 0)) ∧
    ((r.engineAt n).p1 = false → smGet (r.engineAt n).iram p 0 = w64 (2 ^ 29 + a * 2 ^ 17 + b * 2 ^ 5 + 24) →
      Completes (.engineBundle n) s (fun v => (v.engineAt n).w = (r.engineAt n).w ∧ v.mem = r.mem ∧
        v.rget (Reg.CEN_BUNDLES n) = r.rget (Reg.CEN_BUNDLES n) + 1)) ∧
    (bundleOf (smGet (r.engineAt n).iram p 0) = none → Completes (.engineBundle n) s (fun v =>
      v.engineAt n = { r.engineAt n with run := .running, fault := some (0, p) } ∧ v.mem = r.mem ∧
      v.rget (Reg.CEN_FAULTADDR n) = w64 p)) ∧
    (∀ ms, bundleOf (smGet (r.engineAt n).iram p 0) = some ms → State.readsLoad (r.engineAt n) ms = true →
      Sys2Proof.Machine.exec (.engineBundle n) s =
        .next ((r.updEngine n (fun e => { e with run := .stalled })).rinc (Reg.CEN_STALLS n)))) ∧
  (∀ (w : Word), (fld w 28 17 = 0xEFF ∧ fld w 60 49 = 0xEFF) ∨ (fld w 28 17 ≠ 0xEFF ∧ fld w 60 49 ≠ 0xEFF ∧
      ((fld w 16 5 = fld w 48 37 ∧ fld w 16 5 ≠ 0) ∨
        ((portUnit (fld w 16 5)).isSome = true ∧ portUnit (fld w 16 5) = portUnit (fld w 48 37)) ∨ fld w 31 29 = 4)) →
    bundleOf w = none) ∧
  (∀ (s b : State) (n : Nat) (t : Word) (c : Chan) (x : Nat) (p : OpenPkt), s.eRuns n = true → b = begun s n →
    b.chan? (t.toNat % 65536) = some c → c.handle = t.toNat % 65536 → c.pkind = pkEngine → c.punit = n →
    p = (b.openPkt? (t.toNat % 65536) (.engine n)).getD ⟨t.toNat % 65536, .engine n, [], b.now, false⟩ →
    p.words.length < c.maxlen → b.eClear n = true → b.canAppend c (.engine n) = true →
    x = bytesToNat ((List.range 4).flatMap (fun i => natToBytes 8 (nth (b.engineAt n).chpo i 0).toNat)) % 256 ^ c.width →
    (∃ w : Word, fld w 31 5 = 0 ∧ fld w 3 0 ≤ 4 ∧ Runs (.chpSend n t) s (({ b with
      openPkts := b.openPkts.filter (fun q => !decide (q.handle = t.toNat % 65536 ∧ q.owner = .engine n)) ++
        [{ p with words := p.words ++ [x] }]
      free := b.free + 1 } : State).updEngine n (fun e => { e with chps := w :: e.chps.drop 1 })) n) ∧
    (c.tcls = true → Completes (.chpSende n t) s (fun v => (∀ q ∈ v.openPkts, ¬(q.handle = t.toNat % 65536 ∧ q.owner = .engine n)) ∧
      (nth (v.engineAt n).chpq 0 []).head? = some (w64 c.iseq) ∧ ∃ c' it, v.chans = (b.setChan c').chans ∧ c'.index = c.index ∧
        c'.items = c.items ++ [it] ∧ c'.iseq = (c.iseq + 1) % 2 ^ 32 ∧ it.words = p.words ++ [x] ∧ it.iseq = c.iseq))) ∧
  (∀ (s b : State) (n : Nat) (t : Word) (c : Chan), s.eRuns n = true → b = begun s n → b.chan? (t.toNat % 65536) = some c →
    (c.pkind ≠ pkEngine ∨ c.punit ≠ n → Completes (.chpSend n t) s (fun v =>
      (v.engineAt n).fault = some (3, t.toNat % 65536) ∧ v.openPkts = b.openPkts ∧ (v.engineAt n).chps.head? = some 9)) ∧
    (c.ckind ≠ ckEngine ∨ c.cunit ≠ n →
      Runs (.chpRecv n t) s (b.updEngine n (fun e => { e with chps := 9 :: e.chps.drop 1 })) n) ∧
    (c.ckind = ckEngine → c.cunit = n →
      ((b.takeNext c).1 = .empty → Runs (.chpRecv n t) s
        ((b.takeNext c).2.updEngine n (fun e => { e with chps := 2 :: e.chps.drop 1 })) n) ∧
      (∀ g, (b.takeNext c).1 = .gap g → Completes (.chpRecv n t) s (fun v => (v.engineAt n).chps.head? = some 3 ∧
        (nth (v.engineAt n).chpq 0 []).head? = some (w64 g) ∧ v.chans = (b.takeNext c).2.chans)) ∧
      (∀ y k first last, (b.takeNext c).1 = .word y k first last false → Runs (.chpRecv n t) s ((b.takeNext c).2.updEngine n
        (fun e => { e with
          chps := w64 (k % 2 ^ 32 * 2 ^ 32 + (if first then 16 else 0) + (if last then 1 else 0)) :: e.chps.drop 1
          chpq := (List.range 4).map (fun i => w64 (y / 2 ^ (64 * i))) :: e.chpq.drop 1 })) n) ∧
      (∃ w : Word, fld w 31 5 = 0 ∧ fld w 3 0 ≤ 4 ∧ Runs (.chpDrop n t) s ({ b.dropPartly c with free := (b.dropPartly c).free + 1 }.updEngine n
        (fun e => { e with chps := w :: e.chps.drop 1 })) n) ∧
      (∃ w : Word, fld w 31 5 = 0 ∧ fld w 3 0 ≤ 4 ∧ Runs (.chpFlush n t) s ({ b.flushChan c with free := (b.flushChan c).free + 1 }.updEngine n
        (fun e => { e with chps := w :: e.chps.drop 1 })) n))) ∧
  (∀ (s : State) (n d : Nat) (x : EvqEntry) (rest : List EvqEntry), s.eRuns n = true → 1 ≤ d → d < 64 →
    ((s.drainOne n).engineAt n).evq = x :: rest → Completes (.chpEvqRead n d) s (fun v => (v.engineAt n).evq = rest ∧
      smGet (v.engineAt n).w d 0 = w64 (x.data % 2 ^ 32 * 2 ^ 32 + x.kind % 16 * 2 ^ 28 + x.handle % 65536) ∧
      ∀ r, r ≠ d → smGet (v.engineAt n).w r 0 = smGet ((s.drainOne n).engineAt n).w r 0)) ∧
  (∀ (s : State) (n : Nat) (e : Engine), s.dead = false → s.engineAt n = e → e.failed = false → e.run ≠ .halted →
    s.engineOn n = true → n < s.engines.length →
    (∀ c, (∃ x, e.fault = some (c, x)) ∨ (e.fault = none ∧ (s.eUnmasked n).testBit c = true ∧ c < 32 ∧
        ∀ i < c, (s.eUnmasked n).testBit i = false) → e.ie = true →
      Completes (.engineEventTake n) s (fun v => (v.engineAt n).ie = false ∧ v.rget (Reg.CEN_CAUSE n) = w64 c ∧
        v.rget (Reg.CEN_EPC n) = w64 e.pc ∧ (v.engineAt n).pc = (s.rfld (Reg.CEN_EVBASE n) 12 7 * 128 + c * 4) % 8192 ∧
        (v.engineAt n).fault = none ∧ (v.engineAt n).w = e.w ∧ v.mem = s.mem ∧ v.chans = s.chans)) ∧
    (∀ x, e.fault = some x → e.ie = false → Sys2Proof.Machine.exec (.engineEventTake n) s =
      .next ((s.rsetBit (Reg.CEN_STATUS n) 6 true).engineReset n false))) ∧
  (∀ (s : State) (m n : Nat) (v : Word), n < 9 → m = 0x18 → s.mayWrite m = true → s.regFenced (Reg.CEN_CTRL n) = false →
    n < s.engines.length →
    (bit v 0 = true → (s.engineAt n).run = .halted → (s.engineAt n).failed = false → Completes (.cenRun m n v) s (fun u =>
      (u.engineAt n).run = .running ∧ (u.engineAt n).pc = s.rfld (Reg.CEN_ENTRY n) 12 0 ∧ u.rbit (Reg.CEN_CTRL n) 0 = true ∧
      (u.engineAt n).w = (s.engineAt n).w)) ∧
    (bit v 0 = false → Completes (.cenRun m n v) s (fun u => (u.engineAt n).run = .halted ∧ u.rbit (Reg.CEN_CTRL n) 0 = false ∧
      (u.engineAt n).pc = (s.engineAt n).pc ∧ (u.engineAt n).w = (s.engineAt n).w)) ∧
    (bit v 2 = false → Completes (.cenReset m n v) s (fun u => (u.engineAt n).run = .halted ∧ (u.engineAt n).w = [] ∧
      (u.engineAt n).evq = [] ∧ (u.engineAt n).p1 = false ∧ (u.engineAt n).iramNew = [] ∧
      ∀ p ∈ u.openPkts, p.owner ≠ .engine n)) ∧
    Completes (.cenDoorbell m n v) s (fun u => u.rget (Reg.CEN_DOORBELL n) = s.rget (Reg.CEN_DOORBELL n) ||| (v &&& 0xFFFFFFFF) ∧
      u.engines = s.engines) ∧
    ((s.engineAt n).run = .halted → s.rbit (Reg.CEN_RAMADDR n) 16 = false →
      Completes (.cenRamdataWrite m n v) s (fun u => smBytes (u.engineAt n).dram 0 (s.rfld (Reg.CEN_RAMADDR n) 15 3 * 8) 8 =
        natToBytes 8 v.toNat ∧ u.rfld (Reg.CEN_RAMADDR n) 16 3 = (s.rfld (Reg.CEN_RAMADDR n) 16 3 + 1) % 16384 ∧
        (u.engineAt n).iram = (s.engineAt n).iram) ∧
      Completes (.cenRamdataRead m n) s (fun u => u.lastRead =
        w64 (bytesToNat (smBytes (s.engineAt n).dram 0 (s.rfld (Reg.CEN_RAMADDR n) 15 3 * 8) 8)) ∧ u.engines = s.engines ∧
        u.rfld (Reg.CEN_RAMADDR n) 16 3 = (s.rfld (Reg.CEN_RAMADDR n) 16 3 + 1) % 16384)) ∧
    ((s.engineAt n).run ≠ .halted → Completes (.cenRamdataWrite m n v) s (fun u => u.engines = s.engines ∧
      u.rbit (Reg.CEN_STATUS n) 5 = true))) ∧
  (∀ (s : State) (n : Nat), s.dead = false → s.engineOn n = true →
    (s.rfld (Reg.CEN_WDOG n) 31 0 ≠ 0 → (s.engineAt n).run ≠ .halted →
      ((s.engineAt n).wdogT + s.rfld (Reg.CEN_WDOG n) 31 0 * 1000 ≤ s.clock → Sys2Proof.Machine.exec (.engineWatchdogExpiry n) s =
        .next ((s.rsetBit (Reg.CEN_STATUS n) 7 true).engineReset n false)) ∧
      (s.clock < (s.engineAt n).wdogT + s.rfld (Reg.CEN_WDOG n) 31 0 * 1000 →
        Sys2Proof.Machine.exec (.engineWatchdogExpiry n) s = .next s)) ∧
    (s.rget (Reg.CEN_TIMER n) ≠ 0 → (s.rget (Reg.CEN_TIMER n)).toNat ≤ s.now →
      (s.engineAt n).timed ≠ (s.rget (Reg.CEN_TIMER n)).toNat → Sys2Proof.Machine.exec (.engineTimer n) s =
        .next (s.updEngine n (fun e => { e with pend := e.pend ||| 2 ^ 13, timed := (s.rget (Reg.CEN_TIMER n)).toNat }))) ∧
    (∀ (i : Nat) (w : Codeword), n < s.engines.length →
      (d144Check w = .uncorrectable → n ≠ 8 →
        Completes (.engineRamError n 2 i w) s (fun u => (u.engineAt n).evq = [] ∧ u.rbit (Reg.CEN_STATUS n) 8 = true ∧
          (u.engineAt n).w = (s.engineAt n).w) ∧
        Completes (.engineRamError n 1 i w) s (fun u => (u.engineAt n).failed = true ∧ (u.engineAt n).run = .halted)) ∧
      (d144Check w = .uncorrectable → n = 8 → s.recOpen = [] → ∀ k, Completes (.engineRamError n k i w) s (fun u => u.dead = true)) ∧
      (∀ k j y, d144Check w = .corrected j y → n ≠ 8 ∨ s.recOpen = [] → Completes (.engineRamError n k i w) s (fun u =>
        u.engines = s.engines ∧ u.rget (Reg.CEN_ECC_CE n) = s.rget (Reg.CEN_ECC_CE n) + 1))))

/-- Each job row submits a descriptor of its OP to a unit that is enabled and has room: the job joins the queue; where
it is disabled or retired, the address is not allowed, or four are outstanding, SUBREJ is set. A job ends by writing
its output, then RESULT, then its XDONE entry; a bad descriptor writes RESULT alone, and a key without the permission
ends the job with KEYDENY. INFLATE of what DEFLATE gives is the input; opening what GCM sealed gives the plaintext,
and another tag gives nothing. A corrected error is counted; a first unit error restarts the job and a second retires
the unit and ends its jobs. LOAD, ERASE and ZEROIZE act on the key slots within their permissions. -/
def Obligations.TransformsAndKeysActAsDescribed : Prop :=
  (∀ p ∈ ([(.deflateJob, 0, 1), (.inflateJob, 0, 2), (.fondantJob, 0, 3), (.fondantDeflateJob, 0, 4), (.unfondantJob, 0, 5),
      (.inflateUnfondantJob, 0, 6), (.encryptJob, 2, 1), (.decryptJob, 2, 2), (.unwrapJob, 2, 3)] :
      List ((Nat → Nat → Word → Instr) × Nat × Nat)),
    ∀ (s : State) (m u : Nat) (v : Word) (ws : List Word) (d : State), u < 2 → s.mayWrite m = true →
    s.descriptor m (p.2.1 + u) v.toNat = (ws, d) → (nth ws 0 0).toNat % 256 = p.2.2 → 0x10 ≤ m → m ≤ 0x19 →
    (s.rbit (Reg.CMP_CTRL (p.2.1 + u)) 0 = true → s.rbit (Reg.CMP_STATUS (p.2.1 + u)) 2 = false →
      nth s.power.doms (125 + (p.2.1 + u) / 2) 0 = 1 → s.power.moving = [] → v.toNat % 64 = 0 →
      jobRegion m v.toNat (if p.2.1 = 0 then 64 else 128) = true → s.outstanding m (p.2.1 + u) < 4 →
      Sys2Proof.Machine.exec (p.1 m u v) s =
        .next { d with jobs := d.jobs ++ [⟨p.2.1 + u, m, v.toNat, ws, p.2.2, 0, false⟩] }) ∧
    (s.rbit (Reg.CMP_CTRL (p.2.1 + u)) 0 = false ∨ s.rbit (Reg.CMP_STATUS (p.2.1 + u)) 2 = true ∨ v.toNat % 64 ≠ 0 ∨
      jobRegion m v.toNat (if p.2.1 = 0 then 64 else 128) = false ∨ 4 ≤ s.outstanding m (p.2.1 + u) →
      Sys2Proof.Machine.exec (p.1 m u v) s = .next (s.rsetBit (Reg.CMP_STATUS (p.2.1 + u)) 0 true))) ∧
  (∀ (s : State) (u n a d k : Nat) (j : Job) (out : List Byte), s.dead = false → s.jobOf u = some j → u < 2 → j.unit = u → n < 8 →
    n < s.engines.length → j.master = 0x10 + n → j.quiet = false → j.errs ≤ 1 → j.words ≠ [] →
    j.addr = 2 ^ 64 - 0x20000 + a → a + 64 ≤ 0x10000 →
    k = ((s.engineAt n).evq.filter (fun x => decide (x.kind = 6))).length → k < 16 →
    (j.bad = true → Completes (.transformJobDone u) s (fun v => v.jobs = s.jobs.erase j ∧ v.mem = s.mem ∧
      (v.engineAt n).dram = smPutBytes (s.engineAt n).dram 0 (a + 0x28) (natToBytes 8 (2 ^ 63 + 4 * 2 ^ 56)) ∧
      (v.engineAt n).evq = (s.engineAt n).evq ++ [⟨6, u, j.at_ 0x30 % 2 ^ 32⟩])) ∧
    (j.bad = false → s.jobSolid j.src = true → j.transform (s.jobRead j.master j.src).1 = (out, true) → out.length ≤ j.dst.2 →
      j.dst.1 = 2 ^ 64 - 0x20000 + d → d + out.length ≤ 0x10000 → out ≠ [] → (d + out.length ≤ a + 0x28 ∨ a + 0x30 ≤ d) →
      Completes (.transformJobDone u) s (fun v => v.jobs = s.jobs.erase j ∧ v.mem = (s.jobRead j.master j.src).2.mem ∧
        smBytes (v.engineAt n).dram 0 d out.length = out ∧
        smBytes (v.engineAt n).dram 0 (a + 0x28) 8 = natToBytes 8 (2 ^ 63 + out.length) ∧
        (v.engineAt n).evq = (s.engineAt n).evq ++ [⟨6, u, j.at_ 0x30 % 2 ^ 32⟩]))) ∧
  (∀ (s : State) (u n : Nat) (j : Job), s.dead = false → s.jobOf u = some j → j.master = 0x10 + n → n < 8 → j.quiet = false →
    16 ≤ ((s.engineAt n).evq.filter (fun x => decide (x.kind = 6))).length →
    Sys2Proof.Machine.exec (.transformJobDone u) s = .next s) ∧
  (∀ (s : State) (j : Job), j.errs ≤ 1 → j.words ≠ [] → j.bad = false → j.glaze = true →
    (s.keyFor j.keySlot (j.op - 1) = none → s.runJob j = (⟨7, [], 0⟩, s)) ∧
    (∀ key, s.keyFor j.keySlot (j.op - 1) = some key → j.parts.all s.jobSolid = true →
      (j.op = 1 → (s.runJob j).1.rstat = 0 ∧ (s.runJob j).1.writes.map (·.1) = [j.dst.1, j.tag.1] ∧ (s.runJob j).2.keys = s.keys) ∧
      (j.op = 2 → (s.runJob j).1.rstat = 6 → (s.runJob j).1.writes = [(j.dst.1, List.replicate j.src.2 0)]) ∧
      (j.op = 3 → (s.runJob j).1.writes = [] ∧ ((s.runJob j).1.rstat = 6 → (s.runJob j).2.keys = s.keys)))) ∧
  (∀ (level : Nat) (bs : List Byte), inflate (deflate level bs) = (bs, true)) ∧
  (∀ key iv aad pt : List Byte, key.length = 32 → iv.length = 12 →
    gcmOpen key iv aad (gcmSeal key iv aad pt).1 (gcmSeal key iv aad pt).2 = some pt ∧
    (gcmSeal key iv aad pt).1.length = pt.length ∧
    ∀ t, t ≠ (gcmSeal key iv aad pt).2 → gcmOpen key iv aad (gcmSeal key iv aad pt).1 t = none) ∧
  (∀ (s : State) (u : Nat) (j : Job), s.dead = false → s.jobOf u = some j →
    (j.errs = 0 → Completes (.transformUnitError u true) s (fun v => v.mem = s.mem ∧
      v.jobs = updAt s.jobs (s.jobs.idxOf j) (fun x => { x with errs := 1 }))) ∧
    (j.errs ≠ 0 → (∀ n < 8, ((s.engineAt n).evq.filter (fun x => decide (x.kind = 6))).length +
        (s.jobs.filter (fun y => decide (y.unit = u))).length ≤ 16) →
      Completes (.transformUnitError u true) s (fun v => v.rbit (Reg.CMP_STATUS u) 2 = true ∧ (∀ y ∈ v.jobs, y.unit ≠ u) ∧
      ∀ y ∈ s.jobs, y.unit ≠ u → y ∈ v.jobs)) ∧
    Completes (.transformUnitError u false) s (fun v => v.jobs = s.jobs ∧ v.mem = s.mem ∧
      v.rget (Reg.CMP_ECC_CE u) = s.rget (Reg.CMP_ECC_CE u) + 1)) ∧
  (∀ (s : State) (m : Nat) (v : Word), s.mayWrite m = true →
    (fld v 15 12 = 1 → s.keyAllowed m (fld v 4 0) = true → s.keyBusy (fld v 4 0) = false → s.keys.length = 32 →
      Completes (.keyLoad m v) s (fun t => (∀ i, i ≠ fld v 4 0 → t.keys[i]? = s.keys[i]?) ∧
        t.keys[fld v 4 0]? = some ⟨true, fld v 10 8, s.rget Reg.ENC_KEYW3 ++ s.rget Reg.ENC_KEYW2 ++ s.rget Reg.ENC_KEYW1 ++
          s.rget Reg.ENC_KEYW0, none⟩ ∧ t.rget Reg.ENC_KEYW0 = 0 ∧ t.rget Reg.ENC_KEYW3 = 0)) ∧
    (fld v 15 12 = 1 → s.keyAllowed m (fld v 4 0) = false → Completes (.keyLoad m v) s (fun t => t.keys = s.keys ∧
      t.rbit (Reg.ENC_STATUS 0) 3 = true ∧ t.rget Reg.ENC_KEYW0 = 0)) ∧
    (fld v 15 12 = 2 → s.keyAllowed m (fld v 4 0) = true → Completes (.keyErase m v) s (fun t =>
      t.keys = updAt s.keys (fld v 4 0) (fun _ => ⟨false, 0, 0, none⟩))) ∧
    (bit v 0 = true → Sys2Proof.Machine.exec (.encZeroize m v) s =
      .next { s with keys := List.replicate 32 ⟨false, 0, 0, none⟩ })) ∧
  (∀ (s : State) (m slot : Nat), s.keyAllowed m slot = true ↔ (slot < 8 ∧ m = 0x18) ∨ (8 ≤ slot ∧ (m = 0x18 ∨ m = 0x19) ∧ s.locked = false))

/-- A frame whose CRC fails or whose flit is uncorrectable is answered by a frame that asks for a resend and has no
other effect; a repeated frame is answered and otherwise ignored; the next frame's flit joins its message. 2 µs
without progress counts a resend. A signal starts training, lock leads to HELLO, a failed training begins again or
with the third within 1 s leads to FAILED, loss of signal and 5 ms without a HELLO lead away, a HELLO without a reason
for restriction leads to UP and with one to RESTRICTED, and the identity brings port X up. An acknowledgement frees
the messages it covers, and a timeout sends the rest again. A message that does not come next in its order is not
delivered. -/
def Obligations.LinksCarryFramesAndChangeState : Prop :=
  (∀ (s : State) (p : Nat) (f : Frame), s.dead = false → p < s.fab.links.length →
    ((s.linkAt p).state = .hello ∨ (s.linkAt p).state = .up ∨ (s.linkAt p).state = .restricted ∨ (s.linkAt p).state = .sleep) →
    (fld f.word 7 0 ≠ crc8 (fld f.word 31 8) ∨ (bit f.word 31 = true ∧ d144Check f.flit0 = .uncorrectable) ∨
        (bit f.word 28 = true ∧ d144Check f.flit1 = .uncorrectable) →
      Completes (.linkFrameReceive p f) s (fun u => (u.linkAt p).rejecting = true ∧ (u.linkAt p).nak = true ∧
        (u.linkAt p).rxFseq = (s.linkAt p).rxFseq ∧ (u.linkAt p).rx = (s.linkAt p).rx ∧ (∀ q, q ≠ p → u.linkAt q = s.linkAt q) ∧
        u = { s with fab.links := u.fab.links } ∧ ((s.linkAt p).txq = [] → ∃ x, (u.linkAt p).last = some x ∧ bit x.word 13 = true))) ∧
    (fld f.word 7 0 = crc8 (fld f.word 31 8) → (bit f.word 31 = true → d144Check f.flit0 ≠ .uncorrectable) →
      (bit f.word 28 = true → d144Check f.flit1 ≠ .uncorrectable) → (bit f.word 31 = true ∨ bit f.word 28 = true) →
      (s.linkAt p).rxFseq < 64 → fld f.word 25 20 = (s.linkAt p).rxFseq →
      Sys2Proof.Machine.exec (.linkFrameReceive p f) s = .next (s.updLink p (fun l => l.answer s.clock))) ∧
    (fld f.word 7 0 = crc8 (fld f.word 31 8) → d144Check f.flit0 = .clean → bit f.word 31 = true → bit f.word 28 = false →
      bit f.word 13 = false → fld f.word 25 20 = ((s.linkAt p).rxFseq + 1) % 64 → (s.linkAt p).kept = [] → (s.linkAt p).txq = [] →
      p ≠ 6 → fld f.word 30 29 < (s.linkAt p).rx.length → nth (s.linkAt p).rx (fld f.word 30 29) [] ≠ [] →
      (nth (s.linkAt p).rx (fld f.word 30 29) []).length <
        fld (nth (nth (s.linkAt p).rx (fld f.word 30 29) []) 0 0) 101 98 →
      Completes (.linkFrameReceive p f) s (fun u => (u.linkAt p).rxFseq = fld f.word 25 20 ∧ (u.linkAt p).nak = false ∧
        nth (u.linkAt p).rx (fld f.word 30 29) [] = nth (s.linkAt p).rx (fld f.word 30 29) [] ++ [d144Data f.flit0] ∧
        u = { s with fab.links := u.fab.links } ∧ ∀ q, q ≠ p → u.linkAt q = s.linkAt q))) ∧
  (∀ (s : State) (p : Nat), s.dead = false → p < s.fab.links.length →
    ((s.linkAt p).kept ≠ [] → (s.linkAt p).progT + 2000 ≤ s.clock → (s.linkAt p).resends = [] → Completes (.linkResendTimeout p) s
      (fun u => (u.linkAt p).kept = (s.linkAt p).kept ∧ (u.linkAt p).progT = s.clock ∧
        u.rget (Reg.FAB_LINK_REPLAY p) = s.rget (Reg.FAB_LINK_REPLAY p) + w64 (s.linkAt p).kept.length)) ∧
    (s.clock < (s.linkAt p).progT + 2000 → Sys2Proof.Machine.exec (.linkResendTimeout p) s = .next s) ∧
    ((s.linkAt p).state = .down → s.rbit (Reg.FAB_LINK_CTRL p) 0 = true → s.rbit Reg.FCL_STATUS 4 = false →
      s.domOn (if p = 6 then 129 else 128) = true → s.rbit Reg.CLK_STATUS 6 = true →
      Completes (.linkSignalDetect p) s (fun u => (u.linkAt p).state = .train ∧ (u.linkAt p).signal = true ∧
        ∀ q, q ≠ p → u.linkAt q = s.linkAt q)) ∧
    ((s.linkAt p).state = .train → Completes (.linkFrameLock p) s (fun u => (u.linkAt p).state = .hello ∧
      (u.linkAt p).lastHello = s.clock ∧ ∀ q, q ≠ p → u.linkAt q = s.linkAt q)) ∧
    ((s.linkAt p).state = .train → (s.linkAt p).fails.length < 2 → Sys2Proof.Machine.exec (.linkTrainingFailure p) s =
      .next (s.updLink p (fun l => { l with
        fails := s.clock :: l.fails.filter (fun t => decide (s.clock < t + 1000000000)) }))) ∧
    ((s.linkAt p).state = .train → 2 ≤ (s.linkAt p).fails.length → (∀ t ∈ (s.linkAt p).fails, s.clock < t + 1000000000) →
      s.recQ.length < 16 → Leaves (.linkTrainingFailure p) s p .failed) ∧
    ((s.linkAt p).state ≠ .down → (s.linkAt p).state ≠ .failed → Leaves (.linkSignalLoss p) s p .down) ∧
    (p < 6 → ((s.linkAt p).state = .hello ∨ (s.linkAt p).state = .up ∨ (s.linkAt p).state = .restricted ∨ (s.linkAt p).state = .sleep) →
      (s.linkAt p).lastHello + 5000000 ≤ s.clock → Leaves (.linkHelloTimeout p) s p .train) ∧
    ((s.linkAt p).state = .sleep → ∃ x : State, Sys2Proof.Machine.exec (.linkWake p) s = .next x.linksChanged ∧ (x.linkAt p).state = .up ∧
      (∀ q, q ≠ p → x.linkAt q = s.linkAt q) ∧ x.mem = s.mem)) ∧
  (∀ (s : State) (p : Nat), s.dead = false → s.fabOn = true → p < 6 →
    ((s.linkAt p).state = .hello ∨ (s.linkAt p).state = .up ∨ (s.linkAt p).state = .restricted ∨ (s.linkAt p).state = .sleep) →
    ∃ m : Msg, Sys2Proof.Machine.exec (.helloSend p) s = .next (s.updLink p (fun l => l.push s.clock 1 m.words)) ∧ m.kind = 1 ∧
      m.src = s.localId ∧ m.arg = s.rfld Reg.TCK_EPOCH 31 0 ∧ m.body = (s.ownHello p).body) ∧
  (∀ h : Hello, h.serial < 2 ^ 64 → h.bootcnt < 2 ^ 32 → h.pers < 2 ^ 16 → h.fpv < 256 → h.step < 256 → h.plandig < 2 ^ 64 →
    h.ucsver < 2 ^ 16 → h.device < 1024 → h.port < 8 → h.tmprio < 16 → h.manager < 1024 → h.tmaster < 1024 → helloOf h.body = h) ∧
  (∀ m : Msg, m.dst < 1024 → m.src < 1024 → m.kind < 64 → m.ncw < 16 → m.vc < 4 → m.eseq < 65536 → m.aux < 65536 →
    m.arg < 2 ^ 64 → msgOf m.header m.body = m) ∧
  (∀ (v0 v1 nak : Bool) (vc0 vc1 fseq ack cvc cred : Nat) (w : BitVec 32), vc0 < 4 → vc1 < 4 → fseq < 64 → ack < 64 → cvc < 4 →
    cred < 8 → w = linkWord v0 vc0 v1 vc1 fseq ack nak cvc cred →
    fld w 7 0 = crc8 (fld w 31 8) ∧ fld w 30 29 = vc0 ∧ fld w 27 26 = vc1 ∧ fld w 25 20 = fseq ∧ fld w 19 14 = ack ∧
    bit w 31 = v0 ∧ bit w 28 = v1 ∧ bit w 13 = nak ∧ fld w 12 11 = cvc ∧ fld w 10 8 = cred) ∧
  (∀ (s : State) (p : Nat) (m : Msg), s.dead = false → s.fabOn = true → m.kind = 1 → m.body.length = 3 → p < 6 →
    p < s.fab.links.length →
    ((s.linkAt p).state = .hello ∨ (s.linkAt p).state = .up ∨ (s.linkAt p).state = .restricted) →
    (∀ x ∈ s.fab.boots, x.1 = (helloOf m.body).device → x.2.1 = (helloOf m.body).serial → x.2.2 = (helloOf m.body).bootcnt) →
    ∃ x : State, Sys2Proof.Machine.exec (.helloReceive p m) s = .next x.linksChanged ∧ (x.linkAt p).peer = some (helloOf m.body) ∧
      (x.linkAt p).lastHello = s.clock ∧ (x.linkAt p).reason = s.helloReason p (helloOf m.body) ∧
      (x.linkAt p).state = (if s.helloReason p (helloOf m.body) = 0 then .up else .restricted)) ∧
  (∀ (s : State) (p : Nat) (h : Hello), s.rbit Reg.FAB_STATUS 2 = false →
    (h.pers ≠ (s.ownHello p).pers → s.helloReason p h = 1) ∧
    (h.pers = (s.ownHello p).pers → h.fpv ≠ 1 → s.helloReason p h = 2) ∧
    (h.pers = (s.ownHello p).pers → h.fpv = 1 → h.ucsver / 256 ≠ s.ucsVer / 256 → s.helloReason p h = 3) ∧
    (h.pers = (s.ownHello p).pers → h.fpv = 1 → h.ucsver / 256 = s.ucsVer / 256 → h.plan = false → s.helloReason p h = 0)) ∧
  (∀ (s : State) (d : BitVec 128), s.dead = false → 6 < s.fab.links.length → (s.linkAt 6).state = .hello →
    Completes (.xportIdentity d) s (fun u => (u.linkAt 6).state = .up ∧ (u.linkAt 6).ident = fld d 127 96 ∧
      ∀ q, q ≠ 6 → u.linkAt q = s.linkAt q)) ∧
  (∀ (s : State) (m : Msg), s.dead = false → s.fabOn = true → s.power.doze = 0 → m.dst = s.localId → m.kind = 0x30 →
    m.body.length = m.ncw → s.fab.waiting = [] → s.fab.transit = [] → (∀ r ∈ s.fab.retained, r.sent = true) →
    Completes (.e2eackReceive m) s (fun u => u.fab.links = s.fab.links ∧ u.fab.retained.map (·.msg) = (s.fab.retained.map (·.msg)).filter
      (fun x => !(decide (x.dst = m.src ∧ x.vc = m.arg % 4) && decide ((m.aux + 65536 - x.eseq % 65536) % 65536 < 32768))))) ∧
  (∀ (s : State) (d vc : Nat) (r : Retained), s.dead = false →
    s.fab.retained.find? (fun x => decide (x.msg.dst = d ∧ x.msg.vc = vc)) = some r →
    (s.clock < r.time + clampNat 5 10000 (s.rfld Reg.FAB_E2E_RTO 19 0) * 1000 →
      Sys2Proof.Machine.exec (.e2eResendTimeout d vc) s = .next s) ∧
    (r.time + clampNat 5 10000 (s.rfld Reg.FAB_E2E_RTO 19 0) * 1000 ≤ s.clock →
      (∀ x ∈ s.fab.retained, x.msg.dst = d → x.msg.vc = vc → x.sent = true ∧ (s.routeOut d x.msg.kind).isSome = true) →
      Completes (.e2eResendTimeout d vc) s (fun u =>
        u.rget Reg.FAB_E2E_RETX = s.rget Reg.FAB_E2E_RETX +
          w64 (s.fab.retained.filter (fun x => decide (x.msg.dst = d ∧ x.msg.vc = vc))).length ∧
        u.fab.retained.map (·.msg) = s.fab.retained.map (·.msg) ∧
        ∀ x ∈ u.fab.retained, x.msg.dst = d → x.msg.vc = vc → x.time = s.clock))) ∧
  (∀ p ∈ ([(.mgmtReceive, 0x02), (.routeReceive, 0x04), (.rdreqReceive, 0x08), (.rdrespReceive, 0x09), (.wrreqReceive, 0x0A),
      (.wrackReceive, 0x0B), (.rerrReceive, 0x0C), (.rscredReceive, 0x10), (.rsgrantReceive, 0x11), (.rsitemReceive, 0x12),
      (.rscloseReceive, 0x13), (.rsackReceive, 0x14), (.voteMessage, 0x18), (.rsyreqReceive, 0x20), (.rsydataReceive, 0x21),
      (.rsyackReceive, 0x22)] : List ((Msg → Instr) × Nat)),
    ∀ (s : State) (m : Msg), s.dead = false → s.fabOn = true → s.power.doze = 0 → m.kind = p.2 → m.body.length = m.ncw →
    m.dst = s.localId → m.eseq ≠ smGet s.fab.rxSeq (m.src * 4 + m.vc) 0 →
    Completes (p.1 m) s (fun u => u = { s with fab.links := u.fab.links }))

/-- A message that arrives in its order is acknowledged and acts once. A remote load or store inside a granted window
is performed and answered, any other is refused without effect; a response completes the access it answers, and a
refusal fails it and counts. Link-state records and routing entries are taken; credits, items, closes and
acknowledgements change the queues that they name, an item that finds no room waits, a repeated one changes nothing; a
vote is kept; resynchronisation copies its region. The time exchange with a follower's time parent gives the offset,
the correction before RUN, and the bound E, which grows without exchanges; a message from elsewhere changes no time. A
device without a route for the loss timeout is lost. -/
def Obligations.FabricMessagesAndTimeActAsDescribed : Prop :=
  (∀ (s : State) (m : Msg) (d : State), Arrives s m d →
    d = { s with fab.links := d.fab.links, fab.rxSeq := smPut s.fab.rxSeq (m.src * 4 + m.vc) 0 ((m.eseq + 1) % 65536) }) ∧
  (∀ (s : State) (a n : Nat) (w : Bool), s.windowGrants a n w = true ↔
    (∃ k < 8, s.rbit (Reg.FAB_RWIN_BASE k) 2 = true ∧ s.rbit (Reg.FAB_RWIN_BASE k) (if w then 1 else 0) = true ∧
      s.rfld (Reg.FAB_RWIN_BASE k) 47 12 * 4096 ≤ a ∧ a + n ≤ (s.rfld (Reg.FAB_RWIN_LIMIT k) 47 12 + 1) * 4096) ∧
    (s.accessKind a n = .sdram ∨ s.accessKind a n = .scratch)) ∧
  (∀ (s : State) (dst kind vc aux arg : Nat) (body : List (BitVec 128)), s.retainUsed + 1 + body.length ≤ 16384 →
    s.fab.waiting = [] → ∃ sent, (s.sendMsg dst kind vc aux arg body).fab.retained = s.fab.retained ++ [⟨
      ⟨dst, s.localId, kind, body.length, vc, smGet s.fab.txSeq (dst * 4 + vc) 0, aux, arg, body⟩, s.clock, sent⟩] ∧
    smGet (s.sendMsg dst kind vc aux arg body).fab.txSeq (dst * 4 + vc) 0 = (smGet s.fab.txSeq (dst * 4 + vc) 0 + 1) % 65536) ∧
  (∀ (s d : State) (m : Msg), Arrives s m d →
    (m.kind = 0x08 → 1 ≤ m.aux → m.aux ≤ 32 → touchesCsr m.arg m.aux = false →
      (d.windowGrants m.arg m.aux false = true → Sys2Proof.Machine.exec (.rdreqReceive m) s = .next ((d.memRead m.arg m.aux).2.sendMsg
        m.src 0x09 3 m.eseq m.arg (State.packCws 2 (d.memRead m.arg m.aux).1))) ∧
      (d.windowGrants m.arg m.aux false = false → ∀ u, u = (d.sendMsg m.src 0x0C 3 m.eseq m.arg []).event 0x480 0 0x92 m.src →
        Sys2Proof.Machine.exec (.rdreqReceive m) s =
          .next (if d.hitsHole m.arg m.aux then u.holeEvent (0x400 + m.src) m.arg else u))) ∧
    (m.kind = 0x0A → 1 ≤ m.aux → m.aux ≤ 32 → touchesCsr m.arg m.aux = false →
      (d.windowGrants m.arg m.aux true = true → Sys2Proof.Machine.exec (.wrreqReceive m) s = .next ((d.memWrite none m.arg
        ((natToBytes 32 ((nth m.body 0 0).toNat + (nth m.body 1 0).toNat * 2 ^ 128)).take m.aux)).sendMsg m.src 0x0B 3 m.eseq m.arg [])) ∧
      (d.windowGrants m.arg m.aux true = false → Completes (.wrreqReceive m) s (fun u => u.mem = s.mem ∧ u.chans = s.chans))) ∧
    (∀ r, s.fab.remote.find? (fun r => decide (r.device = m.src ∧ r.eseq = m.aux)) = some r →
      (m.kind = 0x09 → r.store = false → Completes (.rdrespReceive m) s (fun u => u.mem = s.mem ∧
        u.fab.remote = updAt s.fab.remote (s.fab.remote.idxOf r) (fun x => { x with
          data := some ((natToBytes 32 ((nth m.body 0 0).toNat + (nth m.body 1 0).toNat * 2 ^ 128)).take r.len) }))) ∧
      (m.kind = 0x0B → r.store = true → Completes (.wrackReceive m) s (fun u => u.mem = s.mem ∧
        u.fab.remote = s.fab.remote.erase r)) ∧
      (m.kind = 0x0C → Completes (.rerrReceive m) s (fun u => u.rget Reg.FAB_RERR = s.rget Reg.FAB_RERR + 1 ∧
        u.rbit Reg.FAB_STATUS 7 = true ∧ u.mem = s.mem ∧ (r.store = true → u.fab.remote = s.fab.remote.erase r) ∧
        (r.store = false → u.fab.remote = updAt s.fab.remote (s.fab.remote.idxOf r) (fun x => { x with failed := true }))))) ∧
    (m.kind = 0x02 → m.body.length = 2 → (recOfBody m.body).serial ≠ (s.rget Reg.FAB_SERIAL).toNat →
      (s.fab.recs.find? (fun x => decide (x.serial = (recOfBody m.body).serial)) = none → Sys2Proof.Machine.exec (.mgmtReceive m) s =
        .next (({ d with fab.recs := recOfBody m.body :: d.fab.recs.filter (fun x => decide (x.serial ≠ (recOfBody m.body).serial)) }.flood
          (recOfBody m.body) (some m.src)).topology.linksChanged)) ∧
      (∀ o, s.fab.recs.find? (fun x => decide (x.serial = (recOfBody m.body).serial)) = some o → o.seq = (recOfBody m.body).seq →
        o.seq < 2 ^ 32 → Sys2Proof.Machine.exec (.mgmtReceive m) s = .next d)) ∧
    (m.kind = 0x04 → s.planned = false → Completes (.routeReceive m) s (fun u => u.fab.newVer = some (m.arg / 2 ^ 32) ∧
      u.csr = s.csr ∧ ∀ i < m.body.length * 8, m.arg % 1024 + i < 1024 →
        (m.arg % 1024 + i, fld (nth m.body (i / 8) 0) (i % 8 * 16 + 15) (i % 8 * 16)) ∈ u.fab.newTab)) ∧
    (m.kind = 0x10 → (s.inbound (m.aux % 256)).valid = false →
      Sys2Proof.Machine.exec (.rscredReceive m) s = .next (d.sendMsg m.src 0x11 3 (m.aux % 256) 256 [])) ∧
    (∀ c g, m.kind = 0x10 → (s.inbound (m.aux % 256)).valid = true → (s.inbound (m.aux % 256)).srcs.contains m.src = true →
      s.chan? (s.inbound (m.aux % 256)).handle = some c → c.width = 4 * 2 ^ (m.arg % 4) → s.fab.asks = [] →
      g = min (min 8 (m.arg / 4)) (s.rsRoom c) → g ≠ 0 → Completes (.rscredReceive m) s (fun u => u.fab.asks = [] ∧
        smGet u.fab.granted (m.src * 256 + m.aux % 256) 0 = smGet s.fab.granted (m.src * 256 + m.aux % 256) 0 + g)) ∧
    (m.kind = 0x11 → m.arg.testBit 8 = false → Sys2Proof.Machine.exec (.rsgrantReceive m) s =
      .next (d.setRsBind { d.rsBind m.src (m.aux % 256) with
        asked := false, credits := (d.rsBind m.src (m.aux % 256)).credits + m.arg % 256 }).wakeChannel) ∧
    (m.kind = 0x12 → m.body.length = 3 →
      (fld (nth m.body 0 0) 37 6 < s.rsAcc m.src (m.aux % 256) m.arg → Completes (.rsitemReceive m) s (fun u =>
        u.fab.items = s.fab.items ∧ u.fab.accs = s.fab.accs)) ∧
      (s.rsAcc m.src (m.aux % 256) m.arg ≤ fld (nth m.body 0 0) 37 6 → (s.inbound (m.aux % 256)).valid = false →
        Completes (.rsitemReceive m) s (fun u => u.fab.items = s.fab.items ∧ u.rget Reg.FAB_LATE = s.rget Reg.FAB_LATE + 1 ∧
          u.rbit Reg.FAB_STATUS 8 = true)) ∧
      (∀ c, s.rsAcc m.src (m.aux % 256) m.arg ≤ fld (nth m.body 0 0) 37 6 → (s.inbound (m.aux % 256)).valid = true →
        (s.inbound (m.aux % 256)).srcs.contains m.src = true → s.chan? (s.inbound (m.aux % 256)).handle = some c →
        State.rsDone c (m.arg + (s.inbound (m.aux % 256)).delay) = false →
        (s.rsHolds m.src = false → Completes (.rsitemReceive m) s (fun u =>
          u.fab.items = s.fab.items ++ [⟨m.src, m.aux % 256, m.arg, fld (nth m.body 0 0) 37 6,
            (nth m.body 1 0).toNat + (nth m.body 2 0).toNat * 2 ^ 128⟩])) ∧
        (s.rsHolds m.src = true → Sys2Proof.Machine.exec (.rsitemReceive m) s =
          .next { d with fab.held := d.fab.held ++ [m] }))) ∧
    (m.kind = 0x13 → (∀ x ∈ s.fab.held, x.src ≠ m.src) → Completes (.rscloseReceive m) s (fun u => u.chans = s.chans ∧ (∀ x ∈ s.fab.closes, x ∈ u.fab.closes) ∧
      ∀ i ∈ s.inboundFrom m.src, (⟨m.src, i, m.arg⟩ : RsClose) ∈ u.fab.closes)) ∧
    (m.kind = 0x14 → Completes (.rsackReceive m) s (fun u => u.fab.outs = s.fab.outs.filter (fun o =>
      !decide (o.device = m.src ∧ o.inbound = m.aux % 256 ∧ o.wafer = m.arg ∧ fld (nth m.body 0 0) 63 32 ≤ o.k ∧
        o.k < fld (nth m.body 0 0) 31 0)))) ∧
    (m.kind = 0x18 → m.body.length = 4 → s.tick.started = false → (∀ f ∈ s.firings, f.wait ≠ .vote) →
      (∀ x ∈ s.votes, x.wafer ≠ m.arg) → Completes (.voteMessage m) s (fun u => ∃ v, u.votes = s.votes ++ [v] ∧
        v.group = m.aux / 4096 % 16 ∧ v.member = m.aux / 1024 % 4 ∧ v.wafer = m.arg ∧ v.abstain = bit (nth m.body 0 0) 83 ∧
        v.digest = nth m.body 1 0)) ∧
    (∀ y, m.kind = 0x20 → s.resyncOf (m.aux % 16) m.arg true = some y →
      (y.begun = true → Sys2Proof.Machine.exec (.rsyreqReceive m) s = .next (d.sendSnapshot y m.src)) ∧
      (y.begun = false → Completes (.rsyreqReceive m) s (fun u => u.mem = s.mem ∧
        u.fab.resyncs = updAt s.fab.resyncs (s.fab.resyncs.idxOf y) (fun z => { z with asked := some m.src })))) ∧
    (∀ y, m.kind = 0x21 → s.resyncOf (m.aux % 16) m.arg false = some y → y.begun = true → m.body.length = 9 → m.src = y.source →
      fld (nth m.body 0 0) 31 0 + 128 ≤ (bankGroup s.cfg.bank y.group).slen * 4096 →
      y.got + 1 < (bankGroup s.cfg.bank y.group).slen * 32 → Completes (.rsydataReceive m) s (fun u =>
        u.mem = (d.memWrite none ((bankGroup s.cfg.bank y.group).sbase + fld (nth m.body 0 0) 31 0)
          ((m.body.drop 1).flatMap (fun c => natToBytes 16 c.toNat))).mem ∧
        u.fab.resyncs = updAt s.fab.resyncs (s.fab.resyncs.idxOf y) (fun _ => { y with got := y.got + 1 }))) ∧
    (∀ y, m.kind = 0x22 → s.resyncOf (m.aux % 16) m.arg true = some y → Completes (.rsyackReceive m) s (fun u =>
      u.fab.resyncs = s.fab.resyncs.erase y ∧ u.mem = s.mem))) ∧
  (∀ (s : State) (k : Nat), s.dead = false → s.fabOn = true → k < s.slots.length →
    ((s.slotAt k).rsclosed = false → s.rsEnded k = true → Completes (.rscloseSend k) s (fun u =>
      (u.slotAt k).rsclosed = true ∧ u.fab.outs = s.fab.outs ∧ u.chans = s.chans)) ∧
    ((s.slotAt k).rsclosed = true ∨ s.rsEnded k = false → Sys2Proof.Machine.exec (.rscloseSend k) s = .next s)) ∧
  (∀ (s : State) (g w : Nat) (y : Resync), s.dead = false →
    (s.resyncOf g w true = some y → y.begun = false → s.resyncPoint y = true → y.asked = none → Completes (.resyncSourcePoint g w) s
      (fun u => { y with begun := true } ∈ u.fab.resyncs ∧ u.mem =
        ((s.memRead (bankGroup s.cfg.bank g).sbase ((bankGroup s.cfg.bank g).slen * 4096)).2.memWrite none (bankGroup s.cfg.bank g).snap
          (s.memRead (bankGroup s.cfg.bank g).sbase ((bankGroup s.cfg.bank g).slen * 4096)).1).mem)) ∧
    (s.resyncOf g w false = some y →
      (y.begun = false → s.resyncPoint y = true → s.deviceLost y.source = false → Sys2Proof.Machine.exec (.resyncMinorityPoint g w) s =
        .next ({ s with fab.resyncs := updAt s.fab.resyncs (s.fab.resyncs.idxOf y) (fun _ =>
          { y with begun := true, holding := true, since := s.clock }) }.sendMsg y.source 0x20 2 g w [])) ∧
      (y.begun = true → y.since + clampNat 1000 1000000 (s.rfld Reg.FAB_RSYNC_TMO 19 0) * 1000 ≤ s.clock →
        Completes (.resyncTimeout g w) s (fun u => u.fab.resyncs = s.fab.resyncs.erase y ∧ u.rbit Reg.FAB_STATUS 12 = true)) ∧
      (s.clock < y.since + clampNat 1000 1000000 (s.rfld Reg.FAB_RSYNC_TMO 19 0) * 1000 →
        Sys2Proof.Machine.exec (.resyncTimeout g w) s = .next s))) ∧
  (∀ (s : State) (d : Nat), s.dead = false →
    (s.running = true → s.deviceLost d = false → s.hasUp d = false → d ≠ s.localId →
      s.lossFrom d + clampNat 100 1000000 (s.rfld Reg.FAB_LOSS_TMO 19 0) * 1000 ≤ s.clock →
      Sys2Proof.Machine.exec (.deviceLossTimeout d) s = .next (s.loseDevice d)) ∧
    (s.hasUp d = true ∨ s.clock < s.lossFrom d + clampNat 100 1000000 (s.rfld Reg.FAB_LOSS_TMO 19 0) * 1000 →
      Sys2Proof.Machine.exec (.deviceLossTimeout d) s = .next s)) ∧
  (∀ (s : State) (p : Nat) (m : Msg), s.timeLink p = true →
    Completes (.timeExchange p) s (fun u => p < s.fab.links.length → (u.linkAt p).syncT = s.now ∧ u = { s with fab := u.fab }) ∧
    (m.kind = 3 → m.aux / 2 ^ 14 % 4 = 1 → Sys2Proof.Machine.exec (.dreqReceive p m) s =
      .next ((s.classSent 2 0x13 0x11).timeSend p 2 s.now ((s.linkAt p).syncT % 2 ^ 64 * 2 ^ 64) 0)) ∧
    (s.follower = true → s.timeParent = some p → m.kind = 3 →
      (m.aux / 2 ^ 14 % 4 = 0 → Completes (.syncReceive p m) s (fun u => u.fab.t2 = s.now ∧ u.fab.t3 = s.now ∧
        u.fab.parE = fld (nth m.body 1 0) 97 82 ∧ u.fab.teff = fld (nth m.body 0 0) 127 64 ∧
        u.fab.weff = fld (nth m.body 0 0) 63 0 ∧ u.fab.nEff = fld (nth m.body 1 0) 127 108 ∧ u.now = s.now ∧
        (s.tick.started = false → u.tick = s.tick ∧ u.csr = s.csr))) ∧
      (∀ th : Int, m.aux / 2 ^ 14 % 4 = 2 → s.running = false →
        th = (((s.fab.t2 : Int) - fld (nth m.body 0 0) 127 64) - ((m.arg : Int) - s.fab.t3)) * 500 -
          signedOf 32 (s.rfld (Reg.FAB_LINK_ASYM p) 31 0) →
        Completes (.drespReceive p m) s (fun u => u.rget Reg.FAB_TOFFSET = w64 (wrapInt 32 th) ∧
          u.now = ((s.now : Int) - th / 1000).toNat ∧
          u.rget Reg.FAB_TBOUND = w64 (min (s.fab.parE * 1000 + th.natAbs + 2000) (2 ^ 32 - 1))))) ∧
    (s.fromParent p = false → m.kind = 3 →
      (m.aux / 2 ^ 14 % 4 = 0 → Sys2Proof.Machine.exec (.syncReceive p m) s = .next (s.classSent 2 0x13 0x11)) ∧
      (m.aux / 2 ^ 14 % 4 = 2 → Sys2Proof.Machine.exec (.drespReceive p m) s = .next (s.classSent 2 0x13 0x11)))) ∧
  (∀ s : State, s.dead = false →
    (s.follower = true → s.fab.lastX + 1000000 ≤ s.clock → Completes .timeBoundGrowth s (fun u =>
      u.rget Reg.FAB_TBOUND = w64 (min (s.bound + 2000) (2 ^ 32 - 1)) ∧ u.fab.lastX = s.fab.lastX + 1000000 ∧ u.now = s.now)) ∧
    (s.follower = false ∨ s.clock < s.fab.lastX + 1000000 → Sys2Proof.Machine.exec .timeBoundGrowth s = .next s))

/-- A path goes first along its row and then along its column. A corrected flit is counted; an uncorrectable one of a
token loses the token and asks for a replay of its wafer. A legal reservation without a clash takes its value at once,
or in service waits for the next tick, another is refused. A return from a domain that is off is counted. Loss of a
core PLL or of REFCLK is C4. Unit, park, cluster B and spare requests are refused or start their transition, whose
completion switches the domain; DOZE is entered and left; a rail below 92 % of its voltage begins HOLD, which ends 10
µs after the rails are back. -/
def Obligations.NetworkClocksAndPowerActAsDescribed : Prop :=
  (∀ a b : Nat, a < 16 → b < 16 → (routePath a b).head? = some a ∧ (routePath a b).getLast? = some b ∧
    (routePath a b).length = (max (a % 4) (b % 4) - min (a % 4) (b % 4)) + (max (a / 4) (b / 4) - min (a / 4) (b / 4)) + 1 ∧
    ∀ r ∈ routePath a b, r / 4 = a / 4 ∨ r % 4 = b % 4) ∧
  (∀ (s : State) (k kind n : Nat) (e : Codeword) (band : Nat) (again : Bool), s.dead = false →
    (d144Check e = .clean → Sys2Proof.Machine.exec (.nocFlitError k kind n e false band again) s = .next s) ∧
    (∀ j x, d144Check e = .corrected j x → Completes (.nocFlitError k kind n e false band again) s (fun u =>
      u.rget Reg.NOC_CE = s.rget Reg.NOC_CE + 1 ∧ u.net = s.net ∧ u.mem = s.mem)) ∧
    (∀ t, d144Check e = .uncorrectable → s.marks = [] → s.recQ.length < 16 → kind = 0 → s.net[n]? = some t →
      s.replayLimit (tagSlot t.tag) = false →
      Completes (.nocFlitError k kind n e false band again) s (fun u => u.rget Reg.NOC_UE = s.rget Reg.NOC_UE + 1 ∧
        u.net = s.net.erase t ∧ u.dead = false ∧ ∃ j, u.recQ = s.recQ ++ [j] ∧ j.mech = 5 ∧ j.slots = [tagSlot t.tag]))) ∧
  (∀ (s : State) (m r : Nat) (v w : Word), s.mayWrite m = true → w = v &&& 0xE03F3F0003FF007F →
    (rsvCodes w = true → (rsvOn w = false ∨
        (rsvLegal w = true ∧ s.nocPend = [] ∧ ∀ x < 64, x ≠ r → rsvClash w (s.rget (Reg.NOC_RSV x)) = false)) →
      (s.running = false → Sys2Proof.Machine.exec (.nocReservationWrite m r v) s = .next (s.rset (Reg.NOC_RSV r) w)) ∧
      (s.running = true → Completes (.nocReservationWrite m r v) s (fun u => u.csr = s.csr ∧ (Reg.NOC_RSV r, w) ∈ u.nocPend))) ∧
    (rsvCodes w = false ∨ (rsvOn w = true ∧
        (rsvLegal w = false ∨ ∃ x < 64, x ≠ r ∧ rsvClash w (s.rget (Reg.NOC_RSV x)) = true)) →
      Sys2Proof.Machine.exec (.nocReservationWrite m r v) s = .next (s.rsetBit Reg.NOC_STATUS 0 true))) ∧
  (∀ v w : Word, rsvClash v w = rsvClash w v) ∧
  (∀ (s : State) (n a : Nat), s.dead = false →
    Completes (.domainOffReturn 1 n a) s (fun u => u.rget Reg.NOC_OFFRET = s.rget Reg.NOC_OFFRET + 1 ∧
      u.rbit Reg.NOC_STATUS 3 = true ∧ u.net = s.net ∧ u.chans = s.chans) ∧
    Completes (.domainOffReturn 3 n a) s (fun u => u.rget Reg.NOC_OFFRET = s.rget Reg.NOC_OFFRET + 1 ∧ u.lastRead = 0 ∧
      u.rbit Reg.PWR_STATUS 3 = true) ∧
    Completes (.domainOffReturn 0 n a) s (fun u => u.rget Reg.NOC_OFFRET = s.rget Reg.NOC_OFFRET + 1 ∧
      carried u.net = carried s.net)) ∧
  (∀ (s : State) (p : Nat),
    (s.rbit Reg.CLK_STATUS p = false → Sys2Proof.Machine.exec (.pllLossOfLock p) s = .next s) ∧
    (s.rbit Reg.CLK_STATUS p = true → p ≤ 5 ∨ p = 9 → Completes (.pllLossOfLock p) s (fun u => u.dead = true ∧
      u.rbit Reg.CLK_STATUS p = false ∧ u.rbit Reg.CLK_STATUS (16 + p) = true)) ∧
    (s.rbit Reg.CLK_STATUS p = true → p = 7 → s.recQ.length < 16 → Completes (.pllLossOfLock p) s (fun u =>
      u.rbit Reg.CLK_STATUS p = false ∧ u.rbit Reg.CLK_STATUS (16 + p) = true ∧ u.dead = s.dead)) ∧
    (p < 64 → Completes (.pllLockRegained p) s (fun u => u.rbit Reg.CLK_STATUS p = true ∧
      (p ≠ 6 → p ≠ 10 → u = { s with csr := u.csr }))) ∧
    Completes .refclkLoss s (fun u => u.dead = true)) ∧
  (∀ (s : State) (m : Nat), s.mayWrite m = true → 0x10 ≤ m → m ≤ 0x19 →
    ((∀ c, s.endpointUsed c = false) → s.rbit Reg.PWR_CTRL 0 = false → Completes (.dozeEnter m) s (fun u =>
      u.rbit Reg.PWR_CTRL 0 = true ∧ u.power = { s.power with doze := 2, wakeHeld := false } ∧ u.slots = s.slots ∧ u.net = s.net)) ∧
    (∀ c < 16, s.endpointUsed c = true → s.rbit Reg.PWR_CTRL 0 = false → Sys2Proof.Machine.exec (.dozeEnter m) s =
      .next (s.rsetBit Reg.PWR_STATUS 2 true)) ∧
    ((s.power.doze = 2 ∨ s.power.doze = 3) → Completes (.dozeWake m) s (fun u => u.power.doze = 4 ∧ u.rbit Reg.PWR_CTRL 0 = false)) ∧
    (s.power.doze = 0 → Sys2Proof.Machine.exec (.dozeWake m) s = .next s) ∧
    (∀ (v : Word) (i : Nat), i = 8 ∨ i = 9 → (∀ j < 15, j ≠ i → s.rbit Reg.PWR_UNIT_CFG j = bit v j) →
      s.rbit Reg.PWR_UNIT_CFG i ≠ bit v i → s.power.waiting = [] → s.hold = false → Completes (.unitPowerRequest m v) s (fun u =>
        u.rbit Reg.PWR_UNIT_CFG i = bit v i ∧ u.power.moving = s.power.moving ++ [(117 + i, !bit v i)] ∧
        u.power.doms = s.power.doms)) ∧
    (∀ v : Word, m ≠ 0x18 → (∀ j < 14, s.rbit Reg.PWR_UNIT_CFG j = bit v j) → s.rbit Reg.PWR_UNIT_CFG 14 = false →
      bit v 14 = true → Completes (.unitPowerRequest m v) s (fun u => u.rbit Reg.PWR_STATUS 2 = true ∧
        u.power = s.power ∧ u.rget Reg.PWR_UNIT_CFG = s.rget Reg.PWR_UNIT_CFG)) ∧
    (∀ t < 16, s.rbit (Reg.PWR_TILE_CFG t) 0 = false → (s.endpointUsed t = true →
        Sys2Proof.Machine.exec (.tilePark m t true) s = .next (s.rsetBit Reg.PWR_STATUS 2 true)) ∧
      (s.endpointUsed t = false → s.power.parkReq = [] → (∀ u < 16, s.tileState u < 2 ∧ nth s.power.park u 0 = 0) →
        Completes (.tilePark m t true) s (fun u => u.rbit (Reg.PWR_TILE_CFG t) 0 = true ∧ u.power.parkReq = [(t, true)] ∧
          u.power.doms = s.power.doms))) ∧
    (∀ t < 16, s.rbit (Reg.PWR_TILE_CFG t) 1 = false → ((s.waysWithout t 3).isEmpty = true →
        Sys2Proof.Machine.exec (.tileClboff m t true) s =
          .next ((s.rsetBit (Reg.L2C_SLICE_STATUS t) 0 true).rsetBit Reg.PWR_STATUS 2 true)) ∧
      ((s.waysWithout t 3).isEmpty = false → s.power.waiting = [] → Completes (.tileClboff m t true) s (fun u =>
        u.rbit (Reg.PWR_TILE_CFG t) 1 = true ∧ u.power.moving = s.power.moving ++ [(7 * t + 1, false)] ∧
        ∀ i < 8, u.rbit (Reg.TIL_POOL t) (8 + i) = false))) ∧
    (∀ t < 16, s.rbit (Reg.PWR_TILE_CFG t) 2 = false → (s.rfld (Reg.TIL_SPARE t) 4 0 = 0x1F →
        Sys2Proof.Machine.exec (.tileSpoff m t true) s = .next (s.rsetBit Reg.PWR_STATUS 2 true)) ∧
      (s.rfld (Reg.TIL_SPARE t) 4 0 ≠ 0x1F → s.power.waiting = [] → Completes (.tileSpoff m t true) s (fun u =>
        u.rbit (Reg.PWR_TILE_CFG t) 2 = true ∧ u.power.moving = s.power.moving ++ [(7 * t + 2, false)])))) ∧
  (∀ s : State, s.dead = false →
    (s.power.doze = 2 → (∀ k ∈ s.slots, k.state = 0) → s.storeBuf = [] → s.eventBuf = [] → s.mst = [] → s.firings = [] →
      s.jobs = [] → s.recOpen = [] → Completes .dozeTileFence s (fun u => u.power.doze = 3)) ∧
    (s.power.doze ≠ 2 ∨ s.firings ≠ [] ∨ s.storeBuf ≠ [] → Sys2Proof.Machine.exec .dozeTileFence s = .next s) ∧
    (s.power.doze = 4 → s.hold = false → ∃ x : State, Sys2Proof.Machine.exec .wakeComplete s =
      .next (if x.dead then x else State.admitAll 8 x) ∧ x.power.doze = 0 ∧ x.slots = s.slots) ∧
    (s.power.doze ≠ 4 ∨ s.hold = true → Sys2Proof.Machine.exec .wakeComplete s = .next s) ∧
    (∀ d, d = 125 ∨ d = 126 → s.nextMove d false = true → s.domDrained d = true → d < s.power.doms.length →
      Completes (.domainPowerDownDone d) s (fun u => nth u.power.doms d 1 = 0 ∧
        u.power.moving = s.power.moving.erase (d, false))) ∧
    (∀ d, s.nextMove d false = false ∨ s.domDrained d = false → Sys2Proof.Machine.exec (.domainPowerDownDone d) s = .next s) ∧
    (∀ d, s.nextMove d true = true → d < s.power.doms.length → Completes (.domainPowerUpDone d) s (fun u =>
      nth u.power.doms d 0 = 1 ∧ u.power.moving = s.power.moving.erase (d, true))) ∧
    (∀ d, s.nextMove d true = false → Sys2Proof.Machine.exec (.domainPowerUpDone d) s = .next s) ∧
    (∀ t < 16, nth s.power.park t 0 = 1 → s.tileState t < 2 → s.tileEmpty t = true → s.power.doms.length = 134 →
      s.power.park.length = 16 → Completes (.tileParkComplete t) s (fun u => nth u.power.park t 0 = 2 ∧ u.tileState t = 3 ∧
        nth u.power.doms (7 * t) 1 = 0 ∧ nth u.power.doms (7 * t + 2) 1 = 0 ∧ nth u.power.doms (7 * t + 3) 1 = 0)) ∧
    (∀ t, s.tileEmpty t = false → Sys2Proof.Machine.exec (.tileParkComplete t) s = .next s) ∧
    (∀ t < 16, nth s.power.park t 0 = 3 → s.domOn (7 * t) = true → s.domOn (7 * t + 2) = true → s.domOn (7 * t + 3) = true →
      s.power.parkReq = [] → Completes (.tileUnparkComplete t) s (fun u => u.power.parkReq = [(t, false)] ∧
        ∀ b ∈ u.ucsBad, b.tile ≠ t)) ∧
    (∀ t, s.domOn (7 * t + 3) = false → Sys2Proof.Machine.exec (.tileUnparkComplete t) s = .next s) ∧
    (∀ rail mv, 92 * State.railMv rail ≤ 100 * mv → Sys2Proof.Machine.exec (.supplyWarning rail mv) s = .next s) ∧
    (∀ rail mv, s.boot.held = false → 100 * mv < 92 * State.railMv rail →
      (s.hold = false → Completes (.supplyWarning rail mv) s (fun u => u.rget Reg.PWR_SUPPLY = w64 (mv * 65536 + rail * 256 + 1) ∧
        u.rget Reg.PWR_DIPS = s.rget Reg.PWR_DIPS + 1 ∧ u.rget Reg.PWR_LAST_DIP = w64 s.now ∧ u.hold = true ∧
        rail ∈ u.power.low)) ∧
      (s.hold = true → Completes (.supplyWarning rail mv) s (fun u => u.rfld Reg.PWR_SUPPLY 1 0 = 1 ∧
        u.rget Reg.PWR_DIPS = s.rget Reg.PWR_DIPS)))) ∧
  (∀ (s : State) (rail : Nat),
    (s.rfld Reg.PWR_SUPPLY 1 0 = 1 → (∀ r ∈ s.power.low, r = rail) → Completes (.supplyRecoveryCrossing rail true) s (fun u =>
      u.rfld Reg.PWR_SUPPLY 1 0 = 2 ∧ u.power.supT = s.clock ∧ u.power.low = [])) ∧
    (s.hold = true → Completes (.supplyRecoveryCrossing rail false) s (fun u => u.rfld Reg.PWR_SUPPLY 1 0 = 1 ∧
      rail ∈ u.power.low)) ∧
    (s.hold = false → ∀ up, Completes (.supplyRecoveryCrossing rail up) s (fun u => u.csr = s.csr)) ∧
    (s.rfld Reg.PWR_SUPPLY 1 0 = 2 → s.power.supT + 10000 ≤ s.clock → ∃ x : State, Sys2Proof.Machine.exec .supplyHoldEnd s =
      .next (if x.dead then x else State.admitAll 8 x) ∧ x.hold = false ∧ x.power.waiting = [] ∧
      x.power.moving = s.power.moving ++ s.power.waiting.map (fun d => (d, true))) ∧
    (s.rfld Reg.PWR_SUPPLY 1 0 ≠ 2 ∨ s.clock < s.power.supT + 10000 → Sys2Proof.Machine.exec .supplyHoldEnd s = .next s))

/-- A report counts in its class, is logged while the log has room, and is latched as the first of its class with an
interrupt, or sets OVF. A C4 report stops the engines and leaves the device dead; one of the sequencer during a
recovery is lost. A first checker error retries its firing, a second asks for substitution, or for tile retirement
without a spare. The sequencer takes the oldest queued recovery. A substitution makes the PE's firings ready, a replay
gives the slot the next incarnation without its old tokens and firings, its end restores the journal, a retirement
empties the tile's store, and the last tile's is C4. An unreadable store buffer entry goes with a replay of its wafer,
an unreadable sequencer memory is C4 but for one vault bank. The watchdogs are C4; ALIVE toggles; CLEAR, LOGPOP and
SEQKICK act on their registers. -/
def Obligations.FaultsAreReportedAndRecovered : Prop :=
  (∀ (s : State) (c src kind loc detail : Nat) (tagged : Bool) (tag : Word) (w : Nat) (wd : Word), c < 4 → src < 4096 →
    (src / 16 ≠ 0x38 ∨ s.recOpen = []) → kind < 256 → loc < 64 → detail < 2 ^ 32 → s.recQ.length < 16 →
    wd = w64 (2 ^ 63 + c * 2 ^ 60 + src * 2 ^ 48 + kind * 2 ^ 40 + (if tagged then 2 ^ 39 else 0) + 2 ^ 38 + loc * 2 ^ 32 + detail) →
    Completes (.faultReport c src kind loc detail tagged tag true w) s (fun u =>
      u.rget (Reg.FCL_COUNT c) = s.rget (Reg.FCL_COUNT c) + 1 ∧
      (s.fclLog.length < 512 → u.fclLog = s.fclLog ++ [⟨wd, w64 w, tag, w64 s.now⟩]) ∧
      (512 ≤ s.fclLog.length → u.fclLog = s.fclLog ∧ u.rget Reg.FCL_LOG_LOST = s.rget Reg.FCL_LOG_LOST + 1) ∧
      (s.rbit (Reg.FCL_FIRST c) 63 = false → u.rget (Reg.FCL_FIRST c) = wd ∧ 0 ∈ u.pins.msix) ∧
      (s.rbit (Reg.FCL_FIRST c) 63 = true → u.rget (Reg.FCL_FIRST c) = s.rget (Reg.FCL_FIRST c) ∧ u.rbit Reg.FCL_OVF c = true) ∧
      u.recQ.length = s.recQ.length + (if 2 ≤ c then 1 else 0) ∧ u.dead = s.dead ∧ u.mem = s.mem ∧ u.chans = s.chans)) ∧
  (∀ (s : State) (src kind loc detail : Nat) (tagged wafered : Bool) (tag : Word) (w : Nat), src / 16 ≠ 0x38 ∨ s.recOpen = [] →
    Completes (.faultReport 4 src kind loc detail tagged tag wafered w) s (fun u => u.dead = true ∧ u.recQ = [] ∧ u.recCur = none ∧ u.recOpen = [] ∧
      (∀ e ∈ u.engines, e.run = .halted) ∧ u.pins.aliveEn = false ∧ ∀ l ∈ u.fab.links, l.state = .down)) ∧
  (∀ (s : State) (src kind loc detail c : Nat) (tagged wafered : Bool) (tag : Word) (w : Nat), src / 16 = 0x38 →
    s.recOpen ≠ [] → Sys2Proof.Machine.exec (.faultReport c src kind loc detail tagged tag wafered w) s = .next s) ∧
  (∀ (s : State) (n unit : Nat) (f : Firing), s.dead = false → s.firing? n = some f → f.tile < 16 → f.pe < 17 →
    (f.stage = .ready → Sys2Proof.Machine.exec (.peCheckerError n unit) s = .next s) ∧
    (f.stage ≠ .ready → f.attempt = 0 → Completes (.peCheckerError n unit) s (fun u => u.recQ = s.recQ ∧
      (∃ j, u.recOpen = s.recOpen ++ [j] ∧ j.mech = 1 ∧ j.fid = some f.id) ∧ u.rbit (Reg.PEX_LAST_ERR f.tile f.pe) 63 = true ∧
      u.rget (Reg.PEX_RETRY f.tile f.pe) = s.rget (Reg.PEX_RETRY f.tile f.pe) + 1 ∧
      (∀ g ∈ u.firings, g.id = n → g.stage = .dispatched ∧ g.attempt = 1 ∧ g.outs = [] ∧ g.stores = [] ∧ g.effects = []) ∧
      ∀ g ∈ s.firings, g.id ≠ n → g ∈ u.firings)) ∧
    (f.stage ≠ .ready → f.attempt ≠ 0 → s.recQ.length < 16 →
      (s.rfld (Reg.TIL_SPARE f.tile) 4 0 = 0x1F → ∀ k ∈ s.activeSlots, s.replayLimit k = false) → Completes (.peCheckerError n unit) s (fun u =>
      ∃ j, u.recQ = s.recQ ++ [j] ∧ u.firings = s.firings ∧
        (s.rfld (Reg.TIL_SPARE f.tile) 4 0 = 0x1F → j.mech = 6 ∧ j.a = f.tile ∧ j.cls = 3 ∧ j.slots = s.activeSlots) ∧
        (s.rfld (Reg.TIL_SPARE f.tile) 4 0 ≠ 0x1F → j.mech = 2 ∧ j.a = f.tile ∧ j.b = f.pe ∧ j.cls = 2)))) ∧
  (∀ (s : State) (j : RecJob) (rest : List RecJob), s.dead = false → s.recCur = none → s.recQ = j :: rest →
    j.mech = 2 ∨ j.mech = 6 → Sys2Proof.Machine.exec .recoveryDispatch s = .next { s with recCur := some j, recQ := rest }) ∧
  (∀ s : State, s.recCur ≠ none ∨ s.recQ = [] → Sys2Proof.Machine.exec .recoveryDispatch s = .next s) ∧
  (∀ (s : State) (t p : Nat), s.dead = false →
    (s.curJob 2 t p = none → Sys2Proof.Machine.exec (.peSubstitution t p) s = .next s) ∧
    (∀ j, s.curJob 2 t p = some j → s.rfld (Reg.TIL_SPARE t) 4 0 ≠ 0x1F → Completes (.peSubstitution t p) s (fun u =>
      u.recCur = none ∧ u.rget (Reg.TIL_SPARE t) = 0x1F ∧ ∀ f ∈ u.firings, f.tile = t → f.pe = p → f.stage = .ready)) ∧
    (∀ j, s.curJob 2 t p = some j → s.rfld (Reg.TIL_SPARE t) 4 0 ≠ 0x1F →
      (∀ f ∈ s.firings, ¬ (f.tile = t ∧ f.pe = p ∧ f.stage ≠ .ready)) → s.storeBuf = [] → s.eventBuf = [] → t < 16 → p < 17 →
      s.rfld (Reg.TIL_SPARE t) 4 0 ≠ p → s.rfld (Reg.TIL_SPARE t) 4 0 < 17 → Completes (.peSubstitution t p) s (fun u =>
        u.firings = s.firings ∧ u.rfld (Reg.PEX_STATUS t p) 3 0 = 3 ∧ u.rfld (Reg.PEX_STATUS t (s.rfld (Reg.TIL_SPARE t) 4 0)) 3 0 = 0))) ∧
  (∀ (s : State) (k : Nat) (j : RecJob), s.dead = false → s.recCur = some j → k < s.slots.length →
    (j.mech ≠ 5 ∨ j.slots.contains k = false ∨ s.incWaits k = true → Sys2Proof.Machine.exec (.waferReplay k) s = .next s) ∧
    (j.mech = 5 → j.slots.contains k = true → s.incWaits k = false → (s.slotAt k).state = 1 ∨ (s.slotAt k).state = 3 →
      ((s.slotAt k).replays < 7 → Completes (.waferReplay k) s (fun u => (u.slotAt k).state = 3 ∧
        (u.slotAt k).inc = ((s.slotAt k).inc + 1) % 16 ∧ (u.slotAt k).replays = (s.slotAt k).replays + 1 ∧
        (u.slotAt k).wafer = (s.slotAt k).wafer ∧ (u.slotAt k).restore = true ∧ (∀ t ∈ u.net, tagSlot t.tag ≠ k) ∧
        (∀ f ∈ u.firings, ¬(f.slot = k ∧ f.inc = (s.slotAt k).inc)) ∧
        (s.rbit Reg.SCH_TRC_CTRL 0 = false → u.mem = s.mem))) ∧
      (7 ≤ (s.slotAt k).replays → Completes (.waferReplay k) s (fun u => u.dead = true)))) ∧
  (∀ (s : State) (k : Nat), s.dead = false → k < s.slots.length → (s.slotAt k).restore = true → (s.slotAt k).state = 3 →
    (∀ b ∈ s.storeBuf, b.slot = k → b.wafer = (s.slotAt k).wafer → b.inc = (s.slotAt k).inc) →
    ∃ x : State, Sys2Proof.Machine.exec (.journalRestore k) s = .next ((x.lockUnhold k).placeRoots k).settle ∧
      (x.slotAt k).restore = false ∧ (x.slotAt k).journal = [] ∧ (x.slotAt k).inc = (s.slotAt k).inc ∧
      ((s.slotAt k).nojrnl = false → x.mem =
        ((s.slotAt k).journal.reverse.foldl (fun (s : State) e => s.memWrite none e.addr e.bytes) s).mem) ∧
      ((s.slotAt k).nojrnl = true → x.mem = s.mem ∧ x.rbit Reg.FCL_STATUS 1 = true)) ∧
  (∀ (s : State) (k : Nat), (s.slotAt k).restore = false → Sys2Proof.Machine.exec (.journalRestore k) s = .next s) ∧
  (∀ (s : State) (t : Nat), s.dead = false → t < 16 →
    (s.curJob 6 t 0 = none → Sys2Proof.Machine.exec (.tileRetirement t) s = .next s) ∧
    (∀ j, s.curJob 6 t 0 = some j → (∃ k ∈ s.activeSlots, s.incWaits k = true) → Sys2Proof.Machine.exec (.tileRetirement t) s = .next s) ∧
    (∀ j, s.curJob 6 t 0 = some j → (∀ k ∈ s.activeSlots, s.incWaits k = false) → Completes (.tileRetirement t) s (fun u =>
      u.tileState t = 2 ∧ (∀ e ∈ u.mst, e.tile ≠ t) ∧ u.recCur = none)) ∧
    (∀ j, s.curJob 6 t 0 = some j → s.activeSlots = [] → s.storeBuf = [] → s.eventBuf = [] →
      (∀ u' < 16, u' ≠ t → 2 ≤ s.tileState u') → Completes (.tileRetirement t) s (fun u => u.dead = true))) ∧
  (∀ (s : State) (t i : Nat) (e : Codeword), s.dead = false → t < 16 →
    (∀ kind, d144Check e = .clean → Sys2Proof.Machine.exec (.tileStructureError t kind i e) s = .next s) ∧
    (∀ b, d144Check e = .uncorrectable → (s.storeBuf.filter (fun b => decide (b.tile = t)))[i]? = some b → s.recQ.length < 16 → s.replayLimit b.slot = false →
      Completes (.tileStructureError t 1 i e) s (fun u => u.storeBuf = s.storeBuf.erase b ∧
        ∃ j, u.recQ = s.recQ ++ [j] ∧ j.mech = 5 ∧ j.cls = 2 ∧ j.slots = [b.slot]))) ∧
  (∀ (s : State) (kind : Nat) (e : Codeword), s.dead = false →
    (s.recOpen ≠ [] → Sys2Proof.Machine.exec (.sequencerMemoryError kind e) s = .next s) ∧
    (s.recOpen = [] → d144Check e = .uncorrectable → (kind ≠ 1 → Completes (.sequencerMemoryError kind e) s (fun u => u.dead = true)) ∧
      (kind = 1 → Completes (.sequencerMemoryError kind e) s (fun u => u.dead = false ∧ u.ucsMaster = s.ucsSecond ∧ u.engines = s.engines)))) ∧
  (∀ s : State, s.dead = false →
    ((∃ j ∈ s.recOpen, j.time + 50000 ≤ s.clock) → Completes .recoveryWatchdogExpiry s (fun u => u.dead = true)) ∧
    ((∀ j ∈ s.recOpen, s.clock < j.time + 50000) → Sys2Proof.Machine.exec .recoveryWatchdogExpiry s = .next s) ∧
    (s.pins.aliveEn = true → s.pins.kickT + clampNat 100 1000000 (s.rfld Reg.FCL_SEQ_WDOG 19 0) * 1000 ≤ s.clock →
      Completes .sequencerWatchdogExpiry s (fun u => u.dead = true)) ∧
    (s.pins.aliveEn = false ∨ s.clock < s.pins.kickT + clampNat 100 1000000 (s.rfld Reg.FCL_SEQ_WDOG 19 0) * 1000 →
      Sys2Proof.Machine.exec .sequencerWatchdogExpiry s = .next s) ∧
    (s.pins.aliveEn = true → s.rfld Reg.BOOT_STATUS 63 60 = 5 → s.pins.aliveT + 50000 ≤ s.clock → Sys2Proof.Machine.exec .aliveToggle s =
      .next { s with pins.alive := !s.pins.alive, pins.aliveT := s.clock, pins.aliveSeen := true }) ∧
    (s.pins.aliveEn = false ∨ s.rfld Reg.BOOT_STATUS 63 60 ≠ 5 ∨ s.clock < s.pins.aliveT + 50000 → Sys2Proof.Machine.exec .aliveToggle s = .next s)) ∧
  (∀ (s : State) (m : Nat) (v : Word), s.mayWrite m = true →
    (s.rbit Reg.FCL_CTRL 0 = false → Completes (.aliveEnable m v) s (fun u => u.rbit Reg.FCL_CTRL 0 = true ∧ u.pins.aliveEn = true ∧
      u.pins.aliveT = s.clock ∧ u.pins.kickT = s.clock)) ∧
    (s.rbit Reg.FCL_CTRL 0 = true → Sys2Proof.Machine.exec (.aliveEnable m v) s = .next s) ∧
    (bit v 0 = true → Sys2Proof.Machine.exec (.fclLogPop m v) s = .next { s with fclLog := s.fclLog.drop 1 } ∧
      Sys2Proof.Machine.exec (.fclSeqKick m v) s = .next { s with pins.kickT := s.clock }) ∧
    Completes (.fclClear m v) s (fun u => u.fclLog = s.fclLog ∧ ∀ c < 4,
      (bit v c = true → u.rget (Reg.FCL_FIRST c) = 0 ∧ u.rget (Reg.FCL_FIRST_TIME c) = 0 ∧ u.rbit Reg.FCL_OVF c = false) ∧
      (bit v c = false → u.rget (Reg.FCL_FIRST c) = s.rget (Reg.FCL_FIRST c) ∧ u.rbit Reg.FCL_OVF c = s.rbit Reg.FCL_OVF c)))

/-- A power-on reset leaves the reset state with what no reset touches; a warm reset keeps the fault log, the C4 state
and the flash, shifts its cause in, and keeps SDRAM for the pin and the host but not for the supply, whose always-on
rail resets all. Release counts the boot and starts the ROM; flash that fails ends in FAILED 1 and SDRAM that fails in
FAILED 8. OPEN, the copy, DATA, IMGLOAD, COMMIT, validation and ABORT move the transaction as its states allow and
answer their master; CFG_LOCK is set for good. Flash commands are refused or act on the flash; fuses move one way. -/
def Obligations.ResetsBootAndTransactionsActAsDescribed : Prop :=
  (∀ (s : State) (strap : Bool), ¬(s.trip.rail = true ∧ s.trip.force = .supply) → Sys2Proof.Machine.exec (.powerOnReset strap) s =
    .next { State.reset with
      pending := s.pending, free := s.free, lastRead := s.lastRead, power := { Reset.power with low := s.power.low }
      trip := { State.reset.trip with rail := s.trip.rail }
      boot := { Reset.boot with
        strap := strap, count := s.boot.count, flash := s.boot.flash, fuseSvn := s.boot.fuseSvn, revoked := s.boot.revoked
        keyHash := s.boot.keyHash } }) ∧
  (∀ s : State,
    Completes .pinReset s (fun u => u.fclLog = s.fclLog ∧ u.dead = s.dead ∧ u.boot.flash = s.boot.flash ∧
      u.boot.count = s.boot.count ∧ u.boot.held = true ∧ u.mem.sdram = s.flushAll.mem.sdram ∧ u.mem.l2 = [] ∧ u.firings = [] ∧
      u.net = [] ∧ u.chans = [] ∧ u.acts = [] ∧ u.pending = s.pending ∧
      u.rget Reg.BOOT_CAUSE = w64 (s.rfld Reg.BOOT_CAUSE 3 0 * 16 + 3) ∧ u.rget Reg.TCK_CTRL = regReset Reg.TCK_CTRL) ∧
    (∀ m v, s.mayBoot m = true → m = 0x18 ∨ m = 0x19 → fld v 31 0 = 0x5A5A0001 → Completes (.hostReset m v) s (fun u =>
      u.rget Reg.BOOT_CAUSE = w64 (s.rfld Reg.BOOT_CAUSE 3 0 * 16 + 4) ∧ u.mem.sdram = s.flushAll.mem.sdram ∧ u.firings = [])) ∧
    (∀ m v, fld v 31 0 ≠ 0x5A5A0001 → Sys2Proof.Machine.exec (.hostReset m v) s = .next s) ∧
    (∀ rail, s.boot.held = false → rail ≠ 6 → Completes (.supplyReset rail) s (fun u => u.mem.sdram = [] ∧ rail ∈ u.power.low ∧
      u.rget Reg.BOOT_CAUSE = w64 (s.rfld Reg.BOOT_CAUSE 3 0 * 16 + 2) ∧ s.fclLog <+: u.fclLog ∧ u.boot.held = true)) ∧
    (∀ rail, s.boot.held = true → rail ≠ 6 → Completes (.supplyReset rail) s (fun u => rail ∈ u.power.low ∧ u.boot = s.boot ∧
      u.mem = s.mem ∧ u.fclLog = s.fclLog ∧ u.trip.force = forceAfter s.trip.force .supply)) ∧
    Completes (.supplyReset 6) s (fun u => 6 ∈ u.power.low ∧ u.mem = State.reset.mem ∧ u.fclLog = [] ∧ u.boot.held = true ∧
      u.boot.flash = s.boot.flash ∧ u.pending = s.pending) ∧
    (∀ flashOk token, s.boot.held = false ∨ s.power.low ≠ [] → Sys2Proof.Machine.exec (.resetRelease flashOk token) s = .next s) ∧
    (∀ token, s.boot.held = true → s.power.low = [] → s.dead = false → Completes (.resetRelease false token) s (fun u =>
      u.phase = 6 ∧ u.rfld Reg.BOOT_STATUS 47 40 = 1 ∧ u.boot.held = false ∧ u.boot.freed = s.clock ∧
      u.boot.count = s.boot.count + 1 ∧ u.rfld Reg.CLK_STATUS 10 0 = 0x7FF ∧
      (8 < s.engines.length → (u.engineAt 8).run = .running ∧ (u.engineAt 8).pc = 0))) ∧
    (∀ flashOk token, s.boot.held = true → s.power.low = [] → s.dead = true → Completes (.resetRelease flashOk token) s (fun u =>
      u.phase = 7 ∧ u.boot.held = false ∧ u.boot.count = s.boot.count + 1)) ∧
    (s.boot.held = false → s.phase = 3 → Completes (.bootSdramTrained false) s (fun u => u.phase = 6 ∧
      u.rfld Reg.BOOT_STATUS 47 40 = 8 ∧ u.boot.keyIdx = none)) ∧
    (∀ ok, s.boot.held = true ∨ s.phase ≠ 3 → Sys2Proof.Machine.exec (.bootSdramTrained ok) s = .next s)) ∧
  (∀ (s : State) (m : Nat), s.mayWrite m = true →
    (s.cfg.txn = .idle → s.mayOpen m = true → Completes (.cfgOpen m) s (fun u => u.cfg.txn = .copying ∧ u.cfg.owner = m ∧
      u.cfg.bank = s.cfg.bank ∧ (u.cfgRec m).rstat = 0)) ∧
    (s.cfg.txn = .idle → s.mayOpen m = false → Completes (.cfgOpen m) s (fun u => u.cfg.txn = .idle ∧ (u.cfgRec m).rstat = 5)) ∧
    (s.cfg.txn ≠ .idle → Completes (.cfgOpen m) s (fun u => u.cfg.txn = s.cfg.txn ∧ u.cfg.owner = s.cfg.owner ∧
      (u.cfgRec m).rstat = 1)) ∧
    (s.cfg.txn = .opened → s.cfg.owner = m →
      (∀ v, bit (s.cfgRec m).addr 63 = false → Completes (.cfgDataWrite m v) s (fun u => u.cfg.bank = s.cfg.bank ∧
        u.cfg.shadow = smPut s.cfg.shadow (fld (s.cfgRec m).addr 19 3) 0 v ∧
        fld (u.cfgRec m).addr 19 3 = (fld (s.cfgRec m).addr 19 3 + 1) % 2 ^ 17)) ∧
      Completes (.cfgCommit m) s (fun u => u.cfg.txn = .validating ∧ u.cfg.shadow = s.cfg.shadow ∧ (u.cfgRec m).rstat = 0) ∧
      Completes (.cfgAbort m) s (fun u => u.cfg.txn = .idle ∧ u.cfg.shadow = [] ∧ u.cfg.bank = s.cfg.bank ∧
        (u.cfgRec m).rstat = 0) ∧
      (fld (s.cfgRec m).arg1 22 0 = 0 → Completes (.cfgImgload m) s (fun u => u.code = s.code ∧ (u.cfgRec m).rstat = 6)) ∧
      (∀ src first n, src = (s.cfgRec m).arg0.toNat → first = fld (s.cfgRec m).arg1 63 42 → n = fld (s.cfgRec m).arg1 22 0 →
        1 ≤ n → first + n ≤ 4194304 → src + 8 * n ≤ s.sdramTop → s.cfg.loads = [] → s.cfg.old = [] →
        (∀ x ∈ bankImages s.cfg.shadow ++ bankImages s.cfg.bank, rangesMeet (first, first + n - 1) x.2 = false) →
        Completes (.cfgImgload m) s (fun u => (u.cfgRec m).rstat = 0 ∧ u.cfg.bank = s.cfg.bank ∧
          (∀ i < n, smGet u.code (first + i) 0 = w64 (bytesToNat (((s.memRead src (8 * n)).1.drop (8 * i)).take 8))) ∧
          ∀ a, a < first ∨ first + n ≤ a → smGet u.code a 0 = smGet s.code a 0))) ∧
    (s.cfg.txn = .idle ∨ s.cfg.owner ≠ m → Completes (.cfgCommit m) s (fun u => u.cfg.txn = s.cfg.txn ∧ (u.cfgRec m).rstat = 2) ∧
      Completes (.cfgImgload m) s (fun u => u.code = s.code ∧ (u.cfgRec m).rstat = 2) ∧
      ∀ v, Completes (.cfgDataWrite m v) s (fun u => u.cfg.shadow = s.cfg.shadow ∧ (u.cfgRec m).rstat = 2)) ∧
    (s.cfg.txn = .idle → Completes (.cfgAbort m) s (fun u => u.cfg.txn = .idle ∧ (u.cfgRec m).rstat = 2)) ∧
    Completes (.cfgDataRead m) s (fun u => u.cfg.bank = s.cfg.bank ∧ u.lastRead =
      smGet (if bit (s.cfgRec m).addr 63 then s.cfg.bank else s.cfg.shadow) (fld (s.cfgRec m).addr 19 3) 0 ∧
      fld (u.cfgRec m).addr 19 3 = (fld (s.cfgRec m).addr 19 3 + 1) % 2 ^ 17) ∧
    (∀ v, Completes (.cfgLockSet m v) s (fun u => u.locked = (s.locked || bit v 0) ∧ u.cfg = s.cfg))) ∧
  (∀ s : State, s.dead = false →
    (s.cfg.txn = .copying → Sys2Proof.Machine.exec .cfgShadowCopyDone s =
      .next { s with cfg := { s.cfg with txn := .opened, shadow := s.cfg.bank } }) ∧
    (s.cfg.txn ≠ .copying → Sys2Proof.Machine.exec .cfgShadowCopyDone s = .next s) ∧
    (s.cfg.txn ≠ .validating → Sys2Proof.Machine.exec .cfgValidationDone s = .next s) ∧
    (s.cfg.txn = .validating → s.cfg.owner = 0x19 ∨ s.eClear (s.cfg.owner - 0x10) = true →
      (∀ x, s.validate s.cfg.shadow = some x → Completes .cfgValidationDone s (fun u => u.cfg.txn = .opened ∧
        u.rget Reg.CFG_REJECT = w64 (2 ^ 63 + x % 2 ^ 20) ∧ (u.cfgRec s.cfg.owner).rstat = 3)) ∧
      (s.validate s.cfg.shadow = none → Completes .cfgValidationDone s (fun u => u.cfg.txn = .armed ∧
        u.cfg.whenAt = (s.rget Reg.CFG_TXN_AT).toNat ∧ u.cfg.bank = s.cfg.bank ∧ (u.cfgRec s.cfg.owner).rstat = 0)))) ∧
  (∀ (s : State) (m : Nat), s.mayBoot m = true →
    (∀ p ∈ ([(.bootFlashRead, 1), (.bootFlashProgram, 2), (.bootFlashErase, 3)] : List ((Nat → Instr) × Nat)),
      (s.boot.flashOp = none → s.flashOpen m = true → s.flashBarred (s.rfld Reg.BOOT_XADDR 31 3 * 8) = false →
        Sys2Proof.Machine.exec (p.1 m) s = .next { s with
          boot.flashOp := some (p.2, s.rfld Reg.BOOT_XADDR 31 3 * 8, s.rget Reg.BOOT_XDATA) }) ∧
      (s.boot.flashOp = none → s.flashOpen m = false ∨ s.flashBarred (s.rfld Reg.BOOT_XADDR 31 3 * 8) = true →
        Sys2Proof.Machine.exec (p.1 m) s = .next (s.rsetFld Reg.BOOT_XSTATUS 3 0 1)) ∧
      (s.boot.flashOp ≠ none → Sys2Proof.Machine.exec (p.1 m) s = .next s)) ∧
    (∀ v, m = 0x18 ∨ m = 0x19 → s.locked = false →
      (bit v 0 = true → Sys2Proof.Machine.exec (.bootSvnAdvance m v) s =
        .next { s with boot.fuseSvn := max s.boot.fuseSvn (s.rfld Reg.BOOT_SVN 14 8) }) ∧
      Completes (.bootKeyRevoke m v) s (fun u => ∀ i < 4, u.boot.revoked.testBit i =
        (s.boot.revoked.testBit i || (bit v i && decide (s.boot.keyIdx ≠ some i))))) ∧
    (∀ v, s.locked = true → Sys2Proof.Machine.exec (.bootSvnAdvance m v) s = .next s ∧
      Sys2Proof.Machine.exec (.bootKeyRevoke m v) s = .next s)) ∧
  (∀ (s : State) (a : Nat) (d : Word),
    (s.boot.flashOp = some (1, a, d) → Completes (.bootFlashDone true) s (fun u => u.boot.flashOp = none ∧
      u.rget Reg.BOOT_XDATA = w64 (s.flashNat a 8) ∧ u.boot.flash = s.boot.flash)) ∧
    (s.boot.flashOp = some (2, a, d) → Completes (.bootFlashDone true) s (fun u => u.boot.flashOp = none ∧
      u.flashBytes a 8 = natToBytes 8 (w64 (s.flashNat a 8) &&& d).toNat)) ∧
    (s.boot.flashOp = some (3, a, d) → Completes (.bootFlashDone true) s (fun u => u.boot.flashOp = none ∧
      (∀ b, b / 65536 = a / 65536 → u.flashBytes b 1 = [0xFF]) ∧ ∀ b, b / 65536 ≠ a / 65536 → u.flashBytes b 1 = s.flashBytes b 1)) ∧
    (∀ o, s.boot.flashOp = some (o, a, d) → Completes (.bootFlashDone false) s (fun u => u.boot.flash = s.boot.flash ∧
      u.rfld Reg.BOOT_XSTATUS 3 0 = 2)) ∧
    (∀ ok, s.boot.flashOp = none → Sys2Proof.Machine.exec (.bootFlashDone ok) s = .next s))

/-- A reading is held, shown and compared with the grade; 10 µs at 125 °C is C4. A Function Level Reset aborts the
host's transaction and sets its mark. A vector from an engine or the sequencer is raised. A received frame fills the
next free descriptor's buffer and moves the head, and without one is dropped and counted; a PAUSE frame holds the
transmitter. A frame whose gate allows it is sent and its descriptor passed, otherwise GATE is set or nothing happens;
the gates follow the list from each tick. A sensor frame of the right form becomes a packet, another is counted. -/
def Obligations.SensorsAndPortsActAsDescribed : Prop :=
  (∀ (s : State) (k : Nat) (t : Int), k < s.pins.temps.length → Completes (.tempOverGrade k t) s (fun u =>
    u.pins.temps = updAt s.pins.temps k (fun _ => t) ∧ u.rget Reg.BOOT_TEMP = u.tempWord ∧ u.mem = s.mem ∧
    (gradeMax < t → nth s.pins.temps k 0 ≤ gradeMax → u.rbit Reg.BOOT_TEMPSTAT 0 = true) ∧
    (t ≤ gradeMax → u.rget Reg.BOOT_TEMPSTAT = s.rget Reg.BOOT_TEMPSTAT) ∧
    signedOf 16 (s.rget Reg.BOOT_TEMPMAX).toNat ≤ signedOf 16 (u.rget Reg.BOOT_TEMPMAX).toNat)) ∧
  (∀ (s : State) (k : Nat), s.dead = false →
    (∀ t0, nth s.pins.hot k none = some t0 → t0 + 10000 ≤ s.clock → Completes (.tempCritical k) s (fun u => u.dead = true)) ∧
    (∀ t0, nth s.pins.hot k none = some t0 → s.clock < t0 + 10000 → Sys2Proof.Machine.exec (.tempCritical k) s = .next s) ∧
    (nth s.pins.hot k none = none → Sys2Proof.Machine.exec (.tempCritical k) s = .next s)) ∧
  (∀ s : State,
    Completes (.pcieFunctionReset 0) s (fun u => u.rbit Reg.PCI_STATUS 9 = true ∧ u.mem = s.mem ∧ u.cfg.bank = s.cfg.bank ∧
      (s.cfg.owner = 0x19 → s.cfg.txn = .opened → u.cfg.txn = .idle ∧ u.cfg.shadow = []) ∧
      (s.cfg.owner ≠ 0x19 → u.cfg = s.cfg)) ∧
    Completes (.pcieFunctionReset 1) s (fun u => u.mem = s.mem ∧ (s.cfg.owner ≠ 0x19 → u.cfg = s.cfg)) ∧
    Completes (.pcieFunctionReset 2) s (fun u => u.rfld Reg.PCI_STATUS 8 0 = 0 ∧ u.mem = s.mem)) ∧
  (∀ (s : State) (m : Nat) (v : Word), s.mayWrite m = true →
    (0x10 ≤ m → m ≤ 0x18 → fld v 5 0 ≠ 0 → Completes (.pciIrqWrite m v) s (fun u => fld v 5 0 ∈ u.pins.msix ∧
      (∀ x ∈ s.pins.msix, x ∈ u.pins.msix) ∧ u.csr = s.csr)) ∧
    (m < 0x10 ∨ 0x18 < m ∨ fld v 5 0 = 0 → Sys2Proof.Machine.exec (.pciIrqWrite m v) s = .next s) ∧
    (∀ i, Sys2Proof.Machine.exec (.ethRxTailWrite m i v) s = .next (s.rwrite (portReg i 0x28) v) ∧
      Sys2Proof.Machine.exec (.ethTxTailWrite m i v) s = .next (s.rwrite (portReg i 0x40) v))) ∧
  (∀ (s : State) (i ts : Nat) (fcs : Bool) (f : List Byte), i < 18 →
    (s.portOn i = false → Sys2Proof.Machine.exec (.ethFrameReceive i ts fcs f) s = .next s) ∧
    (s.portOn i = true → fcs = true → i < 2 → s.rbit (portReg i 0) 2 = true → etherType f = 0x8808 →
      beNat ((framePayload f).take 2) = 1 → i < s.ports.length → Completes (.ethFrameReceive i ts fcs f) s (fun u =>
        (u.portAt i).pauseT = s.clock + (beNat (((framePayload f).drop 2).take 2) * 2048 + 99) / 100 ∧ u.csr = s.csr)) ∧
    (s.portOn i = true → etherType f ≠ 0x8808 → etherType f ≠ 0x88F7 →
      (s.rfld (portReg i 0x20) 13 0 % s.ringSize (portReg i 0x18) = s.rfld (portReg i 0x28) 13 0 % s.ringSize (portReg i 0x18) →
        Completes (.ethFrameReceive i ts fcs f) s (fun u => u.rget (portReg i 0x48) = s.rget (portReg i 0x48) + 1 ∧
          u.rbit (portReg i 8) 2 = true ∧ u.mem = s.mem)) ∧
      (∀ d buf : Nat, ∀ r : List Byte × State,
        s.rfld (portReg i 0x20) 13 0 % s.ringSize (portReg i 0x18) ≠ s.rfld (portReg i 0x28) 13 0 % s.ringSize (portReg i 0x18) →
        d = s.ringDesc (portReg i 0x18) (s.rfld (portReg i 0x20) 13 0) → r = s.memRead d 8 → buf = bytesToNat r.1 →
        r.2.portSolid buf 2048 = true → fcs = true → f.length ≤ 2048 → Completes (.ethFrameReceive i ts fcs f) s (fun u =>
          u.rget (portReg i 0x20) = w64 ((s.rfld (portReg i 0x20) 13 0 + 1) % s.ringSize (portReg i 0x18)) ∧
          u.mem = ((r.2.memWrite none buf f).memWrite none (d + 8) (natToBytes 8 f.length ++ natToBytes 8 ts)).mem)))) ∧
  (∀ (s : State) (i c : Nat),
    (s.portOn i = false ∨ s.clock < (s.portAt i).pauseT → Sys2Proof.Machine.exec (.ethFrameTransmit i c) s = .next s) ∧
    (∀ n head info d : Nat, ∀ r : List Byte × State, s.portOn i = true → (s.portAt i).pauseT ≤ s.clock → (s.portAt i).ahead = [] →
      n = s.ringSize (portReg i 0x30) → head = s.rfld (portReg i 0x38) 13 0 % n →
      (s.rfld (portReg i 0x40) 13 0 + n - head) % n = 1 → d = s.ringDesc (portReg i 0x30) head →
      info = bytesToNat (s.memView (d + 8) 8) → natField info 22 20 = c → r = s.memRead d 8 → i < s.ports.length →
      (s.gateAllows i c (info % 65536) = false → Sys2Proof.Machine.exec (.ethFrameTransmit i c) s =
        .next (s.rsetBit (portReg i 8) 3 true)) ∧
      (s.gateAllows i c (info % 65536) = true → info % 65536 ≤ 2048 →
        r.2.portSolid (bytesToNat r.1) (max (info % 65536) 1) = true → Completes (.ethFrameTransmit i c) s (fun u =>
          u.rget (portReg i 0x38) = w64 ((head + 1) % n) ∧ (u.portAt i).ahead = [] ∧
          (u.portAt i).last = (r.2.memRead (bytesToNat r.1) (info % 65536)).1)))) ∧
  (∀ (s : State) (i : Nat), i < 2 → i < s.ports.length → s.portOn i = true → s.rbit (portReg i 0) 3 = true →
    ((s.portAt i).gateTick ≠ s.tick.count → Completes (.ethGateEntry i) s (fun u =>
      (u.portAt i).gate = 0 ∧ (u.portAt i).gateTick = s.tick.count ∧ (u.portAt i).gateEnd = s.tick.lastEdge + s.gclNs i 0 ∧
      u.csr = s.csr)) ∧
    ((s.portAt i).gateTick = s.tick.count → (s.portAt i).gateEnd ≤ s.now → s.gclValid i ((s.portAt i).gate + 1) = true →
      Completes (.ethGateEntry i) s (fun u => (u.portAt i).gate = (s.portAt i).gate + 1 ∧
        (u.portAt i).gateEnd = (s.portAt i).gateEnd + s.gclNs i ((s.portAt i).gate + 1))) ∧
    ((s.portAt i).gateTick = s.tick.count → s.now < (s.portAt i).gateEnd →
      Sys2Proof.Machine.exec (.ethGateEntry i) s = .next s)) ∧
  (∀ (s : State) (p ts : Nat) (pl : List Byte), s.portOn (p + 2) = true →
    (pl.length < 16 → Sys2Proof.Machine.exec (.tslSensorFrame p ts pl) s = .next (s.rinc (portReg (p + 2) 0x58))) ∧
    (∀ (c : Chan) (w : Nat → Nat), (∀ k, w k = bytesToNat ((pl.drop (8 * k)).take 8)) → pl.length = 8 * (w 0 % 65536 + 2) →
      natField (w 0) 63 56 = 1 → s.rbit (portReg (p + 2) 0x50) 16 = true → s.chan? (s.rfld (portReg (p + 2) 0x50) 15 0) = some c →
      c.tcls = false → c.width = 8 → c.pkind = pkTsl → c.punit = p →
      Sys2Proof.Machine.exec (.tslSensorFrame p ts pl) s = .next ((s.classSent 1 0x15 0x10).unitPacket c
        ([(setFld (w64 (w 0)) 35 32 p).toNat, if (w 0).testBit 51 then w 1 else ts] ++ (List.range (w 0 % 65536)).map (fun k => w (k + 2)))
        (if (w 0).testBit 51 then w 1 else ts))) ∧
    (s.portOn (p + 2) = true → s.rbit (portReg (p + 2) 0x50) 16 = false →
      Sys2Proof.Machine.exec (.tslSensorFrame p ts pl) s = .next (s.rinc (portReg (p + 2) 0x58)))) ∧
  (∀ (s : State) (p ts : Nat) (pl : List Byte), s.portOn (p + 2) = false →
    Sys2Proof.Machine.exec (.tslSensorFrame p ts pl) s = .next s)
end

