-- ==== Sys2Proof/Laws/Bits.lean ====
section
/-! SUPPORT. Bit fields: a field or a bit reads back what was set, and every other bit stays. -/

namespace Sys2Proof.Machine

theorem natField_testBit (x hi lo j : Nat) :
    (natField x hi lo).testBit j = (decide (j < hi + 1 - lo) && x.testBit (lo + j)) := by
  simp [natField, Nat.testBit_mod_two_pow, Nat.testBit_shiftRight]

theorem getLsbD_setFld {n : Nat} (x : BitVec n) (hi lo v j : Nat) :
    (setFld x hi lo v).getLsbD j =
      if lo ≤ j ∧ j < hi + 1 then decide (j < n) && v.testBit (j - lo) else x.getLsbD j := by
  unfold setFld
  simp only [BitVec.getLsbD_or, BitVec.getLsbD_and, BitVec.getLsbD_not, BitVec.getLsbD_ofNat, Nat.testBit_shiftLeft,
    Nat.testBit_mod_two_pow, Nat.testBit_two_pow_sub_one]
  by_cases hj : j < n
  · by_cases h1 : lo ≤ j <;> by_cases h2 : j < hi + 1
    · have : j - lo < hi + 1 - lo := by omega
      simp [hj, h1, h2, this]
    · have : ¬(j - lo < hi + 1 - lo) := by omega
      simp [hj, h1, h2, this]
    · simp [hj, h1]
    · simp [hj, h1]
  · have : x.getLsbD j = false := BitVec.getLsbD_of_ge x j (by omega)
    simp [hj, this]

/-- A bit that was set reads back. -/
@[simp] theorem bit_setBit_same {n : Nat} (x : BitVec n) {i : Nat} (b : Bool) (h : i < n) : bit (setBit x i b) i = b := by
  unfold bit setBit
  rw [getLsbD_setFld]
  cases b <;> simp [h]

/-- Setting a bit leaves every other bit alone. -/
theorem bit_setBit_ne {n : Nat} (x : BitVec n) {i j : Nat} (b : Bool) (h : j ≠ i) : bit (setBit x i b) j = bit x j := by
  unfold bit setBit
  rw [getLsbD_setFld, if_neg (by omega)]

/-- Setting a field leaves every bit outside it alone. -/
theorem bit_setFld_outside {n : Nat} (x : BitVec n) {hi lo v j : Nat} (h : j < lo ∨ hi < j) :
    bit (setFld x hi lo v) j = bit x j := by
  unfold bit
  rw [getLsbD_setFld, if_neg (by omega)]

theorem fld_testBit {n : Nat} (x : BitVec n) (hi lo j : Nat) :
    (fld x hi lo).testBit j = (decide (j < hi + 1 - lo) && bit x (lo + j)) := by
  rw [fld, natField_testBit]; rfl

theorem fld_lt {n : Nat} (x : BitVec n) (hi lo : Nat) : fld x hi lo < 2 ^ (hi + 1 - lo) :=
  Nat.mod_lt _ (Nat.two_pow_pos _)

/-- A field that was set reads back, taken modulo its width. -/
theorem fld_setFld_same {n : Nat} (x : BitVec n) {hi lo : Nat} (v : Nat) (h : hi < n) :
    fld (setFld x hi lo v) hi lo = v % 2 ^ (hi + 1 - lo) := by
  apply Nat.eq_of_testBit_eq
  intro j
  rw [fld_testBit, Nat.testBit_mod_two_pow, bit, getLsbD_setFld]
  by_cases hj : j < hi + 1 - lo
  · have h1 : lo ≤ lo + j ∧ lo + j < hi + 1 := by omega
    have h2 : lo + j < n := by omega
    simp [hj, h1, h2]
  · simp [hj]

/-- Setting a field leaves a disjoint field alone. -/
theorem fld_setFld_disjoint {n : Nat} (x : BitVec n) {hi lo v h2 l2 : Nat} (h : h2 < lo ∨ hi < l2) :
    fld (setFld x hi lo v) h2 l2 = fld x h2 l2 := by
  apply Nat.eq_of_testBit_eq
  intro j
  rw [fld_testBit, fld_testBit]
  by_cases hj : j < h2 + 1 - l2
  · rw [bit_setFld_outside x (by omega)]
  · simp [hj]

theorem fld_setBit_disjoint {n : Nat} (x : BitVec n) {i : Nat} (b : Bool) {h2 l2 : Nat} (h : h2 < i ∨ i < l2) :
    fld (setBit x i b) h2 l2 = fld x h2 l2 := fld_setFld_disjoint x h

theorem bit_setFld_disjoint {n : Nat} (x : BitVec n) {hi lo v i : Nat} (h : i < lo ∨ hi < i) :
    bit (setFld x hi lo v) i = bit x i := bit_setFld_outside x h

/-- The elements of a list after one of them was changed. -/
theorem getElem?_updAt {α : Type} (xs : List α) (i j : Nat) (f : α → α) :
    (updAt xs i f)[j]? = if i = j then xs[j]?.map f else xs[j]? := by
  induction xs generalizing i j with
  | nil => simp [updAt]
  | cons x xs ih =>
    cases i with
    | zero => cases j <;> simp [updAt]
    | succ i => cases j <;> simp [updAt, ih]

@[simp] theorem length_updAt {α : Type} (xs : List α) (i : Nat) (f : α → α) : (updAt xs i f).length = xs.length := by
  induction xs generalizing i with
  | nil => rfl
  | cons x xs ih => cases i <;> simp [updAt, ih]

theorem nth_updAt_same {α : Type} (xs : List α) (i : Nat) (f : α → α) (d : α) (h : i < xs.length) :
    nth (updAt xs i f) i d = f (nth xs i d) := by
  rw [nth, nth, List.getD_eq_getElem?_getD, List.getD_eq_getElem?_getD, getElem?_updAt, if_pos rfl,
    List.getElem?_eq_getElem h]
  rfl

theorem nth_updAt_ne {α : Type} (xs : List α) {i j : Nat} (f : α → α) (d : α) (h : j ≠ i) :
    nth (updAt xs i f) j d = nth xs j d := by
  simp [nth, List.getD_eq_getElem?_getD, getElem?_updAt, Ne.symm h]

end Sys2Proof.Machine
end

