-- ==== Sys2Proof/Laws/Dispatch.lean ====
section
/-! SUPPORT. The arm of each command, so that no proof unfolds the dispatch. -/

namespace Sys2Proof.Machine

@[simp] theorem exec_tick (s : State) : exec (.tick) s = execTick s := rfl
@[simp] theorem exec_waferAdmit (s : State) : exec (.waferAdmit) s = execWaferAdmit s := rfl
@[simp] theorem exec_waferCommit (s : State) : exec (.waferCommit) s = execWaferCommit s := rfl
@[simp] theorem exec_subtickEdge (s : State) : exec (.subtickEdge) s = execSubtickEdge s := rfl
@[simp] theorem exec_tckRun (m : Nat) (v : Word) (s : State) : exec (.tckRun m v) s = execTckRun m v s := rfl
@[simp] theorem exec_tckPeriodWrite (m : Nat) (v : Word) (s : State) : exec (.tckPeriodWrite m v) s = execTckPeriodWrite m v s := rfl
@[simp] theorem exec_tckTimeSet (m : Nat) (v : Word) (s : State) : exec (.tckTimeSet m v) s = execTckTimeSet m v s := rfl
@[simp] theorem exec_timeSourceLost (s : State) : exec (.timeSourceLost) s = execTimeSourceLost s := rfl
@[simp] theorem exec_timeSourceReturn (s : State) : exec (.timeSourceReturn) s = execTimeSourceReturn s := rfl
@[simp] theorem exec_tckLagMaxRead (m : Nat) (s : State) : exec (.tckLagMaxRead m) s = execTckLagMaxRead m s := rfl
@[simp] theorem exec_tilReadyqMaxRead (m : Nat) (t : Nat) (s : State) : exec (.tilReadyqMaxRead m t) s = execTilReadyqMaxRead m t s := rfl
@[simp] theorem exec_pexInflightMaxRead (m : Nat) (t : Nat) (p : Nat) (s : State) : exec (.pexInflightMaxRead m t p) s = execPexInflightMaxRead m t p s := rfl
@[simp] theorem exec_mstOccMaxRead (m : Nat) (t : Nat) (s : State) : exec (.mstOccMaxRead m t) s = execMstOccMaxRead m t s := rfl
@[simp] theorem exec_schActMaxRead (m : Nat) (s : State) : exec (.schActMaxRead m) s = execSchActMaxRead m s := rfl
@[simp] theorem exec_schDlyMaxRead (m : Nat) (s : State) : exec (.schDlyMaxRead m) s = execSchDlyMaxRead m s := rfl
@[simp] theorem exec_afePkholdRead (m : Nat) (c : Nat) (s : State) : exec (.afePkholdRead m c) s = execAfePkholdRead m c s := rfl
@[simp] theorem exec_bootTempmaxRead (m : Nat) (s : State) : exec (.bootTempmaxRead m) s = execBootTempmaxRead m s := rfl
@[simp] theorem exec_fclRecovMaxRead (m : Nat) (s : State) : exec (.fclRecovMaxRead m) s = execFclRecovMaxRead m s := rfl
@[simp] theorem exec_rcCounterRead (m : Nat) (a : Nat) (s : State) : exec (.rcCounterRead m a) s = execRcCounterRead m a s := rfl
@[simp] theorem exec_registerWrite (m : Nat) (a : Nat) (v : Word) (s : State) : exec (.registerWrite m a v) s = execRegisterWrite m a v s := rfl
@[simp] theorem exec_tokenArrival (t : Nat) (n : Nat) (s : State) : exec (.tokenArrival t n) s = execTokenArrival t n s := rfl
@[simp] theorem exec_spillWrite (t : Nat) (s : State) : exec (.spillWrite t) s = execSpillWrite t s := rfl
@[simp] theorem exec_spillFetch (t : Nat) (n : Nat) (s : State) : exec (.spillFetch t n) s = execSpillFetch t n s := rfl
@[simp] theorem exec_reserveReload (t : Nat) (s : State) : exec (.reserveReload t) s = execReserveReload t s := rfl
@[simp] theorem exec_deadlockWindowExpiry (t : Nat) (k : Nat) (s : State) : exec (.deadlockWindowExpiry t k) s = execDeadlockWindowExpiry t k s := rfl
@[simp] theorem exec_deadlockConfirm (t : Nat) (k : Nat) (s : State) : exec (.deadlockConfirm t k) s = execDeadlockConfirm t k s := rfl
@[simp] theorem exec_mstPurgeWalk (t : Nat) (k : Nat) (s : State) : exec (.mstPurgeWalk t k) s = execMstPurgeWalk t k s := rfl
@[simp] theorem exec_mstEccError (t : Nat) (n : Nat) (c : Nat) (e : Codeword) (s : State) : exec (.mstEccError t n c e) s = execMstEccError t n c e s := rfl
@[simp] theorem exec_dispatchGrant (t : Nat) (s : State) : exec (.dispatchGrant t) s = execDispatchGrant t s := rfl
@[simp] theorem exec_readyQueueAdmit (t : Nat) (s : State) : exec (.readyQueueAdmit t) s = execReadyQueueAdmit t s := rfl
@[simp] theorem exec_firingCommit (f : Nat) (s : State) : exec (.firingCommit f) s = execFiringCommit f s := rfl
@[simp] theorem exec_storeDrain (t : Nat) (p : Nat) (s : State) : exec (.storeDrain t p) s = execStoreDrain t p s := rfl
@[simp] theorem exec_eventBufferDrain (t : Nat) (p : Nat) (s : State) : exec (.eventBufferDrain t p) s = execEventBufferDrain t p s := rfl
@[simp] theorem exec_actIdReturn (a : Nat) (s : State) : exec (.actIdReturn a) s = execActIdReturn a s := rfl
@[simp] theorem exec_peRetire (m : Nat) (t : Nat) (p : Nat) (v : Word) (s : State) : exec (.peRetire m t p v) s = execPeRetire m t p v s := rfl
@[simp] theorem exec_peRetireComplete (t : Nat) (p : Nat) (s : State) : exec (.peRetireComplete t p) s = execPeRetireComplete t p s := rfl
@[simp] theorem exec_statclr (m : Nat) (t : Nat) (v : Word) (s : State) : exec (.statclr m t v) s = execStatclr m t v s := rfl
@[simp] theorem exec_fireIllegalEncoding (f : Nat) (s : State) : exec (.fireIllegalEncoding f) s = execFireIllegalEncoding f s := rfl
@[simp] theorem exec_firePass (f : Nat) (s : State) : exec (.firePass f) s = execFirePass f s := rfl
@[simp] theorem exec_fireAdd (f : Nat) (s : State) : exec (.fireAdd f) s = execFireAdd f s := rfl
@[simp] theorem exec_fireSub (f : Nat) (s : State) : exec (.fireSub f) s = execFireSub f s := rfl
@[simp] theorem exec_fireAdds (f : Nat) (s : State) : exec (.fireAdds f) s = execFireAdds f s := rfl
@[simp] theorem exec_fireSubs (f : Nat) (s : State) : exec (.fireSubs f) s = execFireSubs f s := rfl
@[simp] theorem exec_fireNeg (f : Nat) (s : State) : exec (.fireNeg f) s = execFireNeg f s := rfl
@[simp] theorem exec_fireNegs (f : Nat) (s : State) : exec (.fireNegs f) s = execFireNegs f s := rfl
@[simp] theorem exec_fireAbs (f : Nat) (s : State) : exec (.fireAbs f) s = execFireAbs f s := rfl
@[simp] theorem exec_fireAbss (f : Nat) (s : State) : exec (.fireAbss f) s = execFireAbss f s := rfl
@[simp] theorem exec_fireMul (f : Nat) (s : State) : exec (.fireMul f) s = execFireMul f s := rfl
@[simp] theorem exec_fireMulh (f : Nat) (s : State) : exec (.fireMulh f) s = execFireMulh f s := rfl
@[simp] theorem exec_fireMuls (f : Nat) (s : State) : exec (.fireMuls f) s = execFireMuls f s := rfl
@[simp] theorem exec_fireDiv (f : Nat) (s : State) : exec (.fireDiv f) s = execFireDiv f s := rfl
@[simp] theorem exec_fireRem (f : Nat) (s : State) : exec (.fireRem f) s = execFireRem f s := rfl
@[simp] theorem exec_fireMin (f : Nat) (s : State) : exec (.fireMin f) s = execFireMin f s := rfl
@[simp] theorem exec_fireMax (f : Nat) (s : State) : exec (.fireMax f) s = execFireMax f s := rfl
@[simp] theorem exec_fireAnd (f : Nat) (s : State) : exec (.fireAnd f) s = execFireAnd f s := rfl
@[simp] theorem exec_fireOr (f : Nat) (s : State) : exec (.fireOr f) s = execFireOr f s := rfl
@[simp] theorem exec_fireXor (f : Nat) (s : State) : exec (.fireXor f) s = execFireXor f s := rfl
@[simp] theorem exec_fireNot (f : Nat) (s : State) : exec (.fireNot f) s = execFireNot f s := rfl
@[simp] theorem exec_fireAndn (f : Nat) (s : State) : exec (.fireAndn f) s = execFireAndn f s := rfl
@[simp] theorem exec_fireShl (f : Nat) (s : State) : exec (.fireShl f) s = execFireShl f s := rfl
@[simp] theorem exec_fireShr (f : Nat) (s : State) : exec (.fireShr f) s = execFireShr f s := rfl
@[simp] theorem exec_fireSar (f : Nat) (s : State) : exec (.fireSar f) s = execFireSar f s := rfl
@[simp] theorem exec_fireRol (f : Nat) (s : State) : exec (.fireRol f) s = execFireRol f s := rfl
@[simp] theorem exec_fireRor (f : Nat) (s : State) : exec (.fireRor f) s = execFireRor f s := rfl
@[simp] theorem exec_fireClz (f : Nat) (s : State) : exec (.fireClz f) s = execFireClz f s := rfl
@[simp] theorem exec_firePopc (f : Nat) (s : State) : exec (.firePopc f) s = execFirePopc f s := rfl
@[simp] theorem exec_fireCmpeq (f : Nat) (s : State) : exec (.fireCmpeq f) s = execFireCmpeq f s := rfl
@[simp] theorem exec_fireCmpne (f : Nat) (s : State) : exec (.fireCmpne f) s = execFireCmpne f s := rfl
@[simp] theorem exec_fireCmplt (f : Nat) (s : State) : exec (.fireCmplt f) s = execFireCmplt f s := rfl
@[simp] theorem exec_fireCmple (f : Nat) (s : State) : exec (.fireCmple f) s = execFireCmple f s := rfl
@[simp] theorem exec_fireCmpun (f : Nat) (s : State) : exec (.fireCmpun f) s = execFireCmpun f s := rfl
@[simp] theorem exec_fireSel (f : Nat) (s : State) : exec (.fireSel f) s = execFireSel f s := rfl
@[simp] theorem exec_fireSwitch (f : Nat) (s : State) : exec (.fireSwitch f) s = execFireSwitch f s := rfl
@[simp] theorem exec_fireGate (f : Nat) (s : State) : exec (.fireGate f) s = execFireGate f s := rfl
@[simp] theorem exec_fireMerge (f : Nat) (s : State) : exec (.fireMerge f) s = execFireMerge f s := rfl
@[simp] theorem exec_fireLoopgate (t : Nat) (n : Nat) (s : State) : exec (.fireLoopgate t n) s = execFireLoopgate t n s := rfl
@[simp] theorem exec_fireFadd (f : Nat) (s : State) : exec (.fireFadd f) s = execFireFadd f s := rfl
@[simp] theorem exec_fireFsub (f : Nat) (s : State) : exec (.fireFsub f) s = execFireFsub f s := rfl
@[simp] theorem exec_fireFmul (f : Nat) (s : State) : exec (.fireFmul f) s = execFireFmul f s := rfl
@[simp] theorem exec_fireFdiv (f : Nat) (s : State) : exec (.fireFdiv f) s = execFireFdiv f s := rfl
@[simp] theorem exec_fireFneg (f : Nat) (s : State) : exec (.fireFneg f) s = execFireFneg f s := rfl
@[simp] theorem exec_fireFabs (f : Nat) (s : State) : exec (.fireFabs f) s = execFireFabs f s := rfl
@[simp] theorem exec_fireFmin (f : Nat) (s : State) : exec (.fireFmin f) s = execFireFmin f s := rfl
@[simp] theorem exec_fireFmax (f : Nat) (s : State) : exec (.fireFmax f) s = execFireFmax f s := rfl
@[simp] theorem exec_fireFma (f : Nat) (s : State) : exec (.fireFma f) s = execFireFma f s := rfl
@[simp] theorem exec_fireFms (f : Nat) (s : State) : exec (.fireFms f) s = execFireFms f s := rfl
@[simp] theorem exec_fireFnma (f : Nat) (s : State) : exec (.fireFnma f) s = execFireFnma f s := rfl
@[simp] theorem exec_fireFsqrt (f : Nat) (s : State) : exec (.fireFsqrt f) s = execFireFsqrt f s := rfl
@[simp] theorem exec_fireFrsqrt (f : Nat) (s : State) : exec (.fireFrsqrt f) s = execFireFrsqrt f s := rfl
@[simp] theorem exec_fireFrint (f : Nat) (s : State) : exec (.fireFrint f) s = execFireFrint f s := rfl
@[simp] theorem exec_fireCvt (f : Nat) (s : State) : exec (.fireCvt f) s = execFireCvt f s := rfl
@[simp] theorem exec_fireFclass (f : Nat) (s : State) : exec (.fireFclass f) s = execFireFclass f s := rfl
@[simp] theorem exec_fireSplat (f : Nat) (s : State) : exec (.fireSplat f) s = execFireSplat f s := rfl
@[simp] theorem exec_fireXlane (f : Nat) (s : State) : exec (.fireXlane f) s = execFireXlane f s := rfl
@[simp] theorem exec_fireInslane (f : Nat) (s : State) : exec (.fireInslane f) s = execFireInslane f s := rfl
@[simp] theorem exec_firePerm (f : Nat) (s : State) : exec (.firePerm f) s = execFirePerm f s := rfl
@[simp] theorem exec_fireVsel (f : Nat) (s : State) : exec (.fireVsel f) s = execFireVsel f s := rfl
@[simp] theorem exec_fireHsum (f : Nat) (s : State) : exec (.fireHsum f) s = execFireHsum f s := rfl
@[simp] theorem exec_fireHmin (f : Nat) (s : State) : exec (.fireHmin f) s = execFireHmin f s := rfl
@[simp] theorem exec_fireHmax (f : Nat) (s : State) : exec (.fireHmax f) s = execFireHmax f s := rfl
@[simp] theorem exec_fireDot (f : Nat) (s : State) : exec (.fireDot f) s = execFireDot f s := rfl
@[simp] theorem exec_fireLoad (f : Nat) (s : State) : exec (.fireLoad f) s = execFireLoad f s := rfl
@[simp] theorem exec_fireStore (f : Nat) (s : State) : exec (.fireStore f) s = execFireStore f s := rfl
@[simp] theorem exec_fireStorex (f : Nat) (s : State) : exec (.fireStorex f) s = execFireStorex f s := rfl
@[simp] theorem exec_fireCopy (f : Nat) (s : State) : exec (.fireCopy f) s = execFireCopy f s := rfl
@[simp] theorem exec_fireIfetch (f : Nat) (s : State) : exec (.fireIfetch f) s = execFireIfetch f s := rfl
@[simp] theorem exec_fireIstore (f : Nat) (s : State) : exec (.fireIstore f) s = execFireIstore f s := rfl
@[simp] theorem exec_fireFence (f : Nat) (s : State) : exec (.fireFence f) s = execFireFence f s := rfl
@[simp] theorem exec_fireClean (f : Nat) (s : State) : exec (.fireClean f) s = execFireClean f s := rfl
@[simp] theorem exec_fireClinv (f : Nat) (s : State) : exec (.fireClinv f) s = execFireClinv f s := rfl
@[simp] theorem exec_fireCmul (f : Nat) (s : State) : exec (.fireCmul f) s = execFireCmul f s := rfl
@[simp] theorem exec_fireFft4 (f : Nat) (s : State) : exec (.fireFft4 f) s = execFireFft4 f s := rfl
@[simp] theorem exec_fireIfft4 (f : Nat) (s : State) : exec (.fireIfft4 f) s = execFireIfft4 f s := rfl
@[simp] theorem exec_fireCmag (f : Nat) (s : State) : exec (.fireCmag f) s = execFireCmag f s := rfl
@[simp] theorem exec_fireCphase (f : Nat) (s : State) : exec (.fireCphase f) s = execFireCphase f s := rfl
@[simp] theorem exec_fireCpolar (f : Nat) (s : State) : exec (.fireCpolar f) s = execFireCpolar f s := rfl
@[simp] theorem exec_fireHilb (f : Nat) (s : State) : exec (.fireHilb f) s = execFireHilb f s := rfl
@[simp] theorem exec_fireResamp (f : Nat) (s : State) : exec (.fireResamp f) s = execFireResamp f s := rfl
@[simp] theorem exec_fireMoment (f : Nat) (s : State) : exec (.fireMoment f) s = execFireMoment f s := rfl
@[simp] theorem exec_fireNewact (f : Nat) (s : State) : exec (.fireNewact f) s = execFireNewact f s := rfl
@[simp] theorem exec_fireFreeact (f : Nat) (s : State) : exec (.fireFreeact f) s = execFireFreeact f s := rfl
@[simp] theorem exec_fireIter (f : Nat) (s : State) : exec (.fireIter f) s = execFireIter f s := rfl
@[simp] theorem exec_fireChtag (f : Nat) (s : State) : exec (.fireChtag f) s = execFireChtag f s := rfl
@[simp] theorem exec_fireSelf (f : Nat) (s : State) : exec (.fireSelf f) s = execFireSelf f s := rfl
@[simp] theorem exec_fireTagq (f : Nat) (s : State) : exec (.fireTagq f) s = execFireTagq f s := rfl
@[simp] theorem exec_fireFan (t : Nat) (n : Nat) (s : State) : exec (.fireFan t n) s = execFireFan t n s := rfl
@[simp] theorem exec_fireChsend (f : Nat) (s : State) : exec (.fireChsend f) s = execFireChsend f s := rfl
@[simp] theorem exec_fireChpart (f : Nat) (s : State) : exec (.fireChpart f) s = execFireChpart f s := rfl
@[simp] theorem exec_fireChend (f : Nat) (s : State) : exec (.fireChend f) s = execFireChend f s := rfl
@[simp] theorem exec_fireChpoll (f : Nat) (s : State) : exec (.fireChpoll f) s = execFireChpoll f s := rfl
@[simp] theorem exec_fireLkacq (f : Nat) (s : State) : exec (.fireLkacq f) s = execFireLkacq f s := rfl
@[simp] theorem exec_fireLktry (f : Nat) (s : State) : exec (.fireLktry f) s = execFireLktry f s := rfl
@[simp] theorem exec_fireLkrel (f : Nat) (s : State) : exec (.fireLkrel f) s = execFireLkrel f s := rfl
@[simp] theorem exec_fireLkhand (f : Nat) (s : State) : exec (.fireLkhand f) s = execFireLkhand f s := rfl
@[simp] theorem exec_fireDelay (f : Nat) (s : State) : exec (.fireDelay f) s = execFireDelay f s := rfl
@[simp] theorem exec_fireTickwait (f : Nat) (s : State) : exec (.fireTickwait f) s = execFireTickwait f s := rfl
@[simp] theorem exec_fireSchstat (f : Nat) (s : State) : exec (.fireSchstat f) s = execFireSchstat f s := rfl
@[simp] theorem exec_fireCrumb (f : Nat) (s : State) : exec (.fireCrumb f) s = execFireCrumb f s := rfl
@[simp] theorem exec_fireCodeCommit (f : Nat) (s : State) : exec (.fireCodeCommit f) s = execFireCodeCommit f s := rfl
@[simp] theorem exec_fireVote (f : Nat) (s : State) : exec (.fireVote f) s = execFireVote f s := rfl
@[simp] theorem exec_fireRsend (f : Nat) (s : State) : exec (.fireRsend f) s = execFireRsend f s := rfl
@[simp] theorem exec_fireTimeq (f : Nat) (s : State) : exec (.fireTimeq f) s = execFireTimeq f s := rfl
@[simp] theorem exec_fireExtOp (f : Nat) (s : State) : exec (.fireExtOp f) s = execFireExtOp f s := rfl
@[simp] theorem exec_extReply (ws : List (BitVec 128)) (s : State) : exec (.extReply ws) s = execExtReply ws s := rfl
@[simp] theorem exec_extReplyTimeout (n : Nat) (s : State) : exec (.extReplyTimeout n) s = execExtReplyTimeout n s := rfl
@[simp] theorem exec_ucsFetchParityError (t : Nat) (a : Nat) (f : Nat) (flips : BitVec 165) (s : State) : exec (.ucsFetchParityError t a f flips) s = execUcsFetchParityError t a f flips s := rfl
@[simp] theorem exec_ucsWordRepair (t : Nat) (a : Nat) (ok : Bool) (s : State) : exec (.ucsWordRepair t a ok) s = execUcsWordRepair t a ok s := rfl
@[simp] theorem exec_ucsScrubRead (t : Nat) (flips : BitVec 165) (ok : Bool) (s : State) : exec (.ucsScrubRead t flips ok) s = execUcsScrubRead t flips ok s := rfl
@[simp] theorem exec_ucsReload (m : Nat) (t : Nat) (v : Word) (s : State) : exec (.ucsReload m t v) s = execUcsReload m t v s := rfl
@[simp] theorem exec_ucsReloadDone (t : Nat) (s : State) : exec (.ucsReloadDone t) s = execUcsReloadDone t s := rfl
@[simp] theorem exec_mntClean (m : Nat) (v : Word) (s : State) : exec (.mntClean m v) s = execMntClean m v s := rfl
@[simp] theorem exec_mntInval (m : Nat) (v : Word) (s : State) : exec (.mntInval m v) s = execMntInval m v s := rfl
@[simp] theorem exec_mntClinv (m : Nat) (v : Word) (s : State) : exec (.mntClinv m v) s = execMntClinv m v s := rfl
@[simp] theorem exec_mntPin (m : Nat) (v : Word) (s : State) : exec (.mntPin m v) s = execMntPin m v s := rfl
@[simp] theorem exec_mntUnpin (m : Nat) (v : Word) (s : State) : exec (.mntUnpin m v) s = execMntUnpin m v s := rfl
@[simp] theorem exec_mntComplete (s : State) : exec (.mntComplete) s = execMntComplete s := rfl
@[simp] theorem exec_l2cLockWrite (m : Nat) (t : Nat) (v : Word) (s : State) : exec (.l2cLockWrite m t v) s = execL2cLockWrite m t v s := rfl
@[simp] theorem exec_wayGroupPowerRequest (m : Nat) (t : Nat) (v : Word) (s : State) : exec (.wayGroupPowerRequest m t v) s = execWayGroupPowerRequest m t v s := rfl
@[simp] theorem exec_wayGroupPowerDownDone (t : Nat) (g : Nat) (s : State) : exec (.wayGroupPowerDownDone t g) s = execWayGroupPowerDownDone t g s := rfl
@[simp] theorem exec_l2FillComplete (n : Nat) (s : State) : exec (.l2FillComplete n) s = execL2FillComplete n s := rfl
@[simp] theorem exec_l2ScrubRead (t : Nat) (e : Codeword) (s : State) : exec (.l2ScrubRead t e) s = execL2ScrubRead t e s := rfl
@[simp] theorem exec_sdramPatrolRead (c : Nat) (e : Codeword) (s : State) : exec (.sdramPatrolRead c e) s = execSdramPatrolRead c e s := rfl
@[simp] theorem exec_l2EccError (kind : Nat) (t : Nat) (y : Nat) (x : Nat) (e : Codeword) (s : State) : exec (.l2EccError kind t y x e) s = execL2EccError kind t y x e s := rfl
@[simp] theorem exec_sdramEccError (a : Nat) (e : Codeword) (e2 : Codeword) (s : State) : exec (.sdramEccError a e e2) s = execSdramEccError a e e2 s := rfl
@[simp] theorem exec_sdcCfgWrite (m : Nat) (v : Word) (s : State) : exec (.sdcCfgWrite m v) s = execSdcCfgWrite m v s := rfl
@[simp] theorem exec_sdramTrainingDone (s : State) : exec (.sdramTrainingDone) s = execSdramTrainingDone s := rfl
@[simp] theorem exec_sdramRefresh (c : Nat) (s : State) : exec (.sdramRefresh c) s = execSdramRefresh c s := rfl
@[simp] theorem exec_sdramRefreshRateChange (c : Nat) (b : Bool) (s : State) : exec (.sdramRefreshRateChange c b) s = execSdramRefreshRateChange c b s := rfl
@[simp] theorem exec_pcieRequest (bar2 : Bool) (write : Bool) (noSnoop : Bool) (off : Nat) (n : Nat) (data : List Byte) (s : State) : exec (.pcieRequest bar2 write noSnoop off n data) s = execPcieRequest bar2 write noSnoop off n data s := rfl
@[simp] theorem exec_schedGrant (s : State) : exec (.schedGrant) s = execSchedGrant s := rfl
@[simp] theorem exec_flowItemRelease (fl : Nat) (s : State) : exec (.flowItemRelease fl) s = execFlowItemRelease fl s := rfl
@[simp] theorem exec_flowWaitWarning (n : Nat) (s : State) : exec (.flowWaitWarning n) s = execFlowWaitWarning n s := rfl
@[simp] theorem exec_lkuAcq (m : Nat) (v : Word) (s : State) : exec (.lkuAcq m v) s = execLkuAcq m v s := rfl
@[simp] theorem exec_lkuTry (m : Nat) (v : Word) (s : State) : exec (.lkuTry m v) s = execLkuTry m v s := rfl
@[simp] theorem exec_lkuRel (m : Nat) (v : Word) (s : State) : exec (.lkuRel m v) s = execLkuRel m v s := rfl
@[simp] theorem exec_lkuHand (m : Nat) (v : Word) (s : State) : exec (.lkuHand m v) s = execLkuHand m v s := rfl
@[simp] theorem exec_lkuCancel (m : Nat) (v : Word) (s : State) : exec (.lkuCancel m v) s = execLkuCancel m v s := rfl
@[simp] theorem exec_lkuMreset (m : Nat) (v : Word) (s : State) : exec (.lkuMreset m v) s = execLkuMreset m v s := rfl
@[simp] theorem exec_afeStart (m : Nat) (v : Word) (s : State) : exec (.afeStart m v) s = execAfeStart m v s := rfl
@[simp] theorem exec_afeChannelConfig (m : Nat) (c : Nat) (v : Word) (s : State) : exec (.afeChannelConfig m c v) s = execAfeChannelConfig m c v s := rfl
@[simp] theorem exec_afeTachConfig (m : Nat) (t : Nat) (v : Word) (s : State) : exec (.afeTachConfig m t v) s = execAfeTachConfig m t v s := rfl
@[simp] theorem exec_shadowWrite (m : Nat) (a : Nat) (v : Word) (s : State) : exec (.shadowWrite m a v) s = execShadowWrite m a v s := rfl
@[simp] theorem exec_protectionSample (c : Nat) (x : Int) (s : State) : exec (.protectionSample c x) s = execProtectionSample c x s := rfl
@[simp] theorem exec_measurementSample (c : Nat) (k : Nat) (x : Int) (s : State) : exec (.measurementSample c k x) s = execMeasurementSample c k x s := rfl
@[simp] theorem exec_tachCrossing (t : Nat) (v : Int) (s : State) : exec (.tachCrossing t v) s = execTachCrossing t v s := rfl
@[simp] theorem exec_tachEdgeQualify (t : Nat) (s : State) : exec (.tachEdgeQualify t) s = execTachEdgeQualify t s := rfl
@[simp] theorem exec_overspeedTimeout (t : Nat) (s : State) : exec (.overspeedTimeout t) s = execOverspeedTimeout t s := rfl
@[simp] theorem exec_biasReading (c : Nat) (v : Int) (b : Bool) (s : State) : exec (.biasReading c v b) s = execBiasReading c v b s := rfl
@[simp] theorem exec_graphDemandApply (s : State) : exec (.graphDemandApply) s = execGraphDemandApply s := rfl
@[simp] theorem exec_graphDemandDiscard (y : Nat) (s : State) : exec (.graphDemandDiscard y) s = execGraphDemandDiscard y s := rfl
@[simp] theorem exec_graphDemandTimeout (k : Nat) (s : State) : exec (.graphDemandTimeout k) s = execGraphDemandTimeout k s := rfl
@[simp] theorem exec_trpReset (m : Nat) (v : Word) (s : State) : exec (.trpReset m v) s = execTrpReset m v s := rfl
@[simp] theorem exec_trpFirstClr (m : Nat) (v : Word) (s : State) : exec (.trpFirstClr m v) s = execTrpFirstClr m v s := rfl
@[simp] theorem exec_trpArm (m : Nat) (v : Word) (s : State) : exec (.trpArm m v) s = execTrpArm m v s := rfl
@[simp] theorem exec_aliveSilenceForce (s : State) : exec (.aliveSilenceForce) s = execAliveSilenceForce s := rfl
@[simp] theorem exec_tripRailLoss (mv : Nat) (s : State) : exec (.tripRailLoss mv) s = execTripRailLoss mv s := rfl
@[simp] theorem exec_tripRailRestore (s : State) : exec (.tripRailRestore) s = execTripRailRestore s := rfl
@[simp] theorem exec_tripConfigMismatch (kind : Nat) (y : Nat) (s : State) : exec (.tripConfigMismatch kind y) s = execTripConfigMismatch kind y s := rfl
@[simp] theorem exec_driverSenseMismatch (k : Nat) (s : State) : exec (.driverSenseMismatch k) s = execDriverSenseMismatch k s := rfl
@[simp] theorem exec_driverCurrentLimit (k : Nat) (s : State) : exec (.driverCurrentLimit k) s = execDriverCurrentLimit k s := rfl
@[simp] theorem exec_driverRetry (k : Nat) (s : State) : exec (.driverRetry k) s = execDriverRetry k s := rfl
@[simp] theorem exec_dieLinkLoss (s : State) : exec (.dieLinkLoss) s = execDieLinkLoss s := rfl
@[simp] theorem exec_dieLinkCorrection (e : Codeword) (s : State) : exec (.dieLinkCorrection e) s = execDieLinkCorrection e s := rfl
@[simp] theorem exec_chnCreate (m : Nat) (s : State) : exec (.chnCreate m) s = execChnCreate m s := rfl
@[simp] theorem exec_chnDestroy (m : Nat) (s : State) : exec (.chnDestroy m) s = execChnDestroy m s := rfl
@[simp] theorem exec_chnFlush (m : Nat) (s : State) : exec (.chnFlush m) s = execChnFlush m s := rfl
@[simp] theorem exec_chnDropPacket (m : Nat) (s : State) : exec (.chnDropPacket m) s = execChnDropPacket m s := rfl
@[simp] theorem exec_chnQuery (m : Nat) (s : State) : exec (.chnQuery m) s = execChnQuery m s := rfl
@[simp] theorem exec_windowComplete (y : Nat) (s : State) : exec (.windowComplete y) s = execWindowComplete y s := rfl
@[simp] theorem exec_staleTailExpiry (y : Nat) (s : State) : exec (.staleTailExpiry y) s = execStaleTailExpiry y s := rfl
@[simp] theorem exec_queueReset (y : PtrFault) (s : State) : exec (.queueReset y) s = execQueueReset y s := rfl
@[simp] theorem exec_qramEccError (y : Nat) (kind : Nat) (n : Nat) (both : Bool) (e : Codeword) (s : State) : exec (.qramEccError y kind n both e) s = execQramEccError y kind n both e s := rfl
@[simp] theorem exec_overflowMoveBack (y : Nat) (s : State) : exec (.overflowMoveBack y) s = execOverflowMoveBack y s := rfl
@[simp] theorem exec_engineBundle (n : Nat) (s : State) : exec (.engineBundle n) s = execEngineBundle n s := rfl
@[simp] theorem exec_aluAdd (n : Nat) (u : Nat) (t : Word) (s : State) : exec (.aluAdd n u t) s = execAluAdd n u t s := rfl
@[simp] theorem exec_aluSub (n : Nat) (u : Nat) (t : Word) (s : State) : exec (.aluSub n u t) s = execAluSub n u t s := rfl
@[simp] theorem exec_aluAnd (n : Nat) (u : Nat) (t : Word) (s : State) : exec (.aluAnd n u t) s = execAluAnd n u t s := rfl
@[simp] theorem exec_aluOr (n : Nat) (u : Nat) (t : Word) (s : State) : exec (.aluOr n u t) s = execAluOr n u t s := rfl
@[simp] theorem exec_aluXor (n : Nat) (u : Nat) (t : Word) (s : State) : exec (.aluXor n u t) s = execAluXor n u t s := rfl
@[simp] theorem exec_aluAndn (n : Nat) (u : Nat) (t : Word) (s : State) : exec (.aluAndn n u t) s = execAluAndn n u t s := rfl
@[simp] theorem exec_aluShl (n : Nat) (u : Nat) (t : Word) (s : State) : exec (.aluShl n u t) s = execAluShl n u t s := rfl
@[simp] theorem exec_aluShr (n : Nat) (u : Nat) (t : Word) (s : State) : exec (.aluShr n u t) s = execAluShr n u t s := rfl
@[simp] theorem exec_aluSar (n : Nat) (u : Nat) (t : Word) (s : State) : exec (.aluSar n u t) s = execAluSar n u t s := rfl
@[simp] theorem exec_aluRol (n : Nat) (u : Nat) (t : Word) (s : State) : exec (.aluRol n u t) s = execAluRol n u t s := rfl
@[simp] theorem exec_aluEq (n : Nat) (u : Nat) (t : Word) (s : State) : exec (.aluEq n u t) s = execAluEq n u t s := rfl
@[simp] theorem exec_aluNe (n : Nat) (u : Nat) (t : Word) (s : State) : exec (.aluNe n u t) s = execAluNe n u t s := rfl
@[simp] theorem exec_aluLts (n : Nat) (u : Nat) (t : Word) (s : State) : exec (.aluLts n u t) s = execAluLts n u t s := rfl
@[simp] theorem exec_aluLtu (n : Nat) (u : Nat) (t : Word) (s : State) : exec (.aluLtu n u t) s = execAluLtu n u t s := rfl
@[simp] theorem exec_aluLes (n : Nat) (u : Nat) (t : Word) (s : State) : exec (.aluLes n u t) s = execAluLes n u t s := rfl
@[simp] theorem exec_aluLeu (n : Nat) (u : Nat) (t : Word) (s : State) : exec (.aluLeu n u t) s = execAluLeu n u t s := rfl
@[simp] theorem exec_aluMins (n : Nat) (u : Nat) (t : Word) (s : State) : exec (.aluMins n u t) s = execAluMins n u t s := rfl
@[simp] theorem exec_aluMaxs (n : Nat) (u : Nat) (t : Word) (s : State) : exec (.aluMaxs n u t) s = execAluMaxs n u t s := rfl
@[simp] theorem exec_aluMinu (n : Nat) (u : Nat) (t : Word) (s : State) : exec (.aluMinu n u t) s = execAluMinu n u t s := rfl
@[simp] theorem exec_aluMaxu (n : Nat) (u : Nat) (t : Word) (s : State) : exec (.aluMaxu n u t) s = execAluMaxu n u t s := rfl
@[simp] theorem exec_aluPass (n : Nat) (u : Nat) (t : Word) (s : State) : exec (.aluPass n u t) s = execAluPass n u t s := rfl
@[simp] theorem exec_aluClz (n : Nat) (u : Nat) (t : Word) (s : State) : exec (.aluClz n u t) s = execAluClz n u t s := rfl
@[simp] theorem exec_aluPopc (n : Nat) (u : Nat) (t : Word) (s : State) : exec (.aluPopc n u t) s = execAluPopc n u t s := rfl
@[simp] theorem exec_aluSx8 (n : Nat) (u : Nat) (t : Word) (s : State) : exec (.aluSx8 n u t) s = execAluSx8 n u t s := rfl
@[simp] theorem exec_aluSx16 (n : Nat) (u : Nat) (t : Word) (s : State) : exec (.aluSx16 n u t) s = execAluSx16 n u t s := rfl
@[simp] theorem exec_aluSx32 (n : Nat) (u : Nat) (t : Word) (s : State) : exec (.aluSx32 n u t) s = execAluSx32 n u t s := rfl
@[simp] theorem exec_mulLo (n : Nat) (t : Word) (s : State) : exec (.mulLo n t) s = execMulLo n t s := rfl
@[simp] theorem exec_mulHis (n : Nat) (t : Word) (s : State) : exec (.mulHis n t) s = execMulHis n t s := rfl
@[simp] theorem exec_mulHiu (n : Nat) (t : Word) (s : State) : exec (.mulHiu n t) s = execMulHiu n t s := rfl
@[simp] theorem exec_lsuLdu8 (n : Nat) (t : Word) (s : State) : exec (.lsuLdu8 n t) s = execLsuLdu8 n t s := rfl
@[simp] theorem exec_lsuLdu16 (n : Nat) (t : Word) (s : State) : exec (.lsuLdu16 n t) s = execLsuLdu16 n t s := rfl
@[simp] theorem exec_lsuLdu32 (n : Nat) (t : Word) (s : State) : exec (.lsuLdu32 n t) s = execLsuLdu32 n t s := rfl
@[simp] theorem exec_lsuLdu64 (n : Nat) (t : Word) (s : State) : exec (.lsuLdu64 n t) s = execLsuLdu64 n t s := rfl
@[simp] theorem exec_lsuLds8 (n : Nat) (t : Word) (s : State) : exec (.lsuLds8 n t) s = execLsuLds8 n t s := rfl
@[simp] theorem exec_lsuLds16 (n : Nat) (t : Word) (s : State) : exec (.lsuLds16 n t) s = execLsuLds16 n t s := rfl
@[simp] theorem exec_lsuLds32 (n : Nat) (t : Word) (s : State) : exec (.lsuLds32 n t) s = execLsuLds32 n t s := rfl
@[simp] theorem exec_lsuSt8 (n : Nat) (t : Word) (s : State) : exec (.lsuSt8 n t) s = execLsuSt8 n t s := rfl
@[simp] theorem exec_lsuSt16 (n : Nat) (t : Word) (s : State) : exec (.lsuSt16 n t) s = execLsuSt16 n t s := rfl
@[simp] theorem exec_lsuSt32 (n : Nat) (t : Word) (s : State) : exec (.lsuSt32 n t) s = execLsuSt32 n t s := rfl
@[simp] theorem exec_lsuSt64 (n : Nat) (t : Word) (s : State) : exec (.lsuSt64 n t) s = execLsuSt64 n t s := rfl
@[simp] theorem exec_lsuFence (n : Nat) (t : Word) (s : State) : exec (.lsuFence n t) s = execLsuFence n t s := rfl
@[simp] theorem exec_pcuJump (n : Nat) (t : Word) (s : State) : exec (.pcuJump n t) s = execPcuJump n t s := rfl
@[simp] theorem exec_pcuCall (n : Nat) (t : Word) (s : State) : exec (.pcuCall n t) s = execPcuCall n t s := rfl
@[simp] theorem exec_pcuRet (n : Nat) (t : Word) (s : State) : exec (.pcuRet n t) s = execPcuRet n t s := rfl
@[simp] theorem exec_pcuRete (n : Nat) (t : Word) (s : State) : exec (.pcuRete n t) s = execPcuRete n t s := rfl
@[simp] theorem exec_pcuLoop (n : Nat) (t : Word) (s : State) : exec (.pcuLoop n t) s = execPcuLoop n t s := rfl
@[simp] theorem exec_pcuIsync (n : Nat) (t : Word) (s : State) : exec (.pcuIsync n t) s = execPcuIsync n t s := rfl
@[simp] theorem exec_pcuHalt (n : Nat) (t : Word) (s : State) : exec (.pcuHalt n t) s = execPcuHalt n t s := rfl
@[simp] theorem exec_pcuWait (n : Nat) (t : Word) (s : State) : exec (.pcuWait n t) s = execPcuWait n t s := rfl
@[simp] theorem exec_pcuEvmask (n : Nat) (t : Word) (s : State) : exec (.pcuEvmask n t) s = execPcuEvmask n t s := rfl
@[simp] theorem exec_pcuWdog (n : Nat) (t : Word) (s : State) : exec (.pcuWdog n t) s = execPcuWdog n t s := rfl
@[simp] theorem exec_chpSend (n : Nat) (t : Word) (s : State) : exec (.chpSend n t) s = execChpSend n t s := rfl
@[simp] theorem exec_chpSende (n : Nat) (t : Word) (s : State) : exec (.chpSende n t) s = execChpSende n t s := rfl
@[simp] theorem exec_chpRecv (n : Nat) (t : Word) (s : State) : exec (.chpRecv n t) s = execChpRecv n t s := rfl
@[simp] theorem exec_chpDrop (n : Nat) (t : Word) (s : State) : exec (.chpDrop n t) s = execChpDrop n t s := rfl
@[simp] theorem exec_chpFlush (n : Nat) (t : Word) (s : State) : exec (.chpFlush n t) s = execChpFlush n t s := rfl
@[simp] theorem exec_chpEvqRead (n : Nat) (d : Nat) (s : State) : exec (.chpEvqRead n d) s = execChpEvqRead n d s := rfl
@[simp] theorem exec_engineEventTake (n : Nat) (s : State) : exec (.engineEventTake n) s = execEngineEventTake n s := rfl
@[simp] theorem exec_cenRun (m : Nat) (n : Nat) (v : Word) (s : State) : exec (.cenRun m n v) s = execCenRun m n v s := rfl
@[simp] theorem exec_cenReset (m : Nat) (n : Nat) (v : Word) (s : State) : exec (.cenReset m n v) s = execCenReset m n v s := rfl
@[simp] theorem exec_engineWatchdogExpiry (n : Nat) (s : State) : exec (.engineWatchdogExpiry n) s = execEngineWatchdogExpiry n s := rfl
@[simp] theorem exec_engineTimer (n : Nat) (s : State) : exec (.engineTimer n) s = execEngineTimer n s := rfl
@[simp] theorem exec_cenDoorbell (m : Nat) (n : Nat) (v : Word) (s : State) : exec (.cenDoorbell m n v) s = execCenDoorbell m n v s := rfl
@[simp] theorem exec_cenRamdataRead (m : Nat) (n : Nat) (s : State) : exec (.cenRamdataRead m n) s = execCenRamdataRead m n s := rfl
@[simp] theorem exec_cenRamdataWrite (m : Nat) (n : Nat) (v : Word) (s : State) : exec (.cenRamdataWrite m n v) s = execCenRamdataWrite m n v s := rfl
@[simp] theorem exec_engineRamError (n : Nat) (kind : Nat) (y : Nat) (e : Codeword) (s : State) : exec (.engineRamError n kind y e) s = execEngineRamError n kind y e s := rfl
@[simp] theorem exec_deflateJob (m : Nat) (u : Nat) (v : Word) (s : State) : exec (.deflateJob m u v) s = execDeflateJob m u v s := rfl
@[simp] theorem exec_inflateJob (m : Nat) (u : Nat) (v : Word) (s : State) : exec (.inflateJob m u v) s = execInflateJob m u v s := rfl
@[simp] theorem exec_fondantJob (m : Nat) (u : Nat) (v : Word) (s : State) : exec (.fondantJob m u v) s = execFondantJob m u v s := rfl
@[simp] theorem exec_fondantDeflateJob (m : Nat) (u : Nat) (v : Word) (s : State) : exec (.fondantDeflateJob m u v) s = execFondantDeflateJob m u v s := rfl
@[simp] theorem exec_unfondantJob (m : Nat) (u : Nat) (v : Word) (s : State) : exec (.unfondantJob m u v) s = execUnfondantJob m u v s := rfl
@[simp] theorem exec_inflateUnfondantJob (m : Nat) (u : Nat) (v : Word) (s : State) : exec (.inflateUnfondantJob m u v) s = execInflateUnfondantJob m u v s := rfl
@[simp] theorem exec_encryptJob (m : Nat) (u : Nat) (v : Word) (s : State) : exec (.encryptJob m u v) s = execEncryptJob m u v s := rfl
@[simp] theorem exec_decryptJob (m : Nat) (u : Nat) (v : Word) (s : State) : exec (.decryptJob m u v) s = execDecryptJob m u v s := rfl
@[simp] theorem exec_unwrapJob (m : Nat) (u : Nat) (v : Word) (s : State) : exec (.unwrapJob m u v) s = execUnwrapJob m u v s := rfl
@[simp] theorem exec_transformJobDone (u : Nat) (s : State) : exec (.transformJobDone u) s = execTransformJobDone u s := rfl
@[simp] theorem exec_transformUnitError (u : Nat) (bad : Bool) (s : State) : exec (.transformUnitError u bad) s = execTransformUnitError u bad s := rfl
@[simp] theorem exec_keyLoad (m : Nat) (v : Word) (s : State) : exec (.keyLoad m v) s = execKeyLoad m v s := rfl
@[simp] theorem exec_keyErase (m : Nat) (v : Word) (s : State) : exec (.keyErase m v) s = execKeyErase m v s := rfl
@[simp] theorem exec_encZeroize (m : Nat) (v : Word) (s : State) : exec (.encZeroize m v) s = execEncZeroize m v s := rfl
@[simp] theorem exec_recoveryDispatch (s : State) : exec (.recoveryDispatch) s = execRecoveryDispatch s := rfl
@[simp] theorem exec_linkFrameReceive (p : Nat) (f : Frame) (s : State) : exec (.linkFrameReceive p f) s = execLinkFrameReceive p f s := rfl
@[simp] theorem exec_linkResendTimeout (p : Nat) (s : State) : exec (.linkResendTimeout p) s = execLinkResendTimeout p s := rfl
@[simp] theorem exec_linkSignalDetect (p : Nat) (s : State) : exec (.linkSignalDetect p) s = execLinkSignalDetect p s := rfl
@[simp] theorem exec_linkFrameLock (p : Nat) (s : State) : exec (.linkFrameLock p) s = execLinkFrameLock p s := rfl
@[simp] theorem exec_linkTrainingFailure (p : Nat) (s : State) : exec (.linkTrainingFailure p) s = execLinkTrainingFailure p s := rfl
@[simp] theorem exec_linkSignalLoss (p : Nat) (s : State) : exec (.linkSignalLoss p) s = execLinkSignalLoss p s := rfl
@[simp] theorem exec_linkHelloTimeout (p : Nat) (s : State) : exec (.linkHelloTimeout p) s = execLinkHelloTimeout p s := rfl
@[simp] theorem exec_linkWake (p : Nat) (s : State) : exec (.linkWake p) s = execLinkWake p s := rfl
@[simp] theorem exec_helloSend (p : Nat) (s : State) : exec (.helloSend p) s = execHelloSend p s := rfl
@[simp] theorem exec_helloReceive (p : Nat) (m : Msg) (s : State) : exec (.helloReceive p m) s = execHelloReceive p m s := rfl
@[simp] theorem exec_mgmtReceive (m : Msg) (s : State) : exec (.mgmtReceive m) s = execMgmtReceive m s := rfl
@[simp] theorem exec_routeReceive (m : Msg) (s : State) : exec (.routeReceive m) s = execRouteReceive m s := rfl
@[simp] theorem exec_rdreqReceive (m : Msg) (s : State) : exec (.rdreqReceive m) s = execRdreqReceive m s := rfl
@[simp] theorem exec_rdrespReceive (m : Msg) (s : State) : exec (.rdrespReceive m) s = execRdrespReceive m s := rfl
@[simp] theorem exec_wrreqReceive (m : Msg) (s : State) : exec (.wrreqReceive m) s = execWrreqReceive m s := rfl
@[simp] theorem exec_wrackReceive (m : Msg) (s : State) : exec (.wrackReceive m) s = execWrackReceive m s := rfl
@[simp] theorem exec_rerrReceive (m : Msg) (s : State) : exec (.rerrReceive m) s = execRerrReceive m s := rfl
@[simp] theorem exec_rscredReceive (m : Msg) (s : State) : exec (.rscredReceive m) s = execRscredReceive m s := rfl
@[simp] theorem exec_rsgrantReceive (m : Msg) (s : State) : exec (.rsgrantReceive m) s = execRsgrantReceive m s := rfl
@[simp] theorem exec_rsitemReceive (m : Msg) (s : State) : exec (.rsitemReceive m) s = execRsitemReceive m s := rfl
@[simp] theorem exec_rscloseSend (k : Nat) (s : State) : exec (.rscloseSend k) s = execRscloseSend k s := rfl
@[simp] theorem exec_rscloseReceive (m : Msg) (s : State) : exec (.rscloseReceive m) s = execRscloseReceive m s := rfl
@[simp] theorem exec_rsackReceive (m : Msg) (s : State) : exec (.rsackReceive m) s = execRsackReceive m s := rfl
@[simp] theorem exec_voteMessage (m : Msg) (s : State) : exec (.voteMessage m) s = execVoteMessage m s := rfl
@[simp] theorem exec_voteTimeout (f : Nat) (s : State) : exec (.voteTimeout f) s = execVoteTimeout f s := rfl
@[simp] theorem exec_resyncSourcePoint (g : Nat) (w : Nat) (s : State) : exec (.resyncSourcePoint g w) s = execResyncSourcePoint g w s := rfl
@[simp] theorem exec_resyncMinorityPoint (g : Nat) (w : Nat) (s : State) : exec (.resyncMinorityPoint g w) s = execResyncMinorityPoint g w s := rfl
@[simp] theorem exec_rsyreqReceive (m : Msg) (s : State) : exec (.rsyreqReceive m) s = execRsyreqReceive m s := rfl
@[simp] theorem exec_rsydataReceive (m : Msg) (s : State) : exec (.rsydataReceive m) s = execRsydataReceive m s := rfl
@[simp] theorem exec_rsyackReceive (m : Msg) (s : State) : exec (.rsyackReceive m) s = execRsyackReceive m s := rfl
@[simp] theorem exec_resyncTimeout (g : Nat) (w : Nat) (s : State) : exec (.resyncTimeout g w) s = execResyncTimeout g w s := rfl
@[simp] theorem exec_e2eackReceive (m : Msg) (s : State) : exec (.e2eackReceive m) s = execE2eackReceive m s := rfl
@[simp] theorem exec_e2eResendTimeout (d : Nat) (vc : Nat) (s : State) : exec (.e2eResendTimeout d vc) s = execE2eResendTimeout d vc s := rfl
@[simp] theorem exec_deviceLossTimeout (d : Nat) (s : State) : exec (.deviceLossTimeout d) s = execDeviceLossTimeout d s := rfl
@[simp] theorem exec_timeExchange (p : Nat) (s : State) : exec (.timeExchange p) s = execTimeExchange p s := rfl
@[simp] theorem exec_syncReceive (p : Nat) (m : Msg) (s : State) : exec (.syncReceive p m) s = execSyncReceive p m s := rfl
@[simp] theorem exec_dreqReceive (p : Nat) (m : Msg) (s : State) : exec (.dreqReceive p m) s = execDreqReceive p m s := rfl
@[simp] theorem exec_drespReceive (p : Nat) (m : Msg) (s : State) : exec (.drespReceive p m) s = execDrespReceive p m s := rfl
@[simp] theorem exec_timeBoundGrowth (s : State) : exec (.timeBoundGrowth) s = execTimeBoundGrowth s := rfl
@[simp] theorem exec_xportIdentity (d : BitVec 128) (s : State) : exec (.xportIdentity d) s = execXportIdentity d s := rfl
@[simp] theorem exec_nocFlitError (k : Nat) (kind : Nat) (n : Nat) (e : Codeword) (side : Bool) (band : Nat) (again : Bool) (s : State) : exec (.nocFlitError k kind n e side band again) s = execNocFlitError k kind n e side band again s := rfl
@[simp] theorem exec_nocReservationWrite (m : Nat) (r : Nat) (v : Word) (s : State) : exec (.nocReservationWrite m r v) s = execNocReservationWrite m r v s := rfl
@[simp] theorem exec_domainOffReturn (kind : Nat) (n : Nat) (a : Nat) (s : State) : exec (.domainOffReturn kind n a) s = execDomainOffReturn kind n a s := rfl
@[simp] theorem exec_pllLossOfLock (p : Nat) (s : State) : exec (.pllLossOfLock p) s = execPllLossOfLock p s := rfl
@[simp] theorem exec_refclkLoss (s : State) : exec (.refclkLoss) s = execRefclkLoss s := rfl
@[simp] theorem exec_dozeEnter (m : Nat) (s : State) : exec (.dozeEnter m) s = execDozeEnter m s := rfl
@[simp] theorem exec_dozeTileFence (s : State) : exec (.dozeTileFence) s = execDozeTileFence s := rfl
@[simp] theorem exec_dozeWake (m : Nat) (s : State) : exec (.dozeWake m) s = execDozeWake m s := rfl
@[simp] theorem exec_wakeComplete (s : State) : exec (.wakeComplete) s = execWakeComplete s := rfl
@[simp] theorem exec_unitPowerRequest (m : Nat) (v : Word) (s : State) : exec (.unitPowerRequest m v) s = execUnitPowerRequest m v s := rfl
@[simp] theorem exec_domainPowerDownDone (d : Nat) (s : State) : exec (.domainPowerDownDone d) s = execDomainPowerDownDone d s := rfl
@[simp] theorem exec_tilePark (m : Nat) (t : Nat) (v : Bool) (s : State) : exec (.tilePark m t v) s = execTilePark m t v s := rfl
@[simp] theorem exec_tileParkComplete (t : Nat) (s : State) : exec (.tileParkComplete t) s = execTileParkComplete t s := rfl
@[simp] theorem exec_tileUnparkComplete (t : Nat) (s : State) : exec (.tileUnparkComplete t) s = execTileUnparkComplete t s := rfl
@[simp] theorem exec_tileClboff (m : Nat) (t : Nat) (v : Bool) (s : State) : exec (.tileClboff m t v) s = execTileClboff m t v s := rfl
@[simp] theorem exec_tileSpoff (m : Nat) (t : Nat) (v : Bool) (s : State) : exec (.tileSpoff m t v) s = execTileSpoff m t v s := rfl
@[simp] theorem exec_supplyWarning (rail : Nat) (mv : Nat) (s : State) : exec (.supplyWarning rail mv) s = execSupplyWarning rail mv s := rfl
@[simp] theorem exec_supplyHoldEnd (s : State) : exec (.supplyHoldEnd) s = execSupplyHoldEnd s := rfl
@[simp] theorem exec_supplyReset (rail : Nat) (s : State) : exec (.supplyReset rail) s = execSupplyReset rail s := rfl
@[simp] theorem exec_faultReport (c : Nat) (src : Nat) (kind : Nat) (loc : Nat) (detail : Nat) (tagged : Bool) (tag : Word) (wafered : Bool) (wafer : Nat) (s : State) : exec (.faultReport c src kind loc detail tagged tag wafered wafer) s = execFaultReport c src kind loc detail tagged tag wafered wafer s := rfl
@[simp] theorem exec_peCheckerError (f : Nat) (unit : Nat) (s : State) : exec (.peCheckerError f unit) s = execPeCheckerError f unit s := rfl
@[simp] theorem exec_peSubstitution (t : Nat) (p : Nat) (s : State) : exec (.peSubstitution t p) s = execPeSubstitution t p s := rfl
@[simp] theorem exec_waferReplay (k : Nat) (s : State) : exec (.waferReplay k) s = execWaferReplay k s := rfl
@[simp] theorem exec_journalRestore (k : Nat) (s : State) : exec (.journalRestore k) s = execJournalRestore k s := rfl
@[simp] theorem exec_tileRetirement (t : Nat) (s : State) : exec (.tileRetirement t) s = execTileRetirement t s := rfl
@[simp] theorem exec_tileStructureError (t : Nat) (kind : Nat) (y : Nat) (e : Codeword) (s : State) : exec (.tileStructureError t kind y e) s = execTileStructureError t kind y e s := rfl
@[simp] theorem exec_sequencerMemoryError (kind : Nat) (e : Codeword) (s : State) : exec (.sequencerMemoryError kind e) s = execSequencerMemoryError kind e s := rfl
@[simp] theorem exec_recoveryWatchdogExpiry (s : State) : exec (.recoveryWatchdogExpiry) s = execRecoveryWatchdogExpiry s := rfl
@[simp] theorem exec_sequencerWatchdogExpiry (s : State) : exec (.sequencerWatchdogExpiry) s = execSequencerWatchdogExpiry s := rfl
@[simp] theorem exec_aliveToggle (s : State) : exec (.aliveToggle) s = execAliveToggle s := rfl
@[simp] theorem exec_aliveEnable (m : Nat) (v : Word) (s : State) : exec (.aliveEnable m v) s = execAliveEnable m v s := rfl
@[simp] theorem exec_fclClear (m : Nat) (v : Word) (s : State) : exec (.fclClear m v) s = execFclClear m v s := rfl
@[simp] theorem exec_fclLogPop (m : Nat) (v : Word) (s : State) : exec (.fclLogPop m v) s = execFclLogPop m v s := rfl
@[simp] theorem exec_fclSeqKick (m : Nat) (v : Word) (s : State) : exec (.fclSeqKick m v) s = execFclSeqKick m v s := rfl
@[simp] theorem exec_powerOnReset (strap : Bool) (s : State) : exec (.powerOnReset strap) s = execPowerOnReset strap s := rfl
@[simp] theorem exec_pinReset (s : State) : exec (.pinReset) s = execPinReset s := rfl
@[simp] theorem exec_hostReset (m : Nat) (v : Word) (s : State) : exec (.hostReset m v) s = execHostReset m v s := rfl
@[simp] theorem exec_resetRelease (flashOk : Bool) (token : Bool) (s : State) : exec (.resetRelease flashOk token) s = execResetRelease flashOk token s := rfl
@[simp] theorem exec_bootSdramTrained (ok : Bool) (s : State) : exec (.bootSdramTrained ok) s = execBootSdramTrained ok s := rfl
@[simp] theorem exec_cfgOpen (m : Nat) (s : State) : exec (.cfgOpen m) s = execCfgOpen m s := rfl
@[simp] theorem exec_cfgShadowCopyDone (s : State) : exec (.cfgShadowCopyDone) s = execCfgShadowCopyDone s := rfl
@[simp] theorem exec_cfgDataWrite (m : Nat) (v : Word) (s : State) : exec (.cfgDataWrite m v) s = execCfgDataWrite m v s := rfl
@[simp] theorem exec_cfgDataRead (m : Nat) (s : State) : exec (.cfgDataRead m) s = execCfgDataRead m s := rfl
@[simp] theorem exec_cfgImgload (m : Nat) (s : State) : exec (.cfgImgload m) s = execCfgImgload m s := rfl
@[simp] theorem exec_cfgCommit (m : Nat) (s : State) : exec (.cfgCommit m) s = execCfgCommit m s := rfl
@[simp] theorem exec_cfgValidationDone (s : State) : exec (.cfgValidationDone) s = execCfgValidationDone s := rfl
@[simp] theorem exec_cfgAbort (m : Nat) (s : State) : exec (.cfgAbort m) s = execCfgAbort m s := rfl
@[simp] theorem exec_cfgLockSet (m : Nat) (v : Word) (s : State) : exec (.cfgLockSet m v) s = execCfgLockSet m v s := rfl
@[simp] theorem exec_bootFlashRead (m : Nat) (s : State) : exec (.bootFlashRead m) s = execBootFlashRead m s := rfl
@[simp] theorem exec_bootFlashProgram (m : Nat) (s : State) : exec (.bootFlashProgram m) s = execBootFlashProgram m s := rfl
@[simp] theorem exec_bootFlashErase (m : Nat) (s : State) : exec (.bootFlashErase m) s = execBootFlashErase m s := rfl
@[simp] theorem exec_bootFlashDone (ok : Bool) (s : State) : exec (.bootFlashDone ok) s = execBootFlashDone ok s := rfl
@[simp] theorem exec_bootSvnAdvance (m : Nat) (v : Word) (s : State) : exec (.bootSvnAdvance m v) s = execBootSvnAdvance m v s := rfl
@[simp] theorem exec_bootKeyRevoke (m : Nat) (v : Word) (s : State) : exec (.bootKeyRevoke m v) s = execBootKeyRevoke m v s := rfl
@[simp] theorem exec_tempOverGrade (k : Nat) (t : Int) (s : State) : exec (.tempOverGrade k t) s = execTempOverGrade k t s := rfl
@[simp] theorem exec_tempCritical (k : Nat) (s : State) : exec (.tempCritical k) s = execTempCritical k s := rfl
@[simp] theorem exec_pcieFunctionReset (kind : Nat) (s : State) : exec (.pcieFunctionReset kind) s = execPcieFunctionReset kind s := rfl
@[simp] theorem exec_pciIrqWrite (m : Nat) (v : Word) (s : State) : exec (.pciIrqWrite m v) s = execPciIrqWrite m v s := rfl
@[simp] theorem exec_ethFrameReceive (y : Nat) (ts : Nat) (fcs : Bool) (f : List Byte) (s : State) : exec (.ethFrameReceive y ts fcs f) s = execEthFrameReceive y ts fcs f s := rfl
@[simp] theorem exec_ethRxTailWrite (m : Nat) (y : Nat) (v : Word) (s : State) : exec (.ethRxTailWrite m y v) s = execEthRxTailWrite m y v s := rfl
@[simp] theorem exec_ethTxTailWrite (m : Nat) (y : Nat) (v : Word) (s : State) : exec (.ethTxTailWrite m y v) s = execEthTxTailWrite m y v s := rfl
@[simp] theorem exec_ethFrameTransmit (y : Nat) (c : Nat) (s : State) : exec (.ethFrameTransmit y c) s = execEthFrameTransmit y c s := rfl
@[simp] theorem exec_ethGateEntry (y : Nat) (s : State) : exec (.ethGateEntry y) s = execEthGateEntry y s := rfl
@[simp] theorem exec_tslSensorFrame (p : Nat) (ts : Nat) (payload : List Byte) (s : State) : exec (.tslSensorFrame p ts payload) s = execTslSensorFrame p ts payload s := rfl
@[simp] theorem exec_i2cAddressWrite (b : Nat) (hi : Nat) (lo : Nat) (s : State) : exec (.i2cAddressWrite b hi lo) s = execI2cAddressWrite b hi lo s := rfl
@[simp] theorem exec_i2cRead (s : State) : exec (.i2cRead) s = execI2cRead s := rfl
@[simp] theorem exec_jtagBypass (s : State) : exec (.jtagBypass) s = execJtagBypass s := rfl
@[simp] theorem exec_jtagIdcode (s : State) : exec (.jtagIdcode) s = execJtagIdcode s := rfl
@[simp] theorem exec_jtagSamplePreload (s : State) : exec (.jtagSamplePreload) s = execJtagSamplePreload s := rfl
@[simp] theorem exec_jtagExtest (s : State) : exec (.jtagExtest) s = execJtagExtest s := rfl
@[simp] theorem exec_jtagClamp (s : State) : exec (.jtagClamp) s = execJtagClamp s := rfl
@[simp] theorem exec_jtagHighz (s : State) : exec (.jtagHighz) s = execJtagHighz s := rfl
@[simp] theorem exec_supplyRecoveryCrossing (rail : Nat) (up : Bool) (s : State) : exec (.supplyRecoveryCrossing rail up) s = execSupplyRecoveryCrossing rail up s := rfl
@[simp] theorem exec_domainPowerUpDone (d : Nat) (s : State) : exec (.domainPowerUpDone d) s = execDomainPowerUpDone d s := rfl
@[simp] theorem exec_pllLockRegained (p : Nat) (s : State) : exec (.pllLockRegained p) s = execPllLockRegained p s := rfl

end Sys2Proof.Machine
end

