-- ==== Sys2Proof/Laws/Sparse.lean ====
section
/-! SUPPORT. Sparse tables: a read after a write, and the canonical form that every write keeps. -/

namespace Sys2Proof.Machine

variable {α : Type}

theorem smGet_erase_same (m : List (Nat × α)) (k : Nat) (d : α) : smGet (smErase m k) k d = d := by
  induction m with
  | nil => rfl
  | cons e m ih =>
    by_cases h : e.1 = k
    · simp [smErase, h, ih]
    · simp [smErase, smGet, h, ih]

theorem smGet_erase_ne (m : List (Nat × α)) {k j : Nat} (d : α) (h : j ≠ k) : smGet (smErase m k) j d = smGet m j d := by
  induction m with
  | nil => rfl
  | cons e m ih =>
    by_cases hk : e.1 = k
    · simp [smErase, smGet, hk, ih, Ne.symm h]
    · by_cases hj : e.1 = j <;> simp [smErase, smGet, hk, hj, ih]
      subst hj; simp [hk, smGet]

theorem smGet_insert_same (m : List (Nat × α)) (k : Nat) (d v : α) : smGet (smInsert m k v) k d = v := by
  induction m with
  | nil => simp [smInsert, smGet]
  | cons e m ih =>
    by_cases h : k < e.1
    · simp [smInsert, smGet, h]
    · by_cases h2 : e.1 = k
      · simp [smInsert, smGet, h2]
      · simp [smInsert, smGet, h, h2, ih]

theorem smGet_insert_ne (m : List (Nat × α)) {k j : Nat} (d v : α) (h : j ≠ k) :
    smGet (smInsert m k v) j d = smGet m j d := by
  induction m with
  | nil => simp [smInsert, smGet, Ne.symm h]
  | cons e m ih =>
    by_cases h1 : k < e.1
    · simp [smInsert, smGet, h1, Ne.symm h]
    · by_cases h2 : e.1 = k
      · simp [smInsert, smGet, h2, Ne.symm h]
      · simp [smInsert, smGet, h1, h2, ih]

/-- A table read at the key that was written gives what was written. -/
@[simp] theorem smGet_put_same [DecidableEq α] (m : List (Nat × α)) (k : Nat) (d v : α) :
    smGet (smPut m k d v) k d = v := by
  unfold smPut
  split
  · next h => rw [smGet_erase_same, h]
  · exact smGet_insert_same m k d v

/-- A write leaves every other key alone. -/
theorem smGet_put_ne [DecidableEq α] (m : List (Nat × α)) {k j : Nat} (d e v : α) (h : j ≠ k) :
    smGet (smPut m k d v) j e = smGet m j e := by
  unfold smPut
  split
  · exact smGet_erase_ne m e h
  · exact smGet_insert_ne m e v h

theorem smAbove_erase {m : List (Nat × α)} {k b : Nat} (h : smAbove b m) : smAbove b (smErase m k) := by
  induction m with
  | nil => exact h
  | cons e m ih =>
    have ht : smAbove b m := fun x hx => h x (List.mem_cons_of_mem _ hx)
    unfold smErase
    split
    · exact ih ht
    · intro x hx
      rcases List.mem_cons.1 hx with rfl | hx
      · exact h _ (List.mem_cons_self ..)
      · exact ih ht x hx

theorem smAbove_insert {m : List (Nat × α)} {k b : Nat} {v : α} (h : smAbove b m) (hk : b < k) :
    smAbove b (smInsert m k v) := by
  induction m with
  | nil => intro x hx; simp [smInsert] at hx; subst hx; exact hk
  | cons e m ih =>
    have ht : smAbove b m := fun x hx => h x (List.mem_cons_of_mem _ hx)
    unfold smInsert
    split
    · intro x hx
      rcases List.mem_cons.1 hx with rfl | hx
      · exact hk
      · exact h x hx
    · split
      · intro x hx
        rcases List.mem_cons.1 hx with rfl | hx
        · exact hk
        · exact ht x hx
      · intro x hx
        rcases List.mem_cons.1 hx with rfl | hx
        · exact h _ (List.mem_cons_self ..)
        · exact ih ht x hx

theorem smAbove_of_lt {m : List (Nat × α)} {k b : Nat} (h : smAbove b m) (hk : k < b) : smAbove k m :=
  fun x hx => Nat.lt_trans hk (h x hx)

theorem smWf_erase {d : Nat → α} {m : List (Nat × α)} {k : Nat} (h : smWf d m) : smWf d (smErase m k) := by
  induction m with
  | nil => exact h
  | cons e m ih =>
    obtain ⟨h1, h2, h3⟩ := h
    unfold smErase
    split
    · exact ih h3
    · exact ⟨h1, smAbove_erase h2, ih h3⟩

theorem smWf_insert {d : Nat → α} {m : List (Nat × α)} {k : Nat} {v : α} (h : smWf d m) (hv : v ≠ d k) :
    smWf d (smInsert m k v) := by
  induction m with
  | nil => exact ⟨hv, fun _ hx => (List.not_mem_nil hx).elim, trivial⟩
  | cons e m ih =>
    obtain ⟨h1, h2, h3⟩ := h
    unfold smInsert
    split
    · next hlt =>
      refine ⟨hv, ?_, h1, h2, h3⟩
      intro x hx
      rcases List.mem_cons.1 hx with rfl | hx
      · exact hlt
      · exact Nat.lt_trans hlt (h2 x hx)
    · split
      · next heq => subst heq; exact ⟨hv, h2, h3⟩
      · next hn hne => exact ⟨h1, smAbove_insert h2 (by omega), ih h3⟩

/-- Every write keeps the canonical form. -/
theorem smWf_put [DecidableEq α] {d : Nat → α} {m : List (Nat × α)} {k : Nat} {v : α} (h : smWf d m) :
    smWf d (smPut m k (d k) v) := by
  unfold smPut
  split
  · exact smWf_erase h
  · next hv => exact smWf_insert h hv

/-- Writing a run of bytes keeps the canonical form. -/
theorem smWf_putBytes {m : List (Nat × Byte)} {d : Byte} {bs : List Byte} {a : Nat} (h : smWf (fun _ => d) m) :
    smWf (fun _ => d) (smPutBytes m d a bs) := by
  induction bs generalizing m a with
  | nil => exact h
  | cons b bs ih => exact ih (smWf_put (d := fun _ => d) h)

/-- A byte outside a written run reads as before. -/
theorem smGet_putBytes_outside {m : List (Nat × Byte)} {d : Byte} {bs : List Byte} {a j : Nat}
    (h : j < a ∨ a + bs.length ≤ j) : smGet (smPutBytes m d a bs) j d = smGet m j d := by
  induction bs generalizing m a with
  | nil => rfl
  | cons b bs ih =>
    simp only [List.length_cons] at h
    rw [smPutBytes, ih (by omega), smGet_put_ne m d d b (by omega)]

/-- A byte inside a written run reads as what was written there. -/
theorem smGet_putBytes_inside {m : List (Nat × Byte)} {d : Byte} {bs : List Byte} {a i : Nat} (h : i < bs.length) :
    smGet (smPutBytes m d a bs) (a + i) d = bs[i] := by
  induction bs generalizing m a i with
  | nil => simp at h
  | cons b bs ih =>
    cases i with
    | zero =>
      show smGet (smPutBytes (smPut m a d b) d (a + 1) bs) a d = b
      rw [smGet_putBytes_outside (Or.inl (Nat.lt_succ_self a)), smGet_put_same]
    | succ i =>
      have hi : i < bs.length := by simpa using h
      rw [smPutBytes, show a + (i + 1) = a + 1 + i by omega, ih hi]
      rfl

/-- A run of bytes read back after it was written. -/
theorem smBytes_putBytes (m : List (Nat × Byte)) (d : Byte) (a : Nat) (bs : List Byte) :
    smBytes (smPutBytes m d a bs) d a bs.length = bs := by
  induction bs generalizing m a with
  | nil => rfl
  | cons b bs ih =>
    rw [List.length_cons, smBytes, smPutBytes, ih, smGet_putBytes_outside (Or.inl (Nat.lt_succ_self a)), smGet_put_same]

end Sys2Proof.Machine
end

