-- ==== Sys2Proof/Laws/State.lean ====
section
/-! SUPPORT. The state's updates, field by field: a register write changes the register table and nothing else, and a
report changes the fault collector's registers, its log and the pending vectors. -/

namespace Sys2Proof.Machine.State

variable (s : State)

@[simp] theorem rset_pending (a : Nat) (v : Word) : (s.rset a v).pending = s.pending := rfl
@[simp] theorem rset_lastRead (a : Nat) (v : Word) : (s.rset a v).lastRead = s.lastRead := rfl
@[simp] theorem rset_free (a : Nat) (v : Word) : (s.rset a v).free = s.free := rfl
@[simp] theorem rset_now (a : Nat) (v : Word) : (s.rset a v).now = s.now := rfl
@[simp] theorem rset_tick (a : Nat) (v : Word) : (s.rset a v).tick = s.tick := rfl
@[simp] theorem rset_slots (a : Nat) (v : Word) : (s.rset a v).slots = s.slots := rfl
@[simp] theorem rset_closed (a : Nat) (v : Word) : (s.rset a v).closed = s.closed := rfl
@[simp] theorem rset_net (a : Nat) (v : Word) : (s.rset a v).net = s.net := rfl
@[simp] theorem rset_mst (a : Nat) (v : Word) : (s.rset a v).mst = s.mst := rfl
@[simp] theorem rset_mfetch (a : Nat) (v : Word) : (s.rset a v).mfetch = s.mfetch := rfl
@[simp] theorem rset_filt (a : Nat) (v : Word) : (s.rset a v).filt = s.filt := rfl
@[simp] theorem rset_spillOvf (a : Nat) (v : Word) : (s.rset a v).spillOvf = s.spillOvf := rfl
@[simp] theorem rset_tiles (a : Nat) (v : Word) : (s.rset a v).tiles = s.tiles := rfl
@[simp] theorem rset_throttle (a : Nat) (v : Word) : (s.rset a v).throttle = s.throttle := rfl
@[simp] theorem rset_firings (a : Nat) (v : Word) : (s.rset a v).firings = s.firings := rfl
@[simp] theorem rset_nextFid (a : Nat) (v : Word) : (s.rset a v).nextFid = s.nextFid := rfl
@[simp] theorem rset_storeBuf (a : Nat) (v : Word) : (s.rset a v).storeBuf = s.storeBuf := rfl
@[simp] theorem rset_eventBuf (a : Nat) (v : Word) : (s.rset a v).eventBuf = s.eventBuf := rfl
@[simp] theorem rset_cseq (a : Nat) (v : Word) : (s.rset a v).cseq = s.cseq := rfl
@[simp] theorem rset_startSeq (a : Nat) (v : Word) : (s.rset a v).startSeq = s.startSeq := rfl
@[simp] theorem rset_xSeq (a : Nat) (v : Word) : (s.rset a v).xSeq = s.xSeq := rfl
@[simp] theorem rset_acts (a : Nat) (v : Word) : (s.rset a v).acts = s.acts := rfl
@[simp] theorem rset_startReqs (a : Nat) (v : Word) : (s.rset a v).startReqs = s.startReqs := rfl
@[simp] theorem rset_flowQ (a : Nat) (v : Word) : (s.rset a v).flowQ = s.flowQ := rfl
@[simp] theorem rset_arrNo (a : Nat) (v : Word) : (s.rset a v).arrNo = s.arrNo := rfl
@[simp] theorem rset_delays (a : Nat) (v : Word) : (s.rset a v).delays = s.delays := rfl
@[simp] theorem rset_delaySeq (a : Nat) (v : Word) : (s.rset a v).delaySeq = s.delaySeq := rfl
@[simp] theorem rset_locks (a : Nat) (v : Word) : (s.rset a v).locks = s.locks := rfl
@[simp] theorem rset_lkuRecs (a : Nat) (v : Word) : (s.rset a v).lkuRecs = s.lkuRecs := rfl
@[simp] theorem rset_chans (a : Nat) (v : Word) : (s.rset a v).chans = s.chans := rfl
@[simp] theorem rset_chnRecs (a : Nat) (v : Word) : (s.rset a v).chnRecs = s.chnRecs := rfl
@[simp] theorem rset_openPkts (a : Nat) (v : Word) : (s.rset a v).openPkts = s.openPkts := rfl
@[simp] theorem rset_code (a : Nat) (v : Word) : (s.rset a v).code = s.code := rfl
@[simp] theorem rset_staged (a : Nat) (v : Word) : (s.rset a v).staged = s.staged := rfl
@[simp] theorem rset_oldWords (a : Nat) (v : Word) : (s.rset a v).oldWords = s.oldWords := rfl
@[simp] theorem rset_mem (a : Nat) (v : Word) : (s.rset a v).mem = s.mem := rfl
@[simp] theorem rset_marks (a : Nat) (v : Word) : (s.rset a v).marks = s.marks := rfl
@[simp] theorem rset_deferred (a : Nat) (v : Word) : (s.rset a v).deferred = s.deferred := rfl
@[simp] theorem rset_xreqs (a : Nat) (v : Word) : (s.rset a v).xreqs = s.xreqs := rfl
@[simp] theorem rset_votes (a : Nat) (v : Word) : (s.rset a v).votes = s.votes := rfl
@[simp] theorem rset_voteRecs (a : Nat) (v : Word) : (s.rset a v).voteRecs = s.voteRecs := rfl
@[simp] theorem rset_fclLog (a : Nat) (v : Word) : (s.rset a v).fclLog = s.fclLog := rfl
@[simp] theorem rset_recQ (a : Nat) (v : Word) : (s.rset a v).recQ = s.recQ := rfl
@[simp] theorem rset_recCur (a : Nat) (v : Word) : (s.rset a v).recCur = s.recCur := rfl
@[simp] theorem rset_recOpen (a : Nat) (v : Word) : (s.rset a v).recOpen = s.recOpen := rfl
@[simp] theorem rset_trcLost (a : Nat) (v : Word) : (s.rset a v).trcLost = s.trcLost := rfl
@[simp] theorem rset_ucs (a : Nat) (v : Word) : (s.rset a v).ucs = s.ucs := rfl
@[simp] theorem rset_ucsBad (a : Nat) (v : Word) : (s.rset a v).ucsBad = s.ucsBad := rfl
@[simp] theorem rset_ucsMaster (a : Nat) (v : Word) : (s.rset a v).ucsMaster = s.ucsMaster := rfl
@[simp] theorem rset_afe (a : Nat) (v : Word) : (s.rset a v).afe = s.afe := rfl
@[simp] theorem rset_tachs (a : Nat) (v : Word) : (s.rset a v).tachs = s.tachs := rfl
@[simp] theorem rset_trip (a : Nat) (v : Word) : (s.rset a v).trip = s.trip := rfl
@[simp] theorem rset_engines (a : Nat) (v : Word) : (s.rset a v).engines = s.engines := rfl
@[simp] theorem rset_jobs (a : Nat) (v : Word) : (s.rset a v).jobs = s.jobs := rfl
@[simp] theorem rset_keys (a : Nat) (v : Word) : (s.rset a v).keys = s.keys := rfl
@[simp] theorem rset_fab (a : Nat) (v : Word) : (s.rset a v).fab = s.fab := rfl
@[simp] theorem rset_nocPend (a : Nat) (v : Word) : (s.rset a v).nocPend = s.nocPend := rfl
@[simp] theorem rset_cfg (a : Nat) (v : Word) : (s.rset a v).cfg = s.cfg := rfl
@[simp] theorem rset_power (a : Nat) (v : Word) : (s.rset a v).power = s.power := rfl
@[simp] theorem rset_boot (a : Nat) (v : Word) : (s.rset a v).boot = s.boot := rfl
@[simp] theorem rset_ports (a : Nat) (v : Word) : (s.rset a v).ports = s.ports := rfl
@[simp] theorem rset_pins (a : Nat) (v : Word) : (s.rset a v).pins = s.pins := rfl

@[simp] theorem rsetFld_eq (a hi lo v : Nat) : s.rsetFld a hi lo v = s.rset a (setFld (s.rget a) hi lo v) := rfl
@[simp] theorem rsetBit_eq (a i : Nat) (b : Bool) : s.rsetBit a i b = s.rset a (setBit (s.rget a) i b) := rfl
@[simp] theorem rinc_eq (a : Nat) : s.rinc a = s.rset a (s.rget a + 1) := rfl
@[simp] theorem radd_eq (a n : Nat) : s.radd a n = s.rset a (s.rget a + w64 n) := rfl

/-- A register reads back what was written. -/
@[simp] theorem rget_rset_same (a : Nat) (v : Word) : (s.rset a v).rget a = v := smGet_put_same _ _ _ _

/-- A register write leaves every other register alone. -/
theorem rget_rset_ne {a b : Nat} (v : Word) (h : b ≠ a) : (s.rset a v).rget b = s.rget b := smGet_put_ne _ _ _ _ h

/-- Reading depends on the register table alone. -/
theorem rget_congr {s t : State} (h : t.csr = s.csr) (a : Nat) : t.rget a = s.rget a := by simp [rget, h]

/-- The register table keeps its canonical form. -/
theorem csr_rset_wf (a : Nat) (v : Word) (h : smWf regReset s.csr) : smWf regReset (s.rset a v).csr := smWf_put h

theorem rbit_rset_ne {a b : Nat} (v : Word) (i : Nat) (h : b ≠ a) : (s.rset a v).rbit b i = s.rbit b i := by
  simp [rbit, rget_rset_ne s v h]

theorem rfld_rset_ne {a b : Nat} (v : Word) (hi lo : Nat) (h : b ≠ a) : (s.rset a v).rfld b hi lo = s.rfld b hi lo := by
  simp [rfld, rget_rset_ne s v h]

@[simp] theorem rbit_rset_same (a : Nat) (v : Word) (i : Nat) : (s.rset a v).rbit a i = bit v i := by simp [rbit]
@[simp] theorem rfld_rset_same (a : Nat) (v : Word) (hi lo : Nat) : (s.rset a v).rfld a hi lo = fld v hi lo := by
  simp [rfld]

@[simp] theorem onlyIf_true (f : State → State) : s.onlyIf true f = f s := rfl
@[simp] theorem onlyIf_false (f : State → State) : s.onlyIf false f = s := rfl
theorem onlyIf_pos {c : Bool} (f : State → State) (h : c = true) : s.onlyIf c f = f s := by simp [onlyIf, h]
theorem onlyIf_neg {c : Bool} (f : State → State) (h : c = false) : s.onlyIf c f = s := by simp [onlyIf, h]

@[simp] theorem raiseVector_pending (v : Nat) : (s.raiseVector v).pending = s.pending := by unfold raiseVector; split <;> rfl
@[simp] theorem raiseVector_csr (v : Nat) : (s.raiseVector v).csr = s.csr := by unfold raiseVector; split <;> rfl
@[simp] theorem raiseVector_lastRead (v : Nat) : (s.raiseVector v).lastRead = s.lastRead := by unfold raiseVector; split <;> rfl
@[simp] theorem raiseVector_free (v : Nat) : (s.raiseVector v).free = s.free := by unfold raiseVector; split <;> rfl
@[simp] theorem raiseVector_now (v : Nat) : (s.raiseVector v).now = s.now := by unfold raiseVector; split <;> rfl
@[simp] theorem raiseVector_tick (v : Nat) : (s.raiseVector v).tick = s.tick := by unfold raiseVector; split <;> rfl
@[simp] theorem raiseVector_slots (v : Nat) : (s.raiseVector v).slots = s.slots := by unfold raiseVector; split <;> rfl
@[simp] theorem raiseVector_closed (v : Nat) : (s.raiseVector v).closed = s.closed := by unfold raiseVector; split <;> rfl
@[simp] theorem raiseVector_net (v : Nat) : (s.raiseVector v).net = s.net := by unfold raiseVector; split <;> rfl
@[simp] theorem raiseVector_mst (v : Nat) : (s.raiseVector v).mst = s.mst := by unfold raiseVector; split <;> rfl
@[simp] theorem raiseVector_mfetch (v : Nat) : (s.raiseVector v).mfetch = s.mfetch := by unfold raiseVector; split <;> rfl
@[simp] theorem raiseVector_filt (v : Nat) : (s.raiseVector v).filt = s.filt := by unfold raiseVector; split <;> rfl
@[simp] theorem raiseVector_spillOvf (v : Nat) : (s.raiseVector v).spillOvf = s.spillOvf := by unfold raiseVector; split <;> rfl
@[simp] theorem raiseVector_tiles (v : Nat) : (s.raiseVector v).tiles = s.tiles := by unfold raiseVector; split <;> rfl
@[simp] theorem raiseVector_throttle (v : Nat) : (s.raiseVector v).throttle = s.throttle := by unfold raiseVector; split <;> rfl
@[simp] theorem raiseVector_firings (v : Nat) : (s.raiseVector v).firings = s.firings := by unfold raiseVector; split <;> rfl
@[simp] theorem raiseVector_nextFid (v : Nat) : (s.raiseVector v).nextFid = s.nextFid := by unfold raiseVector; split <;> rfl
@[simp] theorem raiseVector_storeBuf (v : Nat) : (s.raiseVector v).storeBuf = s.storeBuf := by unfold raiseVector; split <;> rfl
@[simp] theorem raiseVector_eventBuf (v : Nat) : (s.raiseVector v).eventBuf = s.eventBuf := by unfold raiseVector; split <;> rfl
@[simp] theorem raiseVector_cseq (v : Nat) : (s.raiseVector v).cseq = s.cseq := by unfold raiseVector; split <;> rfl
@[simp] theorem raiseVector_startSeq (v : Nat) : (s.raiseVector v).startSeq = s.startSeq := by unfold raiseVector; split <;> rfl
@[simp] theorem raiseVector_xSeq (v : Nat) : (s.raiseVector v).xSeq = s.xSeq := by unfold raiseVector; split <;> rfl
@[simp] theorem raiseVector_acts (v : Nat) : (s.raiseVector v).acts = s.acts := by unfold raiseVector; split <;> rfl
@[simp] theorem raiseVector_startReqs (v : Nat) : (s.raiseVector v).startReqs = s.startReqs := by unfold raiseVector; split <;> rfl
@[simp] theorem raiseVector_flowQ (v : Nat) : (s.raiseVector v).flowQ = s.flowQ := by unfold raiseVector; split <;> rfl
@[simp] theorem raiseVector_arrNo (v : Nat) : (s.raiseVector v).arrNo = s.arrNo := by unfold raiseVector; split <;> rfl
@[simp] theorem raiseVector_delays (v : Nat) : (s.raiseVector v).delays = s.delays := by unfold raiseVector; split <;> rfl
@[simp] theorem raiseVector_delaySeq (v : Nat) : (s.raiseVector v).delaySeq = s.delaySeq := by unfold raiseVector; split <;> rfl
@[simp] theorem raiseVector_locks (v : Nat) : (s.raiseVector v).locks = s.locks := by unfold raiseVector; split <;> rfl
@[simp] theorem raiseVector_lkuRecs (v : Nat) : (s.raiseVector v).lkuRecs = s.lkuRecs := by unfold raiseVector; split <;> rfl
@[simp] theorem raiseVector_chans (v : Nat) : (s.raiseVector v).chans = s.chans := by unfold raiseVector; split <;> rfl
@[simp] theorem raiseVector_chnRecs (v : Nat) : (s.raiseVector v).chnRecs = s.chnRecs := by unfold raiseVector; split <;> rfl
@[simp] theorem raiseVector_openPkts (v : Nat) : (s.raiseVector v).openPkts = s.openPkts := by unfold raiseVector; split <;> rfl
@[simp] theorem raiseVector_code (v : Nat) : (s.raiseVector v).code = s.code := by unfold raiseVector; split <;> rfl
@[simp] theorem raiseVector_staged (v : Nat) : (s.raiseVector v).staged = s.staged := by unfold raiseVector; split <;> rfl
@[simp] theorem raiseVector_oldWords (v : Nat) : (s.raiseVector v).oldWords = s.oldWords := by unfold raiseVector; split <;> rfl
@[simp] theorem raiseVector_mem (v : Nat) : (s.raiseVector v).mem = s.mem := by unfold raiseVector; split <;> rfl
@[simp] theorem raiseVector_marks (v : Nat) : (s.raiseVector v).marks = s.marks := by unfold raiseVector; split <;> rfl
@[simp] theorem raiseVector_deferred (v : Nat) : (s.raiseVector v).deferred = s.deferred := by unfold raiseVector; split <;> rfl
@[simp] theorem raiseVector_xreqs (v : Nat) : (s.raiseVector v).xreqs = s.xreqs := by unfold raiseVector; split <;> rfl
@[simp] theorem raiseVector_votes (v : Nat) : (s.raiseVector v).votes = s.votes := by unfold raiseVector; split <;> rfl
@[simp] theorem raiseVector_voteRecs (v : Nat) : (s.raiseVector v).voteRecs = s.voteRecs := by unfold raiseVector; split <;> rfl
@[simp] theorem raiseVector_fclLog (v : Nat) : (s.raiseVector v).fclLog = s.fclLog := by unfold raiseVector; split <;> rfl
@[simp] theorem raiseVector_recQ (v : Nat) : (s.raiseVector v).recQ = s.recQ := by unfold raiseVector; split <;> rfl
@[simp] theorem raiseVector_recCur (v : Nat) : (s.raiseVector v).recCur = s.recCur := by unfold raiseVector; split <;> rfl
@[simp] theorem raiseVector_recOpen (v : Nat) : (s.raiseVector v).recOpen = s.recOpen := by unfold raiseVector; split <;> rfl
@[simp] theorem raiseVector_trcLost (v : Nat) : (s.raiseVector v).trcLost = s.trcLost := by unfold raiseVector; split <;> rfl
@[simp] theorem raiseVector_ucs (v : Nat) : (s.raiseVector v).ucs = s.ucs := by unfold raiseVector; split <;> rfl
@[simp] theorem raiseVector_ucsBad (v : Nat) : (s.raiseVector v).ucsBad = s.ucsBad := by unfold raiseVector; split <;> rfl
@[simp] theorem raiseVector_ucsMaster (v : Nat) : (s.raiseVector v).ucsMaster = s.ucsMaster := by unfold raiseVector; split <;> rfl
@[simp] theorem raiseVector_afe (v : Nat) : (s.raiseVector v).afe = s.afe := by unfold raiseVector; split <;> rfl
@[simp] theorem raiseVector_tachs (v : Nat) : (s.raiseVector v).tachs = s.tachs := by unfold raiseVector; split <;> rfl
@[simp] theorem raiseVector_trip (v : Nat) : (s.raiseVector v).trip = s.trip := by unfold raiseVector; split <;> rfl
@[simp] theorem raiseVector_engines (v : Nat) : (s.raiseVector v).engines = s.engines := by unfold raiseVector; split <;> rfl
@[simp] theorem raiseVector_jobs (v : Nat) : (s.raiseVector v).jobs = s.jobs := by unfold raiseVector; split <;> rfl
@[simp] theorem raiseVector_keys (v : Nat) : (s.raiseVector v).keys = s.keys := by unfold raiseVector; split <;> rfl
@[simp] theorem raiseVector_fab (v : Nat) : (s.raiseVector v).fab = s.fab := by unfold raiseVector; split <;> rfl
@[simp] theorem raiseVector_nocPend (v : Nat) : (s.raiseVector v).nocPend = s.nocPend := by unfold raiseVector; split <;> rfl
@[simp] theorem raiseVector_cfg (v : Nat) : (s.raiseVector v).cfg = s.cfg := by unfold raiseVector; split <;> rfl
@[simp] theorem raiseVector_power (v : Nat) : (s.raiseVector v).power = s.power := by unfold raiseVector; split <;> rfl
@[simp] theorem raiseVector_boot (v : Nat) : (s.raiseVector v).boot = s.boot := by unfold raiseVector; split <;> rfl
@[simp] theorem raiseVector_ports (v : Nat) : (s.raiseVector v).ports = s.ports := by unfold raiseVector; split <;> rfl

@[simp] theorem rget_raiseVector (v a : Nat) : (s.raiseVector v).rget a = s.rget a := by simp [rget]

@[simp] theorem latch_pending (c : Nat) (fr : FclRec) : (s.latch c fr).pending = s.pending := by
  unfold latch; split <;> simp only [rsetBit_eq, rset_pending, raiseVector_pending]
@[simp] theorem latch_lastRead (c : Nat) (fr : FclRec) : (s.latch c fr).lastRead = s.lastRead := by
  unfold latch; split <;> simp only [rsetBit_eq, rset_lastRead, raiseVector_lastRead]
@[simp] theorem latch_free (c : Nat) (fr : FclRec) : (s.latch c fr).free = s.free := by
  unfold latch; split <;> simp only [rsetBit_eq, rset_free, raiseVector_free]
@[simp] theorem latch_now (c : Nat) (fr : FclRec) : (s.latch c fr).now = s.now := by
  unfold latch; split <;> simp only [rsetBit_eq, rset_now, raiseVector_now]
@[simp] theorem latch_tick (c : Nat) (fr : FclRec) : (s.latch c fr).tick = s.tick := by
  unfold latch; split <;> simp only [rsetBit_eq, rset_tick, raiseVector_tick]
@[simp] theorem latch_slots (c : Nat) (fr : FclRec) : (s.latch c fr).slots = s.slots := by
  unfold latch; split <;> simp only [rsetBit_eq, rset_slots, raiseVector_slots]
@[simp] theorem latch_closed (c : Nat) (fr : FclRec) : (s.latch c fr).closed = s.closed := by
  unfold latch; split <;> simp only [rsetBit_eq, rset_closed, raiseVector_closed]
@[simp] theorem latch_net (c : Nat) (fr : FclRec) : (s.latch c fr).net = s.net := by
  unfold latch; split <;> simp only [rsetBit_eq, rset_net, raiseVector_net]
@[simp] theorem latch_mst (c : Nat) (fr : FclRec) : (s.latch c fr).mst = s.mst := by
  unfold latch; split <;> simp only [rsetBit_eq, rset_mst, raiseVector_mst]
@[simp] theorem latch_mfetch (c : Nat) (fr : FclRec) : (s.latch c fr).mfetch = s.mfetch := by
  unfold latch; split <;> simp only [rsetBit_eq, rset_mfetch, raiseVector_mfetch]
@[simp] theorem latch_filt (c : Nat) (fr : FclRec) : (s.latch c fr).filt = s.filt := by
  unfold latch; split <;> simp only [rsetBit_eq, rset_filt, raiseVector_filt]
@[simp] theorem latch_spillOvf (c : Nat) (fr : FclRec) : (s.latch c fr).spillOvf = s.spillOvf := by
  unfold latch; split <;> simp only [rsetBit_eq, rset_spillOvf, raiseVector_spillOvf]
@[simp] theorem latch_tiles (c : Nat) (fr : FclRec) : (s.latch c fr).tiles = s.tiles := by
  unfold latch; split <;> simp only [rsetBit_eq, rset_tiles, raiseVector_tiles]
@[simp] theorem latch_throttle (c : Nat) (fr : FclRec) : (s.latch c fr).throttle = s.throttle := by
  unfold latch; split <;> simp only [rsetBit_eq, rset_throttle, raiseVector_throttle]
@[simp] theorem latch_firings (c : Nat) (fr : FclRec) : (s.latch c fr).firings = s.firings := by
  unfold latch; split <;> simp only [rsetBit_eq, rset_firings, raiseVector_firings]
@[simp] theorem latch_nextFid (c : Nat) (fr : FclRec) : (s.latch c fr).nextFid = s.nextFid := by
  unfold latch; split <;> simp only [rsetBit_eq, rset_nextFid, raiseVector_nextFid]
@[simp] theorem latch_storeBuf (c : Nat) (fr : FclRec) : (s.latch c fr).storeBuf = s.storeBuf := by
  unfold latch; split <;> simp only [rsetBit_eq, rset_storeBuf, raiseVector_storeBuf]
@[simp] theorem latch_eventBuf (c : Nat) (fr : FclRec) : (s.latch c fr).eventBuf = s.eventBuf := by
  unfold latch; split <;> simp only [rsetBit_eq, rset_eventBuf, raiseVector_eventBuf]
@[simp] theorem latch_cseq (c : Nat) (fr : FclRec) : (s.latch c fr).cseq = s.cseq := by
  unfold latch; split <;> simp only [rsetBit_eq, rset_cseq, raiseVector_cseq]
@[simp] theorem latch_startSeq (c : Nat) (fr : FclRec) : (s.latch c fr).startSeq = s.startSeq := by
  unfold latch; split <;> simp only [rsetBit_eq, rset_startSeq, raiseVector_startSeq]
@[simp] theorem latch_xSeq (c : Nat) (fr : FclRec) : (s.latch c fr).xSeq = s.xSeq := by
  unfold latch; split <;> simp only [rsetBit_eq, rset_xSeq, raiseVector_xSeq]
@[simp] theorem latch_acts (c : Nat) (fr : FclRec) : (s.latch c fr).acts = s.acts := by
  unfold latch; split <;> simp only [rsetBit_eq, rset_acts, raiseVector_acts]
@[simp] theorem latch_startReqs (c : Nat) (fr : FclRec) : (s.latch c fr).startReqs = s.startReqs := by
  unfold latch; split <;> simp only [rsetBit_eq, rset_startReqs, raiseVector_startReqs]
@[simp] theorem latch_flowQ (c : Nat) (fr : FclRec) : (s.latch c fr).flowQ = s.flowQ := by
  unfold latch; split <;> simp only [rsetBit_eq, rset_flowQ, raiseVector_flowQ]
@[simp] theorem latch_arrNo (c : Nat) (fr : FclRec) : (s.latch c fr).arrNo = s.arrNo := by
  unfold latch; split <;> simp only [rsetBit_eq, rset_arrNo, raiseVector_arrNo]
@[simp] theorem latch_delays (c : Nat) (fr : FclRec) : (s.latch c fr).delays = s.delays := by
  unfold latch; split <;> simp only [rsetBit_eq, rset_delays, raiseVector_delays]
@[simp] theorem latch_delaySeq (c : Nat) (fr : FclRec) : (s.latch c fr).delaySeq = s.delaySeq := by
  unfold latch; split <;> simp only [rsetBit_eq, rset_delaySeq, raiseVector_delaySeq]
@[simp] theorem latch_locks (c : Nat) (fr : FclRec) : (s.latch c fr).locks = s.locks := by
  unfold latch; split <;> simp only [rsetBit_eq, rset_locks, raiseVector_locks]
@[simp] theorem latch_lkuRecs (c : Nat) (fr : FclRec) : (s.latch c fr).lkuRecs = s.lkuRecs := by
  unfold latch; split <;> simp only [rsetBit_eq, rset_lkuRecs, raiseVector_lkuRecs]
@[simp] theorem latch_chans (c : Nat) (fr : FclRec) : (s.latch c fr).chans = s.chans := by
  unfold latch; split <;> simp only [rsetBit_eq, rset_chans, raiseVector_chans]
@[simp] theorem latch_chnRecs (c : Nat) (fr : FclRec) : (s.latch c fr).chnRecs = s.chnRecs := by
  unfold latch; split <;> simp only [rsetBit_eq, rset_chnRecs, raiseVector_chnRecs]
@[simp] theorem latch_openPkts (c : Nat) (fr : FclRec) : (s.latch c fr).openPkts = s.openPkts := by
  unfold latch; split <;> simp only [rsetBit_eq, rset_openPkts, raiseVector_openPkts]
@[simp] theorem latch_code (c : Nat) (fr : FclRec) : (s.latch c fr).code = s.code := by
  unfold latch; split <;> simp only [rsetBit_eq, rset_code, raiseVector_code]
@[simp] theorem latch_staged (c : Nat) (fr : FclRec) : (s.latch c fr).staged = s.staged := by
  unfold latch; split <;> simp only [rsetBit_eq, rset_staged, raiseVector_staged]
@[simp] theorem latch_oldWords (c : Nat) (fr : FclRec) : (s.latch c fr).oldWords = s.oldWords := by
  unfold latch; split <;> simp only [rsetBit_eq, rset_oldWords, raiseVector_oldWords]
@[simp] theorem latch_mem (c : Nat) (fr : FclRec) : (s.latch c fr).mem = s.mem := by
  unfold latch; split <;> simp only [rsetBit_eq, rset_mem, raiseVector_mem]
@[simp] theorem latch_marks (c : Nat) (fr : FclRec) : (s.latch c fr).marks = s.marks := by
  unfold latch; split <;> simp only [rsetBit_eq, rset_marks, raiseVector_marks]
@[simp] theorem latch_deferred (c : Nat) (fr : FclRec) : (s.latch c fr).deferred = s.deferred := by
  unfold latch; split <;> simp only [rsetBit_eq, rset_deferred, raiseVector_deferred]
@[simp] theorem latch_xreqs (c : Nat) (fr : FclRec) : (s.latch c fr).xreqs = s.xreqs := by
  unfold latch; split <;> simp only [rsetBit_eq, rset_xreqs, raiseVector_xreqs]
@[simp] theorem latch_votes (c : Nat) (fr : FclRec) : (s.latch c fr).votes = s.votes := by
  unfold latch; split <;> simp only [rsetBit_eq, rset_votes, raiseVector_votes]
@[simp] theorem latch_voteRecs (c : Nat) (fr : FclRec) : (s.latch c fr).voteRecs = s.voteRecs := by
  unfold latch; split <;> simp only [rsetBit_eq, rset_voteRecs, raiseVector_voteRecs]
@[simp] theorem latch_fclLog (c : Nat) (fr : FclRec) : (s.latch c fr).fclLog = s.fclLog := by
  unfold latch; split <;> simp only [rsetBit_eq, rset_fclLog, raiseVector_fclLog]
@[simp] theorem latch_recQ (c : Nat) (fr : FclRec) : (s.latch c fr).recQ = s.recQ := by
  unfold latch; split <;> simp only [rsetBit_eq, rset_recQ, raiseVector_recQ]
@[simp] theorem latch_recCur (c : Nat) (fr : FclRec) : (s.latch c fr).recCur = s.recCur := by
  unfold latch; split <;> simp only [rsetBit_eq, rset_recCur, raiseVector_recCur]
@[simp] theorem latch_recOpen (c : Nat) (fr : FclRec) : (s.latch c fr).recOpen = s.recOpen := by
  unfold latch; split <;> simp only [rsetBit_eq, rset_recOpen, raiseVector_recOpen]
@[simp] theorem latch_trcLost (c : Nat) (fr : FclRec) : (s.latch c fr).trcLost = s.trcLost := by
  unfold latch; split <;> simp only [rsetBit_eq, rset_trcLost, raiseVector_trcLost]
@[simp] theorem latch_ucs (c : Nat) (fr : FclRec) : (s.latch c fr).ucs = s.ucs := by
  unfold latch; split <;> simp only [rsetBit_eq, rset_ucs, raiseVector_ucs]
@[simp] theorem latch_ucsBad (c : Nat) (fr : FclRec) : (s.latch c fr).ucsBad = s.ucsBad := by
  unfold latch; split <;> simp only [rsetBit_eq, rset_ucsBad, raiseVector_ucsBad]
@[simp] theorem latch_ucsMaster (c : Nat) (fr : FclRec) : (s.latch c fr).ucsMaster = s.ucsMaster := by
  unfold latch; split <;> simp only [rsetBit_eq, rset_ucsMaster, raiseVector_ucsMaster]
@[simp] theorem latch_afe (c : Nat) (fr : FclRec) : (s.latch c fr).afe = s.afe := by
  unfold latch; split <;> simp only [rsetBit_eq, rset_afe, raiseVector_afe]
@[simp] theorem latch_tachs (c : Nat) (fr : FclRec) : (s.latch c fr).tachs = s.tachs := by
  unfold latch; split <;> simp only [rsetBit_eq, rset_tachs, raiseVector_tachs]
@[simp] theorem latch_trip (c : Nat) (fr : FclRec) : (s.latch c fr).trip = s.trip := by
  unfold latch; split <;> simp only [rsetBit_eq, rset_trip, raiseVector_trip]
@[simp] theorem latch_engines (c : Nat) (fr : FclRec) : (s.latch c fr).engines = s.engines := by
  unfold latch; split <;> simp only [rsetBit_eq, rset_engines, raiseVector_engines]
@[simp] theorem latch_jobs (c : Nat) (fr : FclRec) : (s.latch c fr).jobs = s.jobs := by
  unfold latch; split <;> simp only [rsetBit_eq, rset_jobs, raiseVector_jobs]
@[simp] theorem latch_keys (c : Nat) (fr : FclRec) : (s.latch c fr).keys = s.keys := by
  unfold latch; split <;> simp only [rsetBit_eq, rset_keys, raiseVector_keys]
@[simp] theorem latch_fab (c : Nat) (fr : FclRec) : (s.latch c fr).fab = s.fab := by
  unfold latch; split <;> simp only [rsetBit_eq, rset_fab, raiseVector_fab]
@[simp] theorem latch_nocPend (c : Nat) (fr : FclRec) : (s.latch c fr).nocPend = s.nocPend := by
  unfold latch; split <;> simp only [rsetBit_eq, rset_nocPend, raiseVector_nocPend]
@[simp] theorem latch_cfg (c : Nat) (fr : FclRec) : (s.latch c fr).cfg = s.cfg := by
  unfold latch; split <;> simp only [rsetBit_eq, rset_cfg, raiseVector_cfg]
@[simp] theorem latch_power (c : Nat) (fr : FclRec) : (s.latch c fr).power = s.power := by
  unfold latch; split <;> simp only [rsetBit_eq, rset_power, raiseVector_power]
@[simp] theorem latch_boot (c : Nat) (fr : FclRec) : (s.latch c fr).boot = s.boot := by
  unfold latch; split <;> simp only [rsetBit_eq, rset_boot, raiseVector_boot]
@[simp] theorem latch_ports (c : Nat) (fr : FclRec) : (s.latch c fr).ports = s.ports := by
  unfold latch; split <;> simp only [rsetBit_eq, rset_ports, raiseVector_ports]
@[simp] theorem logRecord_pending (c : Nat) (fr : FclRec) : (s.logRecord c fr).pending = s.pending := by
  unfold logRecord; split; rfl; split; rfl; rfl
@[simp] theorem logRecord_lastRead (c : Nat) (fr : FclRec) : (s.logRecord c fr).lastRead = s.lastRead := by
  unfold logRecord; split; rfl; split; rfl; rfl
@[simp] theorem logRecord_free (c : Nat) (fr : FclRec) : (s.logRecord c fr).free = s.free := by
  unfold logRecord; split; rfl; split; rfl; rfl
@[simp] theorem logRecord_now (c : Nat) (fr : FclRec) : (s.logRecord c fr).now = s.now := by
  unfold logRecord; split; rfl; split; rfl; rfl
@[simp] theorem logRecord_tick (c : Nat) (fr : FclRec) : (s.logRecord c fr).tick = s.tick := by
  unfold logRecord; split; rfl; split; rfl; rfl
@[simp] theorem logRecord_slots (c : Nat) (fr : FclRec) : (s.logRecord c fr).slots = s.slots := by
  unfold logRecord; split; rfl; split; rfl; rfl
@[simp] theorem logRecord_closed (c : Nat) (fr : FclRec) : (s.logRecord c fr).closed = s.closed := by
  unfold logRecord; split; rfl; split; rfl; rfl
@[simp] theorem logRecord_net (c : Nat) (fr : FclRec) : (s.logRecord c fr).net = s.net := by
  unfold logRecord; split; rfl; split; rfl; rfl
@[simp] theorem logRecord_mst (c : Nat) (fr : FclRec) : (s.logRecord c fr).mst = s.mst := by
  unfold logRecord; split; rfl; split; rfl; rfl
@[simp] theorem logRecord_mfetch (c : Nat) (fr : FclRec) : (s.logRecord c fr).mfetch = s.mfetch := by
  unfold logRecord; split; rfl; split; rfl; rfl
@[simp] theorem logRecord_filt (c : Nat) (fr : FclRec) : (s.logRecord c fr).filt = s.filt := by
  unfold logRecord; split; rfl; split; rfl; rfl
@[simp] theorem logRecord_spillOvf (c : Nat) (fr : FclRec) : (s.logRecord c fr).spillOvf = s.spillOvf := by
  unfold logRecord; split; rfl; split; rfl; rfl
@[simp] theorem logRecord_tiles (c : Nat) (fr : FclRec) : (s.logRecord c fr).tiles = s.tiles := by
  unfold logRecord; split; rfl; split; rfl; rfl
@[simp] theorem logRecord_throttle (c : Nat) (fr : FclRec) : (s.logRecord c fr).throttle = s.throttle := by
  unfold logRecord; split; rfl; split; rfl; rfl
@[simp] theorem logRecord_firings (c : Nat) (fr : FclRec) : (s.logRecord c fr).firings = s.firings := by
  unfold logRecord; split; rfl; split; rfl; rfl
@[simp] theorem logRecord_nextFid (c : Nat) (fr : FclRec) : (s.logRecord c fr).nextFid = s.nextFid := by
  unfold logRecord; split; rfl; split; rfl; rfl
@[simp] theorem logRecord_storeBuf (c : Nat) (fr : FclRec) : (s.logRecord c fr).storeBuf = s.storeBuf := by
  unfold logRecord; split; rfl; split; rfl; rfl
@[simp] theorem logRecord_eventBuf (c : Nat) (fr : FclRec) : (s.logRecord c fr).eventBuf = s.eventBuf := by
  unfold logRecord; split; rfl; split; rfl; rfl
@[simp] theorem logRecord_cseq (c : Nat) (fr : FclRec) : (s.logRecord c fr).cseq = s.cseq := by
  unfold logRecord; split; rfl; split; rfl; rfl
@[simp] theorem logRecord_startSeq (c : Nat) (fr : FclRec) : (s.logRecord c fr).startSeq = s.startSeq := by
  unfold logRecord; split; rfl; split; rfl; rfl
@[simp] theorem logRecord_xSeq (c : Nat) (fr : FclRec) : (s.logRecord c fr).xSeq = s.xSeq := by
  unfold logRecord; split; rfl; split; rfl; rfl
@[simp] theorem logRecord_acts (c : Nat) (fr : FclRec) : (s.logRecord c fr).acts = s.acts := by
  unfold logRecord; split; rfl; split; rfl; rfl
@[simp] theorem logRecord_startReqs (c : Nat) (fr : FclRec) : (s.logRecord c fr).startReqs = s.startReqs := by
  unfold logRecord; split; rfl; split; rfl; rfl
@[simp] theorem logRecord_flowQ (c : Nat) (fr : FclRec) : (s.logRecord c fr).flowQ = s.flowQ := by
  unfold logRecord; split; rfl; split; rfl; rfl
@[simp] theorem logRecord_arrNo (c : Nat) (fr : FclRec) : (s.logRecord c fr).arrNo = s.arrNo := by
  unfold logRecord; split; rfl; split; rfl; rfl
@[simp] theorem logRecord_delays (c : Nat) (fr : FclRec) : (s.logRecord c fr).delays = s.delays := by
  unfold logRecord; split; rfl; split; rfl; rfl
@[simp] theorem logRecord_delaySeq (c : Nat) (fr : FclRec) : (s.logRecord c fr).delaySeq = s.delaySeq := by
  unfold logRecord; split; rfl; split; rfl; rfl
@[simp] theorem logRecord_locks (c : Nat) (fr : FclRec) : (s.logRecord c fr).locks = s.locks := by
  unfold logRecord; split; rfl; split; rfl; rfl
@[simp] theorem logRecord_lkuRecs (c : Nat) (fr : FclRec) : (s.logRecord c fr).lkuRecs = s.lkuRecs := by
  unfold logRecord; split; rfl; split; rfl; rfl
@[simp] theorem logRecord_chans (c : Nat) (fr : FclRec) : (s.logRecord c fr).chans = s.chans := by
  unfold logRecord; split; rfl; split; rfl; rfl
@[simp] theorem logRecord_chnRecs (c : Nat) (fr : FclRec) : (s.logRecord c fr).chnRecs = s.chnRecs := by
  unfold logRecord; split; rfl; split; rfl; rfl
@[simp] theorem logRecord_openPkts (c : Nat) (fr : FclRec) : (s.logRecord c fr).openPkts = s.openPkts := by
  unfold logRecord; split; rfl; split; rfl; rfl
@[simp] theorem logRecord_code (c : Nat) (fr : FclRec) : (s.logRecord c fr).code = s.code := by
  unfold logRecord; split; rfl; split; rfl; rfl
@[simp] theorem logRecord_staged (c : Nat) (fr : FclRec) : (s.logRecord c fr).staged = s.staged := by
  unfold logRecord; split; rfl; split; rfl; rfl
@[simp] theorem logRecord_oldWords (c : Nat) (fr : FclRec) : (s.logRecord c fr).oldWords = s.oldWords := by
  unfold logRecord; split; rfl; split; rfl; rfl
@[simp] theorem logRecord_mem (c : Nat) (fr : FclRec) : (s.logRecord c fr).mem = s.mem := by
  unfold logRecord; split; rfl; split; rfl; rfl
@[simp] theorem logRecord_marks (c : Nat) (fr : FclRec) : (s.logRecord c fr).marks = s.marks := by
  unfold logRecord; split; rfl; split; rfl; rfl
@[simp] theorem logRecord_deferred (c : Nat) (fr : FclRec) : (s.logRecord c fr).deferred = s.deferred := by
  unfold logRecord; split; rfl; split; rfl; rfl
@[simp] theorem logRecord_xreqs (c : Nat) (fr : FclRec) : (s.logRecord c fr).xreqs = s.xreqs := by
  unfold logRecord; split; rfl; split; rfl; rfl
@[simp] theorem logRecord_votes (c : Nat) (fr : FclRec) : (s.logRecord c fr).votes = s.votes := by
  unfold logRecord; split; rfl; split; rfl; rfl
@[simp] theorem logRecord_voteRecs (c : Nat) (fr : FclRec) : (s.logRecord c fr).voteRecs = s.voteRecs := by
  unfold logRecord; split; rfl; split; rfl; rfl
@[simp] theorem logRecord_recQ (c : Nat) (fr : FclRec) : (s.logRecord c fr).recQ = s.recQ := by
  unfold logRecord; split; rfl; split; rfl; rfl
@[simp] theorem logRecord_recCur (c : Nat) (fr : FclRec) : (s.logRecord c fr).recCur = s.recCur := by
  unfold logRecord; split; rfl; split; rfl; rfl
@[simp] theorem logRecord_recOpen (c : Nat) (fr : FclRec) : (s.logRecord c fr).recOpen = s.recOpen := by
  unfold logRecord; split; rfl; split; rfl; rfl
@[simp] theorem logRecord_trcLost (c : Nat) (fr : FclRec) : (s.logRecord c fr).trcLost = s.trcLost := by
  unfold logRecord; split; rfl; split; rfl; rfl
@[simp] theorem logRecord_ucs (c : Nat) (fr : FclRec) : (s.logRecord c fr).ucs = s.ucs := by
  unfold logRecord; split; rfl; split; rfl; rfl
@[simp] theorem logRecord_ucsBad (c : Nat) (fr : FclRec) : (s.logRecord c fr).ucsBad = s.ucsBad := by
  unfold logRecord; split; rfl; split; rfl; rfl
@[simp] theorem logRecord_ucsMaster (c : Nat) (fr : FclRec) : (s.logRecord c fr).ucsMaster = s.ucsMaster := by
  unfold logRecord; split; rfl; split; rfl; rfl
@[simp] theorem logRecord_afe (c : Nat) (fr : FclRec) : (s.logRecord c fr).afe = s.afe := by
  unfold logRecord; split; rfl; split; rfl; rfl
@[simp] theorem logRecord_tachs (c : Nat) (fr : FclRec) : (s.logRecord c fr).tachs = s.tachs := by
  unfold logRecord; split; rfl; split; rfl; rfl
@[simp] theorem logRecord_trip (c : Nat) (fr : FclRec) : (s.logRecord c fr).trip = s.trip := by
  unfold logRecord; split; rfl; split; rfl; rfl
@[simp] theorem logRecord_engines (c : Nat) (fr : FclRec) : (s.logRecord c fr).engines = s.engines := by
  unfold logRecord; split; rfl; split; rfl; rfl
@[simp] theorem logRecord_jobs (c : Nat) (fr : FclRec) : (s.logRecord c fr).jobs = s.jobs := by
  unfold logRecord; split; rfl; split; rfl; rfl
@[simp] theorem logRecord_keys (c : Nat) (fr : FclRec) : (s.logRecord c fr).keys = s.keys := by
  unfold logRecord; split; rfl; split; rfl; rfl
@[simp] theorem logRecord_fab (c : Nat) (fr : FclRec) : (s.logRecord c fr).fab = s.fab := by
  unfold logRecord; split; rfl; split; rfl; rfl
@[simp] theorem logRecord_nocPend (c : Nat) (fr : FclRec) : (s.logRecord c fr).nocPend = s.nocPend := by
  unfold logRecord; split; rfl; split; rfl; rfl
@[simp] theorem logRecord_cfg (c : Nat) (fr : FclRec) : (s.logRecord c fr).cfg = s.cfg := by
  unfold logRecord; split; rfl; split; rfl; rfl
@[simp] theorem logRecord_power (c : Nat) (fr : FclRec) : (s.logRecord c fr).power = s.power := by
  unfold logRecord; split; rfl; split; rfl; rfl
@[simp] theorem logRecord_boot (c : Nat) (fr : FclRec) : (s.logRecord c fr).boot = s.boot := by
  unfold logRecord; split; rfl; split; rfl; rfl
@[simp] theorem logRecord_ports (c : Nat) (fr : FclRec) : (s.logRecord c fr).ports = s.ports := by
  unfold logRecord; split; rfl; split; rfl; rfl
@[simp] theorem logRecord_pins (c : Nat) (fr : FclRec) : (s.logRecord c fr).pins = s.pins := by
  unfold logRecord; split; rfl; split; rfl; rfl
@[simp] theorem collect_pending (r : Report) : (s.collect r).pending = s.pending := by simp only [collect, rinc_eq, logRecord_pending, rset_pending, latch_pending]
@[simp] theorem collect_lastRead (r : Report) : (s.collect r).lastRead = s.lastRead := by simp only [collect, rinc_eq, logRecord_lastRead, rset_lastRead, latch_lastRead]
@[simp] theorem collect_free (r : Report) : (s.collect r).free = s.free := by simp only [collect, rinc_eq, logRecord_free, rset_free, latch_free]
@[simp] theorem collect_now (r : Report) : (s.collect r).now = s.now := by simp only [collect, rinc_eq, logRecord_now, rset_now, latch_now]
@[simp] theorem collect_tick (r : Report) : (s.collect r).tick = s.tick := by simp only [collect, rinc_eq, logRecord_tick, rset_tick, latch_tick]
@[simp] theorem collect_slots (r : Report) : (s.collect r).slots = s.slots := by simp only [collect, rinc_eq, logRecord_slots, rset_slots, latch_slots]
@[simp] theorem collect_closed (r : Report) : (s.collect r).closed = s.closed := by simp only [collect, rinc_eq, logRecord_closed, rset_closed, latch_closed]
@[simp] theorem collect_net (r : Report) : (s.collect r).net = s.net := by simp only [collect, rinc_eq, logRecord_net, rset_net, latch_net]
@[simp] theorem collect_mst (r : Report) : (s.collect r).mst = s.mst := by simp only [collect, rinc_eq, logRecord_mst, rset_mst, latch_mst]
@[simp] theorem collect_mfetch (r : Report) : (s.collect r).mfetch = s.mfetch := by simp only [collect, rinc_eq, logRecord_mfetch, rset_mfetch, latch_mfetch]
@[simp] theorem collect_filt (r : Report) : (s.collect r).filt = s.filt := by simp only [collect, rinc_eq, logRecord_filt, rset_filt, latch_filt]
@[simp] theorem collect_spillOvf (r : Report) : (s.collect r).spillOvf = s.spillOvf := by simp only [collect, rinc_eq, logRecord_spillOvf, rset_spillOvf, latch_spillOvf]
@[simp] theorem collect_tiles (r : Report) : (s.collect r).tiles = s.tiles := by simp only [collect, rinc_eq, logRecord_tiles, rset_tiles, latch_tiles]
@[simp] theorem collect_throttle (r : Report) : (s.collect r).throttle = s.throttle := by simp only [collect, rinc_eq, logRecord_throttle, rset_throttle, latch_throttle]
@[simp] theorem collect_firings (r : Report) : (s.collect r).firings = s.firings := by simp only [collect, rinc_eq, logRecord_firings, rset_firings, latch_firings]
@[simp] theorem collect_nextFid (r : Report) : (s.collect r).nextFid = s.nextFid := by simp only [collect, rinc_eq, logRecord_nextFid, rset_nextFid, latch_nextFid]
@[simp] theorem collect_storeBuf (r : Report) : (s.collect r).storeBuf = s.storeBuf := by simp only [collect, rinc_eq, logRecord_storeBuf, rset_storeBuf, latch_storeBuf]
@[simp] theorem collect_eventBuf (r : Report) : (s.collect r).eventBuf = s.eventBuf := by simp only [collect, rinc_eq, logRecord_eventBuf, rset_eventBuf, latch_eventBuf]
@[simp] theorem collect_cseq (r : Report) : (s.collect r).cseq = s.cseq := by simp only [collect, rinc_eq, logRecord_cseq, rset_cseq, latch_cseq]
@[simp] theorem collect_startSeq (r : Report) : (s.collect r).startSeq = s.startSeq := by simp only [collect, rinc_eq, logRecord_startSeq, rset_startSeq, latch_startSeq]
@[simp] theorem collect_xSeq (r : Report) : (s.collect r).xSeq = s.xSeq := by simp only [collect, rinc_eq, logRecord_xSeq, rset_xSeq, latch_xSeq]
@[simp] theorem collect_acts (r : Report) : (s.collect r).acts = s.acts := by simp only [collect, rinc_eq, logRecord_acts, rset_acts, latch_acts]
@[simp] theorem collect_startReqs (r : Report) : (s.collect r).startReqs = s.startReqs := by simp only [collect, rinc_eq, logRecord_startReqs, rset_startReqs, latch_startReqs]
@[simp] theorem collect_flowQ (r : Report) : (s.collect r).flowQ = s.flowQ := by simp only [collect, rinc_eq, logRecord_flowQ, rset_flowQ, latch_flowQ]
@[simp] theorem collect_arrNo (r : Report) : (s.collect r).arrNo = s.arrNo := by simp only [collect, rinc_eq, logRecord_arrNo, rset_arrNo, latch_arrNo]
@[simp] theorem collect_delays (r : Report) : (s.collect r).delays = s.delays := by simp only [collect, rinc_eq, logRecord_delays, rset_delays, latch_delays]
@[simp] theorem collect_delaySeq (r : Report) : (s.collect r).delaySeq = s.delaySeq := by simp only [collect, rinc_eq, logRecord_delaySeq, rset_delaySeq, latch_delaySeq]
@[simp] theorem collect_locks (r : Report) : (s.collect r).locks = s.locks := by simp only [collect, rinc_eq, logRecord_locks, rset_locks, latch_locks]
@[simp] theorem collect_lkuRecs (r : Report) : (s.collect r).lkuRecs = s.lkuRecs := by simp only [collect, rinc_eq, logRecord_lkuRecs, rset_lkuRecs, latch_lkuRecs]
@[simp] theorem collect_chans (r : Report) : (s.collect r).chans = s.chans := by simp only [collect, rinc_eq, logRecord_chans, rset_chans, latch_chans]
@[simp] theorem collect_chnRecs (r : Report) : (s.collect r).chnRecs = s.chnRecs := by simp only [collect, rinc_eq, logRecord_chnRecs, rset_chnRecs, latch_chnRecs]
@[simp] theorem collect_openPkts (r : Report) : (s.collect r).openPkts = s.openPkts := by simp only [collect, rinc_eq, logRecord_openPkts, rset_openPkts, latch_openPkts]
@[simp] theorem collect_code (r : Report) : (s.collect r).code = s.code := by simp only [collect, rinc_eq, logRecord_code, rset_code, latch_code]
@[simp] theorem collect_staged (r : Report) : (s.collect r).staged = s.staged := by simp only [collect, rinc_eq, logRecord_staged, rset_staged, latch_staged]
@[simp] theorem collect_oldWords (r : Report) : (s.collect r).oldWords = s.oldWords := by simp only [collect, rinc_eq, logRecord_oldWords, rset_oldWords, latch_oldWords]
@[simp] theorem collect_mem (r : Report) : (s.collect r).mem = s.mem := by simp only [collect, rinc_eq, logRecord_mem, rset_mem, latch_mem]
@[simp] theorem collect_marks (r : Report) : (s.collect r).marks = s.marks := by simp only [collect, rinc_eq, logRecord_marks, rset_marks, latch_marks]
@[simp] theorem collect_deferred (r : Report) : (s.collect r).deferred = s.deferred := by simp only [collect, rinc_eq, logRecord_deferred, rset_deferred, latch_deferred]
@[simp] theorem collect_xreqs (r : Report) : (s.collect r).xreqs = s.xreqs := by simp only [collect, rinc_eq, logRecord_xreqs, rset_xreqs, latch_xreqs]
@[simp] theorem collect_votes (r : Report) : (s.collect r).votes = s.votes := by simp only [collect, rinc_eq, logRecord_votes, rset_votes, latch_votes]
@[simp] theorem collect_voteRecs (r : Report) : (s.collect r).voteRecs = s.voteRecs := by simp only [collect, rinc_eq, logRecord_voteRecs, rset_voteRecs, latch_voteRecs]
@[simp] theorem collect_recQ (r : Report) : (s.collect r).recQ = s.recQ := by simp only [collect, rinc_eq, logRecord_recQ, rset_recQ, latch_recQ]
@[simp] theorem collect_recCur (r : Report) : (s.collect r).recCur = s.recCur := by simp only [collect, rinc_eq, logRecord_recCur, rset_recCur, latch_recCur]
@[simp] theorem collect_recOpen (r : Report) : (s.collect r).recOpen = s.recOpen := by simp only [collect, rinc_eq, logRecord_recOpen, rset_recOpen, latch_recOpen]
@[simp] theorem collect_trcLost (r : Report) : (s.collect r).trcLost = s.trcLost := by simp only [collect, rinc_eq, logRecord_trcLost, rset_trcLost, latch_trcLost]
@[simp] theorem collect_ucs (r : Report) : (s.collect r).ucs = s.ucs := by simp only [collect, rinc_eq, logRecord_ucs, rset_ucs, latch_ucs]
@[simp] theorem collect_ucsBad (r : Report) : (s.collect r).ucsBad = s.ucsBad := by simp only [collect, rinc_eq, logRecord_ucsBad, rset_ucsBad, latch_ucsBad]
@[simp] theorem collect_ucsMaster (r : Report) : (s.collect r).ucsMaster = s.ucsMaster := by simp only [collect, rinc_eq, logRecord_ucsMaster, rset_ucsMaster, latch_ucsMaster]
@[simp] theorem collect_afe (r : Report) : (s.collect r).afe = s.afe := by simp only [collect, rinc_eq, logRecord_afe, rset_afe, latch_afe]
@[simp] theorem collect_tachs (r : Report) : (s.collect r).tachs = s.tachs := by simp only [collect, rinc_eq, logRecord_tachs, rset_tachs, latch_tachs]
@[simp] theorem collect_trip (r : Report) : (s.collect r).trip = s.trip := by simp only [collect, rinc_eq, logRecord_trip, rset_trip, latch_trip]
@[simp] theorem collect_engines (r : Report) : (s.collect r).engines = s.engines := by simp only [collect, rinc_eq, logRecord_engines, rset_engines, latch_engines]
@[simp] theorem collect_jobs (r : Report) : (s.collect r).jobs = s.jobs := by simp only [collect, rinc_eq, logRecord_jobs, rset_jobs, latch_jobs]
@[simp] theorem collect_keys (r : Report) : (s.collect r).keys = s.keys := by simp only [collect, rinc_eq, logRecord_keys, rset_keys, latch_keys]
@[simp] theorem collect_fab (r : Report) : (s.collect r).fab = s.fab := by simp only [collect, rinc_eq, logRecord_fab, rset_fab, latch_fab]
@[simp] theorem collect_nocPend (r : Report) : (s.collect r).nocPend = s.nocPend := by simp only [collect, rinc_eq, logRecord_nocPend, rset_nocPend, latch_nocPend]
@[simp] theorem collect_cfg (r : Report) : (s.collect r).cfg = s.cfg := by simp only [collect, rinc_eq, logRecord_cfg, rset_cfg, latch_cfg]
@[simp] theorem collect_power (r : Report) : (s.collect r).power = s.power := by simp only [collect, rinc_eq, logRecord_power, rset_power, latch_power]
@[simp] theorem collect_boot (r : Report) : (s.collect r).boot = s.boot := by simp only [collect, rinc_eq, logRecord_boot, rset_boot, latch_boot]
@[simp] theorem collect_ports (r : Report) : (s.collect r).ports = s.ports := by simp only [collect, rinc_eq, logRecord_ports, rset_ports, latch_ports]

@[simp] theorem event_pending (src loc code arg : Nat) : (s.event src loc code arg).pending = s.pending := collect_pending s _
@[simp] theorem event_lastRead (src loc code arg : Nat) : (s.event src loc code arg).lastRead = s.lastRead := collect_lastRead s _
@[simp] theorem event_free (src loc code arg : Nat) : (s.event src loc code arg).free = s.free := collect_free s _
@[simp] theorem event_now (src loc code arg : Nat) : (s.event src loc code arg).now = s.now := collect_now s _
@[simp] theorem event_tick (src loc code arg : Nat) : (s.event src loc code arg).tick = s.tick := collect_tick s _
@[simp] theorem event_slots (src loc code arg : Nat) : (s.event src loc code arg).slots = s.slots := collect_slots s _
@[simp] theorem event_closed (src loc code arg : Nat) : (s.event src loc code arg).closed = s.closed := collect_closed s _
@[simp] theorem event_net (src loc code arg : Nat) : (s.event src loc code arg).net = s.net := collect_net s _
@[simp] theorem event_mst (src loc code arg : Nat) : (s.event src loc code arg).mst = s.mst := collect_mst s _
@[simp] theorem event_mfetch (src loc code arg : Nat) : (s.event src loc code arg).mfetch = s.mfetch := collect_mfetch s _
@[simp] theorem event_filt (src loc code arg : Nat) : (s.event src loc code arg).filt = s.filt := collect_filt s _
@[simp] theorem event_spillOvf (src loc code arg : Nat) : (s.event src loc code arg).spillOvf = s.spillOvf := collect_spillOvf s _
@[simp] theorem event_tiles (src loc code arg : Nat) : (s.event src loc code arg).tiles = s.tiles := collect_tiles s _
@[simp] theorem event_throttle (src loc code arg : Nat) : (s.event src loc code arg).throttle = s.throttle := collect_throttle s _
@[simp] theorem event_firings (src loc code arg : Nat) : (s.event src loc code arg).firings = s.firings := collect_firings s _
@[simp] theorem event_nextFid (src loc code arg : Nat) : (s.event src loc code arg).nextFid = s.nextFid := collect_nextFid s _
@[simp] theorem event_storeBuf (src loc code arg : Nat) : (s.event src loc code arg).storeBuf = s.storeBuf := collect_storeBuf s _
@[simp] theorem event_eventBuf (src loc code arg : Nat) : (s.event src loc code arg).eventBuf = s.eventBuf := collect_eventBuf s _
@[simp] theorem event_cseq (src loc code arg : Nat) : (s.event src loc code arg).cseq = s.cseq := collect_cseq s _
@[simp] theorem event_startSeq (src loc code arg : Nat) : (s.event src loc code arg).startSeq = s.startSeq := collect_startSeq s _
@[simp] theorem event_xSeq (src loc code arg : Nat) : (s.event src loc code arg).xSeq = s.xSeq := collect_xSeq s _
@[simp] theorem event_acts (src loc code arg : Nat) : (s.event src loc code arg).acts = s.acts := collect_acts s _
@[simp] theorem event_startReqs (src loc code arg : Nat) : (s.event src loc code arg).startReqs = s.startReqs := collect_startReqs s _
@[simp] theorem event_flowQ (src loc code arg : Nat) : (s.event src loc code arg).flowQ = s.flowQ := collect_flowQ s _
@[simp] theorem event_arrNo (src loc code arg : Nat) : (s.event src loc code arg).arrNo = s.arrNo := collect_arrNo s _
@[simp] theorem event_delays (src loc code arg : Nat) : (s.event src loc code arg).delays = s.delays := collect_delays s _
@[simp] theorem event_delaySeq (src loc code arg : Nat) : (s.event src loc code arg).delaySeq = s.delaySeq := collect_delaySeq s _
@[simp] theorem event_locks (src loc code arg : Nat) : (s.event src loc code arg).locks = s.locks := collect_locks s _
@[simp] theorem event_lkuRecs (src loc code arg : Nat) : (s.event src loc code arg).lkuRecs = s.lkuRecs := collect_lkuRecs s _
@[simp] theorem event_chans (src loc code arg : Nat) : (s.event src loc code arg).chans = s.chans := collect_chans s _
@[simp] theorem event_chnRecs (src loc code arg : Nat) : (s.event src loc code arg).chnRecs = s.chnRecs := collect_chnRecs s _
@[simp] theorem event_openPkts (src loc code arg : Nat) : (s.event src loc code arg).openPkts = s.openPkts := collect_openPkts s _
@[simp] theorem event_code (src loc code arg : Nat) : (s.event src loc code arg).code = s.code := collect_code s _
@[simp] theorem event_staged (src loc code arg : Nat) : (s.event src loc code arg).staged = s.staged := collect_staged s _
@[simp] theorem event_oldWords (src loc code arg : Nat) : (s.event src loc code arg).oldWords = s.oldWords := collect_oldWords s _
@[simp] theorem event_mem (src loc code arg : Nat) : (s.event src loc code arg).mem = s.mem := collect_mem s _
@[simp] theorem event_marks (src loc code arg : Nat) : (s.event src loc code arg).marks = s.marks := collect_marks s _
@[simp] theorem event_deferred (src loc code arg : Nat) : (s.event src loc code arg).deferred = s.deferred := collect_deferred s _
@[simp] theorem event_xreqs (src loc code arg : Nat) : (s.event src loc code arg).xreqs = s.xreqs := collect_xreqs s _
@[simp] theorem event_votes (src loc code arg : Nat) : (s.event src loc code arg).votes = s.votes := collect_votes s _
@[simp] theorem event_voteRecs (src loc code arg : Nat) : (s.event src loc code arg).voteRecs = s.voteRecs := collect_voteRecs s _
@[simp] theorem event_recQ (src loc code arg : Nat) : (s.event src loc code arg).recQ = s.recQ := collect_recQ s _
@[simp] theorem event_recCur (src loc code arg : Nat) : (s.event src loc code arg).recCur = s.recCur := collect_recCur s _
@[simp] theorem event_recOpen (src loc code arg : Nat) : (s.event src loc code arg).recOpen = s.recOpen := collect_recOpen s _
@[simp] theorem event_trcLost (src loc code arg : Nat) : (s.event src loc code arg).trcLost = s.trcLost := collect_trcLost s _
@[simp] theorem event_ucs (src loc code arg : Nat) : (s.event src loc code arg).ucs = s.ucs := collect_ucs s _
@[simp] theorem event_ucsBad (src loc code arg : Nat) : (s.event src loc code arg).ucsBad = s.ucsBad := collect_ucsBad s _
@[simp] theorem event_ucsMaster (src loc code arg : Nat) : (s.event src loc code arg).ucsMaster = s.ucsMaster := collect_ucsMaster s _
@[simp] theorem event_afe (src loc code arg : Nat) : (s.event src loc code arg).afe = s.afe := collect_afe s _
@[simp] theorem event_tachs (src loc code arg : Nat) : (s.event src loc code arg).tachs = s.tachs := collect_tachs s _
@[simp] theorem event_trip (src loc code arg : Nat) : (s.event src loc code arg).trip = s.trip := collect_trip s _
@[simp] theorem event_engines (src loc code arg : Nat) : (s.event src loc code arg).engines = s.engines := collect_engines s _
@[simp] theorem event_jobs (src loc code arg : Nat) : (s.event src loc code arg).jobs = s.jobs := collect_jobs s _
@[simp] theorem event_keys (src loc code arg : Nat) : (s.event src loc code arg).keys = s.keys := collect_keys s _
@[simp] theorem event_fab (src loc code arg : Nat) : (s.event src loc code arg).fab = s.fab := collect_fab s _
@[simp] theorem event_nocPend (src loc code arg : Nat) : (s.event src loc code arg).nocPend = s.nocPend := collect_nocPend s _
@[simp] theorem event_cfg (src loc code arg : Nat) : (s.event src loc code arg).cfg = s.cfg := collect_cfg s _
@[simp] theorem event_power (src loc code arg : Nat) : (s.event src loc code arg).power = s.power := collect_power s _
@[simp] theorem event_boot (src loc code arg : Nat) : (s.event src loc code arg).boot = s.boot := collect_boot s _
@[simp] theorem event_ports (src loc code arg : Nat) : (s.event src loc code arg).ports = s.ports := collect_ports s _

end Sys2Proof.Machine.State
end

