-- ==== Sys2Proof/Laws/Memory.lean ====
section
/-! SUPPORT. The operations on the addressed memories: each changes the memories, the counters among the registers and the
count of free values alone, and keeps the canonical form. -/

namespace Sys2Proof.Machine

/-- The canonical form as the tables of Sparse.lean say it. -/
theorem Memory.wf_iff (d : Byte) (m : List Host.Cell) : Memory.wf d m = true ↔ smWf (fun _ => d) m := by
  induction m with
  | nil => simp [Memory.wf, smWf]
  | cons e m ih => simp [Memory.wf, smWf, smAbove, ih, and_assoc]

/-- Entries taken out leave the canonical form. -/
theorem Memory.wf_filter {d : Byte} {m : List Host.Cell} (p : Host.Cell → Bool) (h : Memory.wf d m = true) :
    Memory.wf d (m.filter p) = true := by
  induction m with
  | nil => simp [Memory.wf]
  | cons e m ih =>
    simp only [Memory.wf, Bool.and_eq_true, List.all_eq_true] at h
    cases hp : p e
    · simp [hp, ih h.2]
    · simp only [List.filter_cons, hp, if_true, Memory.wf, ih h.2, Bool.and_true, Bool.and_eq_true, List.all_eq_true]
      exact ⟨h.1.1, fun x hx => h.1.2 x (List.mem_filter.mp hx).1⟩

/-- Bytes written keep the canonical form. -/
theorem Memory.wf_putBytes {d : Byte} {m : List Host.Cell} {a : Nat} {bs : List Byte} (h : Memory.wf d m = true) :
    Memory.wf d (smPutBytes m d a bs) = true :=
  (Memory.wf_iff d _).2 (smWf_putBytes ((Memory.wf_iff d m).1 h))

/-- `t` follows `s` by an operation on memory: the rest of the state is as it was, and the canonical form is kept. -/
structure MemStep (s t : State) : Prop where
  frame : ∃ m c f, t = { s with mem := m, csr := c, free := f }
  ok    : s.memOk = true → t.memOk = true

namespace MemStep

theorem refl (s : State) : MemStep s s := ⟨⟨s.mem, s.csr, s.free, rfl⟩, id⟩

theorem trans {s t u : State} (h : MemStep s t) (g : MemStep t u) : MemStep s u := by
  obtain ⟨⟨m, c, f, rfl⟩, ho⟩ := h
  obtain ⟨⟨m', c', f', rfl⟩, go⟩ := g
  exact ⟨⟨m', c', f', rfl⟩, fun x => go (ho x)⟩

/-- An operation that leaves the bytes of SDRAM and scratch alone. -/
theorem quiet (s : State) (m : Mem) (c : List (Nat × Word)) (f : Nat) (h1 : m.sdram = s.mem.sdram)
    (h2 : m.scratch = s.mem.scratch) : MemStep s { s with mem := m, csr := c, free := f } :=
  ⟨⟨m, c, f, rfl⟩, by simp [State.memOk, h1, h2]⟩

theorem foldl {α : Type} (f : State → α → State) (h : ∀ s x, MemStep s (f s x)) (xs : List α) (s : State) :
    MemStep s (xs.foldl f s) := by
  induction xs generalizing s with
  | nil => exact refl s
  | cons x xs ih => exact (h s x).trans (ih _)

theorem foldl_by {α β : Type} (g : β → State) (f : β → α → β) (h : ∀ x a, MemStep (g x) (g (f x a))) (xs : List α) (x : β) :
    MemStep (g x) (g (xs.foldl f x)) := by
  induction xs generalizing x with
  | nil => exact refl _
  | cons a xs ih => exact (h x a).trans (ih _)

theorem rset (s : State) (a : Nat) (v : Word) : MemStep s (s.rset a v) := quiet s s.mem _ s.free rfl rfl
theorem rinc (s : State) (a : Nat) : MemStep s (s.rinc a) := rset s a _
theorem radd (s : State) (a n : Nat) : MemStep s (s.radd a n) := rset s a _
theorem drawNat (s : State) : MemStep s s.drawNat.2 := quiet s s.mem s.csr _ rfl rfl
theorem l1Invalidate (s : State) (l : Nat) (b : Option (Nat × Nat)) : MemStep s (s.l1Invalidate l b) :=
  quiet s _ s.csr s.free rfl rfl
theorem l2Set (s : State) (f : L2Line) : MemStep s (s.l2Set f) := quiet s _ s.csr s.free rfl rfl
theorem l2Clear (s : State) (f : L2Line) : MemStep s (s.l2Clear f) := quiet s _ s.csr s.free rfl rfl
theorem sdRead (s : State) (a n : Nat) : MemStep s (s.sdRead a n).2 := radd s _ _
theorem sdLine (s : State) (l : Nat) : MemStep s (s.sdLine l).2 := by
  unfold State.sdLine
  split
  · exact radd s _ _
  · exact sdRead s _ _

theorem sdWrite (s : State) (a : Nat) (bs : List Byte) : MemStep s (s.sdWrite a bs) := by
  have h : MemStep s { s with mem.sdram := smPutBytes s.mem.sdram 0 a bs } := by
    refine ⟨⟨{ s.mem with sdram := smPutBytes s.mem.sdram 0 a bs }, s.csr, s.free, rfl⟩, ?_⟩
    intro h
    simp only [State.memOk, Bool.and_eq_true] at h ⊢
    exact ⟨⟨Memory.wf_putBytes h.1.1, h.1.2⟩, h.2⟩
  exact (h.trans (radd _ _ _)).trans (radd _ _ _)

theorem scratchWrite (s : State) (a : Nat) (bs : List Byte) :
    MemStep s { s with mem.scratch := smPutBytes s.mem.scratch 0 a bs } := by
  refine ⟨⟨{ s.mem with scratch := smPutBytes s.mem.scratch 0 a bs }, s.csr, s.free, rfl⟩, ?_⟩
  intro h
  simp only [State.memOk, Bool.and_eq_true] at h ⊢
  exact ⟨⟨h.1.1, Memory.wf_putBytes h.1.2⟩, h.2⟩

/-- A frame written back (R237). -/
theorem l2Clean (s : State) (f : L2Line) : MemStep s (s.l2Clean f) := by
  unfold State.l2Clean
  split
  · exact ((sdWrite s _ _).trans (rinc _ _)).trans (l2Set _ _)
  · exact refl s

theorem l2Inval (s : State) (f : L2Line) : MemStep s (s.l2Inval f) := by
  unfold State.l2Inval
  split
  · exact (l1Invalidate s _ _).trans (l2Set _ _)
  · exact (l1Invalidate s _ _).trans (l2Clear _ _)

theorem l2CleanInval (s : State) (f : L2Line) : MemStep s (s.l2CleanInval f) := (l2Clean s f).trans (l2Inval _ _)

/-- A line placed in its set (R223, R241, R243). -/
theorem l2Install (s : State) (l : Nat) (d : BitVec 512) (b : Bool) : MemStep s (s.l2Install l d b) := by
  unfold State.l2Install
  dsimp only
  split
  · exact l2Set s _
  · split
    · exact l2Set s _
    · split
      · split
        · exact sdWrite s _ _
        · exact refl s
      · split
        · exact ((drawNat s).trans (l2Clean _ _)).trans (l2Set _ _)
        · exact (drawNat s).trans (l2Set _ _)

theorem l1Put (s : State) (own : Option (Nat × Nat)) (l a : Nat) (bs : List Byte) :
    MemStep s { s.l1Invalidate l own with
      mem.l1d := (s.l1Invalidate l own).mem.l1d.map (fun x => if x.line = l then { x with data := linePut x.data (a % 64) bs } else x) } :=
  quiet s _ s.csr s.free rfl rfl

/-- A store within one line (R224, R229, R232, R245). -/
theorem storeLine (s : State) (own : Option (Nat × Nat)) (a : Nat) (bs : List Byte) : MemStep s (s.storeLine own a bs) := by
  have wt : ∀ (s : State) (c : Prop) [Decidable c], MemStep s (if c then s.sdWrite a bs else s) := by
    intro s c _; split
    · exact sdWrite s _ _
    · exact refl s
  have fill : ∀ (s : State) (c c' : Prop) [Decidable c] [Decidable c'] (w : Bool),
      MemStep s (if c then (s.sdWrite a bs).rinc (Reg.L2C_MISSES (homeSlice a)) else if c' then
        (((s.sdLine (a / 64)).2.l2Install (a / 64) (linePut (s.sdLine (a / 64)).1 (a % 64) bs) w).rinc
          (Reg.L2C_MISSES (homeSlice a))).sdWrite a bs
        else ((s.sdLine (a / 64)).2.l2Install (a / 64) (linePut (s.sdLine (a / 64)).1 (a % 64) bs) w).rinc
          (Reg.L2C_MISSES (homeSlice a))) := by
    intro s c c' _ _ w
    have h := ((sdLine s (a / 64)).trans (l2Install _ (a / 64) (linePut (s.sdLine (a / 64)).1 (a % 64) bs) w)).trans
      (rinc _ (Reg.L2C_MISSES (homeSlice a)))
    split
    · exact (sdWrite s _ _).trans (rinc _ _)
    · split
      · exact h.trans (sdWrite _ _ _)
      · exact h
  unfold State.storeLine
  dsimp only
  split
  · exact (scratchWrite s a bs).trans (l1Put _ own _ a bs)
  · split
    · exact (sdWrite s a bs).trans (l1Put _ own _ a bs)
    · split
      · split
        · exact (((l2Set s _).trans (rinc _ _)).trans (wt _ _)).trans (l1Put _ own _ a bs)
        · exact (((l2Clean s _).trans (l2Inval _ _)).trans (fill _ _ _ _)).trans (l1Put _ own _ a bs)
      · exact (fill s _ _ _).trans (l1Put _ own _ a bs)
  · exact refl s

/-- A store of any length. -/
theorem memWrite (s : State) (own : Option (Nat × Nat)) (a : Nat) (bs : List Byte) : MemStep s (s.memWrite own a bs) :=
  foldl_by Prod.fst _ (fun x p => storeLine x.1 own p.1 (x.2.take p.2)) _ (s, bs)

theorem readLine (s : State) (a n : Nat) : MemStep s (s.readLine a n).2 := by
  unfold State.readLine
  split
  · dsimp only
    split
    · exact sdRead s _ _
    · split
      · exact rinc s _
      · exact ((sdLine s _).trans (l2Install _ _ _ _)).trans (rinc _ _)
  · exact refl s

/-- A snooped load of any length. -/
theorem memRead (s : State) (a n : Nat) : MemStep s (s.memRead a n).2 :=
  foldl_by Prod.snd (fun (x : List Byte × State) (p : Nat × Nat) => (x.1 ++ (x.2.readLine p.1 p.2).1, (x.2.readLine p.1 p.2).2))
    (fun x p => readLine x.2 p.1 p.2) _ ([], s)

theorem l1Fill (s : State) (t p l : Nat) (d : BitVec 512) : MemStep s (s.l1Fill t p l d) := by
  unfold State.l1Fill
  dsimp only
  split
  · exact refl s
  · split
    · exact quiet s _ s.csr s.free rfl rfl
    · exact quiet s _ s.csr _ rfl rfl

theorem peLoadLine (s : State) (t p a n : Nat) : MemStep s (s.peLoadLine t p a n).2 := by
  have fill : ∀ (s : State) (l : Nat) (d : BitVec 512) (r : Nat), MemStep s (((s.rinc r).l1Fill t p l d)) :=
    fun s l d r => (rinc s r).trans (l1Fill _ _ _ _ _)
  unfold State.peLoadLine
  dsimp only
  split
  · split
    · exact sdRead s _ _
    · split
      · exact refl s
      · exact fill s _ _ _
  · split
    · exact sdRead s _ _
    · split
      · exact refl s
      · split
        · exact fill s _ _ _
        · split
          · exact (fill s _ _ _).trans (rinc _ _)
          · split
            · exact (rinc s _).trans (rinc _ _)
            · exact ((rinc s _).trans (rinc _ _)).trans (quiet _ _ _ _ rfl rfl)
  · exact refl s

/-- A PE's load of any length. -/
theorem peLoad (s : State) (t p a n : Nat) : MemStep s (s.peLoad t p a n).2 :=
  foldl_by Prod.snd (fun (x : Option (List Byte) × State) (q : Nat × Nat) =>
      (match x.1, (x.2.peLoadLine t p q.1 q.2).1 with
       | some b, some c => some (b ++ c)
       | _, _ => none, (x.2.peLoadLine t p q.1 q.2).2))
    (fun x q => peLoadLine x.2 t p q.1 q.2) _ (some [], s)

end MemStep

end Sys2Proof.Machine
end

