-- ==== Sys2Proof/WellFormed.lean ====
section
/-! DEFINITION. Which commands are well formed: every index lies in the range that the spec gives it. -/

namespace Sys2Proof

/-- Masters of Table 9.4. -/
def masterOk (m : Nat) : Bool := decide (m ≤ 0x19 ∨ (0x400 ≤ m ∧ m ≤ 0x7FF))

/-- A command whose indices name a unit, an entry or a master that exists. -/
def wellFormed : Instr → Bool
  | .tick => true
  | .waferAdmit => true
  | .waferCommit => true
  | .subtickEdge => true
  | .tckRun m _ => masterOk m
  | .tckPeriodWrite m _ => masterOk m
  | .tckTimeSet m _ => masterOk m
  | .timeSourceLost => true
  | .timeSourceReturn => true
  | .tckLagMaxRead m => masterOk m
  | .tilReadyqMaxRead m t => masterOk m && decide (t < 16)
  | .pexInflightMaxRead m t p => masterOk m && decide (t < 16) && decide (p < 17)
  | .mstOccMaxRead m t => masterOk m && decide (t < 16)
  | .schActMaxRead m => masterOk m
  | .schDlyMaxRead m => masterOk m
  | .afePkholdRead m c => masterOk m && decide (c < 64)
  | .bootTempmaxRead m => masterOk m
  | .fclRecovMaxRead m => masterOk m
  | .rcCounterRead m _ => masterOk m
  | .registerWrite m _ _ => masterOk m
  | .tokenArrival t _ => decide (t < 16)
  | .spillWrite t => decide (t < 16)
  | .spillFetch t _ => decide (t < 16)
  | .reserveReload t => decide (t < 16)
  | .deadlockWindowExpiry t k => decide (t < 16) && decide (k < 8)
  | .deadlockConfirm t k => decide (t < 16) && decide (k < 8)
  | .mstPurgeWalk t k => decide (t < 16) && decide (k < 8)
  | .mstEccError t _ _ _ => decide (t < 16)
  | .dispatchGrant t => decide (t < 16)
  | .readyQueueAdmit t => decide (t < 16)
  | .firingCommit _ => true
  | .storeDrain t p => decide (t < 16) && decide (p < 17)
  | .eventBufferDrain t p => decide (t < 16) && decide (p < 17)
  | .actIdReturn a => decide (a < 65536)
  | .peRetire m t p _ => masterOk m && decide (t < 16) && decide (p < 17)
  | .peRetireComplete t p => decide (t < 16) && decide (p < 17)
  | .statclr m t _ => masterOk m && decide (t < 16)
  | .fireIllegalEncoding _ => true
  | .firePass _ => true
  | .fireAdd _ => true
  | .fireSub _ => true
  | .fireAdds _ => true
  | .fireSubs _ => true
  | .fireNeg _ => true
  | .fireNegs _ => true
  | .fireAbs _ => true
  | .fireAbss _ => true
  | .fireMul _ => true
  | .fireMulh _ => true
  | .fireMuls _ => true
  | .fireDiv _ => true
  | .fireRem _ => true
  | .fireMin _ => true
  | .fireMax _ => true
  | .fireAnd _ => true
  | .fireOr _ => true
  | .fireXor _ => true
  | .fireNot _ => true
  | .fireAndn _ => true
  | .fireShl _ => true
  | .fireShr _ => true
  | .fireSar _ => true
  | .fireRol _ => true
  | .fireRor _ => true
  | .fireClz _ => true
  | .firePopc _ => true
  | .fireCmpeq _ => true
  | .fireCmpne _ => true
  | .fireCmplt _ => true
  | .fireCmple _ => true
  | .fireCmpun _ => true
  | .fireSel _ => true
  | .fireSwitch _ => true
  | .fireGate _ => true
  | .fireMerge _ => true
  | .fireLoopgate t _ => decide (t < 16)
  | .fireFadd _ => true
  | .fireFsub _ => true
  | .fireFmul _ => true
  | .fireFdiv _ => true
  | .fireFneg _ => true
  | .fireFabs _ => true
  | .fireFmin _ => true
  | .fireFmax _ => true
  | .fireFma _ => true
  | .fireFms _ => true
  | .fireFnma _ => true
  | .fireFsqrt _ => true
  | .fireFrsqrt _ => true
  | .fireFrint _ => true
  | .fireCvt _ => true
  | .fireFclass _ => true
  | .fireSplat _ => true
  | .fireXlane _ => true
  | .fireInslane _ => true
  | .firePerm _ => true
  | .fireVsel _ => true
  | .fireHsum _ => true
  | .fireHmin _ => true
  | .fireHmax _ => true
  | .fireDot _ => true
  | .fireLoad _ => true
  | .fireStore _ => true
  | .fireStorex _ => true
  | .fireCopy _ => true
  | .fireIfetch _ => true
  | .fireIstore _ => true
  | .fireFence _ => true
  | .fireClean _ => true
  | .fireClinv _ => true
  | .fireCmul _ => true
  | .fireFft4 _ => true
  | .fireIfft4 _ => true
  | .fireCmag _ => true
  | .fireCphase _ => true
  | .fireCpolar _ => true
  | .fireHilb _ => true
  | .fireResamp _ => true
  | .fireMoment _ => true
  | .fireNewact _ => true
  | .fireFreeact _ => true
  | .fireIter _ => true
  | .fireChtag _ => true
  | .fireSelf _ => true
  | .fireTagq _ => true
  | .fireFan t _ => decide (t < 16)
  | .fireChsend _ => true
  | .fireChpart _ => true
  | .fireChend _ => true
  | .fireChpoll _ => true
  | .fireLkacq _ => true
  | .fireLktry _ => true
  | .fireLkrel _ => true
  | .fireLkhand _ => true
  | .fireDelay _ => true
  | .fireTickwait _ => true
  | .fireSchstat _ => true
  | .fireCrumb _ => true
  | .fireCodeCommit _ => true
  | .fireVote _ => true
  | .fireRsend _ => true
  | .fireTimeq _ => true
  | .fireExtOp _ => true
  | .extReply _ => true
  | .extReplyTimeout _ => true
  | .ucsFetchParityError t a _ _ => decide (t < 16) && decide (a < 4096)
  | .ucsWordRepair t a _ => decide (t < 16) && decide (a < 4096)
  | .ucsScrubRead t _ _ => decide (t < 16)
  | .ucsReload m t _ => masterOk m && decide (t < 16)
  | .ucsReloadDone t => decide (t < 16)
  | .mntClean m _ => masterOk m
  | .mntInval m _ => masterOk m
  | .mntClinv m _ => masterOk m
  | .mntPin m _ => masterOk m
  | .mntUnpin m _ => masterOk m
  | .mntComplete => true
  | .l2cLockWrite m t _ => masterOk m && decide (t < 16)
  | .wayGroupPowerRequest m t _ => masterOk m && decide (t < 16)
  | .wayGroupPowerDownDone t g => decide (t < 16) && decide (g < 4)
  | .l2FillComplete _ => true
  | .l2ScrubRead t _ => decide (t < 16)
  | .sdramPatrolRead c _ => decide (c < 4)
  | .l2EccError kind t y _ _ => decide (kind < 5) && decide (t < 16) && decide (y < 17)
  | .sdramEccError _ _ _ => true
  | .sdcCfgWrite m _ => masterOk m
  | .sdramTrainingDone => true
  | .sdramRefresh c => decide (c < 4)
  | .sdramRefreshRateChange c _ => decide (c < 4)
  | .pcieRequest bar2 write _ off n data => decide (0 < n ∧ n ≤ 4096 ∧ off + n ≤ (if bar2 then 0x10000000 else 0x1000000) ∧ (write = true → List.length data = n))
  | .schedGrant => true
  | .flowItemRelease fl => decide (fl < 4096)
  | .flowWaitWarning _ => true
  | .lkuAcq m _ => masterOk m
  | .lkuTry m _ => masterOk m
  | .lkuRel m _ => masterOk m
  | .lkuHand m _ => masterOk m
  | .lkuCancel m _ => masterOk m
  | .lkuMreset m _ => masterOk m
  | .afeStart m _ => masterOk m
  | .afeChannelConfig m c _ => masterOk m && decide (c < 64)
  | .afeTachConfig m t _ => masterOk m && decide (t < 16)
  | .shadowWrite m _ _ => masterOk m
  | .protectionSample c _ => decide (c < 64)
  | .measurementSample c _ _ => decide (c < 64)
  | .tachCrossing t _ => decide (t < 16)
  | .tachEdgeQualify t => decide (t < 16)
  | .overspeedTimeout t => decide (t < 16)
  | .biasReading c _ _ => decide (c < 64)
  | .graphDemandApply => true
  | .graphDemandDiscard y => decide (y < 4096)
  | .graphDemandTimeout k => decide (k < 32)
  | .trpReset m _ => masterOk m
  | .trpFirstClr m _ => masterOk m
  | .trpArm m _ => masterOk m
  | .aliveSilenceForce => true
  | .tripRailLoss _ => true
  | .tripRailRestore => true
  | .tripConfigMismatch kind y => decide (kind < 3) && decide (y < 64)
  | .driverSenseMismatch k => decide (k < 32)
  | .driverCurrentLimit k => decide (k < 32)
  | .driverRetry k => decide (k < 32)
  | .dieLinkLoss => true
  | .dieLinkCorrection _ => true
  | .chnCreate m => masterOk m
  | .chnDestroy m => masterOk m
  | .chnFlush m => masterOk m
  | .chnDropPacket m => masterOk m
  | .chnQuery m => masterOk m
  | .windowComplete y => decide (y < 4096)
  | .staleTailExpiry y => decide (y < 4096)
  | .queueReset y => decide (y.chan < 4096 ∧ y.ptr < 5)
  | .qramEccError y kind _ _ _ => decide (y < 4096) && decide (kind < 5)
  | .overflowMoveBack y => decide (y < 4096)
  | .engineBundle n => decide (n < 9)
  | .aluAdd n u _ => decide (n < 9) && decide (u < 2)
  | .aluSub n u _ => decide (n < 9) && decide (u < 2)
  | .aluAnd n u _ => decide (n < 9) && decide (u < 2)
  | .aluOr n u _ => decide (n < 9) && decide (u < 2)
  | .aluXor n u _ => decide (n < 9) && decide (u < 2)
  | .aluAndn n u _ => decide (n < 9) && decide (u < 2)
  | .aluShl n u _ => decide (n < 9) && decide (u < 2)
  | .aluShr n u _ => decide (n < 9) && decide (u < 2)
  | .aluSar n u _ => decide (n < 9) && decide (u < 2)
  | .aluRol n u _ => decide (n < 9) && decide (u < 2)
  | .aluEq n u _ => decide (n < 9) && decide (u < 2)
  | .aluNe n u _ => decide (n < 9) && decide (u < 2)
  | .aluLts n u _ => decide (n < 9) && decide (u < 2)
  | .aluLtu n u _ => decide (n < 9) && decide (u < 2)
  | .aluLes n u _ => decide (n < 9) && decide (u < 2)
  | .aluLeu n u _ => decide (n < 9) && decide (u < 2)
  | .aluMins n u _ => decide (n < 9) && decide (u < 2)
  | .aluMaxs n u _ => decide (n < 9) && decide (u < 2)
  | .aluMinu n u _ => decide (n < 9) && decide (u < 2)
  | .aluMaxu n u _ => decide (n < 9) && decide (u < 2)
  | .aluPass n u _ => decide (n < 9) && decide (u < 2)
  | .aluClz n u _ => decide (n < 9) && decide (u < 2)
  | .aluPopc n u _ => decide (n < 9) && decide (u < 2)
  | .aluSx8 n u _ => decide (n < 9) && decide (u < 2)
  | .aluSx16 n u _ => decide (n < 9) && decide (u < 2)
  | .aluSx32 n u _ => decide (n < 9) && decide (u < 2)
  | .mulLo n _ => decide (n < 9)
  | .mulHis n _ => decide (n < 9)
  | .mulHiu n _ => decide (n < 9)
  | .lsuLdu8 n _ => decide (n < 9)
  | .lsuLdu16 n _ => decide (n < 9)
  | .lsuLdu32 n _ => decide (n < 9)
  | .lsuLdu64 n _ => decide (n < 9)
  | .lsuLds8 n _ => decide (n < 9)
  | .lsuLds16 n _ => decide (n < 9)
  | .lsuLds32 n _ => decide (n < 9)
  | .lsuSt8 n _ => decide (n < 9)
  | .lsuSt16 n _ => decide (n < 9)
  | .lsuSt32 n _ => decide (n < 9)
  | .lsuSt64 n _ => decide (n < 9)
  | .lsuFence n _ => decide (n < 9)
  | .pcuJump n _ => decide (n < 9)
  | .pcuCall n _ => decide (n < 9)
  | .pcuRet n _ => decide (n < 9)
  | .pcuRete n _ => decide (n < 9)
  | .pcuLoop n _ => decide (n < 9)
  | .pcuIsync n _ => decide (n < 9)
  | .pcuHalt n _ => decide (n < 9)
  | .pcuWait n _ => decide (n < 9)
  | .pcuEvmask n _ => decide (n < 9)
  | .pcuWdog n _ => decide (n < 9)
  | .chpSend n _ => decide (n < 9)
  | .chpSende n _ => decide (n < 9)
  | .chpRecv n _ => decide (n < 9)
  | .chpDrop n _ => decide (n < 9)
  | .chpFlush n _ => decide (n < 9)
  | .chpEvqRead n d => decide (n < 9) && decide (d < 64)
  | .engineEventTake n => decide (n < 9)
  | .cenRun m n _ => masterOk m && decide (n < 9)
  | .cenReset m n _ => masterOk m && decide (n < 9)
  | .engineWatchdogExpiry n => decide (n < 9)
  | .engineTimer n => decide (n < 9)
  | .cenDoorbell m n _ => masterOk m && decide (n < 9)
  | .cenRamdataRead m n => masterOk m && decide (n < 9)
  | .cenRamdataWrite m n _ => masterOk m && decide (n < 9)
  | .engineRamError n kind _ _ => decide (n < 9) && decide (kind < 3)
  | .deflateJob m u _ => masterOk m && decide (u < 2)
  | .inflateJob m u _ => masterOk m && decide (u < 2)
  | .fondantJob m u _ => masterOk m && decide (u < 2)
  | .fondantDeflateJob m u _ => masterOk m && decide (u < 2)
  | .unfondantJob m u _ => masterOk m && decide (u < 2)
  | .inflateUnfondantJob m u _ => masterOk m && decide (u < 2)
  | .encryptJob m u _ => masterOk m && decide (u < 2)
  | .decryptJob m u _ => masterOk m && decide (u < 2)
  | .unwrapJob m u _ => masterOk m && decide (u < 2)
  | .transformJobDone u => decide (u < 4)
  | .transformUnitError u _ => decide (u < 4)
  | .keyLoad m _ => masterOk m
  | .keyErase m _ => masterOk m
  | .encZeroize m _ => masterOk m
  | .recoveryDispatch => true
  | .linkFrameReceive p _ => decide (p < 7)
  | .linkResendTimeout p => decide (p < 7)
  | .linkSignalDetect p => decide (p < 7)
  | .linkFrameLock p => decide (p < 7)
  | .linkTrainingFailure p => decide (p < 7)
  | .linkSignalLoss p => decide (p < 7)
  | .linkHelloTimeout p => decide (p < 6)
  | .linkWake p => decide (p < 6)
  | .helloSend p => decide (p < 6)
  | .helloReceive p _ => decide (p < 6)
  | .mgmtReceive _ => true
  | .routeReceive _ => true
  | .rdreqReceive _ => true
  | .rdrespReceive _ => true
  | .wrreqReceive _ => true
  | .wrackReceive _ => true
  | .rerrReceive _ => true
  | .rscredReceive _ => true
  | .rsgrantReceive _ => true
  | .rsitemReceive _ => true
  | .rscloseSend k => decide (k < 8)
  | .rscloseReceive _ => true
  | .rsackReceive _ => true
  | .voteMessage _ => true
  | .voteTimeout _ => true
  | .resyncSourcePoint g _ => decide (g < 16)
  | .resyncMinorityPoint g _ => decide (g < 16)
  | .rsyreqReceive _ => true
  | .rsydataReceive _ => true
  | .rsyackReceive _ => true
  | .resyncTimeout g _ => decide (g < 16)
  | .e2eackReceive _ => true
  | .e2eResendTimeout d vc => decide (d < 1024) && decide (vc < 4)
  | .deviceLossTimeout d => decide (d < 1024)
  | .timeExchange p => decide (p < 6)
  | .syncReceive p _ => decide (p < 6)
  | .dreqReceive p _ => decide (p < 6)
  | .drespReceive p _ => decide (p < 6)
  | .timeBoundGrowth => true
  | .xportIdentity _ => true
  | .nocFlitError k kind _ _ _ band _ => decide (k < 20) && decide (kind < 3) && decide (band < 64)
  | .nocReservationWrite m r _ => masterOk m && decide (r < 64)
  | .domainOffReturn kind _ _ => decide (kind < 6)
  | .pllLossOfLock p => decide (p < 11)
  | .refclkLoss => true
  | .dozeEnter m => masterOk m
  | .dozeTileFence => true
  | .dozeWake m => masterOk m
  | .wakeComplete => true
  | .unitPowerRequest m _ => masterOk m
  | .domainPowerDownDone d => decide (d < 134)
  | .tilePark m t _ => masterOk m && decide (t < 16)
  | .tileParkComplete t => decide (t < 16)
  | .tileUnparkComplete t => decide (t < 16)
  | .tileClboff m t _ => masterOk m && decide (t < 16)
  | .tileSpoff m t _ => masterOk m && decide (t < 16)
  | .supplyWarning rail mv => decide (rail < 8) && decide (mv < 65536)
  | .supplyHoldEnd => true
  | .supplyReset rail => decide (rail < 8)
  | .faultReport c src kind loc _ _ _ _ _ => decide (c < 5) && decide (src < 4096) && decide (kind < 256) && decide (loc < 64)
  | .peCheckerError _ unit => decide (unit < 16)
  | .peSubstitution t p => decide (t < 16) && decide (p < 17)
  | .waferReplay k => decide (k < 8)
  | .journalRestore k => decide (k < 8)
  | .tileRetirement t => decide (t < 16)
  | .tileStructureError t kind _ _ => decide (t < 16) && decide (kind < 7)
  | .sequencerMemoryError kind _ => decide (kind < 4)
  | .recoveryWatchdogExpiry => true
  | .sequencerWatchdogExpiry => true
  | .aliveToggle => true
  | .aliveEnable m _ => masterOk m
  | .fclClear m _ => masterOk m
  | .fclLogPop m _ => masterOk m
  | .fclSeqKick m _ => masterOk m
  | .powerOnReset _ => true
  | .pinReset => true
  | .hostReset m _ => masterOk m
  | .resetRelease _ _ => true
  | .bootSdramTrained _ => true
  | .cfgOpen m => masterOk m
  | .cfgShadowCopyDone => true
  | .cfgDataWrite m _ => masterOk m
  | .cfgDataRead m => masterOk m
  | .cfgImgload m => masterOk m
  | .cfgCommit m => masterOk m
  | .cfgValidationDone => true
  | .cfgAbort m => masterOk m
  | .cfgLockSet m _ => masterOk m
  | .bootFlashRead m => masterOk m
  | .bootFlashProgram m => masterOk m
  | .bootFlashErase m => masterOk m
  | .bootFlashDone _ => true
  | .bootSvnAdvance m _ => masterOk m
  | .bootKeyRevoke m _ => masterOk m
  | .tempOverGrade k _ => decide (k < 20)
  | .tempCritical k => decide (k < 20)
  | .pcieFunctionReset kind => decide (kind < 3)
  | .pciIrqWrite m _ => masterOk m
  | .ethFrameReceive y _ _ _ => decide (y < 18)
  | .ethRxTailWrite m y _ => masterOk m && decide (y < 18)
  | .ethTxTailWrite m y _ => masterOk m && decide (y < 18)
  | .ethFrameTransmit y c => decide (y < 18) && decide (c < 8)
  | .ethGateEntry y => decide (y < 2)
  | .tslSensorFrame p _ _ => decide (p < 16)
  | .i2cAddressWrite b hi lo => decide (b < 256) && decide (hi < 256) && decide (lo < 256)
  | .i2cRead => true
  | .jtagBypass => true
  | .jtagIdcode => true
  | .jtagSamplePreload => true
  | .jtagExtest => true
  | .jtagClamp => true
  | .jtagHighz => true
  | .supplyRecoveryCrossing rail _ => decide (rail < 8)
  | .domainPowerUpDone d => decide (d < 134)
  | .pllLockRegained p => decide (p < 11)

end Sys2Proof
end

