-- ==== Sys2Proof/Tests/Slice0.lean ====
section
/-! SUPPORT. Tests: values of the manual and values computed by hand from its rules, ill-formed commands, and states that meet
the hypotheses of the statements. -/

namespace Sys2Proof.Tests

open Sys2Proof Sys2Proof.Machine Sys2Proof.Safety

set_option Elab.async false

/-- The state after a command; every command answers one. -/
def after (o : Out) : State := match o with
  | .next t => t
  | _ => State.reset

/-- A word of mode TOK with output field A at IADDR + 2, port L, and none at B. -/
def tokWord (opc ty lit : Nat) : Word := encodeIWord ⟨opc, ty, 0, mTOK, lit, 0x0002, 0xC000⟩

/-- A token of type `ty` without flags. -/
def tok (ty : Nat) (v : Value) : TVal := ⟨v, mkStatus ty false false false 0⟩

/-- Activation 1 of wafer slot 0, LIVE, with the mode word `mode`. -/
def act (mode : BitVec 16) : Act :=
  { id := 1, state := .live, slot := 0, inc := 0, wafer := 0, epoch := 0, desc := 0, base := 0, eff := 0, mode := mode,
    handler := 0, bases := [(0xC000000000002000, 0x1000)], fa := 0, frame := 0x40, flags := 0, nd := false, flow := none }

/-- A dispatched firing of activation 1 at IADDR 0x100 in PE 0 of tile 0. -/
def firing (w : Word) (l r c : Option TVal) : Firing :=
  { id := 1, tile := 0, pe := 0, tag := mkTag 0 1 0 0 0x100 0, inc := 0, wafer := 0, epoch := 0, word := w, inL := l, inR := r,
    inC := c, stage := .dispatched, wait := .none, outs := [], stores := [], effects := [], raised := 0, nd := false,
    attempt := 0, reserved := 0, granted := none, fenceSeq := 0, since := 0 }

/-- The reset state with that firing and its activation. -/
def st (f : Firing) : State := { State.reset with firings := [f], acts := [act 0] }

/-- The same with a control store in which every entry word of tile 0 is an END (R205, R210). -/
def stMicro (f : Firing) : State :=
  { st f with ucs := (List.range 14).map (fun a => (a, withParity (BitVec.ofNat 160 (6 * 2 ^ 157)))) }

/-- Value, type and raised flags of firing 1 after command `c`, as its first output token carries them. -/
def fired (mk : Firing → State) (c : Nat → Instr) (opc ty lit : Nat) (l r x : Option TVal) : Option (Value × Nat × Flags7) :=
  match (after (Sys2Proof.Machine.exec (c 1) (mk (firing (tokWord opc ty lit) l r x)))).firing? 1 with
  | some f => (match f.outs with
    | o :: _ => some (o.tv.v, stType o.tv.st, f.raised)
    | [] => none)
  | none => none

theorem test_add :
    fired st .fireAdd 0x1 1 0 (some (tok 1 0xffffffff)) (some (tok 1 0x1)) none =
      some (0x0, 1, flV) := by
  decide +kernel

theorem test_sub :
    fired st .fireSub 0x2 0 0 (some (tok 0 0x3)) (some (tok 0 0x5)) none =
      some (0xfffffffe, 0, 0) := by
  decide +kernel

theorem test_adds :
    fired st .fireAdds 0x3 0 0 (some (tok 0 0x7fffffff)) (some (tok 0 0x1)) none =
      some (0x7fffffff, 0, flSAT) := by
  decide +kernel

theorem test_subs :
    fired st .fireSubs 0x4 1 0 (some (tok 1 0x3)) (some (tok 1 0x5)) none =
      some (0x0, 1, flSAT) := by
  decide +kernel

theorem test_neg :
    fired st .fireNeg 0x5 0 0 (some (tok 0 0x80000000)) none none =
      some (0x80000000, 0, flV) := by
  decide +kernel

theorem test_negs :
    fired st .fireNegs 0x6 0 0 (some (tok 0 0x80000000)) none none =
      some (0x7fffffff, 0, flSAT) := by
  decide +kernel

theorem test_abs :
    fired st .fireAbs 0x7 0 0 (some (tok 0 0xfffffffb)) none none =
      some (0x5, 0, 0) := by
  decide +kernel

theorem test_abss :
    fired st .fireAbss 0x8 0 0 (some (tok 0 0x80000000)) none none =
      some (0x7fffffff, 0, flSAT) := by
  decide +kernel

theorem test_mul :
    fired st .fireMul 0x9 1 0 (some (tok 1 0x10000)) (some (tok 1 0x10001)) none =
      some (0x10000, 1, flV) := by
  decide +kernel

theorem test_mulh :
    fired st .fireMulh 0xa 1 0 (some (tok 1 0x10000)) (some (tok 1 0x10000)) none =
      some (0x1, 1, 0) := by
  decide +kernel

theorem test_muls :
    fired st .fireMuls 0xb 0 0 (some (tok 0 0x10000)) (some (tok 0 0x10000)) none =
      some (0x7fffffff, 0, flSAT) := by
  decide +kernel

theorem test_div :
    fired stMicro .fireDiv 0xc 0 0 (some (tok 0 0xfffffff9)) (some (tok 0 0x2)) none =
      some (0xfffffffd, 0, 0) := by
  decide +kernel

theorem test_rem :
    fired stMicro .fireRem 0xd 0 0 (some (tok 0 0xfffffff9)) (some (tok 0 0x2)) none =
      some (0xffffffff, 0, 0) := by
  decide +kernel

theorem test_min :
    fired st .fireMin 0xe 0 0 (some (tok 0 0xffffffff)) (some (tok 0 0x1)) none =
      some (0xffffffff, 0, 0) := by
  decide +kernel

theorem test_max :
    fired st .fireMax 0xf 1 0 (some (tok 1 0xffffffff)) (some (tok 1 0x1)) none =
      some (0xffffffff, 1, 0) := by
  decide +kernel

theorem test_and :
    fired st .fireAnd 0x10 1 0 (some (tok 1 0xc)) (some (tok 1 0xa)) none =
      some (0x8, 1, 0) := by
  decide +kernel

theorem test_or :
    fired st .fireOr 0x11 1 0 (some (tok 1 0xc)) (some (tok 1 0xa)) none =
      some (0xe, 1, 0) := by
  decide +kernel

theorem test_xor :
    fired st .fireXor 0x12 1 0 (some (tok 1 0xc)) (some (tok 1 0xa)) none =
      some (0x6, 1, 0) := by
  decide +kernel

theorem test_not :
    fired st .fireNot 0x13 1 0 (some (tok 1 0xc)) none none =
      some (0xfffffff3, 1, 0) := by
  decide +kernel

theorem test_andn :
    fired st .fireAndn 0x14 1 0 (some (tok 1 0xc)) (some (tok 1 0xa)) none =
      some (0x4, 1, 0) := by
  decide +kernel

theorem test_shl :
    fired st .fireShl 0x15 1 0 (some (tok 1 0x1)) (some (tok 1 0x21)) none =
      some (0x0, 1, 0) := by
  decide +kernel

theorem test_shr :
    fired st .fireShr 0x16 1 0 (some (tok 1 0x80000000)) (some (tok 1 0x1f)) none =
      some (0x1, 1, 0) := by
  decide +kernel

theorem test_sar :
    fired st .fireSar 0x17 0 0 (some (tok 0 0x80000000)) (some (tok 0 0x28)) none =
      some (0xffffffff, 0, 0) := by
  decide +kernel

theorem test_rol :
    fired st .fireRol 0x18 1 0 (some (tok 1 0x80000001)) (some (tok 1 0x1)) none =
      some (0x3, 1, 0) := by
  decide +kernel

theorem test_ror :
    fired st .fireRor 0x19 1 0 (some (tok 1 0x1)) (some (tok 1 0x1)) none =
      some (0x80000000, 1, 0) := by
  decide +kernel

theorem test_clz :
    fired st .fireClz 0x1a 1 0 (some (tok 1 0x1)) none none =
      some (0x1f, 1, 0) := by
  decide +kernel

theorem test_popc :
    fired st .firePopc 0x1b 1 0 (some (tok 1 0xff)) none none =
      some (0x8, 1, 0) := by
  decide +kernel

theorem test_cmpeq :
    fired st .fireCmpeq 0x80 0 0 (some (tok 0 0x5)) (some (tok 0 0x5)) none =
      some (0x1, 1, 0) := by
  decide +kernel

theorem test_cmpne :
    fired st .fireCmpne 0x81 0 0 (some (tok 0 0x5)) (some (tok 0 0x5)) none =
      some (0x0, 1, 0) := by
  decide +kernel

theorem test_cmplt :
    fired st .fireCmplt 0x82 0 0 (some (tok 0 0xffffffff)) (some (tok 0 0x0)) none =
      some (0x1, 1, 0) := by
  decide +kernel

theorem test_cmple :
    fired st .fireCmple 0x83 1 0 (some (tok 1 0xffffffff)) (some (tok 1 0x0)) none =
      some (0x0, 1, 0) := by
  decide +kernel

theorem test_cmpun :
    fired st .fireCmpun 0x84 4 0 (some (tok 4 0x7fc00000)) (some (tok 4 0x3f800000)) none =
      some (0x1, 1, 0) := by
  decide +kernel

theorem test_fadd :
    fired st .fireFadd 0x100 4 0 (some (tok 4 0x3fc00000)) (some (tok 4 0x40100000)) none =
      some (0x40700000, 4, 0) := by
  decide +kernel

theorem test_fsub :
    fired st .fireFsub 0x101 5 0 (some (tok 5 0x3ff8000000000000)) (some (tok 5 0x4002000000000000)) none =
      some (0xbfe8000000000000, 5, 0) := by
  decide +kernel

theorem test_fmul :
    fired st .fireFmul 0x102 4 0 (some (tok 4 0x3fc00000)) (some (tok 4 0xc0000000)) none =
      some (0xc0400000, 4, 0) := by
  decide +kernel

theorem test_fdiv :
    fired stMicro .fireFdiv 0x103 4 0 (some (tok 4 0x3f800000)) (some (tok 4 0x40400000)) none =
      some (0x3eaaaaab, 4, flNX) := by
  decide +kernel

theorem test_fneg :
    fired st .fireFneg 0x104 4 0 (some (tok 4 0x7f800001)) none none =
      some (0xff800001, 4, 0) := by
  decide +kernel

theorem test_fabs :
    fired st .fireFabs 0x105 4 0 (some (tok 4 0xc0000000)) none none =
      some (0x40000000, 4, 0) := by
  decide +kernel

theorem test_fmin :
    fired st .fireFmin 0x106 4 0 (some (tok 4 0x80000000)) (some (tok 4 0x0)) none =
      some (0x80000000, 4, 0) := by
  decide +kernel

theorem test_fmax :
    fired st .fireFmax 0x107 4 0 (some (tok 4 0x7fc00000)) (some (tok 4 0x3f800000)) none =
      some (0x3f800000, 4, 0) := by
  decide +kernel

theorem test_fma :
    fired st .fireFma 0x108 4 0 (some (tok 4 0x40000000)) (some (tok 4 0x40400000)) (some (tok 4 0x40800000)) =
      some (0x41200000, 4, 0) := by
  decide +kernel

theorem test_fms :
    fired st .fireFms 0x109 4 0 (some (tok 4 0x40000000)) (some (tok 4 0x40400000)) (some (tok 4 0x40800000)) =
      some (0x40000000, 4, 0) := by
  decide +kernel

theorem test_fnma :
    fired st .fireFnma 0x10a 4 0 (some (tok 4 0x40000000)) (some (tok 4 0x40400000)) (some (tok 4 0x40800000)) =
      some (0xc0000000, 4, 0) := by
  decide +kernel

theorem test_fsqrt :
    fired stMicro .fireFsqrt 0x10b 4 0 (some (tok 4 0x41100000)) none none =
      some (0x40400000, 4, 0) := by
  decide +kernel

theorem test_frsqrt :
    (fired stMicro .fireFrsqrt 0x10c 4 0 (some (tok 4 0x40800000)) none none).map (fun x => (x.1, x.2.1)) =
      some (0x3f000000, 4) := by
  decide +kernel

theorem test_frint :
    fired st .fireFrint 0x10d 4 0 (some (tok 4 0x40200000)) none none =
      some (0x40000000, 4, flNX) := by
  decide +kernel

theorem test_cvt :
    fired st .fireCvt 0x110 0 0 (some (tok 4 0xc0400000)) none none =
      some (0xfffffffd, 0, 0) := by
  decide +kernel

theorem test_fclass :
    fired st .fireFclass 0x111 4 0 (some (tok 4 0x80000000)) none none =
      some (0x20, 1, 0) := by
  decide +kernel

theorem test_splat :
    fired st .fireSplat 0x180 7 0 (some (tok 1 0x5)) none none =
      some (0x500000005000000050000000500000005000000050000000500000005, 7, 0) := by
  decide +kernel

theorem test_xlane :
    fired st .fireXlane 0x181 11 1 (some (tok 11 0xff00)) none none =
      some (0xffffffff, 0, 0) := by
  decide +kernel

theorem test_inslane :
    fired st .fireInslane 0x182 7 2 (some (tok 7 0x100000001000000010000000100000001000000010000000100000001)) (some (tok 1 0x9)) none =
      some (0x100000001000000010000000100000001000000090000000100000001, 7, 0) := by
  decide +kernel

theorem test_perm :
    fired st .firePerm 0x183 7 0 (some (tok 7 0x700000006000000050000000400000003000000020000000100000000)) (some (tok 7 0x800000001000000020000000300000004000000050000000600000007)) none =
      some (0x1000000020000000300000004000000050000000600000007, 7, 0) := by
  decide +kernel

theorem test_vsel :
    fired st .fireVsel 0x184 7 0 (some (tok 7 0xf0000000f0000000f0000000f0000000f0000000f0000000f0000000f0)) (some (tok 7 0xf0000000f0000000f0000000f0000000f0000000f0000000f0000000f)) (some (tok 7 0xff)) =
      some (0xf0000000f0000000f0000000f0000000f0000000f0000000f000000f0, 7, 0) := by
  decide +kernel

theorem test_hsum :
    fired st .fireHsum 0x185 7 0 (some (tok 7 0x2ffffffff)) none none =
      some (0x1, 1, flV) := by
  decide +kernel

theorem test_hmin :
    fired st .fireHmin 0x186 6 0 (some (tok 6 0xffffffff00000003)) none none =
      some (0xffffffff, 0, 0) := by
  decide +kernel

theorem test_hmax :
    fired st .fireHmax 0x187 7 0 (some (tok 7 0xffffffff00000003)) none none =
      some (0xffffffff, 1, 0) := by
  decide +kernel

theorem test_dot :
    fired st .fireDot 0x188 8 0 (some (tok 8 0x40e0000040c0000040a000004080000040400000400000003f80000000000000)) (some (tok 8 0x3f8000003f8000003f8000003f8000003f8000003f8000003f8000003f800000)) none =
      some (0x41e00000, 4, 0) := by
  decide +kernel

theorem test_cmul :
    fired stMicro .fireCmul 0x200 12 0 (some (tok 12 0x400000003f800000)) (some (tok 12 0x4080000040400000)) none =
      some (0x41200000c0a00000, 12, 0) := by
  decide +kernel

theorem test_fft4 :
    fired stMicro .fireFft4 0x201 13 0 (some (tok 13 0x4080000000000000404000000000000040000000000000003f800000)) (some (tok 13 0x3f800000000000003f800000000000003f800000000000003f800000)) none =
      some (0xc0000000c000000000000000c000000040000000c00000000000000041200000, 13, 0) := by
  decide +kernel

theorem test_ifft4 :
    fired stMicro .fireIfft4 0x202 13 0 (some (tok 13 0x4080000000000000404000000000000040000000000000003f800000)) (some (tok 13 0x3f800000000000003f800000000000003f800000000000003f800000)) none =
      some (0x40000000c000000000000000c0000000c0000000c00000000000000041200000, 13, 0) := by
  decide +kernel

theorem test_cphase :
    (fired stMicro .fireCphase 0x205 12 0 (some (tok 12 0x0)) none none).map (fun x => (x.1, x.2.1)) =
      some (0x0, 12) := by
  decide +kernel

theorem test_hilb :
    (fired stMicro .fireHilb 0x208 8 0 (some (tok 8 0x0)) (some (tok 8 0x0)) (some (tok 8 0x0))).map (fun x => (x.1, x.2.1)) =
      some (0x0, 8) := by
  decide +kernel
/-- What makes a firing ready, as a question that can be decided. -/
theorem ready {s : State} {n opc : Nat} {f : Firing} {a : Act}
    (h : s.dead = false ∧ s.firing? n = some f ∧ f.stage = .dispatched ∧ State.canGo f.wait = true ∧ f.iw.opc = opc ∧
      s.act? f.act = some a ∧ s.tileFenced f.tile = false ∧ a.state ≠ .quarantined ∧
      (legalRow f.iw (s.arityOf f.epoch f.word)).isSome = true) :
    Ready s n opc f a ((legalRow f.iw (s.arityOf f.epoch f.word)).getD (opRow 0 0 0 0 false)) := by
  obtain ⟨h1, h2, h3, h4, h5, h6, h7, h8, h9⟩ := h
  refine ⟨h1, h2, h3, h4, h5, h6, h7, h8, ?_⟩
  cases hr : legalRow f.iw (s.arityOf f.epoch f.word) with
  | none => rw [hr] at h9; cases h9
  | some r => rfl

theorem inputs {s : State} {f : Firing} {a : Act} {row : OpRow} {ok : Nat}
    (h : f.ctxBad ok = false ∧ (s.readIns f a row).1.wait = none ∧ (s.readIns f a row).1.bad = []) :
    Inputs s f a row ok (s.readIns f a row).1 (s.readIns f a row).2 :=
  ⟨h.1, rfl, h.2.1, h.2.2⟩

theorem sequenced {s : State} {f : Firing} {a : Act} {entry : Nat} {x : Ins}
    (h : s.useqBusy f = false ∧ (∀ p ∈ s.useqs, p.firing ≠ f.id) ∧
      (s.microWalk (fenvOf a.mode f.iw.rnd) f.iw.ty 20000 (MicroSeq.start f.tile f.pe f.id entry x.l x.r x.c)).1 = .done) :
    Sequenced s f a entry x
      (s.microWalk (fenvOf a.mode f.iw.rnd) f.iw.ty 20000 (MicroSeq.start f.tile f.pe f.id entry x.l x.r x.c)).2 :=
  ⟨h.1, h.2.1, Prod.ext h.2.2 rfl⟩

/-- Firing 1 of a word with token inputs of one type. -/
def fir (opc ty lit : Nat) (l r c : Option Value) : Firing :=
  firing (tokWord opc ty lit) (l.map (tok ty)) (r.map (tok ty)) (c.map (tok ty))

/-- A context token for activation 1. -/
def ctxTok : TVal := ⟨1, mkStatus 1 false true false 0⟩

theorem witness_IntegerFiringsComplete : ∃ (s : State) (n : Nat) (f : Firing) (a : Act) (row : OpRow) (x : Ins) (s1 s2 : State)
    (z : OpRes) (stores : List StoreRec) (effects : List Effect) (nd : Bool), Ready s n 0x001 f a row ∧ Inputs s f a row 0 x s1 ∧
    Stores s1 f a z.val stores effects nd s2 ∧ opAdd (opInputs f a x) = some z ∧
    enabledCauses a.mode false (orFlags z.flags) = [] ∧ Room s2 f stores.length effects :=
  ⟨st (fir 1 1 0 (some 2) (some 3) none), 1, fir 1 1 0 (some 2) (some 3) none, act 0, _, _, _, _, ⟨5, 1, [0]⟩, [], [], false,
    ready (by decide +kernel), inputs (by decide +kernel), rfl, by decide +kernel⟩

theorem witness_FloatLaneAndCopyFiringsComplete : ∃ (s : State) (n : Nat) (f : Firing) (a : Act) (row : OpRow) (x : Ins)
    (s1 s2 : State) (z : OpRes) (stores : List StoreRec) (effects : List Effect) (nd : Bool), Ready s n 0x100 f a row ∧
    Inputs s f a row 0 x s1 ∧ Stores s1 f a z.val stores effects nd s2 ∧ opFadd (opInputs f a x) = some z ∧
    enabledCauses a.mode false (orFlags z.flags) = [] ∧ Room s2 f stores.length effects :=
  ⟨st (fir 0x100 4 0 (some 0x3F800000) (some 0x3F800000) none), 1, fir 0x100 4 0 (some 0x3F800000) (some 0x3F800000) none, act 0,
    _, _, _, _, ⟨0x40000000, 4, [0]⟩, [], [], false, ready (by decide +kernel), inputs (by decide +kernel), rfl,
    by decide +kernel⟩

theorem witness_MicrocodedFiringsComplete :
    (∃ (s : State) (n : Nat) (f : Firing) (a : Act) (row : OpRow) (x0 x : Ins) (s1 s2 sx : State) (z : OpRes) (q : MicroSeq)
      (stores : List StoreRec) (effects : List Effect) (nd : Bool), Ready s n 0x00C f a row ∧ Inputs s f a row 0 x0 sx ∧
      Sequenced s f a 9 x0 q ∧ Inputs (s.useqFree f) f a row 0 x s1 ∧ Stores s1 f a z.val stores effects nd s2 ∧
      opDiv (opInputs f a x) = some z ∧ enabledCauses a.mode true (orFlags z.flags) = [] ∧ Room s2 f stores.length effects) ∧
    ∃ (s : State) (n : Nat) (f : Firing) (a : Act) (row : OpRow) (x0 : Ins) (sx : State) (q : MicroSeq), Ready s n 0x206 f a row ∧
      Inputs s f a row 0 x0 sx ∧ Sequenced s f a 5 x0 q ∧ Room (s.useqFree f) f 0 [] :=
  ⟨⟨stMicro (fir 0xC 1 0 (some 7) (some 2) none), 1, fir 0xC 1 0 (some 7) (some 2) none, act 0, _, _, _, _, _, _, ⟨3, 1, [0]⟩, _,
    [], [], false, ready (by decide +kernel), inputs (by decide +kernel), sequenced (by decide +kernel),
    inputs (by decide +kernel), rfl, by decide +kernel⟩,
   ⟨stMicro (fir 0x206 12 0 (some 0) none none), 1, fir 0x206 12 0 (some 0) none none, act 0, _, _, _, _,
    ready (by decide +kernel), inputs (by decide +kernel), sequenced (by decide +kernel), by decide +kernel⟩⟩

theorem witness_HandingFiringsComplete :
    (∃ (s s1 s2 : State) (n : Nat) (f : Firing) (a : Act) (row : OpRow) (x : Ins), Ready s n 0x000 f a row ∧
      Inputs s f a row 0 x s1 ∧ Stores s1 f a f.lv [] [] false s2 ∧ Room s2 f 0 []) ∧
    (∃ (s s1 s2 : State) (n : Nat) (f : Firing) (a : Act) (row : OpRow) (x : Ins), Ready s n 0x088 f a row ∧
      Inputs s f a row 3 x s1 ∧ Stores s1 f a x.l [] [] false s2 ∧ fld x.c 31 0 ≠ 0 ∧ Room s2 f 0 []) :=
  ⟨⟨st (fir 0 1 0 (some 7) none none), _, _, 1, fir 0 1 0 (some 7) none none, act 0, _, _, ready (by decide +kernel),
    inputs (by decide +kernel), rfl, by decide +kernel⟩,
   ⟨st (fir 0x88 1 0 (some 7) (some 8) (some 1)), _, _, 1, fir 0x88 1 0 (some 7) (some 8) (some 1), act 0, _, _,
    ready (by decide +kernel), inputs (by decide +kernel), rfl, by decide +kernel⟩⟩

theorem witness_SteeringFiringsComplete :
    (∀ p ∈ [(0x090, 0), (0x091, 1)], ∃ (s s1 : State) (n : Nat) (f : Firing) (a : Act) (row : OpRow) (x : Ins),
      Ready s n p.1 f a row ∧ Inputs s f a row 7 x s1 ∧ Room s1 f 0 []) ∧
    (∃ (s : State) (n : Nat) (f : Firing) (a : Act) (row : OpRow) (t : TVal),
      Ready s n 0x092 f a row ∧ f.inL = none ∧ f.inR = some t ∧ Room s f 0 []) ∧
    (∃ (s : State) (n : Nat) (f : Firing) (a : Act) (row : OpRow), Ready s n 0x282 f a row ∧ Room s f 0 []) := by
  refine ⟨fun p hp => ?_,
   ⟨st (fir 0x92 1 0 none (some 7) none), 1, fir 0x92 1 0 none (some 7) none, act 0, _, _, ready (by decide +kernel), rfl, rfl,
    by decide +kernel⟩,
   ⟨st (fir 0x282 1 5 (some 7) none none), 1, fir 0x282 1 5 (some 7) none none, act 0, _, ready (by decide +kernel),
    by decide +kernel⟩⟩
  refine ⟨st (fir p.1 1 0 (some 7) none (some p.2)), _, 1, fir p.1 1 0 (some 7) none (some p.2), act 0, _, _, ready ?_, inputs ?_, ?_⟩ <;>
    revert p <;> decide +kernel

/-- The reset state with a firing, its activation, and descriptor 5 in the bank: entry 0x200, frame of 64 bytes. -/
def stDesc (f : Firing) : State :=
  { st f with cfg := { Reset.cfg with bank := [(0x4000 + 16 * 5, 0x200), (0x4000 + 16 * 5 + 1, 64)] } }

/-- A FREEACT, whose word names no destination. -/
def freeFir : Firing := firing (encodeIWord ⟨0x281, 1, 0, mTOK, 0, 0xC000, 0xC000⟩) (some (tok 1 7)) none none

theorem witness_ContextFiringsComplete :
    (∃ (s : State) (n : Nat) (f : Firing) (a b : Act) (row : OpRow) (r : TVal), Ready s n 0x283 f a row ∧ f.inR = some r ∧
      stCtx r.st = true ∧ s.act? (fld r.v 15 0) = some b ∧ Room s f 0 []) ∧
    (∀ opc ∈ [0x284, 0x285], ∃ (s : State) (n : Nat) (f : Firing) (a : Act) (row : OpRow), Ready s n opc f a row ∧ Room s f 0 []) ∧
    (∃ (s : State) (n : Nat) (f : Firing) (a : Act) (row : OpRow), Ready s n 0x281 f a row ∧ Room s f 0 [.freeAct]) ∧
    (∃ (s : State) (n : Nat) (f : Firing) (a : Act) (row : OpRow) (e : Entry), Ready s n 0x280 f a row ∧
      bankEntry (s.bankOf a.epoch) f.iw.lit = some e) := by
  refine ⟨⟨st (firing (tokWord 0x283 1 0) (some (tok 1 7)) (some ctxTok) none), 1,
    firing (tokWord 0x283 1 0) (some (tok 1 7)) (some ctxTok) none, act 0, act 0, _, ctxTok, ready (by decide +kernel), rfl,
    by decide +kernel⟩, fun p hp => ?_,
   ⟨st freeFir, 1, freeFir, act 0, _, ready (by decide +kernel), by decide +kernel⟩,
   ⟨stDesc (fir 0x280 1 5 (some 7) none none), 1, fir 0x280 1 5 (some 7) none none, act 0, _, ⟨0, 0x200, 0, 64, false, false, 0, 0,
    [(0, 0), (0, 0), (0, 0), (0, 0)]⟩, ready (by decide +kernel), by decide +kernel⟩⟩
  refine ⟨st (fir p 1 0 (some 7) none none), 1, fir p 1 0 (some 7) none none, act 0, _, ready ?_, ?_⟩ <;> revert p <;> decide +kernel

theorem witness_SchedulerFiringsComplete :
    (∀ p ∈ [(0x2E0, 1), (0x2E1, 1), (0x1C8, 1), (0x2F0, 0), (0x2E8, 0), (0x2EC, 1), (0x308, 2)], ∃ (s : State) (n : Nat) (f : Firing)
      (a : Act) (row : OpRow), Ready s n p.1 f a row ∧ f.ctxBad 0 = false ∧ Room s f 0 [.crumb 0x04 0 0] ∧
      s.delayUsed + (f.outsAB (f.handL false)).length ≤ 16384 ∧ s.fenced (s.cseq + 1) true = true) := by
  intro p hp
  refine ⟨st (fir p.1 1 p.2 (some 7) none none), 1, fir p.1 1 p.2 (some 7) none none, act 0, _, ready ?_, ?_⟩ <;>
    revert p <;> decide +kernel

/-- A live graph-to-engine channel of 4-byte words, handle 1, and the output binding 3 that names it. -/
def chan1 (kind : Nat) : Chan :=
  { index := 1, gen := 0, live := true, freedAt := 0, tcls := true, width := 4, maxlen := 16, pkind := pkGraph, punit := 0,
    ckind := kind, cunit := 0, qblk := 1, ovf := 0, ndlog := 6, tmo := 0, evlvl := 0, iseq := 0, items := [], readPos := 0,
    last := 0, tailT := 0, stale := false, wasRst := false, resetting := false, windows := [], doneT := none, recHi := 0,
    acc := List.replicate 8 0, kth := [], granted := 0, openT := 0,
    ptrs := ⟨0, 0, 0, 0, 0⟩, ptrsInv := (⟨0, 0, 0, 0, 0⟩ : QPtrs).inverse }

def stChan (kind : Nat) (f : Firing) : State :=
  { st f with
    chans := [chan1 kind]
    cfg := { Reset.cfg with bank := [(1, 0x8000000100000000), (0x801, 0x8000000100000000)] } }

theorem witness_ChannelFiringsComplete :
    (∀ opc ∈ [0x2C0, 0x2C1, 0x2C2], ∃ (s : State) (n : Nat) (f : Firing) (a : Act) (row : OpRow) (h : Nat) (c : Chan),
      Ready s n opc f a row ∧ f.ctxBad 1 = false ∧ s.outBinding a.epoch f.iw.lit = some h ∧ s.chan? h = some c ∧ c.width = f.size ∧
      stCtx f.ltok.st = false ∧ s.openLen c.handle a.id f.slot f.inc < c.maxlen ∧
      s.canAppend c (.graph a.id f.slot f.inc) = true ∧ Room s f 0 [.chSend c.handle 7 true false]) ∧
    (∃ (s : State) (n : Nat) (f : Firing) (a : Act) (row : OpRow) (h : Nat) (c : Chan), Ready s n 0x2C4 f a row ∧
      f.ctxBad 0 = false ∧ s.inBinding a.epoch f.iw.lit = some h ∧ s.chan? h = some c ∧ c.ckind = ckPoll ∧ c.width = f.size ∧
      Room s f 0 []) := by
  refine ⟨fun p hp => ?_, ⟨stChan ckPoll (fir 0x2C4 1 3 (some 7) none none), 1, fir 0x2C4 1 3 (some 7) none none, act 0, _, 1,
    chan1 ckPoll, ready (by decide +kernel), by decide +kernel⟩⟩
  refine ⟨stChan ckEngine (fir p 1 3 (some 7) none none), 1, fir p 1 3 (some 7) none none, act 0, _, 1, chan1 ckEngine,
    ready ?_, ?_⟩ <;> revert p <;> decide +kernel

/-- Lock 5 with a holder. -/
def lock5 (o : Option Owner) : Lock :=
  { k := 5, holder := o, base := 0, resv := false, aband := false, abandBefore := false, withheld := false, forSlot := 0,
    waiters := [] }

def stLock (o : Option Owner) (f : Firing) : State := { st f with locks := [lock5 o] }

theorem witness_LockFiringsComplete :
    (∀ opc ∈ [0x2D0, 0x2D1], ∃ (s : State) (n : Nat) (f : Firing) (a : Act) (row : OpRow), Ready s n opc f a row ∧
      f.ctxBad 0 = false ∧ f.granted = none ∧ (s.lockAt (f.iw.lit % 1024)).holder = none ∧
      (s.lockAt (f.iw.lit % 1024)).withheld = false ∧ (s.lockAt (f.iw.lit % 1024)).waiters = [] ∧
      Room s f 0 [.lockHold (f.iw.lit % 1024)]) ∧
    (∃ (s : State) (n : Nat) (f : Firing) (a : Act) (row : OpRow) (o : Owner), Ready s n 0x2D1 f a row ∧ f.ctxBad 0 = false ∧
      f.granted = none ∧ (s.lockAt (f.iw.lit % 1024)).holder = some o ∧ o ≠ ⟨f.tile, f.act⟩ ∧ Room s f 0 []) ∧
    (∃ (s : State) (n : Nat) (f : Firing) (a : Act) (row : OpRow), Ready s n 0x2D2 f a row ∧ f.ctxBad 0 = false ∧
      (s.lockAt (f.iw.lit % 1024)).holder = some ⟨f.tile, f.act⟩ ∧ (s.lockAt (f.iw.lit % 1024)).resv = false ∧
      Room s f 0 [.lockRel (f.iw.lit % 1024)]) ∧
    (∃ (s : State) (n : Nat) (f : Firing) (a : Act) (row : OpRow) (r : TVal), Ready s n 0x2D3 f a row ∧ f.inR = some r ∧
      stCtx r.st = true ∧ f.ctxBad 3 = false ∧ (s.lockAt (f.iw.lit % 1024)).holder = some ⟨f.tile, f.act⟩ ∧
      (s.lockAt (f.iw.lit % 1024)).resv = false ∧ Room s f 0 [.lockHand (f.iw.lit % 1024) 1]) := by
  refine ⟨fun p hp => ?_,
    ⟨stLock (some ⟨0x19, 0⟩) (fir 0x2D1 1 5 (some 7) none none), 1, fir 0x2D1 1 5 (some 7) none none, act 0, _, ⟨0x19, 0⟩,
      ready (by decide +kernel), by decide +kernel⟩,
    ⟨stLock (some ⟨0, 1⟩) (fir 0x2D2 1 5 (some 7) none none), 1, fir 0x2D2 1 5 (some 7) none none, act 0, _,
      ready (by decide +kernel), by decide +kernel⟩,
    ⟨stLock (some ⟨0, 1⟩) (firing (tokWord 0x2D3 1 5) (some (tok 1 7)) (some ctxTok) none), 1,
      firing (tokWord 0x2D3 1 5) (some (tok 1 7)) (some ctxTok) none, act 0, _, ctxTok, ready (by decide +kernel), rfl,
      by decide +kernel⟩⟩
  refine ⟨stLock none (fir p 1 5 (some 7) none none), 1, fir p 1 5 (some 7) none none, act 0, _, ready ?_, ?_⟩ <;>
    revert p <;> decide +kernel

/-- 64 MiB of SDRAM, a base of 4 KiB at 0x2000 with its presence map 0x800 above, the line at 0x2000 in the PE's L1, and a
presence state of cell 0. -/
def stMem (cell : Byte) (f : Firing) : State :=
  { ((st f).rset Reg.SDC_CAPACITY 0x8000000) with
    acts := [{ act 0 with bases := [(0xC000000000002000, 0x0000080000001000)] }]
    mem := { Reset.mem with sdram := if cell = 0 then [] else [(0x2800, cell)], l1d := [⟨0, 0, 0x80, 42⟩] } }

def memFir (opc mode lit : Nat) : Firing :=
  firing (encodeIWord ⟨opc, 1, 0, mode, lit, 0x0002, 0xC000⟩) (some (tok 1 0)) (some (tok 1 0)) none

def actMem : Act := { act 0 with bases := [(0xC000000000002000, 0x0000080000001000)] }

theorem test_load : ((after (Sys2Proof.Machine.exec (.fireLoad 1) (stMem 0 (memFir 0x1C0 mMEMR 0)))).firing? 1).map
    (fun f => (f.stage, f.outs.map (·.tv.v))) = some (.executed, [42]) := by decide +kernel

theorem test_copy : ((after (Sys2Proof.Machine.exec (.fireCopy 1) (stMem 0
    (firing (encodeIWord ⟨0x1C3, 1, 0, mMEM2S, 0, 2, 0⟩) (some (tok 1 0)) (some (tok 1 0)) none)))).firing? 1).map
    (fun f => (f.outs.map (·.tv.v), f.stores)) = some ([42], [⟨0x2008, 0, [42, 0, 0, 0], none⟩]) := by decide +kernel

theorem test_store : ((after (Sys2Proof.Machine.exec (.fireStore 1) (stMem 0
    (firing (encodeIWord ⟨0x1C1, 1, 0, mSTO, 1, 2, 0xC000⟩) (some (tok 1 0x1234)) none none)))).firing? 1).map
    (fun f => f.stores) = some [⟨0x2004, 0, [0x34, 0x12, 0, 0], none⟩] := by decide +kernel

theorem test_storex : ((after (Sys2Proof.Machine.exec (.fireStorex 1) (stMem 0
    (firing (encodeIWord ⟨0x1C2, 1, 0, mSTOX, 1, 2, 0xC000⟩) (some (tok 1 5)) (some (tok 1 2)) none)))).firing? 1).map
    (fun f => f.stores) = some [⟨0x200C, 0, [5, 0, 0, 0], none⟩] := by decide +kernel

theorem witness_MemoryCellFiringsComplete :
    (∃ (s s1 s2 : State) (n : Nat) (f : Firing) (a : Act) (row : OpRow) (l : Loc) (cell : Nat × Nat) (g : Got),
      Ready s n 0x1C4 f a row ∧ s.addrOf f a (desc12 f.iw.lit) f.size 0 = (.ok l, s1) ∧ s1.graphLoad f l f.size = (.ok g, s2) ∧
      f.ctxBad 0 = false ∧ f.iw.mode ≠ mIDXR ∧ s1.cellOf a (desc12 f.iw.lit) l f.size = some cell ∧ s1.cellState cell = 2 ∧
      s1.cellBad l f.size = [] ∧ Room s2 f 0 []) ∧
    (∃ (s s1 : State) (n : Nat) (f : Firing) (a : Act) (row : OpRow) (l : Loc) (cell : Nat × Nat),
      Ready s n 0x1C4 f a row ∧ s.addrOf f a (desc12 f.iw.lit) f.size 0 = (.ok l, s1) ∧ f.ctxBad 0 = false ∧ f.iw.mode ≠ mIDXR ∧
      s1.cellOf a (desc12 f.iw.lit) l f.size = some cell ∧ s1.cellState cell = 1 ∧ s1.cellBad l f.size = [] ∧
      (s1.deferred.filter (fun d => decide (d.slice = s1.cellSlice l.addr))).length < 8192 ∧ Room s1 f 0 []) ∧
    (∃ (s s1 : State) (n : Nat) (f : Firing) (a : Act) (row : OpRow) (l : Loc) (cell : Nat × Nat),
      Ready s n 0x1C5 f a row ∧ s.addrOf f a (desc12 f.iw.lit) f.size 0 = (.ok l, s1) ∧ f.ctxBad 0 = false ∧ f.iw.mode ≠ mSTOX ∧
      s1.cellOf a (desc12 f.iw.lit) l f.size = some cell ∧ s1.cellStateOf f cell ≠ 2 ∧ s1.cellStateOf f cell ≠ 3 ∧
      (s1.storeTo l f.iw.ty (natToBytes f.size f.lv.toNat) (some cell)).1 = [] ∧ s1.touchesHeader cell.1 8 = false ∧
      Room s1 f 1 []) ∧
    (∀ opc ∈ [0x1CD, 0x1CC], ∃ (s s1 : State) (n : Nat) (f : Firing) (a : Act) (row : OpRow) (l : Loc), Ready s n opc f a row ∧
      s.addrOf f a (desc12 f.iw.lit) f.size 0 = (.ok l, s1) ∧ f.ctxBad 0 = false ∧ f.iw.mode ≠ mIDXR ∧
      touchesCsr l.addr f.size = false ∧ l.device = s1.localId ∧ s1.accessKind l.addr f.size = .sdram ∧
      s1.splitDiffers l.addr f.size = false ∧ (∀ x ∈ s1.mem.fills, x.line ≠ l.addr / 64) ∧ Room s1 f 0 []) := by
  refine ⟨⟨stMem 2 (memFir 0x1C4 mMEMR 0x600), stMem 2 (memFir 0x1C4 mMEMR 0x600), stMem 2 (memFir 0x1C4 mMEMR 0x600), 1,
      memFir 0x1C4 mMEMR 0x600, actMem, _, ⟨0, 0x2000, false⟩, (0x2800, 0), ⟨42, false⟩, ready (by decide +kernel),
      by decide +kernel⟩,
    ⟨stMem 1 (memFir 0x1C4 mMEMR 0x600), stMem 1 (memFir 0x1C4 mMEMR 0x600), 1,
      memFir 0x1C4 mMEMR 0x600, actMem, _, ⟨0, 0x2000, false⟩, (0x2800, 0), ready (by decide +kernel), by decide +kernel⟩,
    ⟨stMem 0 (memFir 0x1C5 mSTO 0x600), stMem 0 (memFir 0x1C5 mSTO 0x600), 1,
      memFir 0x1C5 mSTO 0x600, actMem, _, ⟨0, 0x2000, false⟩, (0x2800, 0), ready (by decide +kernel), by decide +kernel⟩,
    fun p hp => ?_⟩
  refine ⟨stMem 0 (memFir p mMEMR 0), stMem 0 (memFir p mMEMR 0), 1, memFir p mMEMR 0, actMem, _, ⟨0, 0x2000, false⟩, ready ?_, ?_⟩ <;>
    revert p <;> decide +kernel

/-- The same with a base at the start of the scratch window, whose first way is locked for it. -/
def scratchAct : Act := { act 0 with bases := [(w64 (0xC000000000000000 + scratchBase), 0x1000)] }
def stScratch (f : Firing) : State := { (stMem 0 f).rset (Reg.L2C_LOCK 0) 0x100000000 with acts := [scratchAct] }

theorem witness_ScratchMaintenance : ∃ (s s1 : State) (n : Nat) (f : Firing) (a : Act) (row : OpRow) (l : Loc),
    Ready s n 0x1CC f a row ∧ s.addrOf f a (desc12 f.iw.lit) f.size 0 = (.ok l, s1) ∧ f.ctxBad 0 = false ∧ f.iw.mode ≠ mIDXR ∧
    touchesCsr l.addr f.size = false ∧ l.device = s1.localId ∧ s1.accessKind l.addr f.size = .scratch ∧ Room s1 f 0 [] :=
  ⟨stScratch (memFir 0x1CC mMEMR 0), stScratch (memFir 0x1CC mMEMR 0), 1, memFir 0x1CC mMEMR 0, scratchAct, _,
    ⟨0, scratchBase, false⟩, ready (by decide +kernel), by decide +kernel⟩

/-- A firing whose activation enables the inexact trap (bit 9) or all traps, with or without a handler. -/
def stTrap (mode : BitVec 16) (f : Firing) : State := { st f with acts := [act mode] }

theorem witness_EnabledTrapsDeliverAnExceptionToken :
    (∃ (s s1 s2 : State) (n : Nat) (f : Firing) (a : Act) (row : OpRow) (x : Ins) (z : OpRes) (cause : Nat),
      Ready s n 0x100 f a row ∧ Inputs s f a row 0 x s1 ∧ Stores s1 f a z.val [] [] false s2 ∧
      opFadd (opInputs f a x) = some z ∧ firstCause (enabledCauses a.mode false (orFlags z.flags)) = some cause ∧
      Room s2 f 0 [.noHandler]) ∧
    (∃ (s : State) (n : Nat) (f : Firing) (a : Act), s.dead = false ∧ s.firing? n = some f ∧ f.stage = .dispatched ∧
      State.canGo f.wait = true ∧ s.tileFenced f.tile = false ∧ legalRow f.iw (s.arityOf f.epoch f.word) = none ∧
      s.act? f.act = some a ∧ a.state ≠ .quarantined ∧ Room s f 0 [.noHandler]) :=
  ⟨⟨stTrap 0x0020 (fir 0x100 4 0 (some 0x3F800000) (some 0x30000000) none), _, _, 1,
      fir 0x100 4 0 (some 0x3F800000) (some 0x30000000) none, act 0x0020, _, _, ⟨0x3F800000, 4, [flNX]⟩, cNX,
      ready (by decide +kernel), inputs (by decide +kernel), rfl, by decide +kernel⟩,
   ⟨st (fir 0x3A0 1 0 (some 7) none none), 1, fir 0x3A0 1 0 (some 7) none none, act 0, by decide +kernel⟩⟩

/-- The exception token of a divide by zero with the handler set, R200. -/
theorem test_trap_token : ((after (Sys2Proof.Machine.exec (.fireFadd 1) (stTrap 0x0024 (fir 0x100 4 0 (some 0x3F800000)
    (some 0x30000000) none)))).firing? 1).map (fun f => (f.outs.map (fun o => stExc o.tv.st), f.effects)) =
    some ([true], []) := by decide +kernel

theorem test_trap_without_handler : ((after (Sys2Proof.Machine.exec (.fireFadd 1) (stTrap 0x0020 (fir 0x100 4 0 (some 0x3F800000)
    (some 0x30000000) none)))).firing? 1).map (fun f => (f.outs, f.effects)) = some ([], [.noHandler]) := by decide +kernel

theorem test_illegal_encoding : ((after (Sys2Proof.Machine.exec (.fireIllegalEncoding 1)
    (st (fir 0x3A0 1 0 (some 7) none none)))).firing? 1).map (fun f => (f.outs, f.effects)) = some ([], [.noHandler]) := by
  decide +kernel

/-- A bank whose group 0 has device 0 as its only member, and remote binding 3 set for inbound entry 2 of device 9. -/
def stGroup (f : Firing) : State :=
  { st f with
    cfg := { Reset.cfg with bank := [(0x1001, 0x8009000200000000), (0x1900, 0x9000000000000000), (0x1940, 1)] }
    fab := { Reset.fabric with binds := [⟨9, 2, 1, false, false⟩], links := updAt Reset.fabric.links 6 (fun l => { l with state := .up }) } }

/-- The same with device 9 as the group's other member, which can be reached unless it is lost. -/
def stPair (lost : List Nat) (f : Firing) : State :=
  { stGroup f with
    cfg := { Reset.cfg with bank := [(0x1001, 0x8009000200000000), (0x1900, 0xB000090000000000), (0x1940, 1)] }
    fab := { (stGroup f).fab with lost := lost } }

theorem witness_FabricFiringsComplete :
    (∃ (s : State) (n : Nat) (f : Firing) (a : Act) (row : OpRow) (me : Nat), Ready s n 0x300 f a row ∧ f.ctxBad 0 = false ∧
      (bankGroup (s.bankOf f.epoch) f.vkey.group).local s.localId = some me ∧
      (bankGroup (s.bankOf f.epoch) f.vkey.group).members = [me] ∧ s.voteRec? f.vkey = none ∧ s.votesOf f.vkey = [] ∧
      Room s f 0 []) ∧
    (∃ (s : State) (n : Nat) (f : Firing) (a : Act) (row : OpRow) (me o : Nat), let g := bankGroup (s.bankOf f.epoch) f.vkey.group
      Ready s n 0x300 f a row ∧ f.ctxBad 0 = false ∧ g.local s.localId = some me ∧
      g.members.filter (fun x => decide (x ≠ me)) = [o] ∧ s.unreachable (nth g.mems o 0) = false ∧ s.voteRec? f.vkey = none ∧
      s.votesOf f.vkey = [] ∧ s.fab.waiting = [] ∧ s.retainUsed + 5 ≤ 16384) ∧
    (∀ lost ∈ [false, true], ∃ (s : State) (n : Nat) (f : Firing) (a : Act) (row : OpRow) (w d i : Nat), Ready s n 0x304 f a row ∧
      f.ctxBad 0 = false ∧ w = s.remoteBinding a.epoch (f.iw.lit % 4096) ∧ d = natField w 25 16 ∧ i = natField w 7 0 ∧
      w.testBit 31 = true ∧ f.size = 4 * 2 ^ natField w 15 14 ∧ (s.rsBind d i).refused = false ∧ s.deviceLost d = lost ∧
      s.rsPending d i < (s.rsBind d i).credits ∧ Room s f 0 [.rsLost d] ∧
      Room s f 0 [.rsend d i (w.testBit 30) (f.lv.toNat % 2 ^ (8 * f.size)) f.size]) ∧
    (∃ (s s1 : State) (n : Nat) (f : Firing) (a : Act) (row : OpRow) (x : Ins), Ready s n f.iw.opc f a row ∧
      Inputs s f a row 0 x s1 ∧ 0x3C0 ≤ f.iw.opc ∧ (s1.linkAt 6).state = .up ∧ s1.xOf f = none ∧ s1.xreqs.length < 1024) := by
  refine ⟨⟨stGroup (fir 0x300 1 0 (some 7) (some 1) none), 1, fir 0x300 1 0 (some 7) (some 1) none, act 0, _, 0,
      ready (by decide +kernel), by decide +kernel⟩,
    ⟨stPair [] (fir 0x300 1 0 (some 7) (some 1) none), 1, fir 0x300 1 0 (some 7) (some 1) none, act 0, _, 0, 1,
      ready (by decide +kernel), by decide +kernel⟩, fun p hp => ?_,
    ⟨stGroup (fir 0x3C0 1 0 (some 7) none none), _, 1, fir 0x3C0 1 0 (some 7) none none, act 0, _, _, ready (by decide +kernel),
      inputs (by decide +kernel), by decide +kernel⟩⟩
  refine ⟨stPair (if p then [9] else []) (fir 0x304 1 3 (some 7) none none), 1, fir 0x304 1 3 (some 7) none none, act 0, _,
    0x80090002, 9, 2, ready ?_, ?_⟩ <;> revert p <;> decide +kernel
/-- An outstanding request 5 of firing 1, opened at time 0; `ab` where its firing is gone. -/
def asked (ab : Bool) : XReq := { reqid := 5, firing := 1, since := 0, aband := ab, l := 7, r := 0, c := 0 }
def stAsked (f : Firing) : State := { stGroup f with xreqs := [asked false], clock := 1000000000 }

/-- A RESULT reply to request 5 with an output for A, of TYPE u32, and a FAULT reply. -/
def reply5 : BitVec 128 := BitVec.ofNat 128 (5 * 2 ^ 113 + 2 ^ 109 + 1 * 2 ^ 104)
def fault5 : BitVec 128 := BitVec.ofNat 128 (5 * 2 ^ 113 + 2 ^ 110 + 9)

/-- The firing that waits for it. -/
def extFir : Firing := { fir 0x3C0 1 0 (some 7) none none with wait := .xreply }

theorem test_ext_reply : ((after (Sys2Proof.Machine.exec (.extReply [reply5, 42, 0]) (stAsked extFir))).firing? 1).map
    (fun f => (f.stage, f.outs.map (·.tv.v))) = some (.executed, [42]) := by decide +kernel

theorem witness_RepliesEndTheirFirings :
    (∀ h ∈ [(reply5, 2), (fault5, 0)], ∃ (s : State) (x : XReq) (f : Firing) (a : Act), s.dead = false ∧
      s.xreqs.find? (fun y => decide (y.reqid = fld h.1 127 113)) = some x ∧ x.aband = false ∧ fld h.1 107 104 ≤ 0xD ∧
      h.2 = 2 * (b2n (bit h.1 109) + b2n (bit h.1 108)) ∧ s.firing? x.firing = some f ∧ f.id = x.firing ∧ s.act? f.act = some a ∧
      (legalRow f.iw (s.arityOf f.epoch f.word)).isSome = true ∧
      enabledCauses a.mode false (BitVec.ofNat 7 (fld h.1 103 97)) = [] ∧ Room s f 0 [.noHandler]) ∧
    (∃ (s : State) (h : BitVec 128), s.dead = false ∧ s.xreqs ≠ [] ∧ ∀ y ∈ s.xreqs, y.reqid ≠ fld h 127 113) ∧
    (∃ (s : State) (n : Nat) (x : XReq) (f : Firing) (a : Act), s.dead = false ∧ s.xreqs[n]? = some x ∧ x.aband = false ∧
      x.since + clampNat 10 1000000 (s.rfld Reg.FAB_XTMO 19 0) * 1000 ≤ s.clock ∧ s.firing? x.firing = some f ∧
      s.act? f.act = some a ∧ Room s f 0 [.noHandler]) ∧
    (∃ (s : State) (n : Nat) (x : XReq), s.dead = false ∧ s.xreqs[n]? = some x ∧ x.aband = true ∧
      x.since + clampNat 10 1000000 (s.rfld Reg.FAB_XTMO 19 0) * 1000 ≤ s.clock) ∧
    (∃ (s : State) (n : Nat) (f : Firing) (r : VoteRec) (me : Nat), s.dead = false ∧ s.firing? n = some f ∧ f.wait = .vote ∧
      s.voteRec? f.vkey = some r ∧ r.since + clampNat 10 100000 (s.rfld Reg.FAB_VOTE_TMO 19 0) * 1000 ≤ s.clock ∧ r.part = none ∧
      (bankGroup (s.bankOf f.epoch) f.vkey.group).local s.localId = some me ∧ Room s f 0 []) := by
  refine ⟨fun h hh => ⟨stAsked extFir, asked false, extFir, act 0, ?_⟩, ⟨stAsked extFir, 0, by decide +kernel⟩,
    ⟨stAsked extFir, 0, asked false, extFir, act 0, by decide +kernel⟩,
    ⟨{ stAsked extFir with xreqs := [asked true] }, 0, asked true, by decide +kernel⟩,
    ⟨{ stAsked { fir 0x300 1 0 (some 7) (some 1) none with wait := .vote } with
        voteRecs := [⟨0, 0, 0x100, 0, 1, 1, 0, none, 0⟩] }, 1, { fir 0x300 1 0 (some 7) (some 1) none with wait := .vote },
      ⟨0, 0, 0x100, 0, 1, 1, 0, none, 0⟩, 0, by decide +kernel⟩⟩
  revert h; decide +kernel

/-- Operands of an operation under round to nearest, without FTZ and DAZ. -/
def opnd (ty : Nat) (l r : Value) : OpIn := ⟨⟨.rne, false, false⟩, ty, 0, ty, l, r, 0⟩

theorem witness_IntegerLanesWrapOrClamp : (∀ ty ∈ [0, 1, 2, 3, 6, 7, 0xA, 0xB], IntType (opnd ty 0 0).ty) ∧
    ¬ Fits (opnd 0 0x7FFFFFFF 1) (laneVal (opnd 0 0x7FFFFFFF 1) 0x7FFFFFFF 0 + 1) ∧
    Fits (opnd 0xB 0x7F 0) (laneVal (opnd 0xB 0x7F 0) 0x7F 0) := by decide +kernel

theorem witness_DivisionAndHighProductLanes : IntType (opnd 0 0x80000000 0xFFFFFFFF).ty ∧
    laneVal (opnd 0 0 0) 0xFFFFFFFF 0 = -1 ∧ laneVal (opnd 0 0 0) 0 0 = 0 ∧
    laneMax (laneSigned 0) 32 < Int.tdiv (laneVal (opnd 0 0 0) 0x80000000 0) (laneVal (opnd 0 0 0) 0xFFFFFFFF 0) := by
  decide +kernel

/-- Table 6.1: a zero divisor gives MAX for a positive and MIN for a negative dividend; the remainder is L. -/
theorem test_division_by_zero : (opDiv (opnd 0 7 0)).map (fun z => (z.val, z.flags)) = some (0x7FFFFFFF, [flDZ]) ∧
    (opDiv (opnd 0 0xFFFFFFF9 0)).map (·.val) = some 0x80000000 ∧ (opRem (opnd 0 7 0)).map (·.val) = some 7 ∧
    (opDiv (opnd 0 0x80000000 0xFFFFFFFF)).map (fun z => (z.val, z.flags)) = some (0x80000000, [flV]) := by decide +kernel

theorem witness_BitwiseLanes : IntType (opnd 0xA 1 16).ty ∧ (tyInfo 0xA).w = 16 ∧ 15 < (tyInfo 0xA).lanes := by decide +kernel

/-- A shift amount is not masked (Table 6.2). -/
theorem test_shift_amounts : (opShl (opnd 1 1 32)).map (·.val) = some 0 ∧ (opShr (opnd 1 0x80000000 32)).map (·.val) = some 0 ∧
    (opSar (opnd 0 0x80000000 100)).map (·.val) = some 0xFFFFFFFF ∧ (opRol (opnd 1 5 32)).map (·.val) = some 5 := by decide +kernel

theorem witness_ComparesFollowTheirRelation : IntType (opnd 0 1 2).ty ∧ (tyInfo 0).lanes = 1 ∧ (tyInfo 7).lanes ≠ 1 ∧
    (tyFmt 4).isNaN (lane (tyInfo 4).w 0 0x7FC00000) = true ∧ lane (tyInfo 4).w 0 0x80000000 = (tyFmt 4).signBit ∧
    lane (tyInfo 5).w 0 0x8000000000000000 = (tyFmt 5).signBit := by decide +kernel

/-- 1.5 + a NaN of f32 (R192), and 0x7F800001, a signalling NaN. -/
theorem witness_NanOperandsGiveTheirPayload : fmt32.isNaN 0x7FC01234 = true ∧ fmt32.isSNaN 0x7F800001 = true ∧
    0x7FC01234 < 2 ^ fmt32.width ∧ fmt32.isNaN 0xBF800000 = false ∧ fmt32.isNeg 0xBF800000 = true ∧
    dazOp fmt32 ⟨.rne, false, false⟩ 0xBF800000 ≠ fmt32.signBit := by decide +kernel

theorem test_nan_payload : fAdd fmt32 ⟨.rne, false, false⟩ 0x3FC00000 0x7F801234 = ⟨0x7FC01234, flNV⟩ := by decide +kernel

/-- 2^24 + 1 is not an f32: nearest even gives 2^24, up gives 2^24 + 2; beyond the largest finite number OF is raised. -/
theorem test_rounding : roundFin fmt32 ⟨.rne, false, false⟩ false 0x1000001 0 = ⟨0x4B800000, flNX⟩ ∧
    roundFin fmt32 ⟨.rup, false, false⟩ false 0x1000001 0 = ⟨0x4B800001, flNX⟩ ∧
    roundFin fmt32 ⟨.rtz, false, false⟩ true 1 200 = ⟨0xFF7FFFFF, flOF ||| flNX⟩ := by decide +kernel

theorem witness_RoundingIsCorrect : (⟨.rne, false, false⟩ : FEnv).ftz = false ∧ (0x1000001 : Nat) ≠ 0 ∧
    (roundFin fmt32 ⟨.rne, false, false⟩ false 0x1000001 0).flags &&& flOF = 0 ∧
    (roundFin fmt32 ⟨.rne, false, false⟩ false 1 (-150)).flags &&& flUF ≠ 0 ∧
    (roundFin fmt32 ⟨.rup, false, false⟩ false 1 200).flags &&& flOF ≠ 0 := by decide +kernel

/-- The reset state with registers set. -/
def regs (l : List (Nat × Word)) : State := l.foldl (fun s x => s.rset x.1 x.2) State.reset

/-- Service runs from time 10,000; the next tick is at 1,000,000 ns. -/
def stRun : State :=
  { regs [(Reg.TCK_CTRL, 5), (Reg.TCK_NEXT, 1000000)] with now := 1000000, tick := { Reset.tick with started := true } }

theorem witness_StepRunsTheFrontCommand : State.reset.pending = [] ∧ (State.reset.now + 1) % 1000 ≠ 0 ∧
    ({ State.reset with now := 999 }.now + 1) % 1000 = 0 := by decide +kernel

theorem test_decode_add_word : decodeIWord 0x0044000000020000 = ⟨1, 1, 0, 0, 0, 2, 0⟩ := by decide +kernel

theorem witness_InstructionWordRoundTrip : let i : IWord := ⟨1023, 15, 3, 15, 4095, 65535, 65535⟩
    i.opc < 1024 ∧ i.ty < 16 ∧ i.rnd < 4 ∧ i.mode < 16 ∧ i.lit < 4096 ∧ i.da < 65536 ∧ i.db < 65536 := by decide +kernel

theorem witness_SingleSymbolErrorsAreCorrected : (15 : BitVec 4) ≠ 0 ∧ (35 : Nat) < 36 ∧
    d144Check (d144Flip (d144Encode 1) 35 15) = .corrected 35 15 ∧ d144Check (d144Flip (d144Encode 1) 32 3) = .corrected 32 3 ∧
    (d144Syn (d144Flip (d144Encode 1) 32 3)).s0 = 0 ∧ (d144Syn (d144Flip (d144Flip (d144Encode 1) 0 1) 1 1)).s0 = 0 ∧
    d144Check (d144Flip (d144Flip (d144Encode 1) 0 1) 1 1) = .uncorrectable ∧
    d144Check (d144Flip (d144Flip (d144Encode 1) 0 1) 1 2) = .uncorrectable ∧
    (d144Syn (d144Flip (d144Flip (d144Encode 1) 0 1) 1 2)).s0 ≠ 0 := by decide +kernel

theorem witness_DoubleSymbolErrorsAreDetected : (0 : Nat) < 36 ∧ (35 : Nat) < 36 ∧ (0 : Nat) ≠ 35 ∧ (1 : BitVec 4) ≠ 0 ∧
    ((Sym4.scale 0 (d144Col 0)).add (Sym4.scale 0 (d144Col 1))).add (Sym4.scale 0 (d144Col 35)) = .zero := by decide +kernel

theorem witness_TicksAdvanceAndCloseWafers : stRun.dead = false ∧ stRun.running = true ∧ stRun.tick.started = true ∧
    (stRun.rget Reg.TCK_NEXT).toNat ≤ stRun.now ∧ { stRun with now := 999999 }.now < (stRun.rget Reg.TCK_NEXT).toNat ∧
    stRun.closed.length < 4096 ∧
    4096 ≤ { stRun with closed := List.replicate 4096 ⟨0, 0, 0, false, false⟩ }.closed.length := by decide +kernel

theorem test_tick_closes_wafer_0 : ((after (Sys2Proof.Machine.exec .tick stRun)).slotAt 0).closeT = 1000000 ∧
    ((after (Sys2Proof.Machine.exec .tick stRun)).slotAt 0).state ≠ 0 ∧
    (after (Sys2Proof.Machine.exec .tick stRun)).rget Reg.TCK_NEXT = 2000000 := by decide +kernel

/-- A closed wafer 0 that may be admitted. -/
def stClosed : State := { stRun with closed := [⟨0, 0, 1000000, false, false⟩] }

theorem witness_WafersAreAdmittedAndCommitInOrder : stClosed.dead = false ∧ stClosed.closed = [⟨0, 0, 1000000, false, false⟩] ∧
    stClosed.admitHeld = false ∧ (stClosed.slotAt 0).state = 0 ∧ stClosed.slots.length = 8 ∧ stRun.closed = [] ∧
    (after (Sys2Proof.Machine.exec .waferAdmit stClosed)).settle.commitDue = some 0 ∧
    ((after (Sys2Proof.Machine.exec .waferAdmit stClosed)).slotAt 0).state ≠ 0 ∧
    { stClosed with csr := (stClosed.rset Reg.TCK_CTRL 1).csr }.rbit Reg.TCK_CTRL 2 = false := by decide +kernel

theorem test_wafer_commit : ((after (Sys2Proof.Machine.exec .waferCommit (after (Sys2Proof.Machine.exec .waferAdmit stClosed)))).slotAt
    0).state = 0 := by decide +kernel

theorem witness_TimeCommandsActOnDeviceTime : State.reset.mayWrite 0x18 = true ∧ State.reset.running = false ∧
    State.reset.rbit Reg.FAB_CTRL 0 = false ∧ State.reset.rfld Reg.TCK_PERIOD 19 0 ≠ 0 ∧
    State.reset.now + 2000 * State.reset.rfld Reg.TCK_PERIOD 19 0 < 2 ^ 64 ∧ (regs [(Reg.FCL_STATUS, 8)]).dead = true ∧
    State.reset.dead = false ∧ State.reset.tick.shadowDue = false ∧ (regs [(Reg.TCK_CTRL, 0x40)]).rfld Reg.TCK_CTRL 7 6 ≠ 0 ∧
    State.reset.rfld Reg.TCK_CTRL 7 6 = 0 := by decide +kernel

/-- RUN at 1,500 ns with a period of 1,000 µs: the first tick is at 2,000,000 ns. -/
theorem test_tck_run : (after (Sys2Proof.Machine.exec (.tckRun 0x18 1) { State.reset with now := 1500 })).rget Reg.TCK_NEXT =
    2000000 := by decide +kernel

theorem witness_TimeCommandsActOnDeviceTime_period : stRun.dead = false ∧ stRun.running = true ∧
    (stRun.rget Reg.TCK_NEXT).toNat ≤ stRun.now ∧ State.reset.mayWrite 0x18 = true ∧ State.reset.locked = false ∧
    State.reset.follower = false ∧ 50 ≤ fld (50 : Word) 19 0 ∧ fld (1000000 : Word) 19 0 ≤ 1000000 ∧ fld (49 : Word) 19 0 < 50 ∧
    1000000 < fld (1000001 : Word) 19 0 ∧ (regs [(Reg.CFG_LOCK, 1)]).locked = true ∧
    (regs [(Reg.CFG_LOCK, 1)]).mayWrite 0x18 = true := by decide +kernel

/-- A transaction is armed for wafer 3. -/
def stArmed : State := { State.reset with cfg := { Reset.cfg with txn := .armed, whenAt := 3 } }

theorem witness_BankSwapsRaiseTheEpoch : (∀ x ∈ State.reset.staged, x.due = false) ∧ State.reset.cfg.txn ≠ .armed ∧
    stArmed.cfg.txn = .armed ∧ stArmed.cfg.late = false ∧ (2 : Nat) < stArmed.cfg.whenAt ∧ stArmed.cfg.whenAt ≤ 3 ∧
    stArmed.rget Reg.TCK_EPOCH = w64 stArmed.epochNow ∧ stArmed.epochNow < 2 ^ 32 - 1 ∧
    ({ stArmed with csr := (regs [(Reg.TCK_EPOCH, 0xFFFFFFFF)]).csr }.epochNow = 2 ^ 32 - 1) := by decide +kernel

theorem witness_MaximumReadsLeaveTheStandingQuantity : State.reset.mayRead 0x18 0 = true ∧ State.reset.mayRead 0x18 0x10 = true ∧
    State.reset.mayRead 0x18 0x1F = true ∧ State.reset.regFenced (Reg.TIL_READYQ_MAX 0) = false ∧
    State.reset.regFenced (Reg.PEX_INFLIGHT_MAX 0 0) = false ∧ State.reset.regFenced (Reg.MST_OCC_MAX 15) = false ∧
    State.reset.tileState 0 ≠ 3 ∧ State.reset.mayRead 0x18 8 = true ∧ State.reset.mayRead 0x18 2 = true ∧
    State.reset.mayRead 0x18 3 = true ∧ (regRowAt Reg.TCK_LAG_MAX).map (fun r => (r.rc, r.wo)) = some (true, false) ∧
    State.reset.regFenced Reg.TCK_LAG_MAX = false ∧ State.reset.regParked Reg.TCK_LAG_MAX = false := by decide +kernel

/-- READY, the PCIe link up. -/
def stHost : State :=
  { regs [(Reg.BOOT_STATUS, 0x5000000000000000), (Reg.PCI_STATUS, 0x111)] with boot := { Reset.boot with held := false } }

theorem witness_RegisterAccessByOtherMasters : State.reset.mayWrite 0x18 = true ∧ (regRowAt Reg.AFE_STATUS).isSome = true ∧
    (regs [(Reg.FCL_STATUS, 8)]).dead = true ∧ stHost.boot.held = false ∧ stHost.domOn 132 = true ∧ stHost.power.doze = 0 ∧
    stHost.rbit Reg.PCI_STATUS 8 = true ∧ stHost.mayRead 0x19 (regBlock (csrBase + 0)) = true ∧
    stHost.accessKind (csrBase + 0xFFFFF8) 8 = .device ∧ stHost.accessKind (csrBase + 0) 8 = .device ∧
    stHost.accessKind (stHost.rfld Reg.PCI_WIN 47 28 * 2 ^ 28 + 0) 8 = .hole ∧
    { State.reset with pins := { Reset.pins with i2c := 3 * 65536 + 8 } }.pins.i2c = 3 * 65536 + 8 := by decide +kernel

theorem test_pcie_read : (after (Sys2Proof.Machine.exec (.pcieRequest false false false (Reg.TCK_PERIOD - csrBase) 8 []) stHost)).pins.pcieData
    = [0xE8, 3, 0, 0, 0, 0, 0, 0] := by decide +kernel

theorem test_jtag_idcode : (after (Sys2Proof.Machine.exec .jtagIdcode State.reset)).lastRead = 0x0416095B := by decide +kernel


/-- A token of activation 1 for IADDR 0x100, port `p`, under incarnation `inc`. -/
def netTok (p inc : Nat) : Token :=
  { tag := mkTag 0 1 0 0 0x100 p, tv := tok 1 7, inc := inc, seq := 0, srcTile := 0, srcPe := 0, dtile := 0, cls := 0, barrier := 0,
    egress := false, src := 0, vc := 2, sent := 0, stray := false }

/-- The word `w` at IADDR 0x100, activation 1, a token in the network and entries in tile 0's store. -/
def stNet (w : Word) (k : Token) (m : List MEntry) : State :=
  { State.reset with
    code := [(0x100, w)], acts := [act 0], net := [k], mst := m
    cfg := { Reset.cfg with bank := [(0x1A00, 0x80000100000001FF)] } }

/-- An entry of activation 1 for IADDR 0x100 in a way, which holds its L token of the `need`. -/
def entryL (kind : MKind) (need : Nat) : MEntry :=
  { tile := 0, place := .way 0 0 0, key := tagKey (mkTag 0 1 0 0 0x100 0), kind := kind, p0 := 0, v0 := tok 1 5, p1 := 0, v1 := tok 1 0,
    p2 := 0, v2 := tok 1 0, need := need, count := 1, inc := 0, wafer := 0, live := 0, head := 0, tail := 0, heldIter := 0 }

def addWord : Word := tokWord 0x001 1 0
def movWord : Word := tokWord 0x000 1 0

theorem accepted {s : State} {t n : Nat} {k : Token} {a : Act}
    (h : s.dead = false ∧ s.netTok t n = some k ∧ s.mayArrive t k = true ∧ k.inc = (s.slotAt (tagSlot k.tag)).inc ∧ tagPort k.tag ≠ 3 ∧
      tagDevice k.tag = s.localId ∧ s.act? (tagAct k.tag) = some a ∧ a.state = .live) : Accepted s t n k a := by
  obtain ⟨h1, h2, h3, h4, h5, h6, h7, h8⟩ := h
  exact ⟨h1, h2, h3, h4, h5, h6, h7, h8⟩

theorem witness_TokensMatchInTheStore :
    (let s := stNet movWord (netTok 0 1) []
     s.dead = false ∧ s.netTok 0 0 = some (netTok 0 1) ∧ s.mayArrive 0 (netTok 0 1) = true ∧
       (netTok 0 1).inc ≠ (s.slotAt (tagSlot (netTok 0 1).tag)).inc) ∧
    (let k := { netTok 0 0 with vc := 0 }
     (stNet movWord k []).netTok 0 0 = some k ∧ (stNet movWord k []).mayArrive 0 k = false) ∧
    (∀ p ∈ [0, 1], Accepted (stNet movWord (netTok p 0) []) 0 0 (netTok p 0) (act 0)) ∧
    (stNet movWord (netTok 0 0) []).tokenMatch (act 0) (netTok 0 0) = .need 1 ∧
    (stNet movWord (netTok 0 0) []).readyRoom 0 = true ∧
    (let s := stNet addWord (netTok 1 0) []
     s.tokenMatch (act 0) (netTok 1 0) = .need 3 ∧ KeyFree s 0 (tagKey (netTok 1 0).tag) ∧ FreeWay s 0 (tagKey (netTok 1 0).tag) 0) ∧
    ((entryL .operand 3).at (tagPort (netTok 0 0).tag) ≠ none ∧ (entryL .operand 3).at (tagPort (netTok 2 0).tag) = none ∧
      (entryL .operand 3).need.testBit (tagPort (netTok 2 0).tag) = false) ∧
    (∀ m ∈ [3, 7], let s := stNet addWord (netTok 1 0) [entryL .operand m]
     (entryL .operand m).at (tagPort (netTok 1 0).tag) = none ∧ (entryL .operand m).need.testBit (tagPort (netTok 1 0).tag) = true ∧
       (entryL .operand m).count < 3 ∧ ((entryL .operand m).add (tagPort (netTok 1 0).tag) (netTok 1 0).tv).full = decide (m = 3) ∧
       s.mstFind 0 (tagKey (netTok 1 0).tag) 0 State.isPair = some (entryL .operand m) ∧ (entryL .operand m).inStore = true ∧
       s.readyRoom 0 = true) ∧
    (let s := { stNet movWord (netTok 0 0) [] with acts := [] }
     s.netTok 0 0 = some (netTok 0 0) ∧ s.mayArrive 0 (netTok 0 0) = true ∧ s.act? (tagAct (netTok 0 0).tag) = none ∧
       s.rbit (Reg.TIL_CTRL 0) 0 = false) ∧
    (stNet movWord (netTok 3 0) []).mayArrive 0 (netTok 3 0) = true := by
  refine ⟨by decide +kernel, by decide +kernel, fun p hp => accepted ?_, by decide +kernel, by decide +kernel, ?_, ?_⟩
  · revert p; decide +kernel
  all_goals decide +kernel

/-- R49: the second token of a pair makes the firing with both inputs, and the entry goes. -/
theorem test_pair_fires : let s := after (Sys2Proof.Machine.exec (.tokenArrival 0 0) (stNet addWord (netTok 1 0) [entryL .operand 3]))
    (s.firings.map (fun f => (f.inL, f.inR, f.word)), s.mst, s.net) = ([(some (tok 1 5), some (tok 1 7), addWord)], [], []) := by
  decide +kernel

/-- R51: a token for a port that the entry holds already. -/
theorem test_collide : let s := after (Sys2Proof.Machine.exec (.tokenArrival 0 0) (stNet addWord (netTok 0 0) [entryL .operand 3]))
    (s.acts.map (·.state), s.rget (Reg.TIL_BADPORT 0)) = ([.quarantined], 1) := by decide +kernel

def fanWord : Word := encodeIWord ⟨0x288, 1, 0, mTOK, 0, 2, 3⟩
def gateWord : Word := tokWord 0x093 1 4

/-- A GATESTATE entry of the loop gate at IADDR 0x100. -/
def gateEntry (live : Nat) : MEntry := { entryL .gateState 0 with key := State.gateKey (netTok 0 0).tag, count := 0, live := live }

theorem witness_FanAndLoopgateWorkInTheStore :
    (let s := stNet fanWord (netTok 0 0) []
     Accepted s 0 0 (netTok 0 0) (act 0) ∧ s.tokenMatch (act 0) (netTok 0 0) = .fan) ∧
    (∀ p ∈ [0, 2], Accepted (stNet gateWord (netTok p 0) []) 0 0 (netTok p 0) (act 0)) ∧
    (let s := stNet gateWord (netTok 0 0) []
     s.tokenMatch (act 0) (netTok 0 0) = .loopgate ∧ stCtx (netTok 0 0).tv.st = false ∧
       destOf (tagIaddr (netTok 0 0).tag) (decodeIWord (s.fetchWord (act 0).epoch (tagIaddr (netTok 0 0).tag))).da = some (0x102, 0) ∧
       0 < (decodeIWord (s.fetchWord (act 0).epoch (tagIaddr (netTok 0 0).tag))).lit % 2048 ∧
       KeyFree s 0 (State.gateKey (netTok 0 0).tag) ∧ FreeWay s 0 (State.gateKey (netTok 0 0).tag) 0) ∧
    (∀ n ∈ [1, 4], let s := stNet gateWord (netTok 0 0) [gateEntry n]
     (∀ e ∈ s.mst, e.tile = 0 → e.key = State.gateKey (netTok 0 0).tag → e.inc = (act 0).inc) ∧
       s.mstFind 0 (State.gateKey (netTok 0 0).tag) 0 State.isGate = some (gateEntry n) ∧ (gateEntry n).inStore = true ∧
       (gateEntry n).live = n ∧ (gateEntry n).head = (gateEntry n).tail ∧
       FreeWay s 0 (State.heldKey (netTok 0 0).tag (gateEntry n).tail) 0) ∧
    (let g := { gateEntry 1 with tail := 1 }
     let h := { entryL .held 0 with key := State.heldKey (netTok 2 0).tag 0, place := .way 1 0 0, heldIter := 9 }
     let s := stNet gateWord (netTok 2 0) [g, h]
     tagPort (netTok 2 0).tag = 2 ∧ 0 < g.live ∧ g.head ≠ g.tail ∧
       s.mstFind 0 (State.heldKey (netTok 2 0).tag g.head) 0 State.isHeld = some h ∧ h.inStore = true) := by
  refine ⟨⟨accepted ?_, ?_⟩, fun p hp => accepted ?_, ?_, ?_, ?_⟩
  rotate_left 2
  · revert p; decide +kernel
  all_goals decide +kernel

theorem test_fan : ((after (Sys2Proof.Machine.exec (.fireFan 0 0) (stNet fanWord (netTok 0 0) []))).net.map
    (fun k => (tagIaddr k.tag, tagPort k.tag, k.tv))) = [(0x102, 0, tok 1 7), (0x103, 0, tok 1 7)] := by decide +kernel

theorem test_loopgate_holds : let s := after (Sys2Proof.Machine.exec (.fireLoopgate 0 0) (stNet gateWord (netTok 0 0) [gateEntry 4]))
    (s.net.length, s.mst.map (fun e => (e.kind, e.live, e.tail))) = (0, [(.gateState, 4, 1), (.held, 0, 0)]) := by decide +kernel

/-- The store with an entry of activation 1 that is on its way to the table. -/
def transitE : MEntry := { entryL .operand 3 with place := .table 5 0 true }

/-- A tile 0 with changed modes. -/
def stTile (s : State) (f : Tile → Tile) : State := s.updTile 0 f

/-- Slot 0's detector in the state `d` with its timer at `n`, and an entry of the slot in the store. -/
def stDet (d : DlState) (n : Nat) : State :=
  stTile { stNet addWord (netTok 1 0) [entryL .operand 3] with net := [] } (fun x => { x with det := x.det.set 0 d, detT := x.detT.set 0 n })

/-- Tile 0's spill area enabled at the second 64 MiB of 128 MiB of SDRAM. -/
def spillOn (s : State) : State :=
  (stTile s (fun x => { x with levels := { x.levels with base := 0x4000001 } })).rset Reg.SDC_CAPACITY 0xC000000

theorem witness_StoreMaintenanceCommands :
    (let s := stNet addWord (netTok 1 0) [transitE]
     s.dead = false ∧ (s.tileAt 0).spilling = false ∧ s.mst.find? (fun x => decide (x.tile = 0) && x.transit) = some transitE ∧
       transitE.place = .table 5 0 true ∧ s.spillEn 0 = false ∧ (spillOn s).spillEn 0 = true) ∧
    (∀ i ∈ [0, 1], let s := { stNet addWord (netTok 1 0) [entryL .operand 3] with mfetch := [⟨0, netTok 1 i⟩] }
     (s.mfetch.filter (fun x => decide (x.tile = 0)))[0]? = some ⟨0, netTok 1 i⟩ ∧
       (s.mfetch.filter (fun x => decide (x.tile = 0 ∧ tagKey x.tok.tag = tagKey (netTok 1 i).tag))).head? = some ⟨0, netTok 1 i⟩ ∧
       s.act? (tagAct (netTok 1 i).tag) = some (act 0) ∧ (s.slotAt (tagSlot (netTok 1 i).tag)).inc = 0 ∧
       s.mstFind 0 (tagKey (netTok 1 i).tag) 0 State.isPair = some (entryL .operand 3) ∧ (entryL .operand 3).inStore = true) ∧
    ((stTile State.reset (fun x => { x with oldest := true, reload := true })).tileAt 0).oldest = true ∧
    ((stDet .idle 100).dlState 0 0 = .watch ∧ ((stDet .idle 100).tileAt 0).levels.window ≤ nth ((stDet .idle 100).tileAt 0).detT 0 0 ∧
      nth ((stDet .idle 99).tileAt 0).detT 0 0 < ((stDet .idle 99).tileAt 0).levels.window) ∧
    ((stDet .confirm 100).dlState 0 0 = .confirm ∧ (stDet .confirm 100).slotBusy 0 = false ∧
      { stDet .confirm 100 with net := [netTok 1 0] }.slotBusy 0 = true) ∧
    (d144Check 0 = .clean ∧ ∃ j m, d144Check 1 = .corrected j m) := by
  refine ⟨by decide +kernel, by decide +kernel, by decide +kernel, by decide +kernel, by decide +kernel, by decide +kernel, 0, 1, ?_⟩
  decide +kernel

/-- The same entry in the table and in the reserve, with a lookup of its token on the way. -/
def tableE : MEntry := { entryL .operand 3 with place := .table 5 0 false }
def reserveE : MEntry := { entryL .operand 3 with place := .reserve 4 }

theorem witness_StoreMaintenanceCommands_far :
    (let s := { stNet addWord (netTok 1 0) [tableE] with mfetch := [⟨0, netTok 1 0⟩] }
     (s.mfetch.filter (fun x => decide (x.tile = 0)))[0]? = some ⟨0, netTok 1 0⟩ ∧ tableE.key = tagKey (netTok 1 0).tag ∧
       FreeWay s 0 tableE.key 0 ∧ tableE.at (tagPort (netTok 1 0).tag) = none ∧
       tableE.need.testBit (tagPort (netTok 1 0).tag) = true ∧ (tableE.add (tagPort (netTok 1 0).tag) (netTok 1 0).tv).full = true ∧
       s.readyRoom 0 = true) ∧
    (let s := stTile { stNet addWord (netTok 1 0) [reserveE] with
        slots := updAt State.reset.slots 0 (fun x => { x with state := 1 }) } (fun x => { x with oldest := true, reload := true })
     s.mst.find? (fun e => decide (e.tile = 0) && e.inReserve && s.isOldestWafer e.wafer) = some reserveE ∧
       FreeWay s 0 reserveE.key 0) := by decide +kernel

theorem test_spill_write : let u := after (Sys2Proof.Machine.exec (.spillWrite 0) (spillOn (stNet addWord (netTok 1 0) [transitE])))
    (smBytes u.mem.sdram 0 0x4001400 8 = natToBytes 8 (transitE.key * 4)) ∧ smGet u.mem.sdram 0x4001438 0 = 1 ∧
      smGet u.mem.sdram 0x4001440 0 = 1 := by decide +kernel

theorem test_deadlock_declared : let s := after (Sys2Proof.Machine.exec (.deadlockConfirm 0 0) (stDet .confirm 100))
    (s.rget (Reg.MST_DL_COUNT 0), s.acts.map (·.state)) = (1, [.quarantined]) := by decide +kernel

/-- Firing 1 executed, with one output, one store and no effects. -/
def doneFir (inc : Nat) : Firing :=
  { firing movWord (some (tok 1 7)) none none with
    stage := .executed, inc := inc, outs := [⟨mkTag 0 1 0 0 0x102 0, tok 1 7⟩], stores := [⟨0x2000, 0, [1, 2, 3, 4], none⟩] }

def sbE (n : Nat) : SbEntry := ⟨0, 0, n, 1, 0, 0, 0, ⟨0x2000, 0, [1, 2, 3, 4], none⟩⟩
def ebE (n : Nat) : EbEntry := ⟨0, 0, n, 1, 0, 0, 0, false, 0, .crumb 4 0 0⟩

/-- Tile 0 with PE 0 alone in its pool, and one ready firing. -/
def stReady : State :=
  { regs [(Reg.TIL_POOL 0, 1)] with
    acts := [act 0], firings := [{ firing movWord (some (tok 1 7)) none none with stage := .ready }] }

theorem witness_FiringsAreGrantedAndCommit :
    (∀ i ∈ [0, 1], let s := st (doneFir i)
     s.dead = false ∧ s.firing? 1 = some (doneFir i) ∧ (doneFir i).stage = .executed ∧ s.act? (doneFir i).act = some (act 0) ∧
       (s.slotAt (doneFir i).slot).inc = 0 ∧ (doneFir i).granted = none ∧ (doneFir i).effects = [] ∧ (doneFir i).iw.opc < 0x3C0) ∧
    ({ State.reset with storeBuf := [sbE 1] }.storeBuf.find? (fun b => decide (b.tile = 0 ∧ b.pe = 0)) = some (sbE 1)) ∧
    (let s := { State.reset with storeBuf := [sbE 2], eventBuf := [ebE 2] }
     s.eventBuf.find? (fun b => decide (b.tile = 0 ∧ b.pe = 0)) = some (ebE 2) ∧
       s.storeBuf.any (fun b => decide (b.tile = 0 ∧ b.pe = 0 ∧ b.seq ≤ (ebE 2).seq)) = true ∧
       s.storeBuf.any (fun b => decide (b.tile = 0 ∧ b.pe = 0 ∧ b.seq ≤ (ebE 1).seq)) = false) ∧
    (stReady.dead = false ∧ stReady.tileLive 0 = true ∧
      ((List.range 17).map (fun k => ((stReady.tileAt 0).rr + k) % 17)).filter (stReady.asking 0) = [0] ∧
      (stReady.tileAt 0).oldest = false ∧ stReady.act? 1 = some (act 0)) ∧
    (let s := stNet addWord (netTok 1 0) [entryL .complete 3]
     s.readyRoom 0 = true ∧ s.mst.find? (fun e => decide (e.tile = 0 ∧ e.kind = .complete) && e.inStore) = some (entryL .complete 3) ∧
       s.act? (keyAct (entryL .complete 3).key) = some (act 0)) ∧
    (let s := { State.reset with acts := [{ act 0 with state := .ending }] }
     s.act? 1 = some { act 0 with state := .ending } ∧ s.hasTokens 1 = false ∧ State.reset.act? 1 = none) := by decide +kernel

/-- A committed store of four bytes to the scratch window, or to SDRAM that its activation made uncached. -/
def sbAt (addr : Nat) : SbEntry := ⟨0, 0, 1, 1, 0, 0, 0, ⟨addr, 0, [1, 2, 3, 4], none⟩⟩

theorem witness_FiringsAreGrantedAndCommit_performed :
    (∀ i ∈ [0, 1], let s := st (doneFir i)
     s.tileFenced (doneFir i).tile = false ∧ s.egressFull (doneFir i) = false ∧ s.maintWaits (doneFir i) = false ∧ s.locks = []) ∧
    (let s := { State.reset.rset (Reg.L2C_LOCK 0) 0x100000000 with storeBuf := [sbAt scratchBase] }
     s.addrKind (sbAt scratchBase).st.addr = .scratch ∧ s.journalled (sbAt scratchBase).st.addr = false) ∧
    (let s := { (State.reset.rset Reg.SDC_CAPACITY 0x8000000).rset Reg.L2C_DEF_ATTR 4 with storeBuf := [sbAt 0x2000] }
     s.addrKind (sbAt 0x2000).st.addr = .sdram ∧ (s.sdramAttr 0x2000).1 = 2 ∧ s.journalled (sbAt 0x2000).st.addr = false) ∧
    stReady.tileFenced 0 = false := by decide +kernel

theorem test_commit : let s := after (Sys2Proof.Machine.exec (.firingCommit 1) (st (doneFir 0)))
    (s.firings, s.storeBuf, s.net.map (fun k => (k.barrier, k.tv)), s.rget (Reg.PEX_FIRED 0 0)) = ([], [sbE 1], [(1, tok 1 7)], 1) := by
  decide +kernel

/-- PE 3 of tile 0 retiring with PE 16 as the spare. -/
def stRetire (state : Word) (spare : Word) : State := regs [(Reg.PEX_STATUS 0 3, state), (Reg.TIL_SPARE 0, spare), (Reg.PEX_CTRL 0 3, 1)]

theorem witness_RetirementAndStatisticsCommands :
    (State.reset.mayWrite 0x18 = true ∧ (stRetire 0 16).mayWrite 0x18 = true ∧ (stRetire 0 16).rfld (Reg.PEX_STATUS 0 3) 3 0 = 0 ∧
      (stRetire 0 16).rfld (Reg.TIL_SPARE 0) 4 0 ≠ 0x1F ∧ (stRetire 0 0x1F).rfld (Reg.TIL_SPARE 0) 4 0 = 0x1F) ∧
    ((stRetire 2 16).dead = false ∧ (stRetire 2 16).rfld (Reg.TIL_SPARE 0) 4 0 = 16 ∧ (stRetire 2 16).rbit (Reg.PEX_CTRL 0 3) 0 = true ∧
      (stRetire 2 16).rfld (Reg.PEX_STATUS 0 3) 3 0 = 2 ∧ (stRetire 2 16).inflight 0 3 = 0) ∧
    0 < (st (firing movWord (some (tok 1 7)) none none)).inflight 0 0 := by decide +kernel

theorem test_retire_completes : let s := after (Sys2Proof.Machine.exec (.peRetireComplete 0 3) (stRetire 2 16))
    (s.rfld (Reg.PEX_STATUS 0 3) 3 0, s.rfld (Reg.PEX_STATUS 0 16) 3 0, s.rget (Reg.TIL_SPARE 0)) = (3, 0, 0x1F) := by decide +kernel

/-- A dispatched microcoded firing, and control stores whose word 9 is bad or right. -/
def stUcs (bad : Bool) (rec : Bool) : State :=
  let s := stMicro (fir 0xC 1 0 (some 7) (some 2) none)
  { s with
    ucs := if bad then [(9, 1)] else s.ucs
    ucsMaster := s.ucs, ucsSecond := s.ucs
    ucsBad := if rec then [⟨0, 9, 0, 1, false, false⟩] else []
    recCur := if rec then some ⟨3, 1, 0, 0, 9, [], 0, none⟩ else none }

theorem witness_ControlStoreCommands :
    (let s := stUcs false false
     let f := fir 0xC 1 0 (some 7) (some 2) none
     s.dead = false ∧ s.firing? 1 = some f ∧ f.tile = 0 ∧ f.stage = .dispatched ∧ State.isMicro f.iw.opc = true ∧ s.ucsBad = [] ∧
       s.recQ.length < 16 ∧ parityBad (s.ucsWord 0 9 ^^^ 3) = 0 ∧ (3 : MicroWord) ≠ 0) ∧
    (∀ b ∈ [false, true], (stUcs b true).curJob 3 0 9 = (stUcs b true).recCur ∧
      (stUcs b true).ucsBad.find? (fun b => decide (b.tile = 0 ∧ b.addr = 9)) = some ⟨0, 9, 0, 1, false, false⟩ ∧
      (decide (parityBad ((stUcs b true).ucsWord 0 9) = 0)) = !b ∧ (stUcs b true).marks = []) ∧
    (let s := (stUcs false false).rset (Reg.UCS_CTRL 0) 3
     s.dead = false ∧ s.rbit (Reg.UCS_CTRL 0) 0 = true ∧ s.rbit (Reg.UCS_CTRL 0) 1 = true ∧
       parityBad (s.ucsWord 0 (s.rfld (Reg.UCS_SCRUB_POS 0) 11 0)) = 0 ∧
       parityBad (s.ucsWord 0 (s.rfld (Reg.UCS_SCRUB_POS 0) 11 0) ^^^ 1) ≠ 0 ∧ (∀ e ∈ s.ucsMaster, e.1 < 4096)) := by decide +kernel

theorem test_word_repair : let s := after (Sys2Proof.Machine.exec (.ucsWordRepair 0 9 true) (stUcs true true))
    (s.ucsWord 0 9 = smGet s.ucsMaster 9 0, s.rget (Reg.UCS_PERR 0), s.ucsBad) = (True, 1, []) := by
  simp only [Prod.mk.injEq, eq_iff_iff, iff_true]; decide +kernel

/-- 64 MiB of SDRAM, every address cached, and the memory `m`. -/
def stCache (m : Mem) (l : List (Nat × Word)) : State := { regs ((Reg.SDC_CAPACITY, 0x8000000) :: l) with mem := m }

/-- The frame of SDRAM line 1 in way 0. -/
def line1 (d : Nat) (dirty : Bool) : L2Line := ⟨0, 1, 0, 1, BitVec.ofNat 512 d, true, dirty, false⟩

def maint1 (op : Nat) (l2 : List L2Line) : Mem := { Reset.mem with maint := some ⟨op, 1, 2, none⟩, l2 := l2 }

theorem witness_CacheMaintenanceActsOnItsLines :
    (let s := stCache Reset.mem [(Reg.L2C_MNT_ADDR, 64)]
     s.mayWrite 0x18 = true ∧ s.rbit Reg.L2C_MNT_STATUS 63 = false ∧ fld (1 : Word) 7 4 = 0 ∧
       s.rfld Reg.L2C_MNT_ADDR 47 6 * 64 + 64 ≤ s.sdramTop ∧
       s.cachedRange (s.rfld Reg.L2C_MNT_ADDR 47 6 * 64) (s.rfld Reg.L2C_MNT_ADDR 47 6 * 64 + 64) = true) ∧
    (let s := stCache Reset.mem [(Reg.L2C_MNT_STATUS, 0x8000000000000000)]
     s.mayWrite 0x18 = true ∧ s.rbit Reg.L2C_MNT_STATUS 63 = true) ∧
    (∀ op ∈ [1, 2, 3, 5], let s := stCache (maint1 op [line1 9 true]) []
     s.mem.maint = some ⟨op, 1, 1 + 1, none⟩ ∧ s.mem.fills = [] ∧
       s.mem.l2.filter (fun x => decide (1 ≤ x.line ∧ x.line < 1 + 1)) = [line1 9 true]) := by decide +kernel

/-- R239: CLEAN writes the line back and keeps it; INVAL drops it. -/
theorem test_clean : let s := after (Sys2Proof.Machine.exec .mntComplete (stCache (maint1 1 [line1 9 true]) []))
    (smBytes s.mem.sdram 0 64 2, s.mem.l2.map (fun f => (f.valid, f.dirty))) = ([9, 0], [(true, false)]) := by decide +kernel

theorem test_invalidate : let s := after (Sys2Proof.Machine.exec .mntComplete (stCache (maint1 2 [line1 9 true]) []))
    (s.mem.sdram, s.mem.l2.any (·.valid)) = ([], false) := by decide +kernel

theorem witness_WayLocksPowerAndFills :
    (stRun.mayWrite 0x18 = true ∧ stRun.running = true ∧ State.reset.mayWrite 0x18 = true ∧ State.reset.running = false ∧
      State.reset.locked = false) ∧
    (let s := stCache Reset.mem []
     s.mayWrite 0x18 = true ∧ (∀ i < 3, i ≠ 1 → s.rbit (Reg.L2C_WGPWR 0) i = bit (0xD : Word) i) ∧
       s.rbit (Reg.L2C_WGPWR 0) 1 = true ∧ bit (0xD : Word) 1 = false ∧ (∀ i < 4, s.wayLocked 0 (4 * 1 + i) = false) ∧
       s.waysWithout 0 1 ≠ []) ∧
    (stCache Reset.mem [(Reg.L2C_LOCK 0, 0x1000000000)]).wayLocked 0 (4 * 1 + 0) = true ∧
    ({ Reset.mem with groupReq := [(0, 1, true)] }.groupReq.contains (0, 1, true) = true ∧
      Reset.mem.groupReq.contains (0, 1, true) = false) ∧
    ({ Reset.mem with fills := [⟨1, 0, 0, true⟩] }.fills[0]? = some ⟨1, 0, 0, true⟩) := by decide +kernel

theorem test_lock_in_service : (after (Sys2Proof.Machine.exec (.l2cLockWrite 0x18 0 0xF00000000) stRun)).rget (Reg.L2C_LOCK 0) = 0 := by
  decide +kernel

theorem test_fill : let s := after (Sys2Proof.Machine.exec (.l2FillComplete 0)
      (stCache { Reset.mem with fills := [⟨1, 0, 0, true⟩], sdram := [(64, 7)] } []))
    (s.mem.l1d, s.mem.fills) = ([⟨0, 0, 1, 7⟩], []) := by decide +kernel

theorem witness_StoresAreSeenByLoads :
    (0x40 % 64 + 4 ≤ 64 ∧ (stCache Reset.mem [(Reg.L2C_DEF_ATTR, 4)]).addrKind 0x40 = .sdram ∧
      ((stCache Reset.mem [(Reg.L2C_DEF_ATTR, 4)]).sdramAttr 0x40).1 = 2) ∧
    (stCache Reset.mem [(Reg.L2C_LOCK 0, 0x100000000)]).addrKind scratchBase = .scratch ∧
    (let s := stCache { Reset.mem with l2 := [line1 9 false] } []
     s.addrKind 0x40 = .sdram ∧ (s.sdramAttr 0x40).1 = 0 ∧ s.l2Get (0x40 / 64) = some (line1 9 false) ∧
       s.groupFills (homeSlice 0x40) (0 / 4) = true) := by decide +kernel

/-- R224: the store reaches the L2 line and the storing PE's copy, and the other PE loses its own. -/
theorem test_store_line : let s0 := stCache { Reset.mem with l2 := [line1 9 false], l1d := [⟨0, 0, 1, 9⟩, ⟨0, 1, 1, 9⟩] } []
    let s := s0.storeLine (some (0, 0)) 0x42 [1]
    (s.mem.l2.map (fun f => (f.data, f.dirty)), s.mem.l1d.map (fun x => (x.pe, x.data)), s.viewLine 0x40 4) =
      ([(0x10009, true)], [(0, 0x10009)], [9, 0, 1, 0]) := by decide +kernel

theorem witness_MemoryErrorsAndController :
    (d144Check 0 = .clean ∧ d144Check 1 = .corrected 0 1 ∧ d144Check 0x11 = .uncorrectable) ∧
    (let s := stCache Reset.mem [(Reg.L2C_CTRL, 1), (Reg.SDC_CTRL, 1), (Reg.SDC_STATUS, 1)]
     s.rbit Reg.L2C_CTRL 0 = true ∧ s.rbit Reg.SDC_CTRL 0 = true ∧ s.rbit Reg.SDC_STATUS 0 = true ∧ s.power.doze < 3 ∧ s.marks = []) ∧
    (∀ d ∈ [true, false], let s := stCache { Reset.mem with l2 := [line1 9 d] } []
     s.wayScratch 0 0 = false ∧ s.l2At 0 1 0 = some (line1 9 d)) ∧
    (State.reset.mayWrite 0x18 = true ∧ State.reset.running = false ∧ State.reset.locked = false ∧ bit (1 : Word) 0 = true ∧
      State.channelGiB 1 ≠ 0 ∧ State.channelGiB 0xC0001 = 0) ∧
    (let s := regs [(Reg.SDC_CFG, 1)]
     s.rbit Reg.SDC_CFG 0 = true ∧ s.rbit Reg.SDC_STATUS 0 = false) := by decide +kernel

theorem witness_MemoryErrorsAndController_more :
    (let s := stCache Reset.mem [(Reg.L2C_CTRL, 1)]
     s.power.doze < 3 ∧ s.scrubFrom 0 (s.rget (Reg.L2C_SCRUB_POS 0)).toNat = some 0) ∧
    (State.reset.spillImage 0x40 = none ∧ State.reset.recQ.length < 16) ∧
    (let s := spillOn (stNet addWord (netTok 1 0) [tableE])
     s.spillImage (0x4000000 + 5 * 0x400 + 0x40 + 16) = some (0, false, [0]) ∧ s.replayLimit 0 = false) := by decide +kernel

/-- R252: one rank of 16 dies, each die of 8 Gbit, is 16 GiB to a channel. -/
theorem test_training : let s := after (Sys2Proof.Machine.exec .sdramTrainingDone (regs [(Reg.SDC_CFG, 1)]))
    (s.rget Reg.SDC_CAPACITY, s.rget Reg.SDC_STATUS &&& 0xF1) = (0x1000000000, 0xF1) := by decide +kernel

theorem test_uncorrectable_is_fatal : (after (Sys2Proof.Machine.exec (.sdramEccError 0 0x11 0x11) (stCache Reset.mem []))).dead = true ∧
    (after (Sys2Proof.Machine.exec (.sdramEccError 0 0x11 0) (stCache Reset.mem []))).rget Reg.SDC_REREAD = 1 := by decide +kernel

/-- A root request for descriptor 5, wafer 3, in slot 3. -/
def req3 (flow : Option Nat) : StartReq := ⟨true, 5, 3, 0, 3, 0, 0, 0, 0, flow, 0, 0, false⟩

/-- A frame pool of 64 KiB in SDRAM, descriptor 5 and the request. -/
def stSched (rs fs : List StartReq) : State :=
  { regs [(Reg.SDC_CAPACITY, 0x8000000), (Reg.SCH_FPOOL_BASE, 0x100000), (Reg.SCH_FPOOL_SIZE, 0x10000)] with
    startReqs := rs, flowQ := fs, cfg := { Reset.cfg with bank := [(0x4000 + 16 * 5, 0x200), (0x4000 + 16 * 5 + 1, 64)] } }

theorem witness_TheSchedulerGrantsAndReleases :
    (let s := stSched [req3 none] []
     s.dead = false ∧ s.grantee = some (req3 none) ∧ (s.reqEntry (req3 none)).isSome = true ∧ (req3 none).root = true ∧
       (stSched [] []).grantee = none) ∧
    (let s := stSched [] [req3 (some 7)]
     s.flowQ.filter (fun x => decide (x.flow = some 7)) = [req3 (some 7)] ∧ s.flowBusy 7 = false ∧ s.flowHeld 7 = false ∧
       (∀ k ∈ s.slots, k.state = 0 ∨ (req3 (some 7)).wafer ≤ k.wafer ∨ k.state = 2)) ∧
    (stSched [req3 (some 7)] [req3 (some 7)]).flowBusy 7 = true ∧
    (let s := { stSched [] [req3 (some 7)] with now := 10000000 }
     s.flowQ[0]? = some (req3 (some 7)) ∧ (req3 (some 7)).warned = false ∧
       (req3 (some 7)).arr + clampNat 100 1000000 (s.rfld Reg.SCH_FLOW_WARN 19 0) * 1000 ≤ s.now) ∧
    (let s := stSched [] [req3 (some 7)]
     s.now < (req3 (some 7)).arr + clampNat 100 1000000 (s.rfld Reg.SCH_FLOW_WARN 19 0) * 1000) := by decide +kernel

theorem test_flow_release : (after (Sys2Proof.Machine.exec (.flowItemRelease 7) (stSched [] [req3 (some 7)]))).flowQ = [] := by
  decide +kernel

/-- Lock 5 and a master's record. -/
def stLku (l : List Lock) (r : List LkuRec) : State := { State.reset with locks := l, lkuRecs := r }

theorem witness_LockRequestsAnswerTheirMaster :
    (let s := stLku [] []
     s.mayWrite 0x18 = true ∧ (s.lkuRec 0x18).state ≠ 1 ∧ (s.lockAt (fld (0x50002 : Word) 25 16)).holder = none ∧
       (s.lockAt (fld (0x50002 : Word) 25 16)).withheld = false ∧ (s.lockAt (fld (0x50002 : Word) 25 16)).waiters = []) ∧
    (∀ m ∈ [0x18, 0x19], let s := stLku [lock5 (some ⟨m, 2⟩)] []
     (s.lockAt (fld (0x50002 : Word) 25 16)).holder = some ⟨m, fld (0x50002 : Word) 15 0⟩ ∧ (s.lkuRec 0x18).state ≠ 1 ∧
       (s.lockAt (fld (0x50002 : Word) 25 16)).waiters = []) ∧
    (let s := stLku [] [⟨0x18, 1, 0, 0, 0, 5, 2⟩]
     s.mayWrite 0x18 = true ∧ (s.lkuRec 0x18).state = 1) ∧
    (let s := stLku [lock5 (some ⟨0x12, 2⟩)] []
     s.mayWrite 0x18 = true ∧ 16 ≤ fld (0x12 : Word) 11 0 ∧ s.locks = [lock5 (some ⟨0x12, 2⟩)] ∧
       (lock5 (some ⟨0x12, 2⟩)).holder = some ⟨fld (0x12 : Word) 11 0, 2⟩ ∧ (lock5 (some ⟨0x12, 2⟩)).waiters = []) := by decide +kernel

/-- Lock 5 of master 0x18's context 2 with context 3 of master 0x19 waiting. -/
def lockWaited : Lock := { lock5 (some ⟨0x18, 2⟩) with waiters := [⟨⟨0x19, 3⟩, 0, 0⟩] }

theorem witness_LockRequestsAnswerTheirMaster_waiting :
    (∀ o ∈ [⟨0x19, 2⟩, ⟨0x18, 7⟩], let s := stLku [lock5 (some o)] []
     (s.lkuRec 0x18).state ≠ 1 ∧ (s.lockAt 5).holder = some o ∧ o ≠ ⟨0x18, 2⟩ ∧
       State.lockCycle s.chainMax s 5 ⟨0x18, 2⟩ = false) ∧
    (let s := stLku [{ lock5 (some ⟨0x19, 2⟩) with k := 5 }, { lock5 (some ⟨0x18, 2⟩) with k := 6, waiters := [⟨⟨0x19, 2⟩, 0, 0⟩] }] []
     (s.lockAt 5).holder = some ⟨0x19, 2⟩ ∧ State.lockCycle s.chainMax s 5 ⟨0x18, 2⟩ = true) ∧
    (let s := stLku [lockWaited] []
     (s.lockAt 5).holder = some ⟨0x18, 2⟩ ∧ (s.lockAt 5).waiters = [⟨⟨0x19, 3⟩, 0, 0⟩] ∧ (s.lockAt 5).withheld = false) := by
  decide +kernel

theorem test_lock_try_busy : let s := after (Sys2Proof.Machine.exec (.lkuTry 0x18 0x50002) (stLku [lock5 (some ⟨0x19, 2⟩)] []))
    ((s.lkuRec 0x18).rstat, (s.lockAt 5).holder) = (2, some ⟨0x19, 2⟩) := by decide +kernel

theorem test_lock_hand : ((after (Sys2Proof.Machine.exec (.lkuHand 0x18 0x7000000050002)
    (stLku [lock5 (some ⟨0x18, 2⟩)] []))).lockAt 5).holder = some ⟨0x18, 7⟩ := by decide +kernel

/-- R285: a reset master loses its locks, which are marked ABANDONED; the next ACQ says so. -/
theorem test_lock_abandoned : let s := after (Sys2Proof.Machine.exec (.lkuMreset 0x18 0x12) (stLku [lock5 (some ⟨0x12, 2⟩)] []))
    ((s.lockAt 5).aband, ((after (Sys2Proof.Machine.exec (.lkuAcq 0x18 0x50002) s)).lkuRec 0x18).rstat) = (true, 1) := by decide +kernel

/-- The front end enabled, every channel and tachometer on, at time 1,000,000. -/
def stAfe (l : List (Nat × Word)) : State :=
  { regs ([(Reg.CLK_STATUS, 0x7FF), (Reg.AFE_CTRL, 1), (Reg.AFE_CH_CFG 0, 0x0000000100000001), (Reg.AFE_TACH_CFG 0, 0x0000000000000003)] ++ l) with
    now := 1000000, clock := 1000000, tick := { Reset.tick with started := true, firstOpen := 0 } }

theorem witness_TheFrontEndTakesItsSamples :
    (State.reset.mayWrite 0x18 = true ∧ State.reset.rbit Reg.AFE_CTRL 0 = false ∧ State.reset.locked = false ∧
      (stAfe []).mayWrite 0x18 = true ∧ (stAfe []).rbit Reg.AFE_CTRL 0 = true) ∧
    (fld (0x1 : Word) 15 12 ≤ 8 ∧ fld (0x1 : Word) 23 20 ≤ 8 ∧ bit (0x1 : Word) 2 = false ∧ 8 < fld (0x9000 : Word) 15 12 ∧
      bit (6 : Word) 2 = true ∧ bit (6 : Word) 1 = true ∧ fld (4 : Word) 8 4 < 4) ∧
    (50 ≤ fld (0x3200000001 : Word) 47 32 ∧ fld (0x3200000001 : Word) 47 32 ≤ 5000 ∧
      -25000 ≤ signedOf 16 (fld (0x3200000001 : Word) 31 16) ∧ signedOf 16 (fld (0x3200000001 : Word) 31 16) ≤ 25000 ∧
      fld (0x3200000001 : Word) 63 48 ≤ 10000 ∧ fld (0x3100000001 : Word) 47 32 < 50) ∧
    (shadowedRegs ≠ [] ∧ stRun.mayWrite 0x18 = true ∧ stRun.running = true ∧ State.reset.running = false) ∧
    (State.reset.rbit (Reg.AFE_CH_CFG 0) 0 = false ∧ (stAfe []).rbit (Reg.AFE_CH_CFG 0) 0 = true ∧ 0 < (stAfe []).afe.length ∧
      ((stAfe []).afeCh 0).pSkip < settleOf ((stAfe []).rbit (Reg.AFE_CH_CFG 0) 24)) ∧
    (let s := (stAfe [(Reg.AFE_CH_CFG 0, 0x0000000200000001)]).setAfeCh 0 { Reset.afeChan with pSkip := 64000, mSkip := 64000 }
     s.analogLock = true ∧ settleOf (s.rbit (Reg.AFE_CH_CFG 0) 24) ≤ (s.afeCh 0).pSkip ∧ rangeLo ≤ 5 ∧ 5 ≤ rangeHi (s.rbit (Reg.AFE_CH_CFG 0) 1) ∧
       settleOf (s.rbit (Reg.AFE_CH_CFG 0) 16) ≤ (s.afeCh 0).mSkip ∧ s.tick.started = true ∧
       s.tick.firstOpen ≤ 3 * 10 ^ 9 / rateOf (s.rfld (Reg.AFE_CH_CFG 0) 15 12) ∧ (s.afeCh 0).pkt = [] ∧
       s.asmUsed + (State.afeBlocks 1 - State.afeBlocks 0) ≤ 4096 ∧
       1 < s.rfld (Reg.AFE_CH_CFG 0) 38 32 ∧ s.rfld (Reg.AFE_CH_CFG 0) 38 32 ≤ 64) ∧
    (let s := (stAfe []).setTach 0 { Reset.tach with pend := some (true, 1000) }
     0 < s.tachs.length ∧ (s.tachAt 0).pend = some (true, 1000) ∧ 1000 + s.rfld (Reg.AFE_TACH_CFG 0) 63 48 ≤ s.now ∧
       s.rbit Reg.AFE_CTRL 1 = false ∧ s.rbit (Reg.AFE_TACH_CFG 0) 1 = true ∧ s.rbit (Reg.AFE_TACH_CFG 0) 2 = false ∧
       (s.tachAt 0).kept = false) ∧
    (let s := (stAfe [(Reg.AFE_TACH_CFG 0, 0x2710000000000003)]).setTach 0 { Reset.tach with pend := some (true, 999999) }
     s.now < 999999 + s.rfld (Reg.AFE_TACH_CFG 0) 63 48) ∧
    (((stAfe []).tachAt 0).lastOvs + (stAfe []).rfld (Reg.TRP_TACH_OS 0) 63 32 + (stAfe []).rfld (Reg.TRP_TACH_OS 0) 63 32 / 64 <
      (stAfe []).now) ∧
    (let s := stAfe [(Reg.AFE_CH_HTH 0, 0x0004000300020001)]
     signedOf 16 (s.rfld (Reg.AFE_CH_HTH 0) 15 0) ≤ signedOf 16 (s.rfld (Reg.AFE_CH_HTH 0) 31 16) ∧
       signedOf 16 (s.rfld (Reg.AFE_CH_HTH 0) 31 16) ≤ signedOf 16 (s.rfld (Reg.AFE_CH_HTH 0) 47 32) ∧
       signedOf 16 (s.rfld (Reg.AFE_CH_HTH 0) 47 32) ≤ signedOf 16 (s.rfld (Reg.AFE_CH_HTH 0) 63 48)) := by decide +kernel

theorem witness_TheFrontEndTakesItsSamples_more :
    (let s := (stAfe [(Reg.TCK_NEXT, 5000000), (Reg.AFE_CH_CFG 0, 0x0000000300000001)]).setAfeCh 0 { Reset.afeChan with pSkip := 64000, mSkip := 64000, pkt := [5] }
     s.analogLock = true ∧ (s.afeCh 0).pkt.length + 1 < s.rfld (Reg.AFE_CH_CFG 0) 38 32 ∧
       s.asmUsed + (State.afeBlocks 2 - State.afeBlocks 1) ≤ 4096 ∧
       3 * 10 ^ 9 / rateOf (s.rfld (Reg.AFE_CH_CFG 0) 15 12) < s.packetEnd 0 (s.afeCh 0).pktT) ∧
    (∀ l ∈ [false, true], let s := (stAfe [(Reg.AFE_TACH_CFG 0, 0x0000006400000003)]).setTach 0 { Reset.tach with level := l }
     s.rbit Reg.AFE_CTRL 0 = true ∧ s.rbit (Reg.AFE_TACH_CFG 0) 0 = true ∧ (s.tachAt 0).level = l ∧
       (2 * signedOf 16 (s.rfld (Reg.AFE_TACH_CFG 0) 31 16) + (s.rfld (Reg.AFE_TACH_CFG 0) 47 32 : Int) ≤ 2 * 50) ∧
       (2 * (-50) : Int) ≤ 2 * signedOf 16 (s.rfld (Reg.AFE_TACH_CFG 0) 31 16) - (s.rfld (Reg.AFE_TACH_CFG 0) 47 32 : Int)) := by decide +kernel

/-- R300: a kept rising edge is counted with its crossing time. -/
theorem test_tach_edge : let s := after (Sys2Proof.Machine.exec (.tachEdgeQualify 0)
      ((stAfe []).setTach 0 { Reset.tach with pend := some (true, 1000) }))
    (s.rget (Reg.AFE_TACH_EDGES 0), s.rget (Reg.AFE_TACH_LAST 0)) = (1, 1000) := by decide +kernel

/-- R300: a level at the upper end of the hysteresis begins an edge. -/
theorem test_tach_crossing : let s := after (Sys2Proof.Machine.exec (.tachCrossing 0 50) (stAfe [(Reg.AFE_TACH_CFG 0, 0x0000006400000003)]))
    ((s.tachAt 0).level, (s.tachAt 0).pend) = (true, some (true, 1000000)) := by decide +kernel

theorem test_locked_channel : (after (Sys2Proof.Machine.exec (.afeChannelConfig 0x18 0 1) (stAfe []))).rget Reg.AFE_STATUS &&& 1 = 1 := by
  decide +kernel

/-- The trip unit armed, output 0 enabled with 1-out-of-any of no input, and the trip channel of handle 1. -/
def stTrip (cfg : Word) : State :=
  { regs [(Reg.TRP_CTRL, 1), (Reg.TRP_OUT_CFG 0, cfg), (Reg.TRP_GSRC, 0x10001), (Reg.AFE_STATUS, 0x10)] with
    now := 1000000, clock := 1000000
    chans := [{ chan1 ckTrip with width := 8, items := [⟨0, [0x100000001], 0, false, false, none, none⟩] }] }

theorem witness_TripOutputsFollowTheirEquations :
    State.reset.trip.outs.length = 32 ∧ (0 : Nat) < 32 ∧ (31 : Nat) < 32 ∧ State.reset.mayWrite 0x18 = true := by decide +kernel

theorem witness_TripCommandsActOnTheTripUnit :
    (State.reset.mayWrite 0x18 = true ∧ State.reset.rbit Reg.FCL_STATUS 4 = false ∧ State.reset.trip.force = .none ∧
      { State.reset.trip with force := .c4 }.force = .c4 ∧ bit (1 : Word) 0 = true) ∧
    (let s := { State.reset with clock := 150000, pins := { Reset.pins with aliveSeen := true } }
     s.pins.aliveSeen = true ∧ s.pins.aliveT + 150000 ≤ s.clock ∧ State.reset.clock < State.reset.pins.aliveT + 150000) ∧
    (let s := stTrip 1
     s.rbit Reg.TRP_GSRC 16 = true ∧ s.rbit Reg.AFE_STATUS 4 = true ∧ (s.chan? (s.rfld Reg.TRP_GSRC 15 0)).map (·.ckind) = some ckTrip ∧
       (s.takeNext { chan1 ckTrip with width := 8, items := [⟨0, [0x100000001], 0, false, false, none, none⟩] }).1 =
         .word 0x100000001 0 true true false ∧ s.trip.outs.length = 32) ∧
    State.reset.rbit Reg.TRP_GSRC 16 = false ∧
    (let s := (stTrip 1).rset Reg.TRP_GSRC 0
     s.rbit Reg.TRP_GSRC 16 = false ∧ (s.chans.find? (fun c => c.live && decide (c.index = 1))).map (·.ckind) = some ckTrip ∧
       s.rbit Reg.AFE_STATUS 4 = true) ∧
    (let s := stTrip 0x10001
     s.rfld (Reg.TRP_OUT_CFG 0) 31 16 ≠ 0 ∧ s.rbit Reg.TRP_CTRL 0 = true ∧
       (nth s.trip.outs 0 Reset.tripOut).lastG + s.rfld (Reg.TRP_OUT_CFG 0) 31 16 * 10 ^ 6 ≤ s.clock) ∧
    (State.reset.trip.rail = true ∧ { State.reset.trip with rail := false }.rail = false ∧
      { Reset.tripOut with cond := true, drvOff := true }.cond = true) := by decide +kernel

/-- R306, R308: a demand word that selects output 0 and sets it trips an enabled output while ARMED. -/
theorem test_demand_trips : (nth (after (Sys2Proof.Machine.exec .graphDemandApply (stTrip 3))).trip.outs 0 Reset.tripOut).t = true ∧
    (nth (after (Sys2Proof.Machine.exec .graphDemandApply (stTrip 3))).trip.outs 0 Reset.tripOut).cond = true ∧
    (nth (after (Sys2Proof.Machine.exec .graphDemandApply (stTrip 2))).trip.outs 0 Reset.tripOut).t = false := by decide +kernel

/-- R307: FORCE trips an output, and a de-energise-to-trip output stops conducting. -/
theorem test_force : let s := tripEval { stTrip 1 with trip := { (stTrip 1).trip with force := .c4 } } 0
    ((nth s.trip.outs 0 Reset.tripOut).t, (nth s.trip.outs 0 Reset.tripOut).cond) = (true, false) ∧
    (nth (tripEval (stTrip 1) 0).trip.outs 0 Reset.tripOut).cond = true := by decide +kernel

/-- Master 0x11's command record with these arguments, and a T-class channel of the graph to engine 1, handle 1. -/
def stChn (cs : List Chan) (a0 a1 : Word) : State :=
  { State.reset with chans := cs, chnRecs := [⟨0x11, 0, a0, a1, 0, 0⟩] }

def items2 : List Item := [⟨0, [7, 8], 10, false, false, none, none⟩, ⟨1, [9], 20, false, false, none, none⟩]
def chanE (i : List Item) (pos : Nat) : Chan := { chan1 ckEngine with cunit := 1, items := i, readPos := pos, iseq := 2, last := 0 }

theorem witness_ChannelCommandsAnswerTheirMaster :
    (let s := stChn [] 0x8000000104000000 1
     s.mayWrite 0x11 = true ∧ State.chnMaster 0x11 = true ∧ (s.chnRec 0x11).op = 0 ∧ s.freeIndex = some (0, 0) ∧
       State.chanOk (State.chanOfArgs (s.chnRec 0x11).arg0 (s.chnRec 0x11).arg1) = true ∧
       (State.chanOfArgs (s.chnRec 0x11).arg0 (s.chnRec 0x11).arg1).blocks ≤ s.qramFree ∧
       (State.chanOfArgs (s.chnRec 0x11).arg0 (s.chnRec 0x11).arg1).units ≤ s.ovfFree) ∧
    (State.chanOk (State.chanOfArgs 0 0) = false ∧ (stChn [] 5 0).chan? (fld ((stChn [] 5 0).chnRec 0x11).arg0 15 0) = none) ∧
    (∀ x ∈ [0, 1], let s := stChn [chanE items2 x] 1 0
     s.mayWrite 0x11 = true ∧ s.chan? (fld (s.chnRec 0x11).arg0 15 0) = some (chanE items2 x) ∧
       s.isBound (chanE items2 x).handle = false ∧ State.isConsumer 0x11 (chanE items2 x) = true ∧
       State.isConsumer 0x12 (chanE items2 x) = false ∧ State.chnMaster 0x12 = true) ∧
    { stChn [chanE [] 0] 1 0 with cfg := { Reset.cfg with bank := [(0x801, 0x8000000100000000)] } }.isBound (chanE [] 0).handle = true ∧
    (chanE items2 1).readPos ≠ 0 ∧
    ({ stChn [] 0 0 with chnRecs := [⟨0x11, 3, 0, 0, 0, 0⟩] }.chnRec 0x11).op ≠ 0 ∧
    (stChn [] 0x8000000104000000 0xFFFF).qramFree < (State.chanOfArgs 0x8000000104000000 0xFFFF).blocks := by decide +kernel

theorem test_create : let s := after (Sys2Proof.Machine.exec (.chnCreate 0x11) (stChn [] 0x8000000104000000 1))
    (s.chans.map (fun c => (c.index, c.gen, c.width, c.maxlen, c.cunit)), (s.chnRec 0x11).resp) =
      ([(0, 1, 4, 1, 1)], 0xA000000000001000) := by decide +kernel

theorem test_drop_packet : (after (Sys2Proof.Machine.exec (.chnDropPacket 0x11) (stChn [chanE items2 1] 1 0))).chans.map
    (fun c => (c.items.map (·.iseq), c.last, c.readPos)) = [([1], 1, 0)] := by decide +kernel

/-- A window channel of AFE channel 0 with a window of wafer 0 that ends at 15. -/
def chanW : Chan :=
  { chan1 ckWafer with
    tcls := false, pkind := pkAfe, punit := 0, items := items2, iseq := 2,
    windows := [{ wafer := 0, openT := 0, closeT := 15, lo := 0, hi := 0, done := false }] }

theorem witness_QueuesKeepOrderAndReportLoss :
    ((chanE items2 0).gapCount = 0 ∧ (chanE [] 0).gapCount = 2 ∧ { chanE [] 0 with iseq := 0 }.gapCount = 0) ∧
    (let s := { stChn [chanW] 0 0 with afe := State.reset.afe.set 0 { Reset.afeChan with lastT := 15 }, closed := [⟨0, 0, 15, false, false⟩] }
     s.dead = false ∧ s.chans.find? (fun c => c.live && decide (c.index = 1)) = some chanW ∧
       (chanW.windows.find? (fun w => !w.done)).map (·.closeT) = some 15 ∧ 15 ≤ (s.afeCh 0).lastT ∧ s.waferOpen 0 = true) ∧
    (let s := { stChn [{ chanE items2 0 with tmo := 5 }] 0 0 with clock := 5000 }
     (s.chans.find? (fun c => c.live && decide (c.index = 1))).isSome = true ∧
       { chanE items2 0 with tmo := 5 }.tailT + 5 * 1000 ≤ s.clock ∧ (stChn [] 0 0).clock < { chanE items2 0 with tmo := 5 }.tailT + 5 * 1000) ∧
    (d144Check 1 = .corrected 0 1 ∧ d144Check 0x11 = .uncorrectable) ∧
    (let c := { chanE [⟨0, [7], 10, true, false, none, none⟩] 0 with ovf := 1 }
     c.items.find? (·.ovf) = some ⟨0, [7], 10, true, false, none, none⟩ ∧ State.ramWords c + 1 ≤ c.qblk * 256 / c.width) ∧
    (let c := { chanE [⟨0, [7], 10, true, false, none, none⟩, ⟨1, List.replicate 64 0, 10, false, false, none, none⟩] 0 with ovf := 1 }
     c.qblk * 256 / c.width < State.ramWords c + 1) := by decide +kernel

theorem witness_QueuesKeepOrderAndReportLoss_pointers :
    ({ chanE items2 0 with ptrs := (chanE items2 0).ptrs.flipped 0 0 } : Chan).ptrsAgree = true ∧
    ({ chanE items2 0 with ptrs := (chanE items2 0).ptrs.flipped 0 1 } : Chan).ptrsAgree = false := by decide +kernel

/-- R339: the item before the window's end joins it, the later one does not. -/
theorem test_window : (after (Sys2Proof.Machine.exec (.windowComplete 1)
    { stChn [chanW] 0 0 with
      afe := State.reset.afe.set 0 { Reset.afeChan with lastT := 15 }, closed := [⟨0, 0, 15, false, false⟩] })).chans.map
    (fun c => (c.items.map (·.win), c.doneT)) = [([some 0, none], some 15)] := by decide +kernel

theorem test_take : (State.chanTake (chanE items2 0)).1 = .word 7 0 true false false ∧
    (State.chanTake (chanE items2 1)).1 = .word 8 0 false true false ∧ (State.chanTake (chanE [] 0)).1 = .gap 2 := by decide +kernel

/-- Engine 0 running, changed by `f`. -/
def stEng (f : Engine → Engine) : State :=
  { regs [(Reg.SDC_CAPACITY, 0x8000000)] with
    engines := State.reset.engines.set 0 (f { Reset.engine with run := .running }) }

theorem witness_EngineArithmeticIsReadLater : (stEng id).eRuns 0 = true ∧ 0 < (stEng id).engines.length ∧ (0 : Nat) < 2 := by
  decide +kernel

/-- R361: an ALU result is read in the next bundle; R362: SAR fills with the sign. -/
theorem test_alu : ((after (Sys2Proof.Machine.exec (.aluSub 0 0 3) (stEng (fun e => { e with alu0o := 10 })))).readPort 0 0x100).1 = 7 ∧
    ((after (Sys2Proof.Machine.exec (.aluSar 0 1 70) (stEng (fun e => { e with alu1o := 0x8000000000000000 })))).engineAt 0).alu1q =
      [0xFFFFFFFFFFFFFFFF] := by decide +kernel

theorem test_mul_high : (((after (Sys2Proof.Machine.exec (.mulHis 0 0xFFFFFFFFFFFFFFFF) (stEng (fun e => { e with mulo := 2 })))).engineAt 0).mulq).head? =
    some 0xFFFFFFFFFFFFFFFF := by decide +kernel

def stB (o : Nat) : EStore := ⟨2 ^ 64 - 0x20000 + o, 4, 0x11223344⟩

theorem witness_EngineLoadsStoresAndJumps :
    ((stEng id).eRuns 0 = true ∧ (stEng id).engineAt 0 = { Reset.engine with run := .running } ∧
      (begun (stEng id) 0).eClear 0 = true ∧ (8 : Nat) ∈ [1, 2, 4, 8] ∧ 0xFFF8 + 8 ≤ 0x10000) ∧
    ((stEng id).eKind 0x40 = .here 0x40 ∧ (stEng id).addrKind 0x40 = .sdram ∧ (stEng id).eKind 0x3C00000000000000 = .hole ∧
      0x3C00000000000000 % 8 = 0 ∧ (stEng id).eCheck 0x40 8 = none ∧ (stEng id).eKind (2 ^ 64 - 0x20000) = .dram 0) ∧
    (let s := stEng (fun e => { e with sbuf := [stB 8, stB 0] })
     s.eCheck (2 ^ 64 - 0x20000 + 2) 2 = none ∧ (s.engineAt 0).sbuf = [stB 8] ++ [stB 0] ∧ (stB 0).addr ≤ 2 ^ 64 - 0x20000 + 2 ∧
       2 ^ 64 - 0x20000 + 2 + 2 ≤ (stB 0).addr + (stB 0).size ∧ (s.engineAt 0).sbuf.length < 8 ∧ s.eKind (stB 8).addr = .dram 8 ∧
       (begun s 0).eClear 0 = false) ∧
    ((stEng id).engineAt 0).iramNew.length < 16 ∧
    (((stEng id).engineAt 0).loop.active = false ∧ 1 ≤ fld (64 : Word) 6 0 ∧ fld (64 : Word) 6 0 ≤ 64 ∧ 64 < fld (65 : Word) 6 0) ∧
    { Reset.engine with iramNew := [(1, 2), (3, 4)] }.iramNew = [(1, 2)] ++ [(3, 4)] := by decide +kernel

theorem test_engine_forwards : (match State.eLoad State.io (stEng (fun e => { e with sbuf := [stB 0] })) 0 (2 ^ 64 - 0x20000 + 2) 2 false with
    | .ok x => some x.1
    | _ => none) = some (LoadRes.word 0x1122) := by decide +kernel

/-- What a load or store answered: 0 a next state, 1 a fault, 2 a stall. -/
def answered {α : Type} (r : ERes α) : Nat := match r with
  | .ok _ => 0
  | .fault _ => 1
  | .stall _ => 2

theorem witness_EngineLoadsStoresAndJumps_more :
    (let s := stEng id
     answered (State.eLoad State.io (begun s 0) 0 0x40 8 false) = 0 ∧
       answered (State.eLoad State.io (begun s 0) 0 0x3C00000000000000 1 false) = 1 ∧
       answered (State.eStore State.io (begun s 0) 0 0x40 8 5) = 0 ∧
       s.eKind (1 * 2 ^ 48 + 0x40) = .away 1 0x40 ∧ (5 : Nat) < 256 ^ 8) ∧
    (let s := stEng (fun e => { e with sbuf := [⟨0x40, 8, 7⟩] })
     s.eKind 0x40 = .here 0x40 ∧ (s.engineAt 0).sbuf = ⟨0x40, 8, 7⟩ :: []) ∧
    (let s := stEng (fun e => { e with sbuf := [stB 8, stB 0] })
     (begun s 0).eClear 0 = false ∧ ((begun s 0).engineAt 0).sbuf.length ≤ 8) ∧
    (let s := stEng (fun e => { e with loop := ⟨true, 1, 2, 3, false, true⟩ })
     ((begun s 0).engineAt 0).loop.active = true) := by decide +kernel

theorem test_call : let s := after (Sys2Proof.Machine.exec (.pcuCall 0 100) (stEng (fun e => { e with pc := 8191 })))
    ((s.engineAt 0).pc, (s.engineAt 0).link) = (100, 0) := by decide +kernel

/-- Engine 0 with instruction `w` at address 5. -/
def stBundle (w : Word) : State := stEng (fun e => { e with pc := 5, iram := [(5, w)], w := [(1, 11), (2, 22)] })

/-- A channel from and to engine 0. -/
def chan00 (i : List Item) : Chan := { chan1 ckEngine with pkind := pkEngine, punit := 0, cunit := 0, items := i, iseq := i.length }

def stChp (i : List Item) : State := { stEng (fun e => { e with chpo := [7] }) with chans := [chan00 i] }

def oneItem : List Item := [⟨0, [7], 10, false, false, none, none⟩]

theorem witness_EngineBundlesEventsAndResets :
    (let s := stBundle (w64 ((2 * 2 ^ 17 + 1 * 2 ^ 5 + 24) * 2 ^ 32 + (1 * 2 ^ 17 + 2 * 2 ^ 5 + 24)))
     let r := (s.drainOne 0).takeLoads 0
     s.eRuns 0 = true ∧ (r.engineAt 0).pc = 5 ∧ smGet (r.engineAt 0).iram 5 0 =
       w64 ((2 * 2 ^ 17 + 1 * 2 ^ 5 + 24) * 2 ^ 32 + (1 * 2 ^ 17 + 2 * 2 ^ 5 + 24))) ∧
    (let s := stBundle (w64 (2 ^ 29 + 1 * 2 ^ 17 + 2 * 2 ^ 5 + 24))
     let r := (s.drainOne 0).takeLoads 0
     s.eRuns 0 = true ∧ (r.engineAt 0).p1 = false ∧
       smGet (r.engineAt 0).iram 5 0 = w64 (2 ^ 29 + 1 * 2 ^ 17 + 2 * 2 ^ 5 + 24)) ∧
    (let w : Word := w64 ((1 * 2 ^ 17 + 2 * 2 ^ 5 + 24) * 2 ^ 32 + (1 * 2 ^ 17 + 2 * 2 ^ 5 + 24))
     (bundleOf w).isNone = true ∧ fld w 16 5 = fld w 48 37 ∧ fld w 16 5 ≠ 0 ∧ fld w 28 17 ≠ 0xEFF ∧ fld w 60 49 ≠ 0xEFF) ∧
    (let s := stChp oneItem
     s.eRuns 0 = true ∧ (begun s 0).chan? ((1 : Word).toNat % 65536) = some (chan00 oneItem) ∧
       (chan00 oneItem).handle = (1 : Word).toNat % 65536 ∧
       ((begun s 0).openPkt? ((1 : Word).toNat % 65536) (.engine 0)).isNone = true ∧ 0 < (chan00 oneItem).maxlen ∧
       (begun s 0).eClear 0 = true ∧ (begun s 0).canAppend (chan00 oneItem) (.engine 0) = true ∧ (chan00 oneItem).tcls = true) ∧
    (let s := { stEng id with chans := [{ chan1 ckPoll with pkind := pkGraph }] }
     (begun s 0).chan? ((1 : Word).toNat % 65536) = some { chan1 ckPoll with pkind := pkGraph }) ∧
    (((begun (stChp oneItem) 0).takeNext (chan00 oneItem)).1 = .word 7 0 true true false ∧
      ((begun (stChp []) 0).takeNext (chan00 [])).1 = .empty ∧
      ((begun (stChp []) 0).takeNext { chan00 [] with iseq := 2 }).1 = .gap 2) ∧
    (let s := stEng (fun e => { e with evq := [⟨6, 0, 9⟩] })
     s.eRuns 0 = true ∧ ((s.drainOne 0).engineAt 0).evq = ⟨6, 0, 9⟩ :: []) ∧
    (∀ ie ∈ [true, false], let s := stEng (fun e => { e with fault := some (1, 0), ie := ie })
     s.dead = false ∧ (s.engineAt 0).failed = false ∧ (s.engineAt 0).run ≠ .halted ∧ s.engineOn 0 = true ∧
       (s.engineAt 0).fault = some (1, 0)) ∧
    (let s := { (stEng (fun e => { e with ie := true, pend := 2 ^ 13 })) with csr := [(Reg.CEN_EVMASK 0, 0x200F)] }
     (s.eUnmasked 0).testBit 13 = true ∧ ∀ i < 13, (s.eUnmasked 0).testBit i = false) ∧
    (State.reset.mayWrite 0x18 = true ∧ State.reset.regFenced (Reg.CEN_CTRL 0) = false ∧ (State.reset.engineAt 0).run = .halted ∧
      (State.reset.engineAt 0).failed = false ∧ State.reset.rbit (Reg.CEN_RAMADDR 0) 16 = false ∧
      bit (1 : Word) 0 = true ∧ bit (1 : Word) 2 = false) ∧
    (let s := { (stEng id).rset (Reg.CEN_WDOG 0) 1 with clock := 1000 }
     s.rfld (Reg.CEN_WDOG 0) 31 0 ≠ 0 ∧ (s.engineAt 0).run ≠ .halted ∧
       (s.engineAt 0).wdogT + s.rfld (Reg.CEN_WDOG 0) 31 0 * 1000 ≤ s.clock ∧
       (stEng id).clock < (s.engineAt 0).wdogT + s.rfld (Reg.CEN_WDOG 0) 31 0 * 1000) ∧
    (let s := { (stEng id).rset (Reg.CEN_TIMER 0) 1000 with now := 1000 }
     s.rget (Reg.CEN_TIMER 0) ≠ 0 ∧ (s.rget (Reg.CEN_TIMER 0)).toNat ≤ s.now ∧
       (s.engineAt 0).timed ≠ (s.rget (Reg.CEN_TIMER 0)).toNat) ∧
    d144Check 0x11 = .uncorrectable := by
  repeat' refine And.intro ?_ ?_
  all_goals decide +kernel

/-- A bundle that moves LSU.Q, whose value is still to come, to W1. -/
def stLate : State := stEng (fun e => { e with
  pc := 5, iram := [(5, w64 (0x200 * 2 ^ 17 + 1 * 2 ^ 5 + 24))], loads := [⟨4, 8, false⟩], lsuq := [.word 0, .word 0, .load 4] })

/-- A remote load that engine 0 waits for, not yet answered. -/
def lateRem : RemAcc := ⟨1, 4, false, 0x40, 8, none, some 0, none, false, 4, none⟩

theorem witness_EngineBundlesEventsAndResets_more :
    (let s := { stLate with fab.remote := [lateRem] }
     let r := (s.drainOne 0).takeLoads 0
     s.eRuns 0 = true ∧ (match bundleOf (smGet (r.engineAt 0).iram 5 0) with
       | some ms => State.readsLoad (r.engineAt 0) ms
       | none => false) = true) ∧
    (let s := { stEng id with chans := [{ chan1 ckPoll with pkind := pkGraph }] }
     (begun s 0).chan? 1 = some { chan1 ckPoll with pkind := pkGraph } ∧ pkGraph ≠ pkEngine ∧ ckPoll ≠ ckEngine) ∧
    ((chan00 oneItem).ckind = ckEngine ∧ (chan00 oneItem).cunit = 0) ∧
    (stEng (fun e => { e with pend := 0 })).recOpen = [] ∧ d144Check 1 = .corrected 0 1 ∧
    (let s := stEng (fun e => { e with fault := none, pend := 2 ^ 13, ie := true })
     (s.engineAt 0).fault = none) := by decide +kernel

/-- R358: both moves of a bundle read before either writes, so two registers swap. -/
theorem test_swap : ((after (Sys2Proof.Machine.exec (.engineBundle 0)
    (stBundle (w64 ((2 * 2 ^ 17 + 1 * 2 ^ 5 + 24) * 2 ^ 32 + (1 * 2 ^ 17 + 2 * 2 ^ 5 + 24)))))).engineAt 0).w = [(1, 22), (2, 11)] := by
  decide +kernel

theorem test_event : let s := after (Sys2Proof.Machine.exec (.engineEventTake 0)
      (stEng (fun e => { e with fault := some (1, 0), ie := true, pc := 77 })))
    ((s.engineAt 0).pc, s.rget (Reg.CEN_EPC 0), s.rget (Reg.CEN_CAUSE 0), (s.engineAt 0).ie) = (4, 77, 1, false) := by decide +kernel

theorem test_recv : (((after (Sys2Proof.Machine.exec (.chpRecv 0 1) (stChp oneItem))).engineAt 0).chpq.head?.map (·.head?),
    (after (Sys2Proof.Machine.exec (.chpRecv 0 1) (stChp oneItem))).chans.map (·.items)) = (some (some 7), [[]]) := by decide +kernel

/-- A job of unit 0 for engine 0: DEFLATE (or GCM sealing by unit 2) of 4 bytes at offset 0x100 of the data RAM to 0x200. -/
def job (unit op bad : Nat) : Job :=
  { unit := unit, master := 0x10, addr := 2 ^ 64 - 0x20000, op := op, errs := 0, quiet := false
    words := [BitVec.ofNat 64 (op + bad * 2 ^ 63), BitVec.ofNat 64 (2 ^ 64 - 0x20000 + 0x100), 4,
      BitVec.ofNat 64 (2 ^ 64 - 0x20000 + 0x200), if unit < 2 then 64 else 0, 0, BitVec.ofNat 64 (2 ^ 64 - 0x20000 + 0x300), if unit < 2 then 0 else 5] }

def stJob (j : Job) : State := { stEng (fun e => { e with dram := [(0x100, 1)] }) with jobs := [j] }

theorem witness_TransformsAndKeysActAsDescribed :
    (let s := stEng (fun e => { e with dram := [(0, 3)] })
     let v : Word := BitVec.ofNat 64 (2 ^ 64 - 0x20000)
     s.mayWrite 0x10 = true ∧ (nth (s.descriptor 0x10 0 v.toNat).1 0 0).toNat % 256 = 3 ∧ s.rbit (Reg.CMP_CTRL 0) 0 = true ∧
       s.rbit (Reg.CMP_STATUS 0) 2 = false ∧ nth s.power.doms 125 0 = 1 ∧ s.power.moving = [] ∧ v.toNat % 64 = 0 ∧
       jobRegion 0x10 v.toNat 64 = true ∧ s.outstanding 0x10 0 < 4) ∧
    (regs [(Reg.CMP_CTRL 0, 0)]).rbit (Reg.CMP_CTRL 0) 0 = false ∧
    (∀ b ∈ [0, 1], let s := stJob (job 0 3 b)
     s.dead = false ∧ s.jobOf 0 = some (job 0 3 b) ∧ (job 0 3 b).quiet = false ∧ (job 0 3 b).bad = decide (b = 1) ∧
       ((s.engineAt 0).evq.filter (fun x => decide (x.kind = 6))).length = 0) ∧
    (let s := stJob (job 0 3 0)
     s.jobSolid (job 0 3 0).src = true ∧ ((job 0 3 0).transform [1, 0, 0, 0]).2 = true ∧
       0 < ((job 0 3 0).transform [1, 0, 0, 0]).1.length ∧ ((job 0 3 0).transform [1, 0, 0, 0]).1.length ≤ (job 0 3 0).dst.2 ∧
       (s.jobRead 0x10 (job 0 3 0).src).1 = [1, 0, 0, 0] ∧ (job 0 3 0).dst.1 = 2 ^ 64 - 0x20000 + 0x200) ∧
    (let s := stJob (job 2 1 0)
     (job 2 1 0).bad = false ∧ (job 2 1 0).glaze = true ∧ s.keyFor (job 2 1 0).keySlot 0 = none ∧
       ({ s with keys := s.keys.set 0 ⟨true, 7, 1, none⟩ }.keyFor (job 2 1 0).keySlot 0).isSome = true ∧
       (job 2 1 0).parts.all s.jobSolid = true) ∧
    (let s := stEng id
     s.mayWrite 0x18 = true ∧ fld (0x1700 : Word) 15 12 = 1 ∧ s.keyAllowed 0x18 (fld (0x1700 : Word) 4 0) = true ∧
       s.keyBusy (fld (0x1700 : Word) 4 0) = false ∧ s.keys.length = 32 ∧ s.keyAllowed 0x10 0 = false ∧
       fld (0x2000 : Word) 15 12 = 2 ∧ bit (1 : Word) 0 = true) := by
  refine ⟨?_, ?_, ?_, ?_, ?_, ?_⟩ <;> decide +kernel

theorem witness_TransformsAndKeysActAsDescribed_more :
    (let s := stEng (fun e => { e with evq := List.replicate 16 ⟨6, 0, 0⟩ })
     16 ≤ ((s.engineAt 0).evq.filter (fun x => decide (x.kind = 6))).length) ∧
    (let s := stJob { job 0 3 0 with errs := 1 }
     (∀ n < 8, ((s.engineAt n).evq.filter (fun x => decide (x.kind = 6))).length +
        (s.jobs.filter (fun y => decide (y.unit = 0))).length ≤ 16) ∧ s.jobOf 0 = some { job 0 3 0 with errs := 1 }) ∧
    (job 0 3 0).words ≠ [] ∧ (job 0 3 0).errs = 0 ∧ (job 2 1 0).words ≠ [] ∧ (job 2 1 0).op = 1 ∧ (5 : Nat) % 64 ≠ 0 := by decide +kernel

theorem test_key_load : let s := after (Sys2Proof.Machine.exec (.keyLoad 0x18 0x1700) (regs [(Reg.ENC_KEYW0, 5), (Reg.ENC_KEYW3, 1)]))
    (s.keys[0]?, s.rget Reg.ENC_KEYW0) = (some ⟨true, 7, BitVec.ofNat 256 (2 ^ 192 + 5), none⟩, 0) := by decide +kernel

/-- The fabric enabled, with link `p` as `f` makes it. -/
def stLink (p : Nat) (f : Link → Link) : State :=
  { regs [(Reg.CLK_STATUS, 0x7FF), (Reg.FAB_CTRL, 1), (Reg.FAB_LINK_CTRL 0, 1)] with fab := { Reset.fabric with links := updAt Reset.fabric.links p f } }

/-- A message of kind `k` from device 9 to this device. -/
def msg (k aux arg : Nat) (body : List (BitVec 128)) : Msg := ⟨0, 9, k, body.length, 3, 0, aux, arg, body⟩

def hello9 (pers fpv ucs : Nat) : Hello :=
  { serial := 1, bootcnt := 2, pers := pers, fpv := fpv, step := 0, cfgdig := 3, plandig := 0, ucsver := ucs, device := 9, port := 1,
    mcand := false, tmcand := false, plan := false, tmprio := 0, manager := 0, tmaster := 0 }

def frame (flit : Codeword) (fseq : Nat) : Frame := ⟨flit, 0, linkWord true 0 false 0 fseq 0 false 0 0⟩

theorem witness_LinksCarryFramesAndChangeState :
    (let s := stLink 0 (fun l => { l with state := .up, rxFseq := 5, rx := [[BitVec.ofNat 128 (2 * 2 ^ 98)], [], [], []] })
     s.dead = false ∧ (s.linkAt 0).state = .up ∧ d144Check 0x11 = .uncorrectable ∧ bit (frame 0x11 6).word 31 = true ∧
       fld (frame 0 6).word 7 0 = crc8 (fld (frame 0 6).word 31 8) ∧ d144Check (frame 0 6).flit0 = .clean ∧
       bit (frame 0 6).word 28 = false ∧ bit (frame 0 6).word 13 = false ∧
       fld (frame 0 6).word 25 20 = ((s.linkAt 0).rxFseq + 1) % 64 ∧ fld (frame 0 5).word 25 20 = (s.linkAt 0).rxFseq ∧
       (s.linkAt 0).kept = [] ∧ (s.linkAt 0).txq = [] ∧ (s.linkAt 0).rejecting = false ∧
       (nth (s.linkAt 0).rx (fld (frame 0 6).word 30 29) []).length <
         fld (nth (nth (s.linkAt 0).rx (fld (frame 0 6).word 30 29) []) 0 0) 101 98) ∧
    (let s := { stLink 0 (fun l => { l with state := .up, kept := [(6, frame 0 6)] }) with clock := 5000000 }
     (s.linkAt 0).kept ≠ [] ∧ (s.linkAt 0).progT + 2000 ≤ s.clock ∧ (s.linkAt 0).resends = [] ∧
       (s.linkAt 0).lastHello + 5000000 ≤ s.clock ∧ State.reset.clock < (State.reset.linkAt 0).progT + 2000) ∧
    (let s := stLink 0 id
     (s.linkAt 0).state = .down ∧ s.rbit (Reg.FAB_LINK_CTRL 0) 0 = true ∧ s.rbit Reg.FCL_STATUS 4 = false ∧ s.domOn 128 = true ∧ s.rbit Reg.CLK_STATUS 6 = true ∧
       (stLink 0 (fun l => { l with state := .hello })).fabOn = true) ∧
    (let s := stLink 0 (fun l => { l with state := .train, fails := [0, 0] })
     (s.linkAt 0).state = .train ∧ 2 ≤ (s.linkAt 0).fails.length ∧ (∀ t ∈ (s.linkAt 0).fails, s.clock < t + 1000000000) ∧
       s.recQ.length < 16) ∧
    ((stLink 0 (fun l => { l with state := .sleep })).linkAt 0).state = .sleep ∧
    (let s := stLink 0 (fun l => { l with state := .hello })
     s.fabOn = true ∧ (s.linkAt 0).state = .hello ∧ (msg 1 0 0 (hello9 0 1 0).body).body.length = 3 ∧
       (∀ x ∈ s.fab.links, x.peer = none) ∧ s.rbit Reg.FAB_STATUS 2 = false ∧ s.helloReason 0 (hello9 0 1 0) = 0 ∧
       s.helloReason 0 (hello9 1 1 0) = 1 ∧ s.helloReason 0 (hello9 0 2 0) = 2 ∧ s.helloReason 0 (hello9 0 1 0x100) = 3) ∧
    ((stLink 6 (fun l => { l with state := .hello })).linkAt 6).state = .hello ∧
    (let r : Retained := ⟨⟨9, 0, 8, 0, 3, 4, 0, 0, []⟩, 0, true⟩
     let s := { stLink 0 id with fab := { Reset.fabric with retained := [r] }, clock := 10000000 }
     s.fab.retained.head? = some r ∧ s.power.doze = 0 ∧ (msg 0x30 4 3 []).dst = s.localId ∧ s.fab.waiting = [] ∧
       s.fab.transit = [] ∧ r.time + clampNat 5 10000 (s.rfld Reg.FAB_E2E_RTO 19 0) * 1000 ≤ s.clock ∧
       0 < clampNat 5 10000 (s.rfld Reg.FAB_E2E_RTO 19 0) * 1000) ∧
    (let s := stLink 0 id
     (msg 9 0 0 []).dst = s.localId ∧ { msg 9 0 0 [] with eseq := 7 }.eseq ≠ smGet s.fab.rxSeq (9 * 4 + 3) 0) := by
  refine ⟨?_, ?_, ?_, ?_, ?_, ?_, ?_, ?_, ?_⟩ <;> decide +kernel

theorem witness_LinksCarryFramesAndChangeState_more :
    (let s := stLink 0 (fun l => { l with state := .hello, peer := some (hello9 0 1 0) })
     s.fabOn = true ∧ (∀ x ∈ s.fab.boots, x.1 = (helloOf (hello9 0 1 0).body).device → x.2.1 = (helloOf (hello9 0 1 0).body).serial →
       x.2.2 = (helloOf (hello9 0 1 0).body).bootcnt) ∧ (hello9 0 1 0).plan = false ∧ (hello9 0 1 0).device < 1024) ∧
    (let r : Retained := ⟨⟨9, 0, 8, 0, 3, 4, 0, 0, []⟩, 0, true⟩
     let s := { (stLink 0 (fun l => { l with state := .up, peer := some (hello9 0 1 0) })).rset (Reg.FAB_ROUTE 9) 0x8000 with
       fab.retained := [r], clock := 10000000 }
     (∀ x ∈ s.fab.retained, x.msg.dst = 9 → x.msg.vc = 3 → x.sent = true ∧ (s.routeOut 9 x.msg.kind).isSome = true) ∧
       s.fab.retained.find? (fun x => decide (x.msg.dst = 9 ∧ x.msg.vc = 3)) = some r) ∧
    (∀ st ∈ [LinkState.hello, .up, .restricted, .sleep], ((stLink 0 (fun l => { l with state := st })).linkAt 0).state = st ∧
      ((stLink 0 (fun l => { l with state := st })).linkAt 0).rxFseq < 64) := by decide +kernel

/-- R387: the next frame's flit joins its message; a repeated one is dropped. -/
theorem test_frame : (((after (Sys2Proof.Machine.exec (.linkFrameReceive 0 (frame 0 6)) (stLink 0 (fun l => { l with
      state := .up, rxFseq := 5, rx := [[BitVec.ofNat 128 (2 * 2 ^ 98)], [], [], []] })))).linkAt 0).rxFseq,
    ((after (Sys2Proof.Machine.exec (.linkFrameReceive 0 (frame 0x11 6)) (stLink 0 (fun l => { l with
      state := .up, rxFseq := 5 })))).linkAt 0).nak) = (6, true) := by decide +kernel

theorem test_hello_body : helloOf (hello9 7 1 0x203).body = hello9 7 1 0x203 := by decide +kernel

theorem arrives (s : State) (m : Msg) (h : s.dead = false ∧ s.fabOn = true ∧ s.power.doze = 0 ∧ m.dst = s.localId ∧
    m.body.length = m.ncw ∧ smGet s.fab.rxSeq (m.src * 4 + m.vc) 0 = m.eseq) :
    Arrives s m ({ s with fab.rxSeq := smPut s.fab.rxSeq (m.src * 4 + m.vc) 0 ((m.eseq + 1) % 65536) }.e2eAckSend m.src m.vc m.eseq) :=
  ⟨h.1, h.2.1, h.2.2.1, h.2.2.2.1, h.2.2.2.2.1, h.2.2.2.2.2, rfl⟩

/-- The fabric on with one remote window of 4 KiB at 0x1000 for reads and writes, and SDRAM. -/
def stWin : State :=
  regs [(Reg.FAB_CTRL, 1), (Reg.SDC_CAPACITY, 0x8000000), (Reg.FAB_RWIN_BASE 0, 0x1007), (Reg.FAB_RWIN_LIMIT 0, 0x1000)]

/-- Inbound entry 2: from device 9, delay 0, channel handle 1; and group 0 with a state region of 4 KiB. -/
def stIn : State :=
  { stWin with
    cfg := { Reset.cfg with bank := [(0x1802, BitVec.ofNat 64 (2 ^ 63 + 2 ^ 40 + 9)), (0x1900, 1), (0x1901, 0x4000), (0x1902, 0x8000)] }
    chans := [chan1 ckWafer] }

def rsy (src begun : Bool) : Resync :=
  { group := 0, wafer := 3, isSource := src, source := 9, iaddr := 0, iter := 0, key := 0, since := 0, flow := 0, begun := begun,
    holding := false, asked := none, got := 0 }

def stRsy (src begun : Bool) : State := { stIn with fab := { Reset.fabric with resyncs := [rsy src begun] } }

/-- Time parent on port 0, reached by an UP link, in a device whose ID is 0. -/
def stTime : State :=
  { regs [(Reg.FAB_CTRL, 1), (Reg.TCK_CTRL, 0x40), (Reg.FAB_TMASTER, 0x8000000000000009), (Reg.FAB_ROUTE 9, 0x8000)] with
    fab := { Reset.fabric with links := updAt Reset.fabric.links 0 (fun l => { l with state := .up, peer := some (hello9 0 1 0) }) } }

theorem witness_FabricMessagesAndTimeActAsDescribed :
    (∃ d, Arrives stWin (msg 8 8 0x1000 []) d) ∧ (∃ d, Arrives stIn (msg 0x12 2 0 [0, 5, 0]) d) ∧
    (touchesCsr 0x1000 8 = false ∧ stWin.windowGrants 0x1000 8 false = true ∧ stWin.windowGrants 0x1000 8 true = true ∧
      stWin.windowGrants 0x1FF9 8 true = false) ∧
    (stWin.retainUsed + 1 + 2 ≤ 16384 ∧ stWin.fab.waiting = []) ∧
    (let r : RemAcc := ⟨9, 4, false, 0x1000, 8, some 1, none, none, false, 0, none⟩
     let s := { stWin with fab := { Reset.fabric with remote := [r] } }
     s.fab.remote.find? (fun r => decide (r.device = (msg 9 4 0 []).src ∧ r.eseq = (msg 9 4 0 []).aux)) = some r) ∧
    ((recOfBody [BitVec.ofNat 128 (7 * 2 ^ 64), 0]).serial = 7 ∧
      stWin.fab.recs.find? (fun x => decide (x.serial = 7)) = none ∧ stWin.planned = false) ∧
    ((stIn.inbound 3).valid = false ∧ (stIn.inbound 2).valid = true ∧ (stIn.inbound 2).srcs.contains 9 = true ∧
      stIn.chan? (stIn.inbound 2).handle = some (chan1 ckWafer) ∧ State.rsDone (chan1 ckWafer) (0 + (stIn.inbound 2).delay) = false ∧
      stIn.rsAcc 9 2 0 ≤ fld (0 : BitVec 128) 37 6 ∧ (0x100 : Nat).testBit 8 = true ∧ (0 : Nat).testBit 8 = false) ∧
    (stIn.tick.started = false ∧ stIn.firings = [] ∧ stIn.votes = []) ∧
    (∀ b ∈ [true, false], (stRsy true b).resyncOf 0 3 true = some (rsy true b) ∧ (stRsy false b).resyncOf 0 3 false = some (rsy false b) ∧
      (stRsy true b).resyncPoint (rsy true b) = true ∧ (stRsy false b).deviceLost 9 = false ∧ (rsy true b).asked = none) ∧
    ((bankGroup (stRsy false true).cfg.bank 0).slen = 1 ∧ fld (0 : BitVec 128) 31 0 + 128 ≤ 1 * 4096 ∧ (rsy false true).got + 1 < 1 * 32) ∧
    (let s := { stWin with slots := stWin.slots.set 0 { Reset.slot with state := 1 } }
     (s.slotAt 0).rsclosed = false ∧ s.rsEnded 0 = true ∧ stWin.rsEnded 0 = false) ∧
    (let s := { stRsy false true with clock := 1000000000 }
     (rsy false true).since + clampNat 1000 1000000 (s.rfld Reg.FAB_RSYNC_TMO 19 0) * 1000 ≤ s.clock ∧
       (stRsy false true).clock < (rsy false true).since + clampNat 1000 1000000 (s.rfld Reg.FAB_RSYNC_TMO 19 0) * 1000) ∧
    (let s := { stRun with clock := 1000000000 }
     s.running = true ∧ s.deviceLost 9 = false ∧ s.hasUp 9 = false ∧ (9 : Nat) ≠ s.localId ∧
       s.lossFrom 9 + clampNat 100 1000000 (s.rfld Reg.FAB_LOSS_TMO 19 0) * 1000 ≤ s.clock ∧
       State.reset.clock < State.reset.lossFrom 9 + clampNat 100 1000000 (State.reset.rfld Reg.FAB_LOSS_TMO 19 0) * 1000) ∧
    (stTime.timeLink 0 = true ∧ stTime.timeParent = some 0 ∧ stWin.timeParent ≠ some 0 ∧ stTime.running = false ∧
      (0x4000 : Nat) / 2 ^ 14 % 4 = 1 ∧ (0x8000 : Nat) / 2 ^ 14 % 4 = 2 ∧ (0 : Nat) / 2 ^ 14 % 4 = 0) ∧
    (let s := { regs [(Reg.FAB_CTRL, 1), (Reg.TCK_CTRL, 0x40)] with clock := 1000000 }
     s.follower = true ∧ s.fab.lastX + 1000000 ≤ s.clock ∧ State.reset.follower = false) := by
  refine ⟨⟨_, arrives _ _ (by decide +kernel)⟩, ⟨_, arrives _ _ (by decide +kernel)⟩, ?_, ?_, ?_, ?_, ?_, ?_, ?_, ?_, ?_, ?_, ?_, ?_, ?_⟩ <;>
    decide +kernel

theorem witness_FabricMessagesAndTimeActAsDescribed_more :
    (∃ d, Arrives stIn (msg 0x10 2 32 []) d) ∧ (∃ d, Arrives stWin (msg 0x18 0x1400 4 [0, 0, 0, 0]) d) ∧
    (∃ d, Arrives (stRsy false true) (msg 0x21 0 3 [0, 0, 0, 0, 0, 0, 0, 0, 0]) d) ∧
    ((chan1 ckWafer).width = 4 * 2 ^ (32 % 4) ∧ min (min 8 (32 / 4)) (stIn.rsRoom (chan1 ckWafer)) ≠ 0 ∧ stIn.fab.asks = []) ∧
    (stIn.rsHolds 9 = false ∧ { stIn with fab.held := [msg 0x12 2 0 [0, 5, 0]] }.rsHolds 9 = true ∧ ∀ x ∈ stIn.fab.held, x.src ≠ 9) ∧
    (∀ n ∈ [7, 8], let o : LinkRec := { recOfBody [BitVec.ofNat 128 (n * 2 ^ 64), 0] with seq := 4 }
     { stWin with fab.recs := [o] }.fab.recs.find? (fun x => decide (x.serial = n)) = some o ∧ o.seq < 2 ^ 32) ∧
    ((rsy false true).source = 9 ∧ (bankGroup (stRsy false true).cfg.bank 0).slen = 1) ∧
    (stWin.fromParent 0 = false ∧ stTime.fromParent 0 = true ∧ (∀ f ∈ stIn.firings, f.wait ≠ .vote) ∧ (1 : Nat) < 1024) := by
  refine ⟨⟨_, arrives _ _ (by decide +kernel)⟩, ⟨_, arrives _ _ (by decide +kernel)⟩, ⟨_, arrives _ _ (by decide +kernel)⟩, ?_⟩
  decide +kernel

/-- Whatever the device's own serial number is, another device's differs from it. -/
theorem other_serial : ∃ n ∈ [7, 8], n ≠ (stWin.rget Reg.FAB_SERIAL).toNat ∧ (recOfBody [BitVec.ofNat 128 (n * 2 ^ 64), 0]).serial = n := by
  by_cases h : 7 = (stWin.rget Reg.FAB_SERIAL).toNat
  · exact ⟨8, by decide, by omega, by decide +kernel⟩
  · exact ⟨7, by decide, h, by decide +kernel⟩

/-- R401: a write inside a window is performed, and one outside leaves memory as it is. -/
theorem test_remote_write : let d : BitVec 128 := 0x11223344
    (smBytes (after (Sys2Proof.Machine.exec (.wrreqReceive (msg 0xA 4 0x1000 [d, 0])) (stWin.rset Reg.L2C_DEF_ATTR 4))).mem.sdram 0 0x1000 4,
      (after (Sys2Proof.Machine.exec (.wrreqReceive (msg 0xA 4 0x3000 [d, 0])) stWin)).mem.sdram) =
    ([0x44, 0x33, 0x22, 0x11], []) := by decide +kernel

/-- R410: the offset of a slave that is 1,000 ns ahead over a symmetric link. -/
theorem test_time_offset : let s := { stTime with now := 12000, fab := { stTime.fab with t2 := 11100, t3 := 11200 } }
    let t := after (Sys2Proof.Machine.exec (.drespReceive 0 { msg 3 0x8000 10300 [BitVec.ofNat 128 (10000 * 2 ^ 64), 0] with vc := 0 }) s)
    (t.rget Reg.FAB_TOFFSET, t.now) = (1000000, 11000) := by decide +kernel

/-- Bits 8 and 9 are the units of Table 14.7 that follow the channel engines. -/
theorem no_endpoint_used (c : Nat) : State.reset.endpointUsed c = false := by
  have h : ∀ r ∈ List.range 64, rsvOn (State.reset.rget (Reg.NOC_RSV r)) = false := by decide +kernel
  have p : State.reset.nocPend = [] := rfl
  simp only [State.endpointUsed, p, List.any_nil, Bool.or_false, List.any_eq_false]
  intro r hr
  simp [h r hr]

/-- A reservation from tile 0 to tile 1 of 4 cycles in each frame. -/
def rsv01 : Word := 0x8000010000000004

def stPower (f : Power → Power) (l : List (Nat × Word)) : State := { regs l with power := f Reset.power }

theorem witness_NetworkClocksAndPowerActAsDescribed :
    (d144Check 1 = .corrected 0 1 ∧ d144Check 0x11 = .uncorrectable ∧ { State.reset with net := [netTok 0 0] }.net[0]? = some (netTok 0 0) ∧
      State.reset.marks = [] ∧ State.reset.recQ.length < 16) ∧
    (State.reset.mayWrite 0x18 = true ∧ rsv01 &&& 0xE03F3F0003FF007F = rsv01 ∧ rsvOn rsv01 = true ∧ rsvLegal rsv01 = true ∧
      rsvOn 0 = false ∧ rsvLegal (rsv01 &&& ~~~0x7F) = false ∧ State.reset.nocPend = [] ∧ State.reset.running = false ∧
      stRun.running = true ∧ (∀ x < 64, x ≠ 0 → rsvClash rsv01 (State.reset.rget (Reg.NOC_RSV x)) = false)) ∧
    ((regs [(Reg.CLK_STATUS, 0xFF)]).rbit Reg.CLK_STATUS 5 = true ∧ (regs [(Reg.CLK_STATUS, 0xFF)]).rbit Reg.CLK_STATUS 7 = true ∧
      (regs [(Reg.CLK_STATUS, 0)]).rbit Reg.CLK_STATUS 5 = false) ∧
    ((∀ c, State.reset.endpointUsed c = false) ∧ (regs [(Reg.NOC_RSV 0, rsv01)]).endpointUsed 0 = true ∧
      State.reset.rbit Reg.PWR_CTRL 0 = false ∧ (stPower (fun p => { p with doze := 3 }) []).power.doze = 3 ∧
      State.reset.power.doze = 0) ∧
    ((∀ j < 15, j ≠ 8 → State.reset.rbit Reg.PWR_UNIT_CFG j = bit (0x100 : Word) j) ∧
      State.reset.rbit Reg.PWR_UNIT_CFG 8 ≠ bit (0x100 : Word) 8 ∧ State.reset.power.waiting = [] ∧ State.reset.hold = false ∧
      (∀ j < 14, State.reset.rbit Reg.PWR_UNIT_CFG j = bit (0x4000 : Word) j) ∧ State.reset.rbit Reg.PWR_UNIT_CFG 14 = false) ∧
    (State.reset.rbit (Reg.PWR_TILE_CFG 0) 0 = false ∧ State.reset.power.parkReq = [] ∧
      (∀ u < 16, State.reset.tileState u < 2 ∧ nth State.reset.power.park u 0 = 0) ∧ State.reset.rbit (Reg.PWR_TILE_CFG 0) 1 = false ∧
      (State.reset.waysWithout 0 3).isEmpty = false ∧ ((regs [(Reg.L2C_WAYDIS 0, 0xFFF)]).waysWithout 0 3).isEmpty = true ∧
      (regs [(Reg.TIL_SPARE 0, 0x1F)]).rfld (Reg.TIL_SPARE 0) 4 0 = 0x1F ∧ (regs [(Reg.TIL_SPARE 0, 16)]).rfld (Reg.TIL_SPARE 0) 4 0 ≠ 0x1F) ∧
    (let s := stPower (fun p => { p with doze := 2 }) []
     s.power.doze = 2 ∧ (∀ k ∈ s.slots, k.state = 0) ∧ s.storeBuf = [] ∧ s.eventBuf = [] ∧ s.mst = [] ∧ s.firings = [] ∧
       s.jobs = [] ∧ s.recOpen = []) ∧
    ((stPower (fun p => { p with doze := 4 }) []).power.doze = 4 ∧ (stPower (fun p => { p with doze := 4 }) []).hold = false) ∧
    (let s := stPower (fun p => { p with moving := [(125, false), (126, true)] }) []
     s.nextMove 125 false = true ∧ s.domDrained 125 = true ∧ s.nextMove 126 true = true ∧ 126 < s.power.doms.length ∧
       s.nextMove 126 false = false ∧ s.nextMove 125 true = false) ∧
    (let s := stPower (fun p => { p with park := p.park.set 0 1 }) []
     nth s.power.park 0 0 = 1 ∧ s.tileState 0 < 2 ∧ s.tileEmpty 0 = true ∧ s.power.doms.length = 134 ∧ s.power.park.length = 16) ∧
    (let s := stPower (fun p => { p with park := p.park.set 0 3 }) []
     nth s.power.park 0 0 = 3 ∧ s.domOn (7 * 0) = true ∧ s.domOn (7 * 0 + 2) = true ∧ s.domOn (7 * 0 + 3) = true) ∧
    (State.reset.hold = false ∧ (regs [(Reg.PWR_SUPPLY, 1)]).hold = true ∧ (regs [(Reg.PWR_SUPPLY, 1)]).rfld Reg.PWR_SUPPLY 1 0 = 1 ∧
      (∀ r ∈ (stPower (fun p => { p with low := [3] }) []).power.low, r = 3)) ∧
    (let s := { stPower (fun p => { p with supT := 5 }) [(Reg.PWR_SUPPLY, 2)] with clock := 10005 }
     s.rfld Reg.PWR_SUPPLY 1 0 = 2 ∧ s.power.supT + 10000 ≤ s.clock ∧ State.reset.rfld Reg.PWR_SUPPLY 1 0 ≠ 2) := by
  refine ⟨?_, ?_, ?_, ⟨no_endpoint_used, ?_⟩, ?_, ?_, ?_, ?_, ?_, ?_, ?_, ?_, ?_⟩ <;> decide +kernel

theorem witness_NetworkClocksAndPowerActAsDescribed_more :
    (rsvCodes rsv01 = true ∧ rsvCodes 0xE000010000000004 = false ∧ State.reset.replayLimit 0 = false ∧
      (∀ k ∈ [1, 2], State.reset.rbit Reg.CLK_STATUS k = true ∨ (regs [(Reg.CLK_STATUS, 0x7FF)]).rbit Reg.CLK_STATUS k = true)) ∧
    ((stPower (fun p => { p with doze := 1 }) []).power.doze ≠ 2 ∧ (stPower (fun p => { p with doze := 1 }) []).power.doze ≠ 4 ∧
      { State.reset with storeBuf := [sbE 1] }.storeBuf ≠ []) ∧
    (let s := stPower (fun p => { p with park := p.park.set 0 1 }) []
     { s with mst := [entryL .operand 3] }.tileEmpty 0 = false) ∧
    ((stPower (fun p => { p with doms := p.doms.set 3 0 }) []).domOn 3 = false) ∧
    ({ State.reset with boot := { Reset.boot with held := false } }.boot.held = false) := by
  repeat' refine And.intro ?_ ?_
  all_goals decide +kernel

/-- R423: X first, then Y. -/
theorem test_route : routePath 0 11 = [0, 1, 2, 3, 7, 11] ∧ routePath 6 6 = [6] := by decide +kernel

theorem test_dip : let s := after (Sys2Proof.Machine.exec (.supplyWarning 3 950) { State.reset with boot := { Reset.boot with held := false } })
    (s.rget Reg.PWR_SUPPLY, s.rget Reg.PWR_DIPS, s.hold) = (950 * 65536 + 3 * 256 + 1, 1, true) := by decide +kernel

theorem test_reservation_refused : (after (Sys2Proof.Machine.exec (.nocReservationWrite 0x18 1 rsv01) (regs [(Reg.NOC_RSV 0, rsv01)]))).rget
    (Reg.NOC_RSV 1) = 0 := by decide +kernel

/-- A recovery of mechanism `m` of tile 0, PE 0 or slot 0. -/
def recJob (m : Nat) : RecJob := ⟨m, 2, 0, 0, 0, [0], 0, none⟩

def stRec (q : List RecJob) (c : Option RecJob) : State := { regs [(Reg.TIL_SPARE 0, 16)] with recQ := q, recCur := c }

/-- Slot 0 active with a journal. -/
def stSlot (f : Slot → Slot) (c : Option RecJob) : State :=
  { stRec [] c with slots := State.reset.slots.set 0 (f { Reset.slot with state := 1, journal := [⟨0, 0x2000, [1, 2]⟩] }) }

theorem witness_FaultsAreReportedAndRecovered :
    ((2 : Nat) < 4 ∧ 0x123 / 16 ≠ 0x38 ∧ 0x380 / 16 = 0x38 ∧ State.reset.recOpen = [] ∧ State.reset.recQ.length < 16 ∧
      State.reset.fclLog.length < 512 ∧ State.reset.rbit (Reg.FCL_FIRST 2) 63 = false ∧
      (regs [(Reg.FCL_FIRST 2, 0x8000000000000000)]).rbit (Reg.FCL_FIRST 2) 63 = true) ∧
    (∀ a ∈ [0, 1], let f := { fir 1 1 0 (some 2) (some 3) none with attempt := a }
     (st f).firing? 1 = some f ∧ f.stage ≠ .ready ∧ f.tile < 16 ∧ (st f).recQ.length < 16) ∧
    ((regs [(Reg.TIL_SPARE 0, 0x1F)]).rfld (Reg.TIL_SPARE 0) 4 0 = 0x1F ∧ (stRec [] none).rfld (Reg.TIL_SPARE 0) 4 0 ≠ 0x1F) ∧
    (let s := stRec [recJob 2] none
     s.dead = false ∧ s.recCur = none ∧ s.recQ = recJob 2 :: [] ∧ (recJob 2).mech = 2) ∧
    ((stRec [] (some (recJob 2))).curJob 2 0 0 = some (recJob 2) ∧ State.reset.curJob 2 0 0 = none) ∧
    (∀ r ∈ [0, 7], let s := stSlot (fun x => { x with replays := r }) (some (recJob 5))
     s.recCur = some (recJob 5) ∧ (recJob 5).slots.contains 0 = true ∧ s.incWaits 0 = false ∧ (s.slotAt 0).state = 1 ∧
       (s.slotAt 0).replays = r ∧ s.rbit Reg.SCH_TRC_CTRL 0 = false) ∧
    (∀ b ∈ [true, false], let s := stSlot (fun x => { x with state := 3, restore := true, nojrnl := b }) none
     (s.slotAt 0).restore = true ∧ (s.slotAt 0).state = 3 ∧ (s.slotAt 0).nojrnl = b ∧ s.storeBuf = []) ∧
    (let s := stRec [] (some (recJob 6))
     s.curJob 6 0 0 = some (recJob 6) ∧ s.activeSlots = [] ∧ s.storeBuf = [] ∧ s.eventBuf = []) ∧
    (let s := { State.reset with storeBuf := [sbE 1] }
     (s.storeBuf.filter (fun b => decide (b.tile = 0)))[0]? = some (sbE 1) ∧ d144Check 0x11 = .uncorrectable ∧ d144Check 0 = .clean) ∧
    ((∃ j ∈ { State.reset with clock := 50000, recOpen := [recJob 5] }.recOpen, j.time + 50000 ≤ 50000) ∧
      (∀ j ∈ [recJob 5], 49999 < j.time + 50000)) ∧
    (let s := { regs [(Reg.BOOT_STATUS, 0x5000000000000000)] with clock := 1000000000, pins := { Reset.pins with aliveEn := true } }
     s.pins.aliveEn = true ∧ s.pins.kickT + clampNat 100 1000000 (s.rfld Reg.FCL_SEQ_WDOG 19 0) * 1000 ≤ s.clock ∧
       s.pins.aliveT + 50000 ≤ s.clock ∧ s.rfld Reg.BOOT_STATUS 63 60 = 5 ∧ State.reset.pins.aliveEn = false) ∧
    (State.reset.mayWrite 0x18 = true ∧ State.reset.rbit Reg.FCL_CTRL 0 = false ∧ (regs [(Reg.FCL_CTRL, 1)]).rbit Reg.FCL_CTRL 0 = true ∧
      bit (1 : Word) 0 = true) := by
  refine ⟨?_, ?_, ?_, ?_, ?_, ?_, ?_, ?_, ?_, ?_, ?_, ?_⟩ <;> decide +kernel

theorem witness_FaultsAreReportedAndRecovered_more :
    ((fir 1 1 0 (some 2) (some 3) none).pe < 17 ∧
      (∀ k ∈ (st (fir 1 1 0 (some 2) (some 3) none)).activeSlots, (st (fir 1 1 0 (some 2) (some 3) none)).replayLimit k = false) ∧
      (regs [(Reg.TIL_SPARE 0, 16)]).rfld (Reg.TIL_SPARE 0) 4 0 < 17 ∧ (16 : Nat) ≠ 0) ∧
    (let s := stSlot id (some (recJob 6))
     s.curJob 6 0 0 = some (recJob 6) ∧ ∀ k ∈ s.activeSlots, s.incWaits k = false) ∧
    (let s := (List.range 16).foldl (fun (s : State) t => s.rsetFld (Reg.TIL_STATUS t) 9 8 2) (stRec [] (some (recJob 6)))
     s.activeSlots = [] ∧ ∀ u < 16, u ≠ 0 → 2 ≤ s.tileState u) ∧
    (let s := { stRec [] none with recOpen := [recJob 5] }
     s.recOpen ≠ [] ∧ s.dead = false) := by
  repeat' refine And.intro ?_ ?_
  all_goals decide +kernel

/-- R454: two reports of a class latch the first and flag the second. -/
theorem test_fault_latch : let c := fun d => Instr.faultReport 1 0x123 7 0 d false 0 false 0
    let s := after (Sys2Proof.Machine.exec (c 6) (after (Sys2Proof.Machine.exec (c 5) State.reset)))
    (s.rget (Reg.FCL_FIRST 1) &&& 0xFFFFFFFF, s.rget (Reg.FCL_COUNT 1), s.rbit Reg.FCL_OVF 1, s.fclLog.length) = (5, 2, true, 2) := by
  decide +kernel

/-- R470: a replay discards the slot's tokens and raises its incarnation. -/
theorem test_replay : let s := after (Sys2Proof.Machine.exec (.waferReplay 0) { stSlot id (some (recJob 5)) with net := [netTok 0 0] })
    (s.net, (s.slotAt 0).inc, (s.slotAt 0).state, (s.slotAt 0).replays) = ([], 1, 3, 1) := by decide +kernel

/-- A transaction of master 0x18 in the state `x`, with its argument registers. -/
def stTxn (x : TxnState) (addr a0 a1 : Word) : State :=
  { regs [(Reg.SDC_CAPACITY, 0x8000000)] with cfg := { Reset.cfg with txn := x, owner := 0x18, recs := [⟨0x18, addr, a0, a1, 0⟩] } }

/-- Service after the release, with the flash open to commands and operation `op` in progress. -/
def stFlash (op : Option (Nat × Nat × Word)) : State :=
  { regs [(Reg.BOOT_CTRL, 1), (Reg.BOOT_XADDR, 0x200000)] with boot := { Reset.boot with held := false, flashOp := op } }

theorem witness_ResetsBootAndTransactionsActAsDescribed :
    (¬(State.reset.trip.rail = true ∧ State.reset.trip.force = .supply) ∧ State.reset.mayBoot 0x18 = true ∧
      fld (0x5A5A0001 : Word) 31 0 = 0x5A5A0001 ∧ fld (0 : Word) 31 0 ≠ 0x5A5A0001) ∧
    ((stFlash none).boot.held = false ∧ State.reset.boot.held = true ∧ State.reset.power.low = [] ∧ State.reset.dead = false ∧
      (regs [(Reg.FCL_STATUS, 8)]).dead = true ∧ (regs [(Reg.FCL_STATUS, 8)]).boot.held = true) ∧
    (let s := { regs [(Reg.BOOT_STATUS, 0x3000000000000000)] with boot := { Reset.boot with held := false } }
     s.boot.held = false ∧ s.phase = 3 ∧ State.reset.phase ≠ 3) ∧
    (State.reset.mayWrite 0x18 = true ∧ State.reset.cfg.txn = .idle ∧ State.reset.mayOpen 0x18 = true ∧ (regs [(Reg.CFG_CTRL, 0)]).mayOpen 0x19 = false ∧
      State.reset.mayWrite 0x19 = true) ∧
    (let s := stTxn .opened 0x40 0x1000 0x0004000000000002
     s.cfg.txn = .opened ∧ s.cfg.owner = 0x18 ∧ bit (s.cfgRec 0x18).addr 63 = false ∧ 1 ≤ fld (s.cfgRec 0x18).arg1 22 0 ∧
       fld (s.cfgRec 0x18).arg1 63 42 + fld (s.cfgRec 0x18).arg1 22 0 ≤ 4194304 ∧
       (s.cfgRec 0x18).arg0.toNat + 8 * fld (s.cfgRec 0x18).arg1 22 0 ≤ s.sdramTop ∧ s.cfg.loads = [] ∧ s.cfg.old = [] ∧
       bankImages s.cfg.shadow ++ bankImages s.cfg.bank = []) ∧
    ((stTxn .opened 0 0 0).cfg.txn ≠ .idle ∧ fld ((stTxn .opened 0 0 0).cfgRec 0x18).arg1 22 0 = 0 ∧
      (stTxn .copying 0 0 0).cfg.txn = .copying) ∧
    (let s := stTxn .validating 0 0 0
     s.cfg.txn = .validating ∧ s.eClear (s.cfg.owner - 0x10) = true ∧ s.validate s.cfg.shadow = none ∧
       (s.validate [(0x4000, 1)]).isSome = true) ∧
    (let s := stFlash none
     s.mayBoot 0x18 = true ∧ s.boot.flashOp = none ∧ s.flashOpen 0x18 = true ∧ s.flashBarred (s.rfld Reg.BOOT_XADDR 31 3 * 8) = false ∧
       State.reset.flashOpen 0x18 = false ∧ (stFlash (some (2, 0x200000, 5))).boot.flashOp = some (2, 0x200000, 5)) ∧
    (State.reset.locked = false ∧ (regs [(Reg.CFG_LOCK, 1)]).locked = true) := by
  refine ⟨?_, ?_, ?_, ?_, ?_, ?_, ?_, ?_, ?_⟩ <;> decide +kernel

theorem test_flash_program : (after (Sys2Proof.Machine.exec (.bootFlashDone true) (stFlash (some (2, 0x200000, 0x0F))))).flashBytes 0x200000 2 =
    [0x0F, 0] := by decide +kernel

/-- R501: IMGLOAD puts two words of memory at address 0x100 of the code store. -/
theorem test_imgload : let s := { stTxn .opened 0 0x1000 0x0004000000000002 with mem := { Reset.mem with sdram := [(0x1000, 7), (0x1008, 9)] } }
    (after (Sys2Proof.Machine.exec (.cfgImgload 0x18) (s.rset Reg.L2C_DEF_ATTR 4))).code = [(0x100, 7), (0x101, 9)] := by decide +kernel

theorem test_boot_sdram_fails : let s := { regs [(Reg.BOOT_STATUS, 0x3000000000000000)] with boot := { Reset.boot with held := false } }
    (after (Sys2Proof.Machine.exec (.bootSdramTrained false) s)).rget Reg.BOOT_STATUS &&& 0xF000FF0000000000 = 0x6000080000000000 := by
  decide +kernel

/-- Ethernet port `i` on, with rings of 64 descriptors at 0x10000 and 0x20000 and this memory. -/
def stPort (i : Nat) (m : List (Nat × Byte)) (l : List (Nat × Word)) : State :=
  { regs ([(Reg.CLK_STATUS, 0x7FF), (Reg.SDC_CAPACITY, 0x8000000), (portReg i 0, 0xD), (portReg i 0x18, 0x10000), (portReg i 0x30, 0x20000)] ++ l) with
    mem := { Reset.mem with sdram := m } }

/-- A frame of EtherType `t` with payload `p`. -/
def etherFrame (t : Nat) (p : List Byte) : List Byte := List.replicate 12 0 ++ [BitVec.ofNat 8 (t / 256), BitVec.ofNat 8 t] ++ p

theorem witness_SensorsAndPortsActAsDescribed :
    ((0 : Nat) < State.reset.pins.temps.length ∧
      (let s := { State.reset with clock := 10000, pins := { Reset.pins with hot := Reset.pins.hot.set 3 (some 0) } }
       nth s.pins.hot 3 none = some 0 ∧ 0 + 10000 ≤ s.clock) ∧ nth State.reset.pins.hot 3 none = none) ∧
    ((stTxn .opened 0 0 0).cfg.owner ≠ 0x19 ∧ { (stTxn .opened 0 0 0).cfg with owner := 0x19 }.txn = .opened) ∧
    (State.reset.mayWrite 0x18 = true ∧ fld (5 : Word) 5 0 ≠ 0 ∧ fld (0 : Word) 5 0 = 0) ∧
    (let s := stPort 0 [(0x10001, 3)] [(portReg 0 0x28, 1)]
     s.portOn 0 = true ∧ State.reset.portOn 0 = false ∧ s.rbit (portReg 0 0) 2 = true ∧ etherType (etherFrame 0x8808 [0, 1, 0, 5]) = 0x8808 ∧
       beNat ((framePayload (etherFrame 0x8808 [0, 1, 0, 5])).take 2) = 1 ∧ 0 < s.ports.length ∧
       etherType (etherFrame 0x0800 []) ≠ 0x8808 ∧ etherType (etherFrame 0x0800 []) ≠ 0x88F7 ∧
       s.rfld (portReg 0 0x20) 13 0 % s.ringSize (portReg 0 0x18) ≠ s.rfld (portReg 0 0x28) 13 0 % s.ringSize (portReg 0 0x18) ∧
       s.portSolid (bytesToNat (s.memRead (s.ringDesc (portReg 0 0x18) 0) 8).1) 2048 = true ∧
       (stPort 0 [] []).rfld (portReg 0 0x20) 13 0 % 64 = (stPort 0 [] []).rfld (portReg 0 0x28) 13 0 % 64) ∧
    (let s := (stPort 0 [(0x20001, 3), (0x20008, 64)] [(portReg 0 0x40, 1)]).rset (portReg 0 0) 5
     s.portOn 0 = true ∧ (s.portAt 0).pauseT ≤ s.clock ∧ (s.portAt 0).ahead = [] ∧
       (s.rfld (portReg 0 0x40) 13 0 + s.ringSize (portReg 0 0x30) - s.rfld (portReg 0 0x38) 13 0 % s.ringSize (portReg 0 0x30)) %
         s.ringSize (portReg 0 0x30) = 1 ∧
       bytesToNat (s.memView (s.ringDesc (portReg 0 0x30) 0 + 8) 8) = 64 ∧ natField 64 22 20 = 0 ∧ s.gateAllows 0 0 64 = true ∧
       s.portSolid (bytesToNat (s.memRead (s.ringDesc (portReg 0 0x30) 0) 8).1) 64 = true) ∧
    (let s := stPort 0 [] []
     s.rbit (portReg 0 0) 3 = true ∧ s.gateAllows 0 0 64 = false) ∧
    (let s := { stPort 0 [] [(portReg 0 0x1008, 0x8000000000000064)] with tick := { Reset.tick with count := 1 } }
     (s.portAt 0).gateTick ≠ s.tick.count ∧ (s.portAt 0).gclPend = [] ∧ (stPort 0 [] []).tick.count = ((stPort 0 [] []).portAt 0).gateTick ∧
       ((stPort 0 [] []).portAt 0).gateEnd ≤ (stPort 0 [] []).now ∧ s.gclValid 0 1 = true) ∧
    (let s := { stPort 2 [] [(portReg 2 0x50, 0x10001)] with chans := [{ chan1 ckEngine with tcls := false, width := 8, pkind := pkTsl }] }
     s.portOn (0 + 2) = true ∧ s.rbit (portReg (0 + 2) 0x50) 16 = true ∧
       (s.chan? (s.rfld (portReg (0 + 2) 0x50) 15 0)).map (·.pkind) = some pkTsl ∧
       natField (bytesToNat (natToBytes 8 (2 ^ 56 + 1))) 63 56 = 1 ∧ (natToBytes 8 (2 ^ 56 + 1) ++ List.replicate 16 0).length = 8 * (1 + 2) ∧
       (stPort 2 [] []).rbit (portReg 2 0x50) 16 = false ∧ { chan1 ckEngine with pkind := pkTsl }.punit = 0 ∧
       (s.chan? 1).map (·.punit) = some 0) := by
  refine ⟨?_, ?_, ?_, ?_, ?_, ?_, ?_, ?_⟩ <;> decide +kernel

/-- R525: a received frame lies in the descriptor's buffer, with its length and timestamp after the buffer's address. -/
theorem test_receive : let s := (stPort 0 [(0x10001, 0x30)] [(portReg 0 0x28, 1)]).rset Reg.L2C_DEF_ATTR 4
    let t := after (Sys2Proof.Machine.exec (.ethFrameReceive 0 77 true (etherFrame 0x0800 [9])) s)
    (smBytes t.mem.sdram 0 0x300C 3, smBytes t.mem.sdram 0 0x10008 1, smBytes t.mem.sdram 0 0x10010 1, t.rget (portReg 0 0x20)) =
      ([8, 0, 9], [15], [77], 1) := by decide +kernel

theorem test_pause : ((after (Sys2Proof.Machine.exec (.ethFrameReceive 0 0 true (etherFrame 0x8808 [0, 1, 0, 25])) (stPort 0 [] []))).portAt 0).pauseT =
    512 := by decide +kernel

/-- An index past its range is ill formed, and the last of the range well formed. -/
theorem test_ill_formed_1 :
    (wellFormed (.tckRun 0x1A default) = false ∧ wellFormed (.tckRun 0x19 default) = true) ∧
    (wellFormed (.tilReadyqMaxRead 0 16) = false ∧ wellFormed (.tilReadyqMaxRead 0 15) = true) ∧
    (wellFormed (.pexInflightMaxRead 0 0 17) = false ∧ wellFormed (.pexInflightMaxRead 0 0 16) = true) ∧
    (wellFormed (.afePkholdRead 0 64) = false ∧ wellFormed (.afePkholdRead 0 63) = true) ∧
    (wellFormed (.deadlockWindowExpiry 0 8) = false ∧ wellFormed (.deadlockWindowExpiry 0 7) = true) ∧
    (wellFormed (.actIdReturn 65536) = false ∧ wellFormed (.actIdReturn 65535) = true) ∧
    (wellFormed (.ucsFetchParityError 0 4096 default default) = false ∧ wellFormed (.ucsFetchParityError 0 4095 default default) = true) ∧
    (wellFormed (.wayGroupPowerDownDone 0 4) = false ∧ wellFormed (.wayGroupPowerDownDone 0 3) = true) := by
  refine ⟨?_, ?_, ?_, ?_, ?_, ?_, ?_, ?_⟩ <;> decide +kernel

/-- An index past its range is ill formed, and the last of the range well formed. -/
theorem test_ill_formed_2 :
    (wellFormed (.sdramPatrolRead 4 default) = false ∧ wellFormed (.sdramPatrolRead 3 default) = true) ∧
    (wellFormed (.l2EccError 5 0 0 default default) = false ∧ wellFormed (.l2EccError 4 0 0 default default) = true) ∧
    (wellFormed (.l2EccError 0 0 17 default default) = false ∧ wellFormed (.l2EccError 0 0 16 default default) = true) ∧
    (wellFormed (.pcieRequest false false default 0 0 []) = false ∧ wellFormed (.pcieRequest false false default 0 4096 []) = true) ∧
    (wellFormed (.flowItemRelease 4096) = false ∧ wellFormed (.flowItemRelease 4095) = true) ∧
    (wellFormed (.graphDemandDiscard 4096) = false ∧ wellFormed (.graphDemandDiscard 4095) = true) ∧
    (wellFormed (.graphDemandTimeout 32) = false ∧ wellFormed (.graphDemandTimeout 31) = true) ∧
    (wellFormed (.tripConfigMismatch 3 0) = false ∧ wellFormed (.tripConfigMismatch 2 0) = true) := by
  refine ⟨?_, ?_, ?_, ?_, ?_, ?_, ?_, ?_⟩ <;> decide +kernel

/-- An index past its range is ill formed, and the last of the range well formed. -/
theorem test_ill_formed_3 :
    (wellFormed (.tripConfigMismatch 0 64) = false ∧ wellFormed (.tripConfigMismatch 0 63) = true) ∧
    (wellFormed (.engineBundle 9) = false ∧ wellFormed (.engineBundle 8) = true) ∧
    (wellFormed (.aluAdd 0 2 default) = false ∧ wellFormed (.aluAdd 0 1 default) = true) ∧
    (wellFormed (.chpEvqRead 0 64) = false ∧ wellFormed (.chpEvqRead 0 63) = true) ∧
    (wellFormed (.transformJobDone 4) = false ∧ wellFormed (.transformJobDone 3) = true) ∧
    (wellFormed (.linkResendTimeout 7) = false ∧ wellFormed (.linkResendTimeout 6) = true) ∧
    (wellFormed (.linkHelloTimeout 6) = false ∧ wellFormed (.linkHelloTimeout 5) = true) ∧
    (wellFormed (.resyncSourcePoint 16 default) = false ∧ wellFormed (.resyncSourcePoint 15 default) = true) := by
  refine ⟨?_, ?_, ?_, ?_, ?_, ?_, ?_, ?_⟩ <;> decide +kernel

/-- An index past its range is ill formed, and the last of the range well formed. -/
theorem test_ill_formed_4 :
    (wellFormed (.e2eResendTimeout 1024 0) = false ∧ wellFormed (.e2eResendTimeout 1023 0) = true) ∧
    (wellFormed (.e2eResendTimeout 0 4) = false ∧ wellFormed (.e2eResendTimeout 0 3) = true) ∧
    (wellFormed (.nocFlitError 20 0 default default default 0 default) = false ∧ wellFormed (.nocFlitError 19 0 default default default 0 default) = true) ∧
    (wellFormed (.nocFlitError 0 0 default default default 64 default) = false ∧ wellFormed (.nocFlitError 0 0 default default default 63 default) = true) ∧
    (wellFormed (.nocReservationWrite 0 64 default) = false ∧ wellFormed (.nocReservationWrite 0 63 default) = true) ∧
    (wellFormed (.domainOffReturn 6 default default) = false ∧ wellFormed (.domainOffReturn 5 default default) = true) ∧
    (wellFormed (.pllLossOfLock 11) = false ∧ wellFormed (.pllLossOfLock 10) = true) ∧
    (wellFormed (.domainPowerDownDone 134) = false ∧ wellFormed (.domainPowerDownDone 133) = true) := by
  refine ⟨?_, ?_, ?_, ?_, ?_, ?_, ?_, ?_⟩ <;> decide +kernel

/-- An index past its range is ill formed, and the last of the range well formed. -/
theorem test_ill_formed_5 :
    (wellFormed (.supplyWarning 8 0) = false ∧ wellFormed (.supplyWarning 7 0) = true) ∧
    (wellFormed (.supplyWarning 0 65536) = false ∧ wellFormed (.supplyWarning 0 65535) = true) ∧
    (wellFormed (.faultReport 5 0 0 0 default default default default default) = false ∧ wellFormed (.faultReport 4 0 0 0 default default default default default) = true) ∧
    (wellFormed (.faultReport 0 4096 0 0 default default default default default) = false ∧ wellFormed (.faultReport 0 4095 0 0 default default default default default) = true) ∧
    (wellFormed (.faultReport 0 0 256 0 default default default default default) = false ∧ wellFormed (.faultReport 0 0 255 0 default default default default default) = true) ∧
    (wellFormed (.faultReport 0 0 0 64 default default default default default) = false ∧ wellFormed (.faultReport 0 0 0 63 default default default default default) = true) ∧
    (wellFormed (.peCheckerError default 16) = false ∧ wellFormed (.peCheckerError default 15) = true) ∧
    (wellFormed (.tileStructureError 0 7 default default) = false ∧ wellFormed (.tileStructureError 0 6 default default) = true) := by
  refine ⟨?_, ?_, ?_, ?_, ?_, ?_, ?_, ?_⟩ <;> decide +kernel

/-- An index past its range is ill formed, and the last of the range well formed. -/
theorem test_ill_formed_6 :
    (wellFormed (.sequencerMemoryError 4 default) = false ∧ wellFormed (.sequencerMemoryError 3 default) = true) ∧
    (wellFormed (.ethRxTailWrite 0 18 default) = false ∧ wellFormed (.ethRxTailWrite 0 17 default) = true) ∧
    (wellFormed (.ethFrameTransmit 0 8) = false ∧ wellFormed (.ethFrameTransmit 0 7) = true) ∧
    (wellFormed (.ethGateEntry 2) = false ∧ wellFormed (.ethGateEntry 1) = true) ∧
    (wellFormed (.tslSensorFrame 16 default default) = false ∧ wellFormed (.tslSensorFrame 15 default default) = true) ∧
    (wellFormed (.i2cAddressWrite 256 0 0) = false ∧ wellFormed (.i2cAddressWrite 255 0 0) = true) ∧
    (wellFormed (.i2cAddressWrite 0 256 0) = false ∧ wellFormed (.i2cAddressWrite 0 255 0) = true) ∧
    (wellFormed (.i2cAddressWrite 0 0 256) = false ∧ wellFormed (.i2cAddressWrite 0 0 255) = true) := by
  refine ⟨?_, ?_, ?_, ?_, ?_, ?_, ?_, ?_⟩ <;> decide +kernel

/-- A byte of SDRAM, a byte of the boot flash and a register differ from what unlisted keys read as; a tick waits. -/
def stListed : State := { State.reset with
  pending := [.tick], csr := [(Reg.TCK_LAG_WARN, 9)], mem := { Reset.mem with sdram := [(0x100, 7), (0x200, 1)] },
  boot := { Reset.boot with flash := [(16, 0)] } }

theorem witness_StepsKeepTablesCanonical : Canonical stListed ∧
    Sys2Proof.Machine.step stListed = .next (after (Sys2Proof.Machine.step stListed)) := by
  refine ⟨⟨by decide +kernel, ?_, trivial, trivial, trivial⟩, rfl⟩
  exact ⟨by decide +kernel, by simp [smAbove], trivial⟩

/-- A tick that has no effect keeps the form; so does the removal of an entry by writing what an unlisted byte reads as. -/
theorem test_canonical_put : smPut [(0x100, (7 : Byte)), (0x200, 1)] 0x100 0 0 = [(0x200, 1)] ∧
    Memory.wf 0 [((0x200 : Nat), (1 : Byte)), (0x100, 7)] = false := by decide +kernel
end Sys2Proof.Tests
end

section
/-! The registers and the units after reset. -/

namespace Sys2Proof.Safety
open Sys2Proof.Machine

theorem rget_reset (a : Nat) : State.reset.rget a = regReset a := rfl

/-- Settles O3: no register is listed after reset, so each reads its reset value, and every unit starts empty. -/
theorem resetLeavesTheResetValues : Obligations.ResetLeavesTheResetValues := by
  refine ⟨rget_reset, ?_, ?_, ?_, ?_, rfl, rfl, rfl, rfl, rfl, rfl, rfl, rfl, rfl, ?_⟩
  · decide +kernel
  · decide +kernel
  · decide +kernel
  · decide +kernel
  · decide +kernel

end Sys2Proof.Safety
end

section
/-! The canonical form of the sparse tables: it holds after reset, and every step keeps it.

Seven tables are sparse: SDRAM, scratch, boot flash, registers, code store, control store and filter counters. Most
operations of the model leave all seven as they are (`Canonical.frame`); the few that write one write it through a law
of `smPut`, `filter` or `Memory.putBytes`. One lemma per operation, in the order of the definitions, says that the
operation keeps the form; `Canonical.exec` reads off each command that it is built from them. -/

namespace Sys2Proof.Safety
open Sys2Proof.Machine

/-! ### Laws of sparse maps -/

theorem smWf_filter {α : Type} {d : Nat → α} {m : List (Nat × α)} (p : Nat × α → Bool) (h : smWf d m) :
    smWf d (m.filter p) := by
  induction m with
  | nil => exact h
  | cons e m ih =>
    obtain ⟨h1, h2, h3⟩ := h
    rw [List.filter_cons]
    split
    · exact ⟨h1, fun x hx => h2 x (List.mem_filter.1 hx).1, ih h3⟩
    · exact ih h3

theorem smWf_foldl_filter {α β : Type} {d : Nat → α} {m : List (Nat × α)} {p : β → Nat × α → Bool}
    {xs : List β} (h : smWf d m) : smWf d (xs.foldl (fun c l => c.filter (p l)) m) := by
  induction xs generalizing m with
  | nil => exact h
  | cons x xs ih => exact ih (smWf_filter _ h)

theorem smWf_foldl_put {α β : Type} [DecidableEq α] {d : α} {m : List (Nat × α)} {k : β → Nat} {v : β → α}
    {xs : List β} (h : smWf (fun _ => d) m) : smWf (fun _ => d) (xs.foldl (fun m x => smPut m (k x) d (v x)) m) := by
  induction xs generalizing m with
  | nil => exact h
  | cons x xs ih => exact ih (smWf_put (d := fun _ => d) h)

/-! ### The form of the memories -/

theorem memOk_congr {s t : State} (h1 : t.mem.sdram = s.mem.sdram) (h2 : t.mem.scratch = s.mem.scratch)
    (h3 : t.boot.flash = s.boot.flash) : t.memOk = s.memOk := by simp only [State.memOk, h1, h2, h3]

theorem memOk_iff {s : State} : s.memOk = true ↔
    Memory.wf 0 s.mem.sdram = true ∧ Memory.wf 0 s.mem.scratch = true ∧ Memory.wf 0xFF s.boot.flash = true := by
  rw [State.memOk, Bool.and_eq_true, Bool.and_eq_true, and_assoc]

/-! ### What an operation may answer beside a state -/

/-- A pair of register accesses, of which each keeps the canonical form. -/
structure IoKeeps (io : Io) : Prop where
  rd : ∀ s m a, Canonical s → Canonical (io.rd s m a).2
  wr : ∀ s m a v, Canonical s → Canonical (io.wr s m a v)

/-- Where an operation of an engine completes, what it answers satisfies `p`. -/
def EOk {α : Type} (p : α → Prop) (r : ERes α) : Prop := ∀ x, r = .ok x → p x

namespace EOk
variable {α : Type} {p : α → Prop} {x : α} {a b : ERes α}

theorem ok (h : p x) : EOk p (.ok x) := by
  intro y e
  cases e
  exact h

theorem fault {f : EFault} : EOk p (.fault f) := by
  intro y e
  cases e

theorem stall {n : ENeed} : EOk p (.stall n) := by
  intro y e
  cases e

theorem ite {c : Prop} [Decidable c] (ha : EOk p a) (hb : EOk p b) : EOk p (if c then a else b) := by
  split
  · exact ha
  · exact hb

end EOk

/-- Where a load of the boot succeeds, the state that it answers is in canonical form. -/
def XOk (r : Except Nat State) : Prop := ∀ t, r = .ok t → Canonical t

namespace XOk
variable {s : State} {a b : Except Nat State}

theorem ok (h : Canonical s) : XOk (.ok s) := by
  intro y e
  cases e
  exact h

theorem error {n : Nat} : XOk (.error n) := by
  intro y e
  cases e

theorem ite {c : Prop} [Decidable c] (ha : XOk a) (hb : XOk b) : XOk (if c then a else b) := by
  split
  · exact ha
  · exact hb

end XOk

/-- Where a command answers a next state, that state is in canonical form. -/
def Leads (o : Out) : Prop := ∀ t, o = .next t → Canonical t

theorem Leads.next {s : State} (h : Canonical s) : Leads (.next s) := by
  intro t e
  cases e
  exact h

namespace Canonical
variable {s t : State}

/-! ### The tables that an operation leaves and the one that it writes -/

/-- A step that leaves the seven tables as they are keeps their form. -/
theorem frame (h : Canonical s)
    (e : (t.mem.sdram, t.mem.scratch, t.boot.flash, t.csr, t.code, t.ucs, t.filt) =
      (s.mem.sdram, s.mem.scratch, s.boot.flash, s.csr, s.code, s.ucs, s.filt)) : Canonical t := by
  simp only [Prod.mk.injEq] at e
  obtain ⟨hsdram, hscratch, hflash, hcsr, hcode, hucs, hfilt⟩ := e
  exact ⟨(memOk_congr hsdram hscratch hflash).trans h.mem, hcsr ▸ h.csr, hcode ▸ h.code,
    hucs ▸ h.ucs, hfilt ▸ h.filt⟩

theorem sdram (h : Canonical s) : Memory.wf 0 s.mem.sdram = true := (memOk_iff.1 h.mem).1

theorem scratch (h : Canonical s) : Memory.wf 0 s.mem.scratch = true := (memOk_iff.1 h.mem).2.1

theorem flash (h : Canonical s) : Memory.wf 0xFF s.boot.flash = true := (memOk_iff.1 h.mem).2.2

theorem setSdram (h : Canonical s) (hw : Memory.wf 0 t.mem.sdram = true)
    (e : (t.mem.scratch, t.boot.flash, t.csr, t.code, t.ucs, t.filt) =
      (s.mem.scratch, s.boot.flash, s.csr, s.code, s.ucs, s.filt)) : Canonical t := by
  simp only [Prod.mk.injEq] at e
  obtain ⟨hscratch, hflash, hcsr, hcode, hucs, hfilt⟩ := e
  exact ⟨memOk_iff.2 ⟨hw, hscratch ▸ h.scratch, hflash ▸ h.flash⟩, hcsr ▸ h.csr, hcode ▸ h.code, hucs ▸ h.ucs,
    hfilt ▸ h.filt⟩

theorem setScratch (h : Canonical s) (hw : Memory.wf 0 t.mem.scratch = true)
    (e : (t.mem.sdram, t.boot.flash, t.csr, t.code, t.ucs, t.filt) =
      (s.mem.sdram, s.boot.flash, s.csr, s.code, s.ucs, s.filt)) : Canonical t := by
  simp only [Prod.mk.injEq] at e
  obtain ⟨hsdram, hflash, hcsr, hcode, hucs, hfilt⟩ := e
  exact ⟨memOk_iff.2 ⟨hsdram ▸ h.sdram, hw, hflash ▸ h.flash⟩, hcsr ▸ h.csr, hcode ▸ h.code, hucs ▸ h.ucs,
    hfilt ▸ h.filt⟩

theorem setFlash (h : Canonical s) (hw : Memory.wf 0xFF t.boot.flash = true)
    (e : (t.mem.sdram, t.mem.scratch, t.csr, t.code, t.ucs, t.filt) =
      (s.mem.sdram, s.mem.scratch, s.csr, s.code, s.ucs, s.filt)) : Canonical t := by
  simp only [Prod.mk.injEq] at e
  obtain ⟨hsdram, hscratch, hcsr, hcode, hucs, hfilt⟩ := e
  exact ⟨memOk_iff.2 ⟨hsdram ▸ h.sdram, hscratch ▸ h.scratch, hw⟩, hcsr ▸ h.csr, hcode ▸ h.code, hucs ▸ h.ucs,
    hfilt ▸ h.filt⟩

theorem setCode (h : Canonical s) (hw : smWf (fun _ => 0) t.code)
    (e : (t.mem.sdram, t.mem.scratch, t.boot.flash, t.csr, t.ucs, t.filt) =
      (s.mem.sdram, s.mem.scratch, s.boot.flash, s.csr, s.ucs, s.filt)) : Canonical t := by
  simp only [Prod.mk.injEq] at e
  obtain ⟨hsdram, hscratch, hflash, hcsr, hucs, hfilt⟩ := e
  exact ⟨(memOk_congr hsdram hscratch hflash).trans h.mem, hcsr ▸ h.csr, hw, hucs ▸ h.ucs, hfilt ▸ h.filt⟩

theorem setUcs' (h : Canonical s) (hw : smWf (fun _ => 0) t.ucs)
    (e : (t.mem.sdram, t.mem.scratch, t.boot.flash, t.csr, t.code, t.filt) =
      (s.mem.sdram, s.mem.scratch, s.boot.flash, s.csr, s.code, s.filt)) : Canonical t := by
  simp only [Prod.mk.injEq] at e
  obtain ⟨hsdram, hscratch, hflash, hcsr, hcode, hfilt⟩ := e
  exact ⟨(memOk_congr hsdram hscratch hflash).trans h.mem, hcsr ▸ h.csr, hcode ▸ h.code, hw, hfilt ▸ h.filt⟩

theorem setFilt (h : Canonical s) (hw : smWf (fun _ => 0) t.filt)
    (e : (t.mem.sdram, t.mem.scratch, t.boot.flash, t.csr, t.code, t.ucs) =
      (s.mem.sdram, s.mem.scratch, s.boot.flash, s.csr, s.code, s.ucs)) : Canonical t := by
  simp only [Prod.mk.injEq] at e
  obtain ⟨hsdram, hscratch, hflash, hcsr, hcode, hucs⟩ := e
  exact ⟨(memOk_congr hsdram hscratch hflash).trans h.mem, hcsr ▸ h.csr, hcode ▸ h.code, hucs ▸ h.ucs, hw⟩

theorem setCsr (h : Canonical s) (hw : smWf regReset t.csr)
    (e : (t.mem.sdram, t.mem.scratch, t.boot.flash, t.code, t.ucs, t.filt) =
      (s.mem.sdram, s.mem.scratch, s.boot.flash, s.code, s.ucs, s.filt)) : Canonical t := by
  simp only [Prod.mk.injEq] at e
  obtain ⟨hsdram, hscratch, hflash, hcode, hucs, hfilt⟩ := e
  exact ⟨(memOk_congr hsdram hscratch hflash).trans h.mem, hw, hcode ▸ h.code, hucs ▸ h.ucs, hfilt ▸ h.filt⟩

/-! ### Branches, loops and register writes -/

theorem foldl_by {α β : Type} (g : β → State) {f : β → α → β} {xs : List α} {x : β}
    (hf : ∀ x a, Canonical (g x) → Canonical (g (f x a))) (h : Canonical (g x)) :
    Canonical (g (xs.foldl f x)) := by
  induction xs generalizing x with
  | nil => exact h
  | cons a xs ih => exact ih (hf x a h)

theorem ite {c : Prop} [Decidable c] (h : Canonical s) (g : Canonical t) : Canonical (if c then s else t) := by
  split
  · exact h
  · exact g

theorem iteSnd {α : Type} {c : Prop} [Decidable c] {p q : α × State} (h : Canonical p.2) (g : Canonical q.2) :
    Canonical (if c then p else q).2 := by
  split
  · exact h
  · exact g

theorem ofSnd {α : Type} {p : α × State} {a : α} (h : Canonical p.2) (e : p = (a, t)) : Canonical t := by
  subst e
  exact h

theorem ioRd {io : Io} {m a : Nat} (h : Canonical s) (hio : IoKeeps io) : Canonical (io.rd s m a).2 :=
  hio.rd _ _ _ h

theorem ioWr {io : Io} {m a : Nat} {v : Word} (h : Canonical s) (hio : IoKeeps io) : Canonical (io.wr s m a v) :=
  hio.wr _ _ _ _ h

theorem foldl {α : Type} {f : State → α → State} {xs : List α} (h : Canonical s)
    (hf : ∀ s x, Canonical s → Canonical (f s x)) : Canonical (xs.foldl f s) := by
  induction xs generalizing s with
  | nil => exact h
  | cons x xs ih => exact ih (hf s x h)

theorem onlyIf {c : Bool} {f : State → State} (h : Canonical s) (hf : ∀ s, Canonical s → Canonical (f s)) :
    Canonical (s.onlyIf c f) := .ite (hf s h) h

theorem rset {a : Nat} {v : Word} (h : Canonical s) : Canonical (s.rset a v) :=
  { h with csr := State.csr_rset_wf s a v h.csr }

/-! ### The registers (Machine/Regs) -/

theorem rsetFld {a hi lo v : Nat} (h : Canonical s) : Canonical (s.rsetFld a hi lo v) := h.rset

theorem rsetBit {a i : Nat} {b : Bool} (h : Canonical s) : Canonical (s.rsetBit a i b) := h.rset

theorem rinc {a : Nat} (h : Canonical s) : Canonical (s.rinc a) := h.rset

theorem radd {a n : Nat} (h : Canonical s) : Canonical (s.radd a n) := h.rset

theorem rmax {a v : Nat} (h : Canonical s) : Canonical (s.rmax a v) := .ite h.rset h

theorem drawNat (h : Canonical s) : Canonical s.drawNat.2 := by
  unfold State.drawNat
  exact .frame h rfl

theorem drawWord (h : Canonical s) : Canonical s.drawWord.2 := by
  unfold State.drawWord
  exact .frame h rfl

theorem wake (h : Canonical s) : Canonical s.wake := .ite (.frame h.rsetBit rfl) h

theorem wakeBy {src : Nat} (h : Canonical s) : Canonical (s.wakeBy src) := .ite h.wake h

theorem rwrite {a : Nat} {v : Word} (h : Canonical s) : Canonical (s.rwrite a v) := by
  unfold State.rwrite
  split
  · exact h.rset
  · exact h

/-! ### The fault log (Machine/FaultLog) -/

theorem raiseVector {v : Nat} (h : Canonical s) : Canonical (s.raiseVector v) := .ite h (.frame h rfl)

theorem latch {c : Nat} {fr : FclRec} (h : Canonical s) : Canonical (s.latch c fr) :=
  .ite h.rsetBit h.rset.rset.rset.rset.raiseVector

theorem logRecord {c : Nat} {fr : FclRec} (h : Canonical s) : Canonical (s.logRecord c fr) :=
  .ite (.frame h rfl) (.ite (.frame h rfl) h.rinc)

theorem collect {r : Report} (h : Canonical s) : Canonical (s.collect r) := h.latch.rinc.logRecord

theorem event {src loc code arg : Nat} (h : Canonical s) : Canonical (s.event src loc code arg) := h.collect

theorem eventTag {src loc code arg : Nat} {tag : Tag} {wafer : Option Nat} (h : Canonical s) :
    Canonical (s.eventTag src loc code arg tag wafer) :=
  h.collect

theorem showRecovery {j : RecJob} {ns : Nat} (h : Canonical s) : Canonical (s.showRecovery j ns) := h.rset

theorem closeRecovery {j : RecJob} {ns : Nat} (h : Canonical s) : Canonical (s.closeRecovery j ns) :=
  .rinc (.rmax (.showRecovery (.frame h rfl)))

theorem openRecovery {j : RecJob} (h : Canonical s) : Canonical (s.openRecovery j) :=
  .showRecovery (.frame h rfl)

theorem retryDone {id : Nat} (h : Canonical s) : Canonical (s.retryDone id) := by
  unfold State.retryDone
  split
  · exact h.closeRecovery
  · exact h

theorem retryGone {id : Nat} (h : Canonical s) : Canonical (s.retryGone id) := h.frame rfl

theorem redispatched {id : Nat} (h : Canonical s) : Canonical (s.redispatched id) := by
  unfold State.redispatched
  split
  · exact h
  · exact .ite (.frame h rfl) (.ite (.rsetFld (.rmax (.frame h rfl))) (.rmax (.frame h rfl)))

/-! ### The trip unit (Machine/TripUnit) -/

theorem setAfeCh {c : Nat} {x : AfeChan} (h : Canonical s) : Canonical (s.setAfeCh c x) := h.frame rfl

theorem setTach {t : Nat} {x : Tach} (h : Canonical s) : Canonical (s.setTach t x) := h.frame rfl

theorem tripOne_keeps {reset : Bool} {k : Nat} (h : Canonical s) : Canonical (tripOne reset s k) := by
  unfold Machine.tripOne
  extract_lets cfg o v h' force armed t c o' _ s1 s2 s3
  have h1 : Canonical s1 := .frame h rfl
  have h2 : Canonical s2 := h1.wakeBy.rset.rinc
  have h3 : Canonical s3 := .ite h2.event h2
  exact .ite h1 (.ite h3.rset.rset h3)

theorem tripEval_keeps {named : Nat} (h : Canonical s) : Canonical (tripEval s named) :=
  .foldl h fun _ _ h => h.tripOne_keeps

theorem setForce_keeps {f : Force} (h : Canonical s) : Canonical (setForce s f) :=
  .tripEval_keeps (.frame h rfl)

/-! ### Reports and reactions (Machine/Ops) -/

theorem graveReaction (h : Canonical s) : Canonical s.graveReaction :=
  .rsetBit (.frame h.rsetBit.setForce_keeps (by with_reducible rfl))

theorem progress {k : Nat} (h : Canonical s) : Canonical (s.progress k) := h.frame rfl

theorem beginJob {j : RecJob} (h : Canonical s) : Canonical (s.beginJob j) := by
  unfold State.beginJob
  extract_lets s1 s2
  have h1 : Canonical s1 := .foldl h fun _ _ h => h.progress
  have h2 : Canonical s2 := .ite h1.rsetFld h1
  exact .ite (.ite h2.rsetFld h2) h1

theorem overload {r : Report} {d : Nat} (h : Canonical s) : Canonical (s.overload r d) :=
  h.collect.graveReaction

theorem report {r : Report} {job : Option RecJob} (h : Canonical s) : Canonical (s.report r job) := by
  unfold State.report
  refine .ite h <| .ite h.collect.graveReaction ?_
  split
  · exact h.collect
  · exact .ite h.overload (.ite h.overload (.beginJob (.openRecovery (.frame h.collect rfl))))

theorem degrade {src kind loc detail : Nat} (h : Canonical s) : Canonical (s.degrade src kind loc detail) :=
  h.report

theorem grave {src kind loc detail : Nat} (h : Canonical s) : Canonical (s.grave src kind loc detail) :=
  h.report

theorem retried {r : Report} (h : Canonical s) : Canonical (s.retried r) := h.report.closeRecovery

/-! ### SDRAM and caches as stores reach them (Machine/Memory) -/

theorem sdRead {a n : Nat} (h : Canonical s) : Canonical (s.sdRead a n).2 := by
  unfold State.sdRead
  exact h.radd

theorem sdWrite {a : Nat} {bs : List Byte} (h : Canonical s) : Canonical (s.sdWrite a bs) :=
  .radd <| .radd <| h.setSdram (Memory.wf_putBytes h.sdram) rfl

theorem sdLine {line : Nat} (h : Canonical s) : Canonical (s.sdLine line).2 := by
  unfold State.sdLine
  split
  · exact h.radd
  · exact h.sdRead

theorem l2Set {f : L2Line} (h : Canonical s) : Canonical (s.l2Set f) := h.frame rfl

theorem l2Clear {f : L2Line} (h : Canonical s) : Canonical (s.l2Clear f) := h.frame rfl

theorem l1Invalidate {line : Nat} {but : Option (Nat × Nat)} (h : Canonical s) :
    Canonical (s.l1Invalidate line but) :=
  h.frame rfl

theorem l2Clean {f : L2Line} (h : Canonical s) : Canonical (s.l2Clean f) := .ite h.sdWrite.rinc.l2Set h

theorem l2Inval {f : L2Line} (h : Canonical s) : Canonical (s.l2Inval f) :=
  .ite h.l1Invalidate.l2Set h.l1Invalidate.l2Clear

theorem l2CleanInval {f : L2Line} (h : Canonical s) : Canonical (s.l2CleanInval f) := h.l2Clean.l2Inval

theorem l2Install {line : Nat} {d : BitVec 512} {dirty : Bool} (h : Canonical s) :
    Canonical (s.l2Install line d dirty) := by
  unfold State.l2Install
  extract_lets sl set ways fresh r w
  have hr : Canonical r.2 := h.drawNat
  split
  · exact h.l2Set
  · split
    · exact h.l2Set
    · refine .ite (.ite h.sdWrite h) ?_
      split
      · exact hr.l2Clean.l2Set
      · exact hr.l2Set

theorem storeLine {own : Option (Nat × Nat)} {a : Nat} {bs : List Byte} (h : Canonical s) :
    Canonical (s.storeLine own a bs) := by
  unfold State.storeLine
  extract_lets line l1 _ at' sl miss
  have hl1 : ∀ s, Canonical s → Canonical (l1 s) := fun s h => .frame h.l1Invalidate (by with_reducible rfl)
  have hmiss : ∀ s, Canonical s → Canonical (miss s) := fun s h =>
    .ite h.sdWrite.rinc (.ite h.sdLine.l2Install.rinc.sdWrite h.sdLine.l2Install.rinc)
  split
  · exact hl1 _ (h.setScratch (Memory.wf_putBytes h.scratch) rfl)
  · refine .ite (hl1 _ h.sdWrite) ?_
    split
    · exact .ite (hl1 _ (.ite h.l2Set.rinc.sdWrite h.l2Set.rinc)) (hl1 _ (hmiss _ h.l2Clean.l2Inval))
    · exact hl1 _ (hmiss _ h)
  · exact h

theorem memWrite {own : Option (Nat × Nat)} {a : Nat} {bs : List Byte}
    (h : Canonical s) : Canonical (s.memWrite own a bs) :=
  foldl_by Prod.fst (fun _ _ h => h.storeLine) h

theorem codeDrop {lo hi : Nat} (h : Canonical s) : Canonical (s.codeDrop lo hi) := h.frame rfl

theorem codeFetch {j : Nat} (h : Canonical s) : Canonical (s.codeFetch j) := by
  unfold State.codeFetch
  extract_lets line r
  have hr : Canonical r.2 := h.sdLine
  refine .ite h ?_
  split
  · exact h.rinc
  · exact hr.l2Install.rinc

theorem readLine {a n : Nat} (h : Canonical s) : Canonical (s.readLine a n).2 := by
  unfold State.readLine
  split
  · extract_lets sl r
    have hr : Canonical r.2 := h.sdLine
    refine .iteSnd h.sdRead ?_
    split
    · exact h.rinc
    · exact hr.l2Install.rinc
  · exact h

theorem memRead {a n : Nat} (h : Canonical s) : Canonical (s.memRead a n).2 :=
  foldl_by Prod.snd (fun _ _ h => h.readLine) h

theorem l1Fill {t p line : Nat} {d : BitVec 512} (h : Canonical s) : Canonical (s.l1Fill t p line d) :=
  .ite h (.ite (.frame h rfl) (.frame h.drawNat rfl))

theorem peLoadLine {t p a n : Nat} (h : Canonical s) : Canonical (s.peLoadLine t p a n).2 := by
  unfold State.peLoadLine
  extract_lets line uc r s1 d s2 _
  have hr : Canonical r.2 := h.sdRead
  have h1 : Canonical s1 := h.rinc
  have h2 : Canonical s2 := h1.rinc
  split
  · refine .iteSnd hr ?_
    split
    · exact h
    · refine .iteSnd h1.l1Fill ?_
      split
      · exact h1.l1Fill.rinc
      · exact .iteSnd h2 (.frame h2 (by with_reducible rfl))
  · refine .iteSnd hr ?_
    split
    · exact h
    · refine .iteSnd h1.l1Fill ?_
      split
      · exact h1.l1Fill.rinc
      · exact .iteSnd h2 (.frame h2 (by with_reducible rfl))
  · exact h

theorem peLoad {t p a n : Nat} (h : Canonical s) : Canonical (s.peLoad t p a n).2 :=
  foldl_by Prod.snd (fun _ _ h => h.peLoadLine) h

/-! ### The trace (Machine/Trace) -/

theorem updSlot {k : Nat} {f : Slot → Slot} (h : Canonical s) : Canonical (s.updSlot k f) := h.frame rfl

theorem updTile {t : Nat} {f : Tile → Tile} (h : Canonical s) : Canonical (s.updTile t f) := h.frame rfl

theorem updAct {id : Nat} {f : Act → Act} (h : Canonical s) : Canonical (s.updAct id f) := h.frame rfl

theorem updEngine {n : Nat} {f : Engine → Engine} (h : Canonical s) : Canonical (s.updEngine n f) := h.frame rfl

theorem raiseEvent {n cause : Nat} (h : Canonical s) : Canonical (s.raiseEvent n cause) := h.updEngine

theorem ringWrite {cs : List (BitVec 128)} (h : Canonical s) : Canonical (s.ringWrite cs) :=
  .foldl h fun _ _ h => h.sdWrite.rset

theorem ringItem {wrap : Bool} {cs : List (BitVec 128)} (h : Canonical s) : Canonical (s.ringItem wrap cs) := by
  unfold State.ringItem
  extract_lets size used all s1
  have h1 : Canonical s1 := .ringWrite (.frame h rfl)
  exact .ite (.ite h1.rset.rsetBit h1) (.ite (.ringWrite (.frame h rfl)) (.rsetBit (.radd (.frame h rfl))))

theorem decision {kind inc slot low : Nat} {d : Word} (h : Canonical s) :
    Canonical (s.decision kind inc slot low d) :=
  .ite h.ringItem h

theorem waferCrumb {kind slot p : Nat} {d : Word} (h : Canonical s) : Canonical (s.waferCrumb kind slot p d) :=
  .ite (.ite (.ite h.updSlot.sdWrite h.updSlot) h.updSlot.rinc) h

/-! ### The lock unit (Machine/LockUnit) -/

theorem setLock {l : Lock} (h : Canonical s) : Canonical (s.setLock l) := h.frame rfl

theorem setLkuRec {r : LkuRec} (h : Canonical s) : Canonical (s.setLkuRec r) := h.frame rfl

theorem lockCrumb {kind k low : Nat} {o : Owner} (h : Canonical s) : Canonical (s.lockCrumb kind k low o) :=
  h.decision

theorem noteLevel {o : Owner} {e : Nat} (h : Canonical s) : Canonical (s.noteLevel o e) := h.frame rfl

theorem actRelevel {id : Nat} (h : Canonical s) : Canonical (s.actRelevel id) := h.updAct

theorem relevelOne {k : Nat} {o : Owner} (h : Canonical s) : Canonical (s.relevelOne k o) := by
  unfold State.relevelOne
  refine .ite (.frame h rfl) ?_
  extract_lets e old s1 r s2
  have h1 : Canonical s1 := h.noteLevel.lockCrumb.rinc
  have h2 : Canonical s2 := .ite h1.setLkuRec h1
  exact .ite h (.ite h1.actRelevel (.ite h2.raiseEvent h2))

theorem relevel {k : Nat} (h : Canonical s) : Canonical (s.relevel k) := .foldl h fun _ _ h => h.relevelOne

theorem lkuDone {r : LkuRec} {st : Nat} (h : Canonical s) : Canonical (s.lkuDone r st) := h.setLkuRec

theorem lockGive {l : Lock} {o : Owner} {b fid : Nat} (h : Canonical s) : Canonical (s.lockGive l o b fid) := by
  unfold State.lockGive
  extract_lets st s1 s2 r s3
  have h1 : Canonical s1 := h.setLock.rinc
  have h2 : Canonical s2 := h1.lockCrumb
  have h3 : Canonical s3 := h2.lkuDone
  exact .ite (.frame h2 rfl) (.ite h3.raiseEvent h3)

theorem lockGrantNext {k : Nat} (h : Canonical s) : Canonical (s.lockGrantNext k) := by
  unfold State.lockGrantNext
  extract_lets l
  refine .ite h ?_
  split
  · exact h
  · exact h.rinc.lockGive

theorem lockFree {k : Nat} (h : Canonical s) : Canonical (s.lockFree k) := h.setLock.lockGrantNext.relevel

theorem markAbandoned {k cause : Nat} {o : Owner} (h : Canonical s) : Canonical (s.markAbandoned k cause o) :=
  .ite h.setLock.lockCrumb.rinc.rsetBit.event h.setLock.lockCrumb.rinc.rsetBit

theorem abandonAll {mine : Owner → Bool} {cause : Nat} (h : Canonical s) :
    Canonical (s.abandonAll mine cause) :=
  .foldl (.foldl h fun _ _ h => h.markAbandoned) fun _ _ h => h.lockGrantNext.relevel

theorem withdrawWaits {mine : Owner → Bool} (h : Canonical s) : Canonical (s.withdrawWaits mine) :=
  .foldl h fun _ _ h => h.setLock.relevel

theorem noteCycle {k : Nat} {o : Owner} {b : Nat} (h : Canonical s) : Canonical (s.noteCycle k o b) :=
  .ite h.lockCrumb.rinc.rsetBit.event h.lockCrumb.rinc.rsetBit

theorem lockWait {k : Nat} {w : LockWait} (h : Canonical s) : Canonical (s.lockWait k w) :=
  h.setLock.lockCrumb.relevel

theorem lkuStart {m : Nat} {v : Word} {f : State → LkuRec → State}
    (h : Canonical s) (hf : ∀ s x, Canonical s → Canonical (f s x)) :
    Canonical (s.lkuStart m v f) :=
  .ite h.rsetBit (hf _ _ h.setLkuRec.setLkuRec.noteLevel)

theorem lkuAcq {m : Nat} {v : Word} (h : Canonical s) : Canonical (s.lkuAcq m v) := by
  unfold State.lkuAcq
  refine .lkuStart h fun s r h => ?_
  exact .ite h.lkuDone (.ite h.lockGive (.ite h.noteCycle.lkuDone (.ite h.lkuDone h.lockWait)))

theorem lkuTry {m : Nat} {v : Word} (h : Canonical s) : Canonical (s.lkuTry m v) :=
  .lkuStart h fun _ _ h => .ite h.lkuDone (.ite h.lockGive h.lkuDone)

theorem lkuRel {m : Nat} {v : Word} (h : Canonical s) : Canonical (s.lkuRel m v) :=
  .lkuStart h fun _ _ h => .ite h.lkuDone.lockFree h.lkuDone

theorem lkuHand {m : Nat} {v : Word} (h : Canonical s) : Canonical (s.lkuHand m v) :=
  .lkuStart h fun _ _ h => .ite h.lkuDone.setLock.relevel h.lkuDone

theorem lkuCancel {m : Nat} (h : Canonical s) : Canonical (s.lkuCancel m) := .ite h.withdrawWaits.lkuDone h

theorem lkuBad {m : Nat} {v : Word} (h : Canonical s) : Canonical (s.lkuBad m v) :=
  .lkuStart h fun _ _ h => h.lkuDone

theorem lkuRequest {m : Nat} {v : Word} (h : Canonical s) : Canonical (s.lkuRequest m v) :=
  .ite h.lkuAcq (.ite h.lkuTry (.ite h.lkuRel (.ite h.lkuHand (.ite h.lkuCancel h.lkuBad))))

theorem masterReset {m : Nat} (h : Canonical s) : Canonical (s.masterReset m) := by
  unfold State.masterReset
  extract_lets mine held s1 s2 s3
  have h1 : Canonical s1 := .foldl h fun _ _ h => h.markAbandoned
  have h2 : Canonical s2 := h1.withdrawWaits
  have h3 : Canonical s3 := .frame h2 rfl
  exact .foldl h3 fun _ _ h => h.lockGrantNext.relevel

theorem lkuMreset {m : Nat} {v : Word} (h : Canonical s) : Canonical (s.lkuMreset m v) := .ite h.masterReset h

theorem lockReplay {slot : Nat} {mine : Nat → Bool} (h : Canonical s) : Canonical (s.lockReplay slot mine) :=
  .foldl h.withdrawWaits fun _ _ h => h.setLock.relevel

theorem lockUnhold {slot : Nat} (h : Canonical s) : Canonical (s.lockUnhold slot) :=
  .foldl h fun _ _ h => h.setLock.lockGrantNext.relevel

/-! ### Tokens in the network (Machine/Tokens) -/

theorem holeEvent {m a : Nat} (h : Canonical s) : Canonical (s.holeEvent m a) := h.collect

theorem classSent {cls src dst : Nat} (h : Canonical s) : Canonical (s.classSent cls src dst) := h.frame rfl

theorem injectOne {i : Nat} (h : Canonical s) : Canonical (s.injectOne i) := by
  unfold State.injectOne
  split
  · exact h
  · exact .ite h (.frame h rfl)

theorem inject (h : Canonical s) : Canonical s.inject := .ite h (.foldl h fun _ _ h => h.injectOne)

theorem sendTokens {ks : List Token} (h : Canonical s) : Canonical (s.sendTokens ks) := .inject (.frame h rfl)

/-! ### Channels (Machine/Channels) -/

theorem setChan {c : Chan} (h : Canonical s) : Canonical (s.setChan c) := h.frame rfl

theorem wakeChannel (h : Canonical s) : Canonical s.wakeChannel := h.frame rfl

theorem engineEntry {n kind handle data : Nat} (h : Canonical s) :
    Canonical (s.engineEntry n kind handle data) :=
  .ite h.updEngine (.ite h.rsetBit h.updEngine)

theorem consumerEvent {c : Chan} {kind data : Nat} (h : Canonical s) :
    Canonical (s.consumerEvent c kind data) :=
  .ite h.engineEntry h

theorem ackProducer {c : Chan} {n : Nat} (h : Canonical s) : Canonical (s.ackProducer c n) :=
  .ite h.engineEntry h

theorem dropPacket {c : Chan} (h : Canonical s) : Canonical (s.dropPacket c) :=
  .ite h.setChan.rinc.consumerEvent h.setChan.rinc

theorem storePacket {c : Chan} {ws : List Nat} {t : Nat} {ctx : Bool} {src : Option Nat} (h : Canonical s) :
    Canonical (s.storePacket c ws t ctx src) :=
  .ite (.consumerEvent (.ite h.setChan.consumerEvent h.setChan)) (.ite h.setChan.consumerEvent h.setChan)

theorem commitPacket {c : Chan} {o : PktOwner} {ws : List Nat} {t : Nat} {ctx : Bool} (h : Canonical s) :
    Canonical (s.commitPacket c o ws t ctx) := by
  unfold State.commitPacket
  extract_lets fresh
  have hfresh : ∀ s c src, Canonical s → Canonical (fresh s c src) := by
    intro s c src h
    dsimp only [fresh]
    refine .ite h.storePacket ?_
    exact .ite (.ite h.dropPacket.rinc.rsetBit.event h.dropPacket.rinc.rsetBit) (.ite h.storePacket h.dropPacket)
  split
  · exact .ite h.setChan (hfresh _ _ _ h.setChan)
  · exact hfresh _ _ _ h

theorem appendWord {h0 : Nat} {o : PktOwner} {word t : Nat} {close ctx : Bool} (h : Canonical s) :
    Canonical (s.appendWord h0 o word t close ctx) := by
  unfold State.appendWord
  split
  · exact h
  · exact .ite h (.ite (.commitPacket (.frame h rfl)) (.frame h rfl))

theorem unitPacket {c : Chan} {ws : List Nat} {t : Nat} (h : Canonical s) : Canonical (s.unitPacket c ws t) :=
  .ite h.dropPacket h.commitPacket

theorem rewind {p : OpenPkt → Bool} (h : Canonical s) : Canonical (s.rewind p) := .wakeChannel (.frame h rfl)

theorem settle {s0 : State} (h : Canonical s0) : Canonical s0.settle :=
  .foldl h.inject fun _ _ h => .ite h.updSlot h

theorem takeNext {c : Chan} (h : Canonical s) : Canonical (s.takeNext c).2 := by
  unfold State.takeNext
  extract_lets r _ c'
  dsimp only
  exact h.setChan.ackProducer.wakeChannel.settle

theorem dropPartly {c : Chan} (h : Canonical s) : Canonical (s.dropPartly c) := by
  unfold State.dropPartly
  refine .ite h ?_
  split
  · exact h
  · exact h.setChan.ackProducer.wakeChannel.settle

theorem flushChan {c : Chan} (h : Canonical s) : Canonical (s.flushChan c) := by
  unfold State.flushChan
  exact h.setChan.ackProducer.wakeChannel.settle

theorem createChan {a0 a1 : Word} (h : Canonical s) : Canonical (s.createChan a0 a1).2.2 := by
  unfold State.createChan
  extract_lets c
  split
  · exact h
  · split
    · exact h
    · split
      · exact h
      · exact .frame h rfl

theorem rewindAfe {p : Nat → Bool} (h : Canonical s) : Canonical (s.rewindAfe p) := h.frame rfl

theorem destroyChan {c : Chan} (h : Canonical s) : Canonical (s.destroyChan c) := by
  unfold State.destroyChan
  extract_lets _ s0 s1 s1' s2 s3
  have h0 : Canonical s0 := .frame h rfl
  have h1 : Canonical s1 := h0.rewindAfe
  have h1' : Canonical s1' := h1.setChan
  have h2 : Canonical s2 := .frame h1' rfl
  have h3 : Canonical s3 := .ite h2.engineEntry h2
  exact h3.wakeChannel.settle

theorem setChnRec {r : ChnRec} (h : Canonical s) : Canonical (s.setChnRec r) := h.frame rfl

theorem chnDone {m rstat h0 : Nat} (h : Canonical s) : Canonical (s.chnDone m rstat h0) := h.setChnRec

theorem onChan {m : Nat} {f : Chan → Nat × State} (h : Canonical s) (hf : ∀ x0, Canonical (f x0).2) :
    Canonical (s.onChan m f) := by
  unfold State.onChan
  extract_lets h'
  split
  · exact h.chnDone
  · exact .chnDone (hf _)

theorem chnCreate {m : Nat} (h : Canonical s) : Canonical (s.chnCreate m) := h.createChan.chnDone

theorem chnDestroy {m : Nat} (h : Canonical s) : Canonical (s.chnDestroy m) := by
  unfold State.chnDestroy
  refine .onChan h fun c => ?_
  refine .iteSnd h ?_
  dsimp only
  exact h.destroyChan

theorem chnFlush {m : Nat} (h : Canonical s) : Canonical (s.chnFlush m) := by
  unfold State.chnFlush
  refine .onChan h fun c => ?_
  refine .iteSnd ?_ h
  dsimp only
  exact h.flushChan

theorem chnDropPacket {m : Nat} (h : Canonical s) : Canonical (s.chnDropPacket m) :=
  .onChan h fun _ => .iteSnd h.dropPartly h

theorem chnQuery {m : Nat} (h : Canonical s) : Canonical (s.chnQuery m) :=
  .onChan h fun _ => h.setChan.setChnRec

theorem chnCommand {m : Nat} {v : Word} (h : Canonical s) : Canonical (s.chnCommand m v) :=
  .ite h.rsetBit (.ite h.chnDone h.setChnRec)

theorem chnRun {m op : Nat} {f : State → State} (h : Canonical s) (hf : ∀ s, Canonical s → Canonical (f s)) :
    Canonical (s.chnRun m op f) :=
  .ite h.rsetBit (hf _ h)

theorem openWindows {wafer openT closeT : Nat} (h : Canonical s) :
    Canonical (s.openWindows wafer openT closeT) :=
  h.frame rfl

theorem completeWindow {c : Chan} (h : Canonical s) : Canonical (s.completeWindow c) := by
  unfold State.completeWindow
  split
  · exact h
  · exact h.setChan.ackProducer.wakeChannel

theorem releaseWindows {wafer slot : Nat} (h : Canonical s) : Canonical (s.releaseWindows wafer slot) :=
  .wakeChannel (.frame h rfl)

theorem queueReset {c : Chan} {cause : Nat} (h : Canonical s) : Canonical (s.queueReset c cause) := by
  unfold State.queueReset
  extract_lets keep c' s1 j s2 s3
  have h1 : Canonical s1 := h.setChan.rinc.rset.rsetBit
  have h2 : Canonical s2 := h1.report
  have h3 : Canonical s3 := .ite h2 h2.closeRecovery
  exact .settle (.wakeChannel (.ite h3.consumerEvent h3))

theorem pointerRead {c : Chan} {e : PtrFault} (h : Canonical s) : Canonical (s.pointerRead c e) :=
  .ite h h.queueReset

theorem staleTail {c : Chan} (h : Canonical s) : Canonical (s.staleTail c) :=
  .ite (.ite h.setChan.consumerEvent.rsetBit.rsetBit.event h.setChan.consumerEvent.rsetBit.rsetBit) h

theorem moveBack {c : Chan} (h : Canonical s) : Canonical (s.moveBack c) := by
  unfold State.moveBack
  split
  · exact h
  · exact .ite h.setChan h

theorem atIndex {i : Nat} {f : State → Chan → State}
    (h : Canonical s) (hf : ∀ s x, Canonical s → Canonical (f s x)) :
    Canonical (s.atIndex i f) := by
  unfold State.atIndex
  split
  · exact hf _ _ h
  · exact h

theorem asmError {n : Nat} {r : Report} (h : Canonical s) : Canonical (s.asmError n r) := by
  unfold State.asmError
  split
  · extract_lets s1
    have h1 : Canonical s1 := .wakeChannel (.frame h rfl)
    split
    · exact h1.report
    · exact h1.updEngine.report
    · exact h1.report
  · extract_lets n1 n2 _
    split
    · exact h.rewindAfe.wakeChannel.report
    · exact .ite (.report (.wakeChannel (.frame h rfl))) h

theorem qramError {i kind n : Nat} {both : Bool} {e : Codeword} (h : Canonical s) :
    Canonical (s.qramError i kind n both e) := by
  unfold State.qramError
  extract_lets r slot cls known last
  have hlast : ∀ s c, Canonical s → Canonical (last s c) := by
    intro s c h
    dsimp only [last]
    exact h.rset
  split
  · exact h
  · exact .report (.rinc (hlast _ _ h))
  · refine .ite h <| .ite (.atIndex (hlast _ _ h) (fun _ _ h => h.queueReset)) ?_
    refine .ite (.report (hlast _ _ h)) ?_
    refine .ite ?_ (.asmError (hlast _ _ h))
    exact .ite (.atIndex (hlast _ _ h) (fun _ _ h => h.queueReset)) (.report (hlast _ _ h))

/-! ### The analog front end (Machine/Afe) -/

theorem enforce {a : Nat} {v : Word} (h : Canonical s) : Canonical (s.enforce a v) :=
  .ite h.rset (.ite h.rset.setAfeCh (.ite h.rset.setAfeCh (.ite (.ite h.rset.rsetBit h.rset) h.rset)))

theorem shadowWrite {a : Nat} {v : Word} (h : Canonical s) : Canonical (s.shadowWrite a v) := by
  unfold State.shadowWrite
  split
  · exact h
  · exact .ite h.rset h.enforce.rset.tripEval_keeps

theorem shadowApply (h : Canonical s) : Canonical s.shadowApply :=
  .tripEval_keeps (.foldl h fun _ _ h => .ite h h.enforce)

theorem afeCtrl {v : Word} (h : Canonical s) : Canonical (s.afeCtrl v) := .ite (.frame h.rwrite rfl) h.rwrite

theorem afeChannelCfg {c : Nat} {v : Word} (h : Canonical s) : Canonical (s.afeChannelCfg c v) :=
  .ite h.rsetBit (.ite h (.tripEval_keeps (.ite h.rwrite.rsetBit.rsetBit h.rwrite)))

theorem afeTachCfg {t : Nat} {v : Word} (h : Canonical s) : Canonical (s.afeTachCfg t v) :=
  .ite h.rsetBit (.ite h (.tripEval_keeps (.ite h.rwrite.rsetBit.rsetBit h.rwrite)))

theorem protect {c : Nat} {x : ℤ} (h : Canonical s) : Canonical (s.protect c x) :=
  h.setAfeCh.rmax.tripEval_keeps

theorem protectionSample {c : Nat} {x : ℤ} (h : Canonical s) : Canonical (s.protectionSample c x) :=
  .ite (.ite h.setAfeCh h.protect) h

theorem destChan {dest : Word} {width pkind punit : Nat} (h : Canonical s) :
    Canonical (s.destChan dest width pkind punit).2 := by
  unfold State.destChan
  refine .iteSnd h ?_
  split
  · exact .iteSnd h h.rsetBit
  · exact h.rsetBit

theorem endPacket {c : Nat} (h : Canonical s) : Canonical (s.endPacket c) := by
  unfold State.endPacket
  extract_lets a cfg w2 ws s1 d
  have h1 : Canonical s1 := h.setAfeCh
  have hd : Canonical d.2 := h1.destChan
  refine .ite h ?_
  refine .ite ?_ h1
  split
  · exact hd.unitPacket
  · exact hd

theorem cutPackets {t : Nat} (h : Canonical s) : Canonical (s.cutPackets t) := h.frame rfl

theorem measurementSample {c k : Nat} {x : ℤ} (h : Canonical s) : Canonical (s.measurementSample c k x) := by
  unfold State.measurementSample
  extract_lets cfg a ts _ v clipped count s1 b n _ b1 b2 s2 blk
  have hcount : ∀ s, Canonical s → Canonical (count s) := by
    intro s h
    dsimp only [count]
    exact .ite h.rinc h
  have h1 : Canonical s1 := .ite h h.endPacket
  have h2 : Canonical s2 := .setAfeCh (hcount _ h1)
  exact .ite (.ite h.setAfeCh (.ite (.setAfeCh (hcount _ h)) (.ite h1 (.ite h2.endPacket h2)))) h

theorem tachCrossing {t : Nat} {v : ℤ} (h : Canonical s) : Canonical (s.tachCrossing t v) :=
  .ite (.ite h.setTach (.ite h.setTach h)) h

theorem tachState {t : Nat} {x : Tach} (h : Canonical s) : Canonical (s.tachState t x) := h.setTach.rsetFld

theorem tachQualify {t : Nat} (h : Canonical s) : Canonical (s.tachQualify t) := by
  unfold State.tachQualify
  extract_lets x cfg s1 s2 os
  have h1 : Canonical s1 := h.setTach
  have h2 : Canonical s2 := h1.rinc
  split
  · exact h
  · refine .ite h ?_
    extract_lets sel s3 ovs iv y y1 s4 s5 d s6
    have h3 : Canonical s3 := h2.rset
    have h4 : Canonical s4 := h3.tachState
    have h5 : Canonical s5 := .ite h4.rsetFld h4
    have hd : Canonical d.2 := h5.destChan
    have h6 : Canonical s6 := by
      refine .ite ?_ ?_
      · split
        · exact hd.unitPacket
        · exact hd
      · exact h5
    exact .ite h1 (.ite h2 h6.tripEval_keeps)

theorem overspeedTimeout {t : Nat} (h : Canonical s) : Canonical (s.overspeedTimeout t) :=
  h.tachState.tripEval_keeps

theorem biasReading {c : Nat} {v : ℤ} {lost : Bool} (h : Canonical s) : Canonical (s.biasReading c v lost) := by
  unfold State.biasReading
  extract_lets a compl th t0 ok t1 s0 k n change h' s1 s2 s3
  have h0 : Canonical s0 := .ite h h.rsetBit
  have h1 : Canonical s1 := h0.setAfeCh
  have h2 : Canonical s2 := h1.rset
  have h3 : Canonical s3 := .ite h2.rsetBit h2
  exact .tripEval_keeps (.ite h3.event h3)

theorem demandWord {v : Nat} (h : Canonical s) : Canonical (s.demandWord v) := .tripEval_keeps (.frame h rfl)

theorem demandApply (h : Canonical s) : Canonical s.demandApply := by
  unfold State.demandApply
  extract_lets g
  refine .ite h ?_
  split
  · exact h
  · refine .ite h ?_
    extract_lets r
    have hr : Canonical r.2 := h.takeNext
    split
    · exact hr.demandWord
    · exact h

theorem demandDiscard {i : Nat} (h : Canonical s) : Canonical (s.demandDiscard i) :=
  .atIndex h fun _ _ h => .ite h h.takeNext.rsetBit

theorem demandTimeout {k : Nat} (h : Canonical s) : Canonical (s.demandTimeout k) :=
  .ite (.tripEval_keeps (.frame h.rsetBit.event (by with_reducible rfl))) h

theorem trpCtrl {v : Word} (h : Canonical s) : Canonical (s.trpCtrl v) :=
  .ite h.rsetBit (.tripEval_keeps (.ite (.frame h.rsetBit.rsetBit (by with_reducible rfl))
    (.frame h.rsetBit.rsetBit (by with_reducible rfl))))

theorem trpOutCfg {k : Nat} {v : Word} (h : Canonical s) : Canonical (s.trpOutCfg k v) :=
  .ite h.rsetBit h.rwrite.tripEval_keeps

theorem configMismatch {kind i : Nat} (h : Canonical s) : Canonical (s.configMismatch kind i) :=
  .degrade (.rsetBit (.tripEval_keeps (.frame h rfl)))

theorem updOut {k : Nat} {f : TripOut → TripOut} (h : Canonical s) : Canonical (s.updOut k f) := h.frame rfl

theorem tripFirst (h : Canonical s) : Canonical s.tripFirst :=
  .foldl (.rsetBit (.frame h rfl)) fun _ _ h => h.rset

theorem tripRailLoss {mv : Nat} (h : Canonical s) : Canonical (s.tripRailLoss mv) :=
  .ite h (.degrade (.tripEval_keeps (.frame (.ite h.tripFirst h) rfl)))

/-! ### Cache maintenance and cache errors (Machine/Cache) -/

theorem mntEnd {next result : Nat} (h : Canonical s) : Canonical (s.mntEnd next result) := .rset (.frame h rfl)

theorem mntStart {v : Word} (h : Canonical s) : Canonical (s.mntStart v) :=
  .ite h.rsetBit (.ite h.mntEnd (.rset (.frame h rfl)))

theorem mntFrame {op : Nat} {f : L2Line} (h : Canonical s) : Canonical (s.mntFrame op f) :=
  .ite h.l2Clean (.ite h.l2Inval (.ite h.l2CleanInval (.ite (.ite h.l2Clean.l1Invalidate.l2Clear h) h)))

theorem pinLine {line : Nat} {t : State} (h : Canonical s) (e : s.pinLine line = some t) : Canonical t := by
  unfold State.pinLine at e
  dsimp only at e
  split at e
  · cases e
    exact h
  · split at e
    · cases e
    · split at e
      · cases e
        exact h.l2Clear.l2Set
      · cases e
        exact h.sdLine.l2Set

theorem pinLines {n line : Nat} (h : Canonical s) : Canonical (State.pinLines n s line).1 := by
  induction n generalizing s line with
  | zero => exact h
  | succ n ih =>
    unfold State.pinLines
    split
    · exact h
    · next e => exact ih (h.pinLine e)

theorem mntRun (h : Canonical s) : Canonical s.mntRun := by
  unfold State.mntRun
  split
  · exact h
  · split
    · refine .mntEnd ?_
      split
      · exact h.mntFrame
      · exact h
    · extract_lets blocked stop r u _
      have hr : Canonical r.1 := by
        dsimp only [r]
        split
        · exact h.pinLines
        · exact .foldl h fun _ _ h => h.mntFrame
      have hu : Canonical u := hr
      split
      · exact hr.mntEnd
      · exact .ite hr.mntEnd (.rsetFld (.frame hu rfl))

theorem flushWay {sl w : Nat} (h : Canonical s) : Canonical (s.flushWay sl w) :=
  .foldl h fun _ _ h => h.l2Clean.l1Invalidate.l2Clear

theorem zeroScratch {sl w : Nat} (h : Canonical s) : Canonical (s.zeroScratch sl w) := by
  unfold State.zeroScratch
  exact h.setScratch (Memory.wf_filter _ h.scratch) rfl

theorem lockWays {t : Nat} {v : Word} (h : Canonical s) : Canonical (s.lockWays t v) :=
  .ite h.rsetBit (.ite h (.rset (.foldl h fun _ _ h => .ite h h.flushWay.zeroScratch)))

theorem powerUp {d : Nat} (h : Canonical s) : Canonical (s.powerUp d) := .ite (.frame h rfl) (.frame h rfl)

theorem groupPower {t : Nat} {v : Word} (h : Canonical s) : Canonical (s.groupPower t v) :=
  .foldl h fun _ _ h => .ite h (.ite h.rsetBit.powerUp (.ite h.rsetBit.rsetBit (.frame h.rsetBit rfl)))

theorem groupOff {t g : Nat} (h : Canonical s) : Canonical (s.groupOff t g) :=
  .rsetBit (.frame (.foldl h fun _ _ h => h.flushWay) (by with_reducible rfl))

theorem lastErr {a : Nat} {r : Report} (h : Canonical s) : Canonical (s.lastErr a r) := h.rset

theorem noteError {kind a b ns : Nat} (h : Canonical s) : Canonical (s.noteError kind a b ns).2 := by
  unfold State.noteError
  exact .frame h rfl

theorem l2Corrected {t set w : Nat} {e : Codeword} (h : Canonical s) : Canonical (s.l2Corrected t set w e) := by
  unfold State.l2Corrected
  extract_lets r s1 m
  have h1 : Canonical s1 := h.rinc.lastErr.report
  have hm : Canonical m.2 := h1.noteError
  exact .ite hm (.ite hm.rsetBit hm.flushWay.rsetBit.rsetBit.degrade)

theorem l2DataError {t set w : Nat} {e : Codeword} (h : Canonical s) : Canonical (s.l2DataError t set w e) := by
  unfold State.l2DataError
  split
  · exact h
  · exact h.l2Corrected
  · extract_lets dirty r s1
    have h1 : Canonical s1 := h.lastErr
    refine .ite h1.report ?_
    split
    · exact .retried (.ite h1.sdLine.l2Set h1)
    · exact h1

theorem askReplay {r : Report} {slots : List Nat} (h : Canonical s) : Canonical (s.askReplay r slots) :=
  h.report

theorem l1Retry {t p : Nat} (h : Canonical s) : Canonical (s.l1Retry t p) := by
  unfold State.l1Retry
  split
  · exact h
  · exact h.rinc

theorem cacheError {kind t i x : Nat} {e : Codeword} (h : Canonical s) :
    Canonical (s.cacheError kind t i x e) := by
  unfold State.cacheError
  refine .ite ?_ ?_
  · extract_lets r s1 _
    have h1 : Canonical s1 := h.lastErr
    split
    · exact h
    · exact h.lastErr.report
    · exact .l1Retry (.retried (.ite (.frame h1 rfl) (.frame h1 rfl)))
  · refine .ite h.l2DataError ?_
    extract_lets r s1
    have h1 : Canonical s1 := h.lastErr
    split
    · exact h
    · exact .ite h.l2Corrected h.rinc.lastErr.report
    · exact .ite h1.report h1.askReplay

theorem sdcConfig {v : Word} (h : Canonical s) : Canonical (s.sdcConfig v) := by
  unfold State.sdcConfig
  refine .ite h ?_
  exact .foldl (.ite h.rset.rset.rsetFld.rsetBit.rsetBit h.rset.rset.rsetFld.rsetBit) fun _ _ h => h.rsetFld

theorem sdcTrained (h : Canonical s) : Canonical s.sdcTrained :=
  .ite (.foldl h.rsetFld.rsetBit.rset fun _ _ h => h.rsetFld) h

theorem sdCorrected {c sym : Nat} {e : Codeword} (h : Canonical s) : Canonical (s.sdCorrected c sym e) := by
  unfold State.sdCorrected
  exact h.rinc.rinc.rset.lastErr.report

theorem sdPatrol {c : Nat} {e : Codeword} (h : Canonical s) : Canonical (s.sdPatrol c e) := by
  unfold State.sdPatrol
  refine .ite ?_ h
  extract_lets r s1 top p
  have h1 : Canonical s1 := by
    dsimp only [s1]
    split
    · exact h
    · exact h.sdCorrected
    · exact h.rinc.rsetBit.lastErr.report
  exact h1.rset

/-! ### The matching store (Machine/Store) -/

theorem loadLevels {t : Nat} (h : Canonical s) : Canonical (s.loadLevels t) := .ite h.updTile h.updTile.rsetBit

theorem enterOldest {t : Nat} (h : Canonical s) : Canonical (s.enterOldest t) := by
  unfold State.enterOldest
  refine .ite h ?_
  extract_lets en s1 s2 s3
  have h1 : Canonical s1 := h.updTile
  have h2 : Canonical s2 := .ite h1 h1.rsetBit.event
  have h3 : Canonical s3 := .foldl h2 fun _ _ h => .ite h h.progress
  exact h3.rsetBit.rinc.event

theorem leaveOldest {t : Nat} (h : Canonical s) : Canonical (s.leaveOldest t) := .ite h.updTile h

theorem throttleEval {t : Nat} (h : Canonical s) : Canonical (s.throttleEval t) :=
  .ite (.ite (.frame h rfl) h) (.ite (.ite (.event (.rsetBit (.frame h rfl))) (.rsetBit (.frame h rfl))) h)

theorem spillEval {t : Nat} (h : Canonical s) : Canonical (s.spillEval t) :=
  .ite (.ite h.updTile h) (.ite (.ite (.ite h.updTile.rsetBit.event h.updTile.rsetBit) h.enterOldest) h)

theorem levelsChanged {t : Nat} (h : Canonical s) : Canonical (s.levelsChanged t) :=
  .leaveOldest (.ite h.throttleEval.spillEval.enterOldest h.throttleEval.spillEval)

theorem occChanged {t : Nat} (h : Canonical s) : Canonical (s.occChanged t) :=
  h.rmax.throttleEval.spillEval.leaveOldest

theorem dlAppear {t k : Nat} (h : Canonical s) : Canonical (s.dlAppear t k) := h.updTile

theorem mstDrop {e : MEntry} (h : Canonical s) : Canonical (s.mstDrop e) := h.frame rfl

theorem filterBump {t i : Nat} {up : Bool} (h : Canonical s) : Canonical (s.filterBump t i up) := by
  unfold State.filterBump
  exact h.setFilt (smWf_put (d := fun _ => 0) h.filt) rfl

theorem filterKey {t k : Nat} {up : Bool} (h : Canonical s) : Canonical (s.filterKey t k up) :=
  h.filterBump.filterBump

theorem bucketSync {t b : Nat} (h : Canonical s) : Canonical (s.bucketSync t b) := .ite h.sdWrite h

theorem tableWritten {t : Nat} {e : MEntry} (h : Canonical s) : Canonical (s.tableWritten t e) := by
  unfold State.tableWritten
  split
  · exact .ite (.bucketSync (.sdWrite (.sdWrite (.frame h rfl)))) (.frame h rfl)
  · exact h

theorem transitRoom {t : Nat} (h : Canonical s) : Canonical (s.transitRoom t) := by
  unfold State.transitRoom
  extract_lets waiting
  refine .ite h ?_
  clear_value waiting
  split
  · exact h
  · exact h.tableWritten

theorem passedFull {t : Nat} {passed : List Nat} (h : Canonical s) : Canonical (s.passedFull t passed) :=
  .foldl (.frame h rfl) fun _ _ h => h.bucketSync

theorem putTable {t : Nat} {e : MEntry} {limit : Nat} (h : Canonical s) :
    Canonical (s.putTable t e limit).2 := by
  unfold State.putTable
  extract_lets p s1
  have h1 : Canonical s1 := h.mstDrop.transitRoom
  split
  · dsimp only
    exact h.passedFull
  · extract_lets s2 s3
    have h2 : Canonical s2 := .passedFull (.frame h1 rfl)
    have h3 : Canonical s3 := h2.filterKey.rinc
    dsimp only
    exact .ite h3.enterOldest h3

theorem takeTable {t : Nat} {e : MEntry} (h : Canonical s) : Canonical (s.takeTable t e) := by
  unfold State.takeTable
  extract_lets s0 s1
  have h0 : Canonical s0 := h.mstDrop.filterKey
  have h1 : Canonical s1 := by
    dsimp only [s1]
    split
    · exact h0.bucketSync
    · exact h0
  exact .ite (.foldl (h1.setFilt (smWf_filter _ h1.filt) rfl) fun _ _ h => h.bucketSync) h1

theorem putReserve {t : Nat} {e : MEntry} (h : Canonical s) : Canonical (s.putReserve t e) :=
  .ite (.sdWrite (.rinc (.frame h rfl))) (.rinc (.frame h rfl))

theorem putWay {t b st w : Nat} {e : MEntry} (h : Canonical s) : Canonical (s.putWay t b st w e) :=
  .occChanged (.dlAppear (.frame h rfl))

theorem placeOldest {t b st : Nat} {e : MEntry} {isNew : Bool} {busy : MEntry → Bool} (h : Canonical s) :
    Canonical (s.placeOldest t b st e isNew busy).2 := by
  unfold State.placeOldest
  extract_lets here r
  have hr : Canonical r.2 := h.putTable
  refine .iteSnd h ?_
  refine .iteSnd ?_ h.putReserve.dlAppear
  split
  · dsimp only
    exact h.mstDrop.putReserve.putWay
  · refine .iteSnd (.ite hr.dlAppear hr) ?_
    split
    · extract_lets r'
      have hr' : Canonical r'.2 := h.putTable
      dsimp only
      exact .ite hr'.putWay hr'
    · dsimp only
      exact h

theorem insertEntry {t : Nat} {e : MEntry} {isNew : Bool} {busy : MEntry → Bool} (h : Canonical s) :
    Canonical (s.insertEntry t e isNew busy).2 := by
  unfold State.insertEntry
  extract_lets bs here
  split
  · dsimp only
    exact h.putWay
  · refine .iteSnd h.placeOldest ?_
    split
    · dsimp only
      exact h
    · extract_lets own r
      have hr : Canonical r.2 := .iteSnd h.putTable h
      exact .iteSnd (.ite hr.dlAppear hr.putWay) hr.enterOldest.placeOldest

theorem spillOne {t : Nat} (h : Canonical s) : Canonical (s.spillOne t) := by
  unfold State.spillOne
  extract_lets elig top c r
  have hr : Canonical r.2 := h.drawNat
  refine .ite ?_ ?_
  · split
    · exact h
    · exact .ite hr.putTable.occChanged hr.putTable.enterOldest
  · split
    · exact h
    · exact h.tableWritten

/-! ### Activations (Machine/Acts) -/

theorem updFiring {f : Nat} {g : Firing → Firing} (h : Canonical s) : Canonical (s.updFiring f g) := h.frame rfl

theorem rewindDead (h : Canonical s) : Canonical s.rewindDead := h.rewind

theorem dropFiring {s0 : State} {f : Firing} (h : Canonical s0) : Canonical (s0.dropFiring f) := by
  unfold State.dropFiring
  extract_lets s _ s1 s2 k l
  have hs : Canonical s := h.retryGone
  have h1 : Canonical s1 := .frame hs rfl
  have h2 : Canonical s2 := .foldl h1 fun _ _ h => h.setLock.relevel
  split
  · exact h2
  · exact .ite h2.lockFree h2

theorem sumFlags {a : Act} (h : Canonical s) : Canonical (s.sumFlags a) := .ite h.updSlot h

theorem quarantine {id cause t sub iaddr : Nat} (h : Canonical s) :
    Canonical (s.quarantine id cause t sub iaddr) := by
  unfold State.quarantine
  split
  · exact h
  · refine .ite h ?_
    extract_lets s1 s2 tiles s3 s4 s5 mine s6 s7 s8 s9 s10 x
    have h1 : Canonical s1 := h.updAct
    have h2 : Canonical s2 := .foldl h1 fun _ _ h => h.dropFiring
    have h3 : Canonical s3 := .foldl h2 fun _ _ h => .ite h.takeTable h.mstDrop
    have h4 : Canonical s4 := .foldl h3 fun _ _ h => h.occChanged
    have h5 : Canonical s5 := .frame h4 rfl
    have h6 : Canonical s6 := h5.withdrawWaits.abandonAll.rewindDead
    have h7 : Canonical s7 := h6.waferCrumb
    have h8 : Canonical s8 := .ite h7.waferCrumb.sumFlags h7
    have h9 : Canonical s9 := h8.rset.rset.rinc
    have h10 : Canonical s10 := h9.event
    exact .settle (.ite h10.updSlot h10)

theorem createAct {r : StartReq} {e : Entry} (h : Canonical s) : Canonical (s.createAct r e).2 := by
  unfold State.createAct
  extract_lets id d fa a x s1 s2
  have hd : Canonical d.2 := h.drawNat
  have h1 : Canonical s1 := hd.memWrite
  have h2 : Canonical s2 := .updSlot (.frame h1 (by with_reducible rfl))
  dsimp only
  exact h2.rmax

theorem sendRoot {r : StartReq} {e : Entry} {id : Nat} (h : Canonical s) : Canonical (s.sendRoot r e id) :=
  .sendTokens (.frame h rfl)

theorem placeReq {r0 : StartReq} (h : Canonical s) : Canonical (s.placeReq r0) :=
  .ite (.frame h.progress (by with_reducible rfl)) (.frame h.progress (by with_reducible rfl))

theorem placeRoots {k : Nat} (h : Canonical s) : Canonical (s.placeRoots k) := by
  unfold State.placeRoots
  extract_lets x b
  refine .foldl h fun s x h => ?_
  split
  · exact h
  · exact h.placeReq

theorem flowRelease {fl : Nat} (h : Canonical s) : Canonical (s.flowRelease fl) := by
  unfold State.flowRelease
  extract_lets q best
  clear_value best
  split
  · exact h
  · exact .ite (.frame h rfl) h

theorem flowWarn {n : Nat} (h : Canonical s) : Canonical (s.flowWarn n) := by
  unfold State.flowWarn
  split
  · exact h
  · exact .ite (.ite (.collect (.rsetBit (.frame h rfl))) (.rsetBit (.frame h rfl))) h

theorem returnId {id : Nat} (h : Canonical s) : Canonical (s.returnId id) := by
  unfold State.returnId
  split
  · exact h
  · exact .ite h (.settle (.rewindDead (.frame h.abandonAll rfl)))

theorem releaseDelays {ds : List DelayEntry} (h : Canonical s) : Canonical (s.releaseDelays ds) :=
  .sendTokens (.frame h rfl)

theorem tickDelays (h : Canonical s) : Canonical s.tickDelays := .releaseDelays (.frame h rfl)

/-! ### Matching and dispatch (Machine/Match) -/

theorem enqueueWord {word : Word} {t : Nat} {tag : Tag} {a : Act} {l r c : Option TVal} (h : Canonical s) :
    Canonical (s.enqueueWord word t tag a l r c) :=
  .rmax (.frame h rfl)

theorem enqueue {t : Nat} {tag : Tag} {a : Act} {l r c : Option TVal} (h : Canonical s) :
    Canonical (s.enqueue t tag a l r c) :=
  h.enqueueWord

theorem emitTok {o : OutTok} {a : Act} {t pe : Nat} (h : Canonical s) : Canonical (s.emitTok o a t pe) :=
  h.sendTokens

theorem accumulate {id : Nat} {fl : Flags7} {nd : Bool} (h : Canonical s) : Canonical (s.accumulate id fl nd) :=
  h.updAct

theorem badToken {t cause : Nat} {k : Token} (h : Canonical s) : Canonical (s.badToken t cause k) :=
  h.rinc.quarantine

theorem fanOut {t : Nat} {k : Token} {a : Act} (h : Canonical s) : Canonical (s.fanOut t k a) := by
  unfold State.fanOut
  extract_lets i out os s1 s2
  have h1 : Canonical s1 := .foldl h fun _ _ h => h.emitTok
  have h2 : Canonical s2 := .ite h1 h1.accumulate
  exact h2.rinc.progress

theorem mstPut {old new : MEntry} (h : Canonical s) : Canonical (s.mstPut old new) := h.frame rfl

theorem freeStale {t key inc : Nat} (h : Canonical s) : Canonical (s.freeStale t key inc) :=
  .ite h (.occChanged (.foldl h fun _ _ h => .ite h.takeTable h.mstDrop))

theorem bringBack {t : Nat} {e : MEntry} {busy : MEntry → Bool} (h : Canonical s) :
    Canonical (s.bringBack t e busy).2 := by
  unfold State.bringBack
  refine .iteSnd h ?_
  extract_lets r
  have hr : Canonical r.2 := .insertEntry (.ite h.takeTable h.mstDrop)
  exact .iteSnd (.progress (.ite hr hr.rinc)) (.ite h.enterOldest h)

theorem entryReady {t : Nat} {e : MEntry} (h : Canonical s) : Canonical (s.entryReady t e) := by
  unfold State.entryReady
  split
  · exact h.mstDrop.occChanged
  · exact .ite h.enqueue.mstDrop.occChanged h

theorem meet {t : Nat} {k : Token} {e : MEntry} (h : Canonical s) : Canonical (s.meet t k e) :=
  .ite h.badToken (.ite h.badToken (.ite h.mstPut.entryReady h.mstPut))

theorem lookup {t mask : Nat} {k : Token} {a : Act} (h : Canonical s) : Canonical (s.lookup t mask k a).2 := by
  unfold State.lookup
  extract_lets key s0 s1 s2 fits e0 e r
  have h0 : Canonical s0 := h.freeStale
  have h1 : Canonical s1 := h0.rinc.rset
  have h2 : Canonical s2 := .ite h1.rinc h1
  have hr : Canonical r.2 := h2.insertEntry
  refine .iteSnd (.progress (.frame h1 rfl)) ?_
  split
  · refine .iteSnd h1.meet ?_
    refine .iteSnd ?_ (.progress (.frame h1 rfl))
    extract_lets r' u
    have hr' : Canonical r'.2 := h1.bringBack
    have hu : Canonical u := hr'
    refine .iteSnd ?_ (.progress (.frame hu rfl))
    dsimp only
    split
    · exact hr'.meet
    · exact hr'
  · exact .iteSnd (.ite hr hr.badToken) h0.insertEntry

theorem storeTrap {t cause : Nat} {k : Token} {a : Act} (h : Canonical s) :
    Canonical (s.storeTrap t cause k a) :=
  .ite h.emitTok.accumulate h.quarantine

theorem gateRelease {s0 : State} {t : Nat} {k : Token} {a : Act} {g : MEntry} {da : Nat} (h : Canonical s0) :
    Canonical (s0.gateRelease t k a g da).2 := by
  unfold State.gateRelease
  extract_lets key back s'
  have hback : Canonical back.2 := by
    dsimp only [back]
    split
    · exact h.bringBack
    · dsimp only
      exact h
  have h' : Canonical s' := hback
  refine .iteSnd hback ?_
  split
  · dsimp only
    exact h'
  · extract_lets s2 s3
    have h2 : Canonical s2 := h'.mstDrop.mstPut
    have h3 : Canonical s3 := by
      dsimp only [s3]
      split
      · exact h2
      · exact h2.emitTok.accumulate
    dsimp only
    exact h3.progress.occChanged

theorem loopgate {t : Nat} {k : Token} {a : Act} (h : Canonical s) : Canonical (s.loopgate t k a).2 := by
  unfold State.loopgate
  extract_lets i lim key s0 s1 p s2 ready undo s2'
  have h0 : Canonical s0 := h.freeStale
  have h1 : Canonical s1 := h0.rinc.rset
  have h2 : Canonical s2 := .ite h1.rinc h1
  have hready : Canonical ready.2 := by
    dsimp only [ready]
    split
    · exact h1.bringBack
    · exact .iteSnd h2.insertEntry h2
  have hundo : ∀ x, Canonical x → Canonical (undo x).2 := by
    intro x h
    dsimp only [undo]
    exact h.rset.rset
  have h2' : Canonical s2' := hready
  refine .iteSnd h1.badToken <| .iteSnd h1.storeTrap <| .iteSnd (hundo _ hready) ?_
  clear_value s2'
  split
  · exact h2'.quarantine
  · refine .iteSnd ?_ ?_
    · refine .iteSnd ?_ (.iteSnd h2'.mstPut.insertEntry (hundo _ h2'.insertEntry))
      extract_lets s3
      have h3 : Canonical s3 := h2'.mstPut
      dsimp only
      split
      · exact h3
      · exact h3.emitTok.accumulate
    · refine .iteSnd h2'.quarantine <| .iteSnd (.iteSnd h2'.gateRelease (hundo _ h2'.gateRelease)) ?_
      extract_lets g1
      split
      · exact h2'.mstPut.mstDrop.occChanged
      · exact h2'.mstPut

theorem arrive {t : Nat} {k : Token} (h : Canonical s) : Canonical (s.arrive t k).2 := by
  unfold State.arrive
  refine .iteSnd h <| .iteSnd h.rinc.eventTag ?_
  extract_lets s1 orphan p
  have h1 : Canonical s1 := h.rinc
  have horphan : ∀ x, Canonical (orphan x) := by
    intro x
    dsimp only [orphan]
    exact .ite h1.eventTag h1
  split
  · dsimp only
    exact horphan ()
  · split
    · dsimp only
      exact horphan ()
    · dsimp only
      exact h
    · extract_lets word alone
      have halone : ∀ ok, Canonical (alone ok).2 := by
        intro ok
        dsimp only [alone]
        exact .iteSnd h.badToken (.iteSnd h.enqueueWord h)
      split
      · exact halone _
      · exact halone _
      · exact .iteSnd h.fanOut h.badToken
      · exact h.loopgate
      · exact .iteSnd (halone _) h.lookup

theorem tokenIn {t n : Nat} {c : State → Token → Bool} (h : Canonical s) : Canonical (s.tokenIn t n c) := by
  unfold State.tokenIn
  split
  · exact h
  · refine .ite ?_ h
    extract_lets s0 r u
    have h0 : Canonical s0 := .frame h rfl
    have hr : Canonical r.2 := h0.arrive
    have hu : Canonical u := hr
    exact .ite hr.settle (.frame hu rfl)

theorem spillFetch {t n : Nat} (h : Canonical s) : Canonical (s.spillFetch t n) := by
  unfold State.spillFetch
  split
  · exact h
  · extract_lets key first s0 inc
    have h0 : Canonical s0 := .frame h rfl
    refine .ite h ?_
    split
    · exact h0
    · refine .ite h0 ?_
      split
      · split
        · next s' e => exact .ofSnd h0.lookup e
        · next s' e => exact .frame (.ofSnd h0.lookup e) rfl
      · extract_lets r u
        have hr : Canonical r.2 := h0.bringBack
        have hu : Canonical u := hr
        refine .ite ?_ (.frame hu rfl)
        refine .settle ?_
        refine .leaveOldest ?_
        split
        · exact hr.meet
        · exact hr

theorem reserveReload {t : Nat} (h : Canonical s) : Canonical (s.reserveReload t) := by
  unfold State.reserveReload
  refine .ite ?_ h
  split
  · exact h.updTile.leaveOldest
  · exact h.bringBack.leaveOldest

theorem newOldest (h : Canonical s) : Canonical s.newOldest :=
  .inject (.foldl h fun _ _ h => .ite (.leaveOldest (.foldl h.updTile fun _ _ h => h.progress)) h)

theorem pauseDetectors (h : Canonical s) : Canonical s.pauseDetectors :=
  .ite (.foldl h fun _ _ h => h.progress) h

theorem dlSubtick (h : Canonical s) : Canonical s.dlSubtick :=
  .foldl h fun _ _ h => .foldl h fun _ _ h => h.updTile

theorem dlExpire {t k : Nat} (h : Canonical s) : Canonical (s.dlExpire t k) := .ite h.updTile h

theorem dlConfirm {t k : Nat} (h : Canonical s) : Canonical (s.dlConfirm t k) :=
  .ite (.ite h.updTile (.rinc (.foldl h.updTile fun _ _ h => h.quarantine))) h

theorem purgeWalk {t k : Nat} (h : Canonical s) : Canonical (s.purgeWalk t k) :=
  .leaveOldest (.occChanged (.foldl h fun _ _ h => .ite h.takeTable h.mstDrop))

theorem mstError {t n c : Nat} {e : Codeword} (h : Canonical s) : Canonical (s.mstError t n c e) := by
  unfold State.mstError
  split
  · exact h
  · extract_lets r0 r s1 m
    have h1 : Canonical s1 := h.lastErr
    have hm : Canonical m.2 := by
      dsimp only [m]
      split
      · exact h1.noteError
      · exact h1
    split
    · exact h
    · exact h.rinc.lastErr.report
    · exact .ite hm.report (.ite hm.askReplay hm.askReplay)

theorem sdReadError {a : Nat} {e e2 : Codeword} (h : Canonical s) : Canonical (s.sdReadError a e e2) := by
  unfold State.sdReadError
  extract_lets c r s1
  have h1 : Canonical s1 := h.rinc
  split
  · exact h
  · exact h.sdCorrected
  · split
    · split
      · exact h1.lastErr.askReplay
      · exact h1.lastErr.report
    · exact h.lastErr.rinc.retried.sdCorrected
    · exact h.lastErr.rinc.retried

theorem fetchLine {t p iaddr : Nat} (h : Canonical s) : Canonical (s.fetchLine t p iaddr) :=
  .ite h (.ite (.frame h.rinc.codeFetch (by with_reducible rfl))
    (.frame h.rinc.codeFetch.drawNat (by with_reducible rfl)))

theorem completeOldest {t : Nat} (h : Canonical s) : Canonical (s.completeOldest t) := by
  unfold State.completeOldest
  refine .ite ?_ h
  split
  · exact h
  · split
    · exact h
    · exact h.enqueue.mstDrop.occChanged

theorem grantOne {n t p : Nat} (h : Canonical s) : Canonical (State.grantOne n t p s) := by
  induction n generalizing s with
  | zero => exact h
  | succ n ih =>
    unfold State.grantOne
    have h1 : Canonical (s.completeOldest t) := h.completeOldest
    dsimp only
    split
    · exact h1
    · exact .ite (.redispatched (.rmax (.fetchLine (.updTile (.frame h1 rfl))))) (ih h1.dropFiring)

theorem dispatch {t : Nat} (h : Canonical s) : Canonical (s.dispatch t) :=
  .ite (.foldl h fun _ _ h => h.grantOne) h

theorem admitReady {t : Nat} (h : Canonical s) : Canonical (s.admitReady t) := by
  unfold State.admitReady
  refine .ite ?_ h
  split
  · exact h
  · exact h.entryReady.leaveOldest

/-! ### Messages sent to other devices (Machine/FabSend) -/

theorem updLink {p : Nat} {f : Link → Link} (h : Canonical s) : Canonical (s.updLink p f) := h.frame rfl

theorem forward {m : Msg} (h : Canonical s) {t : State} (e : s.forward m = some t) : Canonical t := by
  obtain ⟨p, -, rfl⟩ := Option.map_eq_some_iff.1 e
  exact h.updLink

theorem sendMsg {dst kind vc aux arg : Nat} {body : List (BitVec 128)} (h : Canonical s) :
    Canonical (s.sendMsg dst kind vc aux arg body) := by
  unfold State.sendMsg
  extract_lets m _ k n m' s1 _
  have h1 : Canonical s1 := .frame h rfl
  refine .ite (.rsetBit (.frame h rfl)) ?_
  split
  · next s2 e => exact .frame (h1.forward e) rfl
  · exact .frame h1 rfl

theorem sendLocal {p dst kind vc aux arg : Nat} {body : List (BitVec 128)} (h : Canonical s) :
    Canonical (s.sendLocal p dst kind vc aux arg body) :=
  h.updLink

theorem sendRemote {device addr len : Nat} {data : Option (List Byte)} (h : Canonical s) :
    Canonical (s.sendRemote device addr len data) := by
  unfold State.sendRemote
  split
  · exact h.sendMsg
  · exact h.sendMsg

theorem remoteIssue {device addr len : Nat} {data : Option (List Byte)} {firing engine : Option Nat}
    {seq : Nat} {flow : Option Nat} (h : Canonical s) :
    Canonical (s.remoteIssue device addr len data firing engine seq flow) :=
  h.sendRemote.frame rfl

theorem remoteStoreFailed {d : Nat} (h : Canonical s) : Canonical (s.remoteStoreFailed d) :=
  h.rinc.rsetBit.event

/-! ### Execution of a firing (Machine/Exec) -/

theorem remoteLoad {f : Firing} {l : Loc} {n : Nat} (h : Canonical s) : Canonical (s.remoteLoad f l n).2 := by
  unfold State.remoteLoad
  exact .iteSnd h (.iteSnd (.foldl h fun _ _ h => h.remoteIssue) (.iteSnd h (.iteSnd h h)))

theorem graphLoad {f : Firing} {l : Loc} {n : Nat} (h : Canonical s) : Canonical (s.graphLoad f l n).2 := by
  unfold State.graphLoad
  extract_lets here r
  have hr : Canonical r.2 := h.peLoad
  refine .iteSnd h ?_
  split
  · exact .iteSnd h.rinc h
  · refine .iteSnd h.remoteLoad ?_
    split
    · exact .iteSnd h hr
    · exact .iteSnd h hr
    · exact h

theorem addrOf {f : Firing} {a : Act} {x : Desc} {size i : Nat} (h : Canonical s) :
    Canonical (s.addrOf f a x size i).2 := by
  unfold State.addrOf
  split
  · exact h
  · extract_lets w1
    refine .iteSnd ?_ ?_
    · split
      · exact h
      · exact .iteSnd h h.graphLoad
    · split
      · exact h
      · exact h

theorem readDesc {f : Firing} {a : Act} {x : Desc} {size i : Nat} (h : Canonical s) :
    Canonical (s.readDesc f a x size i).2 := by
  unfold State.readDesc
  refine .iteSnd h ?_
  extract_lets r
  have hr : Canonical r.2 := h.addrOf
  split
  · exact hr.graphLoad
  · exact hr
  · exact hr

theorem waitFor {f : Firing} {w : Wait} (h : Canonical s) : Canonical (s.waitFor f w) :=
  .ite h.updFiring.progress h.updFiring

theorem stage {f : Firing} {outs : List OutTok} {stores : List StoreRec} {effects : List Effect}
    {raised : Flags7} {nd : Bool} (h : Canonical s) :
    Canonical (s.stage f outs stores effects raised nd) :=
  .ite h.rinc.waitFor (.frame h.updFiring (by with_reducible rfl))

theorem stageTrap {f : Firing} {a : Act} {x : TrapInfo} {nd : Bool} (h : Canonical s) :
    Canonical (s.stageTrap f a x nd) :=
  .ite h.stage h.stage

theorem trapOf {f : Firing} {a : Act} {row : OpRow} {x : Ins} {cs : List Nat} {fls : List Flags7}
    (h : Canonical s) :
    Canonical (s.trapOf f a row x cs fls) :=
  h.stageTrap

theorem readSrc {f : Firing} {a : Act} {src : Src} {i : Nat} (h : Canonical s) :
    Canonical (s.readSrc f a src i).2 := by
  unfold State.readSrc
  extract_lets w r r' r''
  have hr : Canonical r.2 := h.readDesc
  have hr' : Canonical r'.2 := h.readDesc
  have hr'' : Canonical r''.2 := h.readDesc
  split
  · dsimp only
    exact hr
  · dsimp only
    exact hr'
  · dsimp only
    exact hr''
  · dsimp only
    exact h

theorem readIns {f : Firing} {a : Act} {row : OpRow} (h : Canonical s) : Canonical (s.readIns f a row).2 := by
  unfold State.readIns
  extract_lets m x0 l x1 r x2 c
  have hl : Canonical l.2 := h.readSrc
  have hr : Canonical r.2 := hl.readSrc
  have hc : Canonical c.2 := hr.readSrc
  dsimp only
  exact hc

theorem memResult {f : Firing} {a : Act} {ty : Nat} {v : Value} (h : Canonical s) :
    Canonical (s.memResult f a ty v).2 := by
  unfold State.memResult
  extract_lets w go
  have hgo : ∀ x i, Canonical (go x i).2 := by
    intro x i
    dsimp only [go]
    split
    · exact h.addrOf
    · exact h.addrOf
    · exact h.addrOf
  split
  · exact h
  · exact hgo _ _
  · exact hgo _ _
  · exact hgo _ _
  · exact hgo _ _

theorem finish {f : Firing} {a : Act} {row : OpRow} {x : Ins} {v : Value} {st : Status} {fls : List Flags7}
    {isInt : Bool} (h : Canonical s) :
    Canonical (s.finish f a row x v st fls isInt) := by
  unfold State.finish
  extract_lets r
  have hr : Canonical r.2 := h.memResult
  split
  · exact hr.waitFor
  · exact hr.trapOf
  · exact .ite hr.stage hr.trapOf

theorem trapIns {f : Firing} {a : Act} {row : OpRow} {x : Ins} (h : Canonical s) :
    Canonical (s.trapIns f a row x) := by
  unfold State.trapIns
  extract_lets m
  have hm : Canonical m.2 := h.memResult
  split
  · exact hm.trapOf
  · exact hm.trapOf
  · exact hm.waitFor

theorem compute {op : OpIn → Option OpRes} {isInt : Bool} {f : Firing} {a : Act} {row : OpRow} (h : Canonical s) :
    Canonical (State.compute op isInt s f a row) := by
  unfold State.compute
  extract_lets i env opIn x0 r x
  have hr : Canonical r.2 := h.readIns
  refine .ite h.trapOf <| .ite h.trapOf ?_
  split
  · exact hr.waitFor
  · refine .ite hr.trapIns ?_
    split
    · exact hr.trapOf
    · exact hr.finish

theorem fireIf {n : Nat} {sel : Nat → Bool} {body : State → Firing → Act → OpRow → State}
    (h : Canonical s) (hbody : ∀ s x x2 x3, Canonical s → Canonical (body s x x2 x3)) :
    Canonical (s.fireIf n sel body) := by
  unfold State.fireIf
  refine .ite h ?_
  split
  · exact h
  · refine .ite ?_ h
    split
    · exact .ite h (hbody _ _ _ _ h)
    · exact h

theorem fire {n opc : Nat} {body : State → Firing → Act → OpRow → State}
    (h : Canonical s) (hbody : ∀ s x x2 x3, Canonical s → Canonical (body s x x2 x3)) :
    Canonical (s.fire n opc body) :=
  .fireIf h fun _ _ _ _ h => hbody _ _ _ _ h

theorem fireIllegal {n : Nat} (h : Canonical s) : Canonical (s.fireIllegal n) := by
  unfold State.fireIllegal
  refine .ite h ?_
  split
  · exact h
  · refine .ite ?_ h
    split
    · exact .ite h h.stageTrap
    · exact h

/-! ### The control store (Machine/Ucode) -/

theorem setUcs {t a : Nat} {w : MicroWord} (h : Canonical s) : Canonical (s.setUcs t a w) := by
  unfold State.setUcs
  exact h.setUcs' (smWf_put (d := fun _ => 0) h.ucs) rfl

theorem sequenceError {f : Firing} {stk : Bool} {a : Nat} (h : Canonical s) :
    Canonical (s.sequenceError f stk a) :=
  h.rsetBit.rset.eventTag

theorem machineCheck {t a pe fid : Nat} {path : Bool} {groups : Nat} (h : Canonical s) :
    Canonical (s.machineCheck t a pe fid path groups) := by
  unfold State.machineCheck
  exact .report (.lastErr (.frame h rfl))

theorem useqFree {f : Firing} (h : Canonical s) : Canonical (s.useqFree f) := h.frame rfl

theorem micro {entry : Nat} {body : State → Firing → Act → OpRow → State} {f : Firing} {a : Act}
    {row : OpRow} (h : Canonical s) (hbody : ∀ s x x2 x3, Canonical s → Canonical (body s x x2 x3)) :
    Canonical (State.micro entry body s f a row) := by
  unfold State.micro
  extract_lets x q r s1
  have h1 : Canonical s1 := h.useqFree
  refine .ite (hbody _ _ _ _ h) <| .ite (.waitFor (.frame h rfl)) ?_
  split
  · exact hbody _ _ _ _ h1
  · exact h1.sequenceError.trapOf
  · exact h1.sequenceError.trapOf
  · exact .waitFor (.frame h1 rfl)
  · exact h1.machineCheck

theorem unstage {f : Firing} (h : Canonical s) : Canonical (s.unstage f) := by
  unfold State.unstage
  exact .frame h.useqFree (by with_reducible rfl)

theorem retryFiring {f : Firing} (h : Canonical s) : Canonical (s.retryFiring f) := h.unstage.updFiring.rinc

theorem retryChecked {fid : Nat} (h : Canonical s) : Canonical (s.retryChecked fid) := by
  unfold State.retryChecked
  split
  · exact .ite h.retryFiring h
  · exact h

theorem endJob {j : RecJob} (h : Canonical s) : Canonical (s.endJob j) :=
  .ite (.rsetFld (.closeRecovery (.frame h rfl))) (.closeRecovery (.frame h rfl))

theorem ucsFailed {t : Nat} (h : Canonical s) : Canonical (s.ucsFailed t) := by
  unfold State.ucsFailed
  exact h.rsetBit.report

theorem ucsReadBack {t a : Nat} (h : Canonical s) : Canonical (s.ucsReadBack t a) := .ite h h.rsetBit

theorem ucsRewrite {t a : Nat} {ok : Bool} (h : Canonical s) : Canonical (s.ucsRewrite t a ok) := by
  unfold State.ucsRewrite
  extract_lets s1 others u s2 ns m full
  have h1 : Canonical s1 := h.rinc.rsetBit.rinc
  have hu : Canonical u := h1.setUcs
  have h2 : Canonical s2 := .frame hu rfl
  have hm : Canonical m.2 := h2.noteError
  exact .ite hm.ucsFailed hm

theorem ucsControl {t : Nat} {v : Word} (h : Canonical s) : Canonical (s.ucsControl t v) :=
  .ite h.rwrite.updTile.rsetBit.rsetBit h.rwrite

theorem reloadTo {t e : Nat} (h : Canonical s) : Canonical (s.reloadTo t e) :=
  .radd (.updTile (h.setUcs' (smWf_foldl_put (smWf_filter _ h.ucs)) rfl))

theorem reloadTick (h : Canonical s) : Canonical s.reloadTick := .foldl h fun _ _ h => .ite h.drawNat.reloadTo h

/-! ### The operations of firings (Machine/FireOps) -/

theorem withIns {f : Firing} {a : Act} {row : OpRow} {ok : Nat} {go : State → Ins → State}
    (h : Canonical s) (hgo : ∀ s x, Canonical s → Canonical (go s x)) :
    Canonical (s.withIns f a row ok go) := by
  unfold State.withIns
  refine .ite h.trapOf ?_
  extract_lets r
  have hr : Canonical r.2 := h.readIns
  split
  · exact hr.waitFor
  · exact .ite (hgo _ _ hr) hr.trapIns

theorem handOp {f : Firing} {a : Act} {row : OpRow} (h : Canonical s) : Canonical (s.handOp f a row) :=
  .withIns h fun _ _ h => h.finish

theorem selOp {f : Firing} {a : Act} {row : OpRow} (h : Canonical s) : Canonical (s.selOp f a row) :=
  .withIns h fun _ _ h => h.finish

theorem switchOp {f : Firing} {a : Act} {row : OpRow} (h : Canonical s) : Canonical (s.switchOp f a row) :=
  .withIns h fun _ _ h => h.stage

theorem gateOp {f : Firing} {a : Act} {row : OpRow} (h : Canonical s) : Canonical (s.gateOp f a row) :=
  .withIns h fun _ _ h => h.stage

theorem mergeOp {f : Firing} {_a : Act} {_row : OpRow} (h : Canonical s) : Canonical (s.mergeOp f _a _row) :=
  h.stage

theorem handWith {f : Firing} {es : List Effect} {nd : optParam Bool false} (h : Canonical s) :
    Canonical (s.handWith f es nd) :=
  h.stage

theorem trapTok {f : Firing} {a : Act} {row : OpRow} {c : Nat} (h : Canonical s) :
    Canonical (s.trapTok f a row c) :=
  h.trapOf

theorem tokOp {ok : Nat} {go : State → Firing → Act → OpRow → State} {f : Firing} {a : Act} {row : OpRow}
    (h : Canonical s) (hgo : ∀ s x x2 x3, Canonical s → Canonical (go s x x2 x3)) :
    Canonical (State.tokOp ok go s f a row) :=
  .ite h.trapTok (hgo _ _ _ _ h)

theorem withAddr {f : Firing} {a : Act} {row : OpRow} {x : Desc} {i : Nat} {go : State → Loc → State}
    (h : Canonical s) (hgo : ∀ s x, Canonical s → Canonical (go s x)) :
    Canonical (s.withAddr f a row x i go) := by
  unfold State.withAddr
  extract_lets r
  have hr : Canonical r.2 := h.addrOf
  split
  · exact hgo _ _ hr
  · exact hr.waitFor
  · exact hr.trapTok

theorem ifetchOp {f : Firing} {a : Act} {row : OpRow} (h : Canonical s) : Canonical (s.ifetchOp f a row) := by
  unfold State.ifetchOp
  refine .tokOp h fun s f a row h => ?_
  extract_lets x
  refine .withAddr h fun s l h => ?_
  split
  · exact h.trapOf
  · extract_lets st cs r sl s1 s2 d
    have hr : Canonical r.2 := h.graphLoad
    have h1 : Canonical s1 := h.rinc
    have h2 : Canonical s2 := .frame h1 rfl
    refine .ite h.trapOf ?_
    refine .ite ?_ (.ite h2.rmax (.stage (.frame h rfl)))
    split
    · exact hr.stage
    · exact hr.waitFor
    · exact hr.trapTok

theorem istoreOp {f : Firing} {a : Act} {row : OpRow} (h : Canonical s) : Canonical (s.istoreOp f a row) := by
  unfold State.istoreOp
  refine .tokOp h fun s f a row h => ?_
  extract_lets x
  refine .withAddr h fun s l h => ?_
  split
  · exact h.trapOf
  · exact .ite h.stage h.trapOf

theorem fenceThen {f : Firing} {fabric : Bool} {go : State → State}
    (h : Canonical s) (hgo : ∀ s, Canonical s → Canonical (go s)) :
    Canonical (s.fenceThen f fabric go) :=
  .ite (hgo _ h) h.updFiring

theorem fenceOp {f : Firing} {a : Act} {row : OpRow} (h : Canonical s) : Canonical (s.fenceOp f a row) :=
  .tokOp h fun _ _ _ _ h => .fenceThen h fun _ h => h.handWith

theorem maintOp {inval : Bool} {f : Firing} {a : Act} {row : OpRow} (h : Canonical s) :
    Canonical (State.maintOp inval s f a row) := by
  unfold State.maintOp
  refine .tokOp h fun s f a row h => ?_
  refine .withAddr h fun s l h => ?_
  refine .ite h.trapTok <| .ite h.trapTok ?_
  split
  · exact .ite h.trapTok (.ite h.waitFor h.handWith)
  · exact h.handWith
  · exact h.trapTok

theorem cpolarOp {f : Firing} {a : Act} {row : OpRow} (h : Canonical s) : Canonical (s.cpolarOp f a row) := by
  unfold State.cpolarOp
  refine .tokOp h fun s f a row h => ?_
  extract_lets w x
  split
  · exact .ite h.stage h.trapOf
  · exact h.trapTok

theorem newactOp {f : Firing} {a : Act} {row : OpRow} (h : Canonical s) : Canonical (s.newactOp f a row) := by
  unfold State.newactOp
  split
  · exact h.trapTok
  · exact h.placeReq.waitFor

theorem freeactOp {f : Firing} {_a : Act} {_row : OpRow} (h : Canonical s) :
    Canonical (s.freeactOp f _a _row) :=
  h.stage

theorem iterOp {f : Firing} {_a : Act} {_row : OpRow} (h : Canonical s) : Canonical (s.iterOp f _a _row) :=
  h.stage

theorem chtagOp {f : Firing} {a : Act} {row : OpRow} (h : Canonical s) : Canonical (s.chtagOp f a row) := by
  unfold State.chtagOp
  split
  · exact h.trapTok
  · exact h.stage

theorem selfOp {f : Firing} {_a : Act} {_row : OpRow} (h : Canonical s) : Canonical (s.selfOp f _a _row) :=
  h.stage

theorem tagqOp {f : Firing} {_a : Act} {_row : OpRow} (h : Canonical s) : Canonical (s.tagqOp f _a _row) :=
  h.stage

theorem sendOp {close : Bool} {f : Firing} {a : Act} {row : OpRow} (h : Canonical s) :
    Canonical (State.sendOp close s f a row) := by
  unfold State.sendOp
  refine .tokOp h fun s f a row h => ?_
  split
  · exact h.trapTok
  · exact .ite h.trapTok (.ite h.waitFor h.handWith)

theorem pollOp {f : Firing} {a : Act} {row : OpRow} (h : Canonical s) : Canonical (s.pollOp f a row) := by
  unfold State.pollOp
  refine .tokOp h fun s f a row h => ?_
  split
  · exact h.trapTok
  · exact .ite h.trapTok h.stage

theorem lockEnd {f : Firing} {k st : Nat} {ndA : Bool} (h : Canonical s) : Canonical (s.lockEnd f k st ndA) :=
  h.stage

theorem lockTake {f : Firing} {a : Act} {k : Nat} {ndA : Bool} (h : Canonical s) :
    Canonical (s.lockTake f a k ndA) := by
  unfold State.lockTake
  extract_lets l s1
  have h1 : Canonical s1 := h.lockGive
  split
  · exact h1.lockEnd
  · exact h1

theorem lkacqOp {f : Firing} {a : Act} {row : OpRow} (h : Canonical s) : Canonical (s.lkacqOp f a row) := by
  unfold State.lkacqOp
  refine .tokOp h fun s f a row h => ?_
  extract_lets k l
  split
  · exact h.lockEnd
  · exact .ite h.trapTok (.ite h.lockTake (.ite h.noteCycle.lockEnd h.lockWait.waitFor))

theorem lktryOp {f : Firing} {a : Act} {row : OpRow} (h : Canonical s) : Canonical (s.lktryOp f a row) := by
  unfold State.lktryOp
  refine .tokOp h fun s f a row h => ?_
  extract_lets k l
  split
  · exact h.lockEnd
  · exact .ite h.trapTok (.ite h.lockTake h.lockEnd)

theorem lkrelOp {f : Firing} {a : Act} {row : OpRow} (h : Canonical s) : Canonical (s.lkrelOp f a row) :=
  .tokOp h fun _ _ _ _ h => .ite h.handWith h.trapTok

theorem lkhandOp {f : Firing} {a : Act} {row : OpRow} (h : Canonical s) : Canonical (s.lkhandOp f a row) := by
  unfold State.lkhandOp
  extract_lets k
  split
  · exact h.trapTok
  · exact .ite h.trapTok (.ite h.handWith h.trapTok)

theorem delayOp {ticks : Bool} {f : Firing} {a : Act} {row : OpRow} (h : Canonical s) :
    Canonical (State.delayOp ticks s f a row) :=
  .tokOp h fun _ _ _ _ h => .ite (.waitFor (.ite h h.rinc)) h.updFiring.stage

theorem schstatOp {f : Firing} {a : Act} {row : OpRow} (h : Canonical s) : Canonical (s.schstatOp f a row) :=
  .tokOp h fun _ _ _ _ h => h.stage

theorem crumbOp {f : Firing} {a : Act} {row : OpRow} (h : Canonical s) : Canonical (s.crumbOp f a row) :=
  .tokOp h fun _ _ _ _ h => h.handWith

theorem codeCommitOp {f : Firing} {a : Act} {row : OpRow} (h : Canonical s) :
    Canonical (s.codeCommitOp f a row) :=
  .tokOp h fun _ _ _ _ h => .fenceThen h fun _ h => h.stage

theorem timeqOp {f : Firing} {a : Act} {row : OpRow} (h : Canonical s) : Canonical (s.timeqOp f a row) :=
  .tokOp h fun _ _ _ _ h => h.stage

/-! ### Votes and resynchronisation (Machine/Votes) -/

theorem setVoteRec {r : VoteRec} (h : Canonical s) : Canonical (s.setVoteRec r) := h.frame rfl

theorem keepVote {m : VoteMsg} (h : Canonical s) : Canonical (s.keepVote m) := .ite h (.frame h rfl)

theorem voteTry {f : Firing} {late : Nat} (h : Canonical s) : Canonical (s.voteTry f late) := by
  unfold State.voteTry
  extract_lets k g ms silent gone a
  split
  · extract_lets others excl r1 o s1 vtmo s2 s3 s4 nd res st
    have h1 : Canonical s1 := h.setVoteRec
    have h2 : Canonical s2 := .ite h1 h1.rsetFld.rsetBit.rsetBit
    have h3 : Canonical s3 := .ite h2.eventTag h2
    have h4 : Canonical s4 := .ite h3.eventTag h3
    exact .ite h4.stage h
  · exact h

theorem voteWake (h : Canonical s) : Canonical s.voteWake := .foldl h fun _ _ h => h.voteTry

theorem voteOp {f : Firing} {a : Act} {row : OpRow} (h : Canonical s) : Canonical (s.voteOp f a row) := by
  unfold State.voteOp
  refine .tokOp h fun s f a row h => ?_
  extract_lets k b g isOpen x
  split
  · exact h.trapTok
  · refine .ite h.trapTok ?_
    extract_lets m s1 s2 s3
    have h1 : Canonical s1 := h.keepVote
    have h2 : Canonical s2 := by
      dsimp only [s2]
      split
      · exact h1.setVoteRec
      · exact .frame h1 rfl
    have h3 : Canonical s3 := .foldl h2 fun _ _ h => .ite h h.sendMsg
    exact h3.waitFor.voteTry

theorem voteArrive {m : Msg} (h : Canonical s) : Canonical (s.voteArrive m) :=
  .ite h (.ite h h.keepVote.voteWake)

theorem voteExpire {n : Nat} (h : Canonical s) : Canonical (s.voteExpire n) := by
  unfold State.voteExpire
  split
  · exact h
  · split
    · exact h
    · exact .ite h.voteTry h

theorem noteVote {f : Firing} (h : Canonical s) : Canonical (s.noteVote f) := by
  unfold State.noteVote
  extract_lets k g c n lower
  split
  · exact .ite (.ite (.ite h.rsetFld h) (.rsetBit (.frame (.ite h.rsetFld h) (by with_reducible rfl))))
      (.ite h.rsetFld h)
  · exact h

theorem setRsBind {b : RsBind} (h : Canonical s) : Canonical (s.setRsBind b) := h.frame rfl

theorem rsendOp {f : Firing} {a : Act} {row : OpRow} (h : Canonical s) : Canonical (s.rsendOp f a row) := by
  unfold State.rsendOp
  refine .tokOp h fun s f a row h => ?_
  exact .ite h.trapTok (.ite h.handWith (.ite h.handWith (.ite h.waitFor h.setRsBind.sendMsg.waitFor)))

theorem freeReqid (h : Canonical s) : Canonical s.freeReqid.2 := by
  unfold State.freeReqid
  exact h.drawNat

theorem xerr {f : Firing} {a : Act} {ecode reqid : Nat} {nd : Bool} (h : Canonical s) :
    Canonical (s.xerr f a ecode reqid nd) :=
  h.stageTrap

theorem extOp {f : Firing} {a : Act} {row : OpRow} (h : Canonical s) : Canonical (s.extOp f a row) := by
  unfold State.extOp
  refine .withIns h fun s x h => ?_
  refine .ite h.drawNat.xerr ?_
  exact .ite h.waitFor (.ite h.waitFor (.waitFor (.updFiring (.updLink (.frame h.freeReqid rfl)))))

theorem replyDiscarded (h : Canonical s) : Canonical s.replyDiscarded := h.event

theorem extReply {ws : List (BitVec 128)} (h : Canonical s) : Canonical (s.extReply ws) := by
  unfold State.extReply
  split
  · exact h.replyDiscarded
  · extract_lets hasA hasB n wellFormed raised ty
    split
    · exact h.replyDiscarded
    · refine .ite h.replyDiscarded ?_
      extract_lets s1
      have h1 : Canonical s1 := .frame h rfl
      split
      · split
        · exact .ite h1.xerr (.ite h1.trapOf h1.stage)
        · exact h1
      · exact h1.replyDiscarded

theorem xAbandon {x : XReq} (h : Canonical s) : Canonical (s.xAbandon x) := by
  unfold State.xAbandon
  extract_lets s1
  have h1 : Canonical s1 := .frame h rfl
  split
  · exact h1
  · split
    · exact h1
    · exact h1.xerr

theorem xExpire {n : Nat} (h : Canonical s) : Canonical (s.xExpire n) := by
  unfold State.xExpire
  split
  · exact h
  · exact .ite h.xAbandon h

theorem xDown (h : Canonical s) : Canonical s.xDown := .foldl h fun _ _ h => h.xAbandon

/-! ### The commit of a firing (Machine/Commit) -/

theorem releaseDeferred {d : Deferred} (h : Canonical s) : Canonical (s.releaseDeferred d) := by
  unfold State.releaseDeferred
  split
  · exact h
  · exact .ite h (.foldl h fun _ _ h => h.emitTok)

theorem releaseCell {cell : Nat × Nat} (h : Canonical s) : Canonical (s.releaseCell cell) :=
  .foldl (.frame h rfl) fun _ _ h => h.releaseDeferred

theorem journal {b : SbEntry} {a n : Nat} (h : Canonical s) : Canonical (s.journal b a n) :=
  .ite (.ite h.updSlot.sdWrite h.updSlot) h

theorem performStore {b : SbEntry} (h : Canonical s) : Canonical (s.performStore b) := by
  unfold State.performStore
  extract_lets st s1
  have h1 : Canonical s1 := h.journal.memWrite
  refine .ite (.ite h.remoteStoreFailed h.remoteIssue) ?_
  split
  · exact h.journal.memWrite
  · exact .ite h h1.journal.memWrite.releaseCell

theorem drainStore {t p : Nat} (h : Canonical s) : Canonical (s.drainStore t p) := by
  unfold State.drainStore
  split
  · exact h
  · exact .settle (.performStore (.frame h rfl))

theorem rsGone {device n : Nat} (h : Canonical s) : Canonical (s.rsGone device n) := h.radd.rsetBit.event

theorem sendItem {e : EbEntry} {device inbound : Nat} {guar : Bool} {word width : Nat} (h : Canonical s) :
    Canonical (s.sendItem e device inbound guar word width) :=
  .ite h.rsGone (.sendMsg (.frame h rfl))

theorem performEvent {e : EbEntry} (h : Canonical s) : Canonical (s.performEvent e) := by
  unfold State.performEvent
  extract_lets o y
  split
  · extract_lets s1
    have h1 : Canonical s1 := by
      dsimp only [s1]
      split
      · exact .ite h.classSent h
      · exact h
    exact h1.appendWord
  · exact .ite h.setLock h
  · exact .ite h.lockFree h
  · exact .ite h.setLock.relevel h
  · exact .ite h.waferCrumb h
  · exact h.sendItem
  · exact h.rsGone
  · exact h

theorem drainEvent {t p : Nat} (h : Canonical s) : Canonical (s.drainEvent t p) := by
  unfold State.drainEvent
  split
  · exact h
  · exact .ite h (.settle (.rewindDead (.wakeChannel (.performEvent (.frame h rfl)))))

theorem pollNow {f : Firing} {h0 : Nat} (h : Canonical s) : Canonical (s.pollNow f h0).2 := by
  unfold State.pollNow
  extract_lets b
  split
  · dsimp only
    exact h
  · extract_lets r
    have hr : Canonical r.2 := h.takeNext
    split
    · dsimp only
      exact h
    · dsimp only
      exact hr
    · dsimp only
      exact hr

theorem commitEffect {f : Firing} {a : Act} {n : Nat} {tok : OutTok → Token} {e : Effect} (h : Canonical s) :
    Canonical (s.commitEffect f a n tok e) := by
  unfold State.commitEffect
  split
  · exact .foldl h fun _ _ h => .accumulate (.rmax (.frame h rfl))
  · exact .frame h rfl
  · exact .frame h rfl
  · extract_lets s1
    have h1 : Canonical s1 := .frame h rfl
    split
    · extract_lets s2 b
      have h2 : Canonical s2 := .ite h1 h1.accumulate
      exact .ite h2.releaseCell (.ite h2.memWrite h2)
    · exact h1
  · split
    · exact .ite h.l2CleanInval h.l2Clean
    · exact .ite h.l1Invalidate h
  · exact h.noteVote
  · exact .ite (.sumFlags (.frame h.updAct (by with_reducible rfl))) h
  · exact h.quarantine
  · exact h

theorem commitFiring {f : Firing} (h : Canonical s) : Canonical (s.commitFiring f) := by
  unfold State.commitFiring
  refine .ite h ?_
  split
  · exact h.dropFiring.settle
  · refine .ite h.dropFiring.rewindDead.settle ?_
    extract_lets n egress isStart tok evs s1 poll os isX xs u s2 s3 nd s4 s5 s6
    have h1 : Canonical s1 := .frame h rfl
    have hpoll : Canonical poll.2 := by
      refine foldl_by Prod.snd (fun x e hx => ?_) h1
      split
      · exact hx.pollNow
      · exact hx
    have hu : Canonical u := hpoll
    have h2 : Canonical s2 := .sendTokens (.frame hu rfl)
    have h3 : Canonical s3 := .foldl h2 fun _ _ h => h.accumulate
    have h4 : Canonical s4 := .ite h3.updSlot h3
    have h5 : Canonical s5 := .foldl h4 fun _ _ h => h.commitEffect
    have h6 : Canonical s6 := h5.rinc.rinc.progress
    exact h6.retryDone.rewindDead.settle

theorem schedGrant (h : Canonical s) : Canonical s.schedGrant := by
  unfold State.schedGrant
  split
  · exact h
  · split
    · exact h
    · refine .ite h.createAct.sendRoot ?_
      split
      · exact .frame h rfl
      · exact h.createAct.commitFiring

theorem peRetire {t p : Nat} {v : Word} (h : Canonical s) : Canonical (s.peRetire t p v) :=
  .ite h (.ite h.rsetFld.rsetBit h.rsetBit)

theorem spareIn {s0 : State} {t p : Nat} (h : Canonical s0) : Canonical (s0.spareIn t p) :=
  .rsetBit (.rset (.rsetBit (.rsetBit (.rsetFld (.rsetFld (.rsetBit (.frame h rfl)))))))

theorem peRetireDone {t p : Nat} (h : Canonical s) : Canonical (s.peRetireDone t p) := .ite h.spareIn.event h

theorem tilControl {t : Nat} {v : Word} (h : Canonical s) : Canonical (s.tilControl t v) :=
  .ite (.foldl h.rwrite.rset.rset fun _ _ h => .foldl h fun _ _ h => h.rset) h.rwrite

/-! ### Routing (Machine/FabRoute) -/

theorem noteUps (h : Canonical s) : Canonical s.noteUps := by
  unfold State.noteUps
  exact .frame h rfl

theorem neighbourRoutes (h : Canonical s) : Canonical s.neighbourRoutes := .ite h (.foldl h fun _ _ h => h.rset)

theorem flushUnsentGo {ms : List Msg} (h : Canonical s) : Canonical (State.flushUnsent.go ms s) := by
  induction ms generalizing s with
  | nil => exact h
  | cons m ms ih =>
    unfold State.flushUnsent.go
    exact .ite (h.frame rfl) (ih (.sendMsg (.frame h rfl)))

theorem flushUnsent (h : Canonical s) : Canonical s.flushUnsent := by
  unfold State.flushUnsent
  extract_lets s1 ms _ s2 ws _
  have h1 : Canonical s1 := by
    dsimp only [s1]
    refine .foldl h fun s x h => ?_
    split
    · exact h
    · refine .ite h ?_
      split
      · exact h
      · next s' e => exact .frame (h.forward e) rfl
  have h2 : Canonical s2 := by
    dsimp only [s2]
    refine .foldl (.frame h1 rfl) fun s x h => ?_
    split
    · next s2 e => exact h.forward e
    · exact .frame h rfl
  exact .flushUnsentGo (.frame h2 rfl)

theorem sendTable {d ver : Nat} {tab : List Nat} (h : Canonical s) : Canonical (s.sendTable d ver tab) :=
  .foldl h fun _ _ h => h.sendMsg

theorem manage {comp : List LinkRec} (h : Canonical s) : Canonical (s.manage comp) :=
  .foldl h fun _ _ h => .ite (.frame h rfl) h.sendTable

theorem beginService {t0 w n : Nat} (h : Canonical s) : Canonical (s.beginService t0 w n) :=
  .rset (.frame h rfl)

theorem startService (h : Canonical s) : Canonical s.startService :=
  .ite h (.ite (.ite (.beginService (.frame h rfl)) h) (.ite h.beginService h.beginService))

theorem followBase (h : Canonical s) : Canonical s.followBase := by
  unfold State.followBase
  extract_lets n w t _
  refine .ite h ?_
  refine .ite ?_ (.ite (.rset (.frame h rfl)) h)
  split
  · exact h.beginService
  · exact h

theorem elected {mgr tm : Option Nat} (h : Canonical s) : Canonical (s.elected mgr tm) :=
  .startService (.ite h.rset.rset.rsetBit.rsetBit.rset h.rset.rset.rsetBit.rsetBit)

theorem planLoad (h : Canonical s) : Canonical s.planLoad :=
  .ite h (.elected (.foldl h.noteUps fun _ _ h => h.rset))

theorem dupCheck {comp : List LinkRec} (h : Canonical s) : Canonical (s.dupCheck comp) := by
  unfold State.dupCheck
  extract_lets mine dup s1
  have h1 : Canonical s1 := .ite h.event h
  exact .ite (.rsetBit (.foldl h1 fun _ _ h => .ite h.updLink.report h)) h1.rsetBit

theorem topology (h : Canonical s) : Canonical s.topology := by
  unfold State.topology
  extract_lets me all wide s1 comp mgr tm s2
  have h1 : Canonical s1 := h.dupCheck
  have h2 : Canonical s2 := h1.neighbourRoutes.elected
  exact .ite h1.planLoad (.ite h2.manage h2)

theorem flood {r : LinkRec} {but : Option Nat} (h : Canonical s) : Canonical (s.flood r but) :=
  .foldl h fun _ _ h => h.sendMsg

theorem linksChanged (h : Canonical s) : Canonical s.linksChanged := by
  unfold State.linksChanged
  extract_lets _ r old same _ s1 s2
  have h1 : Canonical s1 := .ite h (.topology (.flood (.frame h rfl)))
  have h2 : Canonical s2 := h1.flushUnsent
  exact .voteWake (.frame h2 (by with_reducible rfl))

theorem routeApply (h : Canonical s) : Canonical s.routeApply := by
  unfold State.routeApply
  split
  · exact h
  · exact .ite (.linksChanged (.neighbourRoutes (.frame (.foldl h.noteUps fun _ _ h => h.rset) rfl))) h

/-! ### Remote accesses (Machine/RemSend) -/

theorem rsAnswer {d i n : Nat} {refused : Bool} (h : Canonical s) : Canonical (s.rsAnswer d i n refused) :=
  h.sendMsg

theorem rsReserve {d i : Nat} {c : Chan} {n : Nat} (h : Canonical s) : Canonical (s.rsReserve d i c n) := by
  unfold State.rsReserve
  exact .frame h.setChan (by with_reducible rfl)

theorem rsGrantAll (h : Canonical s) : Canonical s.rsGrantAll := by
  unfold State.rsGrantAll
  refine .foldl h fun s x h => ?_
  split
  split
  · exact .rsAnswer (.frame h rfl)
  · exact .ite h (.rsAnswer (.rsReserve (.frame h rfl)))

theorem rsCred {m : Msg} (h : Canonical s) : Canonical (s.rsCred m) :=
  .ite (.rsGrantAll (.frame h rfl)) h.rsAnswer

theorem rsGrant {m : Msg} (h : Canonical s) : Canonical (s.rsGrant m) := by
  unfold State.rsGrant
  extract_lets i b s1 _
  have h1 : Canonical s1 := .foldl h.setRsBind fun _ _ h => .fire h fun _ _ _ _ h => h.rsendOp
  exact .ite h1.setRsBind h.setRsBind.wakeChannel

theorem rsAckTo {d i wafer lo hi : Nat} (h : Canonical s) : Canonical (s.rsAckTo d i wafer lo hi) := h.sendMsg

theorem rsSpend {d i : Nat} {held : Bool} (h : Canonical s) : Canonical (s.rsSpend d i held) := by
  unfold State.rsSpend
  extract_lets k n _ s1
  have h1 : Canonical s1 := .frame h rfl
  refine .ite h1 ?_
  split
  · exact h1.setChan
  · exact h1

theorem rsAccInc {d i w : Nat} (h : Canonical s) : Canonical (s.rsAccInc d i w) := h.frame rfl

theorem rsItem {m : Msg} (h : Canonical s) : Canonical (s.rsItem m) := by
  unfold State.rsItem
  extract_lets i w k e s1 late _ word u _
  have h1 : Canonical s1 := h.rsAccInc
  have hu : Canonical u := h1.rsSpend
  exact .ite h (.ite h.rsSpend.rsAckTo (.ite (.frame h rfl) (.ite h1.rsSpend.rinc.rsetBit.rsAckTo (.frame hu rfl))))

theorem rsClose {m : Msg} (h : Canonical s) : Canonical (s.rsClose m) := .ite (.frame h rfl) (.frame h rfl)

theorem rsRetry (h : Canonical s) : Canonical s.rsRetry :=
  .foldl (.frame h rfl) fun _ _ h => .ite h.rsClose h.rsItem

theorem rsAck {m : Msg} (h : Canonical s) : Canonical (s.rsAck m) := by
  unfold State.rsAck
  exact .settle (.frame h rfl)

theorem rsCloseSend {k : Nat} (h : Canonical s) : Canonical (s.rsCloseSend k) :=
  .ite h (.foldl h.updSlot fun _ _ h => .ite h h.sendMsg)

theorem rsCloseFor {d : Nat} (h : Canonical s) : Canonical (s.rsCloseFor d) := h.frame rfl

theorem rsAbandon {d : Nat} (h : Canonical s) : Canonical (s.rsAbandon d) :=
  .foldl (.frame h rfl) fun _ _ h => .fire h fun _ _ _ _ h => h.rsendOp

theorem fabWindow {c : Chan} {w : Window} (h : Canonical s) : Canonical (s.fabWindow c w) := by
  unfold State.fabWindow
  split
  · exact h.completeWindow
  · extract_lets e mine its _ s1 s2 s3
    have h1 : Canonical s1 := .frame h rfl
    have h2 : Canonical s2 := by
      dsimp only [s2]
      refine .foldl h1 fun s x h => ?_
      split
      · exact h.storePacket
      · exact h
    have h3 : Canonical s3 := by
      dsimp only [s3]
      split
      · exact h2.completeWindow
      · exact h2
    exact .foldl h3 fun _ _ h => .ite h h.rsAckTo

theorem windowComplete {c : Chan} (h : Canonical s) : Canonical (s.windowComplete c) := by
  unfold State.windowComplete
  refine .ite h ?_
  split
  · exact h
  · exact .ite (.ite h.fabWindow h) (.ite h.completeWindow h)

/-! ### Ticks and wafers (Machine/Ticks) -/

theorem dropCopies (h : Canonical s) : Canonical s.dropCopies := h.frame rfl

theorem codeDropped {n : Nat} (h : Canonical s) : Canonical (s.codeDropped n) := .ite h h.radd.event

theorem commitWafer {s0 : State} {k : Nat} (h : Canonical s0) : Canonical (s0.commitWafer k) := by
  unfold State.commitWafer
  extract_lets s x s1 mine s2 _ s3 s4
  have hs : Canonical s := h.rsCloseSend
  have h1 : Canonical s1 := .ite hs.ringItem hs
  have h2 : Canonical s2 := h1.codeDropped
  have h3 : Canonical s3 := .frame h2 rfl
  have h4 : Canonical s4 := h3.releaseWindows.updSlot
  exact h4.rset.dropCopies.newOldest

theorem commitAll {n : Nat} (h : Canonical s) : Canonical (State.commitAll n s) := by
  induction n generalizing s with
  | zero => exact h
  | succ n ih =>
    unfold State.commitAll
    split
    · exact h
    · exact ih h.commitWafer

theorem admitOne {t : State} (h : Canonical s) (e : s.admitOne = some t) : Canonical t := by
  unfold State.admitOne at e
  split at e
  · cases e
  · dsimp only at e
    split at e
    · cases e
    · injection e with e
      subst e
      exact .settle (.placeRoots (.decision (.rset (.updSlot (.frame h rfl)))))

theorem admitAll {n : Nat} (h : Canonical s) : Canonical (State.admitAll n s) := by
  induction n generalizing s with
  | zero => exact h
  | succ n ih =>
    unfold State.admitAll
    split
    · exact h
    · next e => exact ih (h.admitOne e)

theorem lagWarn {before : Bool} (h : Canonical s) : Canonical (s.lagWarn before) := .ite h.rsetBit.event h

theorem applyWord {x : StagedWord} (h : Canonical s) : Canonical (s.applyWord x) := by
  unfold State.applyWord
  exact .ite h.codeDropped <| .codeDrop (h.setCode (smWf_put (d := fun _ => 0) h.code) rfl)

theorem bankRegs (h : Canonical s) : Canonical s.bankRegs :=
  .foldl h.rset.rset.planLoad fun _ _ h => h.rsetBit.rsetBit.rsetFld

theorem recordSwap {info wafer t : Nat} (h : Canonical s) : Canonical (s.recordSwap info wafer t) :=
  .rset (.rset (.rset (.foldl h fun _ _ h => h.rset.rset.rset)))

theorem bankSwap {w t : Nat} (h : Canonical s) : Canonical (s.bankSwap w t) := by
  unfold State.bankSwap
  extract_lets due txn s1 e olds late _ s2 e' u _ s3
  have h1 : Canonical s1 := .foldl (.frame h rfl) fun _ _ h => h.applyWord
  have h2 : Canonical s2 := .ite (.frame h1 rfl) (.frame h1 rfl)
  have hu : Canonical u := h2.rset
  have h3 : Canonical s3 := .bankRegs (.frame hu rfl)
  exact .ite h h3.recordSwap

theorem closeWafer {t : Nat} (h : Canonical s) : Canonical (s.closeWafer t) :=
  .ite (.rsetBit (.rinc (.frame h rfl))) (.frame h.openWindows.rset rfl)

theorem parkTick (h : Canonical s) : Canonical s.parkTick := by
  unfold State.parkTick
  extract_lets s1 _
  have h1 : Canonical s1 := .foldl h fun _ _ h => .ite (.frame h rfl) (.rsetFld (.frame h rfl))
  exact .frame h1 rfl

theorem gatesTick (h : Canonical s) : Canonical s.gatesTick :=
  .foldl h fun _ _ h => .frame (.foldl h fun _ _ h => h.rwrite) rfl

theorem doTick (h : Canonical s) : Canonical s.doTick := by
  unfold State.doTick
  extract_lets t w warned s1 s2 s3 s4 s5 s6 s7 s8 p _
  have h1 : Canonical s1 := h.commitAll.bankSwap
  have h2 : Canonical s2 := h1.parkTick.closeWafer
  have h3 : Canonical s3 := h2.admitAll
  have h4 : Canonical s4 := h3.rmax.lagWarn
  have h5 : Canonical s5 := h4.tickDelays
  have h6 : Canonical s6 := .foldl (.frame h5 (by with_reducible rfl)) fun _ _ h => h.rset
  have h7 : Canonical s7 := .foldl h6 fun _ _ h => h.loadLevels.levelsChanged
  have h8 : Canonical s8 := .gatesTick (.cutPackets (.foldl h7 fun _ _ h => h.raiseEvent))
  exact .ite h (.rset (.frame h8 (by with_reducible rfl)))

theorem tckCtrl {s0 : State} {v : Word} (h : Canonical s0) : Canonical (s0.tckCtrl v) :=
  .ite h.rwrite.pauseDetectors.rwrite (.startService (.frame h.rwrite.pauseDetectors.rwrite rfl))

theorem tckPeriod {v : Word} (h : Canonical s) : Canonical (s.tckPeriod v) :=
  .ite h (.ite h.rsetBit (.ite (.frame h.rset rfl) h.rset))

theorem sampleStats (h : Canonical s) : Canonical s.sampleStats :=
  .foldl (.foldl h fun _ _ h => h.rset.rset) fun _ _ h => h.rset

theorem subtick (h : Canonical s) : Canonical s.subtick := by
  unfold State.subtick
  extract_lets s1 _ s2
  have h1 : Canonical s1 := .frame h rfl
  have h2 : Canonical s2 := .ite (.shadowApply (.frame h1 rfl)) h1
  exact .ite h1 h2.releaseDelays.sampleStats.routeApply.reloadTick.rsRetry.rsGrantAll.dlSubtick

/-! ### The fabric (Machine/Fabric) -/

theorem linkEvent {p detail : Nat} (h : Canonical s) : Canonical (s.linkEvent p detail) := h.report

theorem linkLeave {p : Nat} {st : LinkState} {detail : Nat} (h : Canonical s) :
    Canonical (s.linkLeave p st detail) := by
  unfold State.linkLeave
  extract_lets was s1 s2
  have h1 : Canonical s1 := h.noteUps.updLink
  have h2 : Canonical s2 := .ite h1.degrade h1.linkEvent
  exact .ite (.ite h2.xDown h2) h2.linksChanged

theorem linkResend {p : Nat} (h : Canonical s) : Canonical (s.linkResend p) :=
  .ite h.updLink.radd.linkEvent.linkLeave h.updLink.radd.linkEvent

theorem linkResendTimeout {p : Nat} (h : Canonical s) : Canonical (s.linkResendTimeout p) := .ite h.linkResend h

theorem linkTrain {p : Nat} (h : Canonical s) : Canonical (s.linkTrain p) := .ite h.updLink.linkEvent h

theorem linkSignal {p : Nat} (h : Canonical s) : Canonical (s.linkSignal p) := h.updLink.linkTrain

theorem linkLock {p : Nat} (h : Canonical s) : Canonical (s.linkLock p) := .ite h.updLink.linkEvent h

theorem linkTrainFail {p : Nat} (h : Canonical s) : Canonical (s.linkTrainFail p) :=
  .ite h (.ite h.updLink.linkLeave h.updLink)

theorem linkLoss {s0 : State} {p : Nat} (h : Canonical s0) : Canonical (s0.linkLoss p) :=
  .ite h.updLink h.updLink.linkLeave

theorem helloTimeout {p : Nat} (h : Canonical s) : Canonical (s.helloTimeout p) := .ite h.linkLeave h

theorem linkWake {p : Nat} (h : Canonical s) : Canonical (s.linkWake p) :=
  .ite h.updLink.linkEvent.linksChanged h

theorem linkCtrl {p : Nat} {v : Word} (h : Canonical s) : Canonical (s.linkCtrl p v) := by
  unfold State.linkCtrl
  refine .ite h.rsetBit ?_
  extract_lets a was s1 s2 st
  have h1 : Canonical s1 := h.rwrite
  have h2 : Canonical s2 := h1.rsetFld
  exact .ite (.ite h2 h2.linkLeave) (.ite h2.linkLeave h2.linkTrain)

theorem helloSend {p : Nat} (h : Canonical s) : Canonical (s.helloSend p) := .ite h.sendLocal h

theorem remoteFail {r : RemAcc} (h : Canonical s) : Canonical (s.remoteFail r) := by
  unfold State.remoteFail
  extract_lets s1 _ s2 s2'
  have h1 : Canonical s1 := h.remoteStoreFailed
  have h2 : Canonical s2 := .frame h1 rfl
  have h2' : Canonical s2' := .frame h1 rfl
  refine .ite ?_ ?_
  · split
    · exact h2.updEngine.rset
    · exact h2
  · split
    · exact h2'.updEngine.rset
    · exact h2'.updFiring
    · exact h2'

theorem resyncEnd {y : Resync} {ok : Bool} (h : Canonical s) : Canonical (s.resyncEnd y ok) :=
  .ite (.ite (.frame h rfl) (.rsetBit (.frame h rfl))) (.event
    (.rsetBit (.ite (.frame h rfl) (.rsetBit (.frame h rfl)))))

theorem loseDevice {d : Nat} (h : Canonical s) : Canonical (s.loseDevice d) := by
  unfold State.loseDevice
  extract_lets _ s1 s2 s3 outs _ s4 s5 s6 s7 s8 s9 s10 _
  have h1 : Canonical s1 := .frame h rfl
  have h2 : Canonical s2 := h1.masterReset
  have h3 : Canonical s3 := .foldl h2 fun _ _ h => h.remoteFail
  have h4 : Canonical s4 := .frame h3 rfl
  have h5 : Canonical s5 := .rsCloseFor (.rsAbandon (.ite h4 h4.rsGone))
  have h6 : Canonical s6 := by
    dsimp only [s6]
    refine .foldl h5 fun s x h => ?_
    split
    · exact .setChan (.frame h rfl)
    · exact .frame h rfl
  have h7 : Canonical s7 := .ite h6 h6.rsetBit
  have h8 : Canonical s8 := .foldl h7 fun _ _ h => h.resyncEnd
  have h9 : Canonical s9 := .ite h8.event h8
  have h10 : Canonical s10 := h9.event.wakeChannel.settle.topology
  exact .voteWake (.frame h10 rfl)

theorem helloReceive {p : Nat} {m : Msg} (h : Canonical s) : Canonical (s.helloReceive p m) := by
  unfold State.helloReceive
  extract_lets l h' rebooted _ s0 s1 why st s2 s3 s4 s5 s6
  have h0 : Canonical s0 := .frame h rfl
  have h1 : Canonical s1 := .ite h0.loseDevice h0
  have h2 : Canonical s2 := .ite h1.noteUps h1
  have h3 : Canonical s3 := h2.updLink
  have h4 : Canonical s4 := .ite h3 h3.linkEvent
  have h5 : Canonical s5 := .ite h4.rsetBit h4
  have h6 : Canonical s6 := .ite (.ite h5.event (.ite h5.event h5)) h5
  exact .ite h h6.linksChanged

theorem mgmtReceive {m : Msg} (h : Canonical s) : Canonical (s.mgmtReceive m) :=
  .ite h (.linksChanged (.topology (.flood (.frame h rfl))))

theorem routeReceive {m : Msg} (h : Canonical s) : Canonical (s.routeReceive m) := .ite h (.frame h rfl)

theorem refuse {m : Msg} (h : Canonical s) : Canonical (s.refuse m) := h.sendMsg.event

theorem refuseHole {m : Msg} (h : Canonical s) : Canonical (s.refuseHole m) := h.refuse.holeEvent

theorem rdReq {m : Msg} (h : Canonical s) : Canonical (s.rdReq m) :=
  .ite h.refuse (.ite (.ite h.sendMsg h.refuse) (.ite h.memRead.sendMsg (.ite h.refuseHole h.refuse)))

theorem wrReq {m : Msg} (h : Canonical s) : Canonical (s.wrReq m) := by
  unfold State.wrReq
  extract_lets n bs
  refine .ite h.refuse <| .ite (.ite (.sendMsg (.ite h.lkuRequest h)) h.refuse) ?_
  exact .ite h.memWrite.sendMsg (.ite h.refuseHole h.refuse)

theorem rdResp {m : Msg} (h : Canonical s) : Canonical (s.rdResp m) := by
  unfold State.rdResp
  split
  · exact h
  · refine .ite h ?_
    extract_lets bs _ s1
    have h1 : Canonical s1 := .frame h rfl
    split
    · exact h1.updEngine
    · exact h1.updFiring
    · exact h1

theorem wrAck {m : Msg} (h : Canonical s) : Canonical (s.wrAck m) := by
  unfold State.wrAck
  split
  · exact h
  · refine .ite h ?_
    extract_lets _ s1
    have h1 : Canonical s1 := .frame h rfl
    split
    · exact h1.updEngine
    · exact h1

theorem rErr {m : Msg} (h : Canonical s) : Canonical (s.rErr m) := by
  unfold State.rErr
  split
  · exact h
  · exact h.remoteFail

theorem sendSnapshot {y : Resync} {d : Nat} (h : Canonical s) : Canonical (s.sendSnapshot y d) :=
  .foldl h fun _ _ h => h.memRead.sendMsg

theorem resyncSource {g w : Nat} (h : Canonical s) : Canonical (s.resyncSource g w) := by
  unfold State.resyncSource
  split
  · exact h
  · refine .ite h ?_
    extract_lets e r s1 y' _ s2
    have hr : Canonical r.2 := h.memRead
    have h1 : Canonical s1 := hr.memWrite
    have h2 : Canonical s2 := .frame h1 (by with_reducible rfl)
    split
    · exact h2.sendSnapshot
    · exact h2

theorem resyncMinority {g w : Nat} (h : Canonical s) : Canonical (s.resyncMinority g w) := by
  unfold State.resyncMinority
  split
  · exact h
  · exact .ite h (.ite h.resyncEnd (.sendMsg (.frame h rfl)))

theorem rsyReq {m : Msg} (h : Canonical s) : Canonical (s.rsyReq m) := by
  unfold State.rsyReq
  split
  · exact .frame h rfl
  · exact .ite h.sendSnapshot (.frame h rfl)

theorem rsyData {m : Msg} (h : Canonical s) : Canonical (s.rsyData m) := by
  unfold State.rsyData
  split
  · exact h
  · exact .ite h (.ite h.memWrite.resyncEnd.rsetFld.sendMsg (.frame h.memWrite (by with_reducible rfl)))

theorem rsyAck {m : Msg} (h : Canonical s) : Canonical (s.rsyAck m) := by
  unfold State.rsyAck
  split
  · exact h
  · exact h.resyncEnd

theorem resyncTimeout {g w : Nat} (h : Canonical s) : Canonical (s.resyncTimeout g w) := by
  unfold State.resyncTimeout
  split
  · exact h
  · exact .ite h.resyncEnd h

theorem handle {m : Msg} (h : Canonical s) : Canonical (s.handle m) := by
  unfold State.handle
  refine .ite h.mgmtReceive <| .ite h.routeReceive <| .ite h.rdReq <| .ite h.rdResp <| .ite h.wrReq ?_
  refine .ite h.wrAck <| .ite h.rErr <| .ite h.rsCred <| .ite h.rsGrant <| .ite h.rsItem ?_
  exact .ite h.rsClose (.ite h.rsAck (.ite h.voteArrive (.ite h.rsyReq (.ite h.rsyData (.ite h.rsyAck h)))))

theorem e2eAckSend {d vc last : Nat} (h : Canonical s) : Canonical (s.e2eAckSend d vc last) := by
  unfold State.e2eAckSend
  extract_lets m
  cases e : s.forward m with
  | none => exact h
  | some t => exact h.forward e

theorem e2eAck {m : Msg} (h : Canonical s) : Canonical (s.e2eAck m) := .ite (.flushUnsent (.frame h rfl)) h

theorem msgArrive {s0 : State} {m : Msg} (h : Canonical s0) : Canonical (s0.msgArrive m) := by
  unfold State.msgArrive
  extract_lets s' _ k n
  have h' : Canonical s' := .ite h h.wakeBy
  refine .ite h' <| .ite h'.rinc.event ?_
  refine .ite ?_ (.ite h'.e2eAck (.ite (.handle (.e2eAckSend (.frame h' rfl))) h'.e2eAckSend))
  split
  · next s2 e => exact h'.forward e
  · exact .frame h' rfl

theorem recv {kind : Nat} {m : Msg} (h : Canonical s) : Canonical (s.recv kind m) := .ite h.msgArrive h

theorem e2eResend {d vc : Nat} (h : Canonical s) : Canonical (s.e2eResend d vc) := by
  unfold State.e2eResend
  extract_lets mine s1 _
  have h1 : Canonical s1 := by
    dsimp only [s1]
    refine .foldl h fun s x h => ?_
    split
    · next s2 e => exact (h.forward e).rinc
    · exact h
  split
  · exact h
  · exact .ite h (.frame h1 rfl)

theorem lossTimeout {d : Nat} (h : Canonical s) : Canonical (s.lossTimeout d) := .ite h.loseDevice h

theorem timeSend {p code arg c1 c2 : Nat} (h : Canonical s) : Canonical (s.timeSend p code arg c1 c2) :=
  h.sendLocal

theorem timeExchange {p : Nat} (h : Canonical s) : Canonical (s.timeExchange p) := .ite h h.updLink.timeSend

theorem syncReceive {s0 : State} {p : Nat} {m : Msg} (h : Canonical s0) : Canonical (s0.syncReceive p m) :=
  .ite h.classSent (.timeSend (.followBase (.frame h.classSent (by with_reducible rfl))))

theorem dreqReceive {s0 : State} {p : Nat} (h : Canonical s0) : Canonical (s0.dreqReceive p) :=
  .ite h.classSent h.classSent.timeSend

theorem setBound {e : Nat} (h : Canonical s) : Canonical (s.setBound e) := by
  unfold State.setBound
  extract_lets s1 s2 u _ s3
  have h1 : Canonical s1 := h.rset
  have h2 : Canonical s2 := .ite h1.rsetBit h1
  have hu : Canonical u := h2.rsetBit
  have h3 : Canonical s3 := .frame hu rfl
  exact .ite (.ite h3 h3.event) h2

theorem drespReceive {s0 : State} {p : Nat} {m : Msg} (h : Canonical s0) : Canonical (s0.drespReceive p m) := by
  unfold State.drespReceive
  extract_lets s t1 t4 asym th mag s1 s2 e g10 g20 _ s3 s4
  have hs : Canonical s := h.classSent
  have h1 : Canonical s1 := hs.rset
  have h2 : Canonical s2 := .ite h1 (.frame h1 rfl)
  have h3 : Canonical s3 := .setBound (.frame h2 rfl)
  have h4 : Canonical s4 := .ite h3.rsetBit h3
  exact .ite hs (.startService (.ite h4.rsetBit h4))

theorem timeReceive {p : Nat} {m : Msg} (h : Canonical s) : Canonical (s.timeReceive p m) :=
  .ite h.syncReceive (.ite h.dreqReceive (.ite h.drespReceive h))

theorem boundGrowth (h : Canonical s) : Canonical s.boundGrowth := .ite (.setBound (.frame h rfl)) h

theorem xIdentity {d : BitVec 128} (h : Canonical s) : Canonical (s.xIdentity d) := .ite h.updLink.linkEvent h

theorem linkDeliver {p : Nat} {m : Msg} (h : Canonical s) : Canonical (s.linkDeliver p m) :=
  .ite h.helloReceive (.ite h (.ite h.timeReceive h.msgArrive))

theorem feed {p vc : Nat} {d : BitVec 128} (h : Canonical s) : Canonical (s.feed p vc d) := by
  unfold State.feed
  extract_lets ws put h'
  have hput : ∀ s ws, Canonical s → Canonical (put s ws) := by
    intro s ws h
    dsimp only [put]
    exact h.updLink
  refine .ite (.ite h.xIdentity (.ite h (.ite (.extReply (hput _ _ h)) (hput _ _ h)))) ?_
  exact .ite (.linkDeliver (hput _ _ h)) (hput _ _ h)

theorem flit {p vc : Nat} {c : Codeword} (h : Canonical s) : Canonical (s.flit p vc c) := by
  unfold State.flit
  split
  · exact h.rinc.report.feed
  · exact h.feed

theorem linkAnswer {p : Nat} (h : Canonical s) : Canonical (s.linkAnswer p) := .ite h.updLink h

theorem linkReject {p : Nat} (h : Canonical s) : Canonical (s.linkReject p) := h.updLink.linkAnswer

theorem linkWordIn {p : Nat} {w : BitVec 32} (h : Canonical s) : Canonical (s.linkWordIn p w) :=
  .ite h.updLink.linkResend h.updLink

theorem frameReceive {p : Nat} {f : Frame} (h : Canonical s) : Canonical (s.frameReceive p f) := by
  unfold State.frameReceive
  extract_lets l w v0 v1 seq carries next s1 s2
  have h1 : Canonical s1 := h.linkWordIn
  have h2 : Canonical s2 := .ite h1.flit h1
  refine .ite h <| .ite h.linkReject ?_
  exact .ite h.linkAnswer (.ite (.ite h.linkAnswer h.linkReject) (.linkAnswer (.ite h2.flit h2)))

/-! ### The communication engines (Machine/Engines) -/

theorem drainOne {n : Nat} (h : Canonical s) : Canonical (s.drainOne n) := by
  unfold State.drainOne
  split
  · exact h
  · extract_lets s1 bs
    have h1 : Canonical s1 := h.updEngine
    split
    · exact h1.updEngine
    · exact h1.memWrite
    · exact h1.remoteIssue
    · exact h1

theorem drainAll {k n : Nat} (h : Canonical s) : Canonical (State.drainAll k s n) := by
  induction k generalizing s with
  | zero => exact h
  | succ k ih => exact .ite h (ih h.drainOne)

theorem eLoadHalf {io : Io} {n a k : Nat} (h : Canonical s) (hio : IoKeeps io) :
    Canonical (State.eLoadHalf io s n a k).2 := by
  unfold State.eLoadHalf
  extract_lets e
  split
  · exact h
  · exact h
  · exact .iteSnd (.ioRd h hio) h.memRead
  · exact h

theorem eLoadHalves {io : Io} {n : Nat} {hs : List (Nat × Nat)} {x : List Byte × State}
    (h : Canonical x.2) (hio : IoKeeps io) :
    Canonical (State.eLoadHalves io n hs x).2 := by
  induction hs generalizing x with
  | nil => exact h
  | cons p ps ih => exact ih (h.eLoadHalf hio)

theorem eLoadFrom {io : Io} {n a size : Nat} {sgn : Bool} (h : Canonical s) (hio : IoKeeps io) :
    Canonical (State.eLoadFrom io s n a size sgn).2 := by
  unfold State.eLoadFrom
  extract_lets hs s'
  have h' : Canonical s' := .ite h.rinc h
  split
  · exact .foldl h'.updEngine fun _ _ h => h.remoteIssue
  · exact h'.eLoadHalves hio

theorem eLoad {io : Io} {n a size : Nat} {sgn : Bool} (h : Canonical s) (hio : IoKeeps io) :
    EOk (Canonical ·.2) (State.eLoad io s n a size sgn) := by
  unfold State.eLoad
  split
  · exact .fault
  · extract_lets hit
    split
    · exact .ite (.ok h) (.ok (h.drainAll.eLoadFrom hio))
    · exact .ok (h.eLoadFrom hio)

theorem loadDone {n : Nat} {p : PendLoad} (h : Canonical s) : Canonical (s.loadDone n p) :=
  .ite h (.updEngine (.iteSnd (.drawWord (.frame h rfl)) (.frame h rfl)))

theorem takeLoads {n : Nat} (h : Canonical s) : Canonical (s.takeLoads n) := .foldl h fun _ _ h => h.loadDone

theorem eStore {io : Io} {n a size v : Nat} (h : Canonical s) (hio : IoKeeps io) :
    EOk Canonical (State.eStore io s n a size v) := by
  unfold State.eStore
  split
  · exact .fault
  · extract_lets
    split
    · exact .ite (.ite (.ok (h.ioWr hio)) .stall) (.ite .stall (.ok h.updEngine))
    · exact .ite .stall (.ite .stall (.ok h.updEngine))

theorem readPort {n p : Nat} (h : Canonical s) : Canonical (s.readPort n p).2 := by
  unfold State.readPort
  extract_lets e
  refine .iteSnd h <| .iteSnd h <| .iteSnd h <| .iteSnd h <| .iteSnd h <| .iteSnd h <| .iteSnd h ?_
  refine .iteSnd ?_ ?_
  · split
    · exact h
    · exact h
  · refine .iteSnd h <| .iteSnd h <| .iteSnd h <| .iteSnd h <| .iteSnd h <| .iteSnd h <| .iteSnd h ?_
    refine .iteSnd h <| .iteSnd h ?_
    split
    · exact h
    · exact h.updEngine

theorem writePort {n p : Nat} {v : Word} (h : Canonical s) : Canonical (s.writePort n p v) := h.updEngine

theorem trigLsu {io : Io} {n op : Nat} {v : Word} (h : Canonical s) (hio : IoKeeps io) :
    EOk Canonical (State.trigLsu io s n op v) := by
  unfold State.trigLsu
  extract_lets a load
  have hload : ∀ size sgn, EOk Canonical (load size sgn) := by
    intro size sgn
    dsimp only [load]
    split
    · next e => exact .ok (.updEngine (h.eLoad hio _ e))
    · exact .fault
    · exact .stall
  exact .ite (hload _ _) (.ite (hload _ _) (.ite (.ite (.ok h) .stall) (h.eStore hio)))

theorem trigPcu {n op : Nat} {v : Word} (h : Canonical s) : EOk (Canonical ·.1) (s.trigPcu n op v) := by
  unfold State.trigPcu
  extract_lets e t
  split
  · exact .ok h
  · exact .ok h.updEngine
  · exact .ok h
  · exact .ok h.updEngine
  · exact .ite .fault (.ok h.updEngine)
  · exact .ite (.ok h.updEngine) .stall
  · exact .ok h
  · exact .ok h
  · exact .ok h.rset
  · exact .ok h.updEngine

theorem chpResult {n : Nat} {st : Word} {q : Option (List Word)} (h : Canonical s) :
    Canonical (s.chpResult n st q) :=
  h.updEngine

theorem doneStatus (h : Canonical s) : Canonical s.doneStatus.2 := by
  unfold State.doneStatus
  exact h.drawWord

theorem trigSend {n hd : Nat} {close : Bool} (h : Canonical s) : EOk Canonical (s.trigSend n hd close) := by
  unfold State.trigSend
  extract_lets bad
  split
  · exact .fault
  · exact .ite .fault (.ite .fault (.ite .stall (.ite .stall (.ok h.appendWord.doneStatus.chpResult))))

theorem trigRecv {n h0 : Nat} (h : Canonical s) : Canonical (s.trigRecv n h0) := by
  unfold State.trigRecv
  split
  · exact h.chpResult
  · refine .ite h.chpResult ?_
    extract_lets r
    have hr : Canonical r.2 := h.takeNext
    split
    · exact hr.chpResult
    · exact hr.chpResult
    · exact hr.chpResult

theorem trigDrop {n h0 : Nat} {flush : Bool} (h : Canonical s) : Canonical (s.trigDrop n h0 flush) := by
  unfold State.trigDrop
  split
  · exact h.chpResult
  · exact .ite h.chpResult (.chpResult (.doneStatus (.ite h.flushChan h.dropPartly)))

theorem trigger {io : Io} {n p : Nat} {v : Word} (h : Canonical s) (hio : IoKeeps io) :
    EOk (Canonical ·.1) (State.trigger io s n p v) := by
  unfold State.trigger
  extract_lets plain e
  have hplain : ∀ r, EOk Canonical r → EOk (Canonical ·.1) (plain r) := by
    intro r hr
    dsimp only [plain]
    split
    · exact .ok (hr _ rfl)
    · exact .fault
    · exact .stall
  clear_value plain
  generalize portUnit p = u
  split
  · exact hplain _ (.ok h.updEngine)
  · exact hplain _ (.ok h.updEngine)
  · exact hplain _ (.ok h.updEngine)
  · exact hplain _ (h.trigLsu hio)
  · exact h.trigPcu
  · refine hplain _ ?_
    split
    · exact h.trigSend
    · exact h.trigSend
    · exact .ok h.trigRecv
    · exact .ok h.trigDrop
    · exact .ok h.trigDrop
  · exact hplain _ (.ok h)

theorem triggers {io : Io} {n : Nat} {ms : List (Nat × Word)} {x : State × Ctl}
    (h : Canonical x.1) (hio : IoKeeps io) :
    EOk (Canonical ·.1) (State.triggers io n ms x) := by
  induction ms generalizing x with
  | nil => exact .ok h
  | cons m ms ih =>
    unfold State.triggers
    split
    · next y e =>
      have hy : Canonical y.1 := h.trigger hio _ e
      exact ih hy
    · exact .fault
    · exact .stall

theorem eFault {n : Nat} {f : EFault} (h : Canonical s) : Canonical (s.eFault n f) :=
  .ite h.updEngine.rset.collect h.updEngine.rset

theorem eStall {n : Nat} {d : ENeed} (h : Canonical s) : Canonical (s.eStall n d) := by
  unfold State.eStall
  extract_lets s1
  have h1 : Canonical s1 := h.updEngine.rinc
  split
  · exact h1.drainAll
  · exact h1

theorem runMoves {io : Io} {n : Nat} {ms : List (Nat × Word)} (h : Canonical s) (hio : IoKeeps io) :
    Canonical (State.runMoves io s n ms) := by
  unfold State.runMoves
  extract_lets s1 s2
  have h1 : Canonical s1 := .foldl h fun _ _ h => h.writePort
  have h2 : Canonical s2 := h1.updEngine
  split
  · next y e =>
    extract_lets s3 s4 s5
    have hy : Canonical y.1 := triggers h2 hio _ e
    have h3 : Canonical s3 := hy.updEngine
    have h4 : Canonical s4 := h3.rinc
    have h5 : Canonical s5 := .ite h4.rinc h4
    exact .ite h5.rsetBit h5
  · exact h.eFault
  · exact h.eStall

theorem oneMove {io : Io} {n p : Nat} {v : Word} (h : Canonical s) (hio : IoKeeps io) :
    Canonical (State.oneMove io s n p v) :=
  .ite (.runMoves h.drainOne hio) h

theorem readMoves {n : Nat} {ms : List Move} (h : Canonical s) : Canonical (State.readMoves n ms s).2 := by
  induction ms generalizing s with
  | nil => exact h
  | cons m ms ih =>
    unfold State.readMoves
    refine .iteSnd (ih h) (ih ?_)
    split
    · exact h
    · exact h.readPort

theorem runBundle {io : Io} {n : Nat} (h : Canonical s) (hio : IoKeeps io) :
    Canonical (State.runBundle io s n) := by
  unfold State.runBundle
  refine .ite h ?_
  extract_lets r
  have hr : Canonical r := h.drainOne.takeLoads
  split
  · exact hr.eFault
  · exact .ite hr.eStall (.ite (.updEngine (.runMoves hr.readMoves hio)) (.runMoves hr.readMoves hio))

theorem eStart {n : Nat} (h : Canonical s) : Canonical (s.eStart n) := .ite h h.updEngine.rsetBit

theorem abortOf {m : Nat} (h : Canonical s) : Canonical (s.abortOf m) :=
  .ite (h.setCode (smWf_foldl_filter h.code) rfl) h

theorem engineReset {n : Nat} {quiet : Bool} (h : Canonical s) : Canonical (s.engineReset n quiet) := by
  unfold State.engineReset
  extract_lets m s1 s2 s3 s4 s5 d lost u _ s6 s7 s8
  have h1 : Canonical s1 := h.drainAll.updEngine
  have h2 : Canonical s2 := h1.rewind
  have h3 : Canonical s3 := .foldl h2 fun _ _ h => h.dropPartly
  have h4 : Canonical s4 := h3.masterReset.abortOf
  have h5 : Canonical s5 := .frame h4 (by with_reducible rfl)
  have hd : Canonical d.2 := h5.drawWord
  have hu : Canonical u := hd
  have h6 : Canonical s6 := .updEngine (.frame hu (by with_reducible rfl))
  have h7 : Canonical s7 := h6.rset.rinc.rsetFld
  have h8 : Canonical s8 := .ite h7 h7.event
  exact .ite h8.eStart h8

theorem cenCtrl {m n : Nat} {v : Word} (h : Canonical s) : Canonical (s.cenCtrl m n v) :=
  .ite h (.ite h.rsetBit.engineReset (.ite (.ite h.rsetBit.eStart h.rsetBit) h.rsetBit.updEngine.rsetBit))

theorem eventTake {n : Nat} (h : Canonical s) : Canonical (s.eventTake n) := by
  unfold State.eventTake
  extract_lets e go p
  have hgo : ∀ c s, Canonical s → Canonical (go c s) := by
    intro c s h
    dsimp only [go]
    exact h.rset.rset.updEngine
  refine .ite h ?_
  split
  · exact .ite (hgo _ _ h) h.rsetBit.engineReset
  · exact .ite h (.ite (hgo _ _ h) (.ite h.updEngine h))

theorem engineWatchdog {n : Nat} (h : Canonical s) : Canonical (s.engineWatchdog n) :=
  .ite h.rsetBit.engineReset h

theorem engineTimer {n : Nat} (h : Canonical s) : Canonical (s.engineTimer n) := .ite h.raiseEvent.updEngine h

theorem doorbell {n : Nat} {v : Word} (h : Canonical s) : Canonical (s.doorbell n v) := h.rset

theorem ramNext {n : Nat} (h : Canonical s) : Canonical (s.ramNext n) := h.rsetFld

theorem ramRead {n : Nat} (h : Canonical s) : Canonical (s.ramRead n).2 := by
  unfold State.ramRead
  exact .iteSnd h.rsetBit h.ramNext

theorem ramWrite {m n : Nat} {v : Word} (h : Canonical s) : Canonical (s.ramWrite m n v) :=
  .ite h (.ite h.rsetBit h.updEngine.ramNext)

theorem engineFailed {n : Nat} (h : Canonical s) : Canonical (s.engineFailed n) := h.updEngine.rsetBit.rsetBit

theorem engineRamError {n kind i : Nat} {e : Codeword} (h : Canonical s) :
    Canonical (s.engineRamError n kind i e) := by
  unfold State.engineRamError
  extract_lets r s0 q
  have h0 : Canonical s0 := h.rset
  have hq : Canonical q.2 := h0.noteError
  refine .ite h ?_
  split
  · exact h
  · exact h.rinc.rset.report
  · refine .ite h0.report <| .ite (.ite hq.engineFailed.degrade hq.report) ?_
    exact .ite h0.engineReset.engineFailed.degrade h0.updEngine.rsetBit.report

/-! ### Recovery (Machine/Recovery) -/

theorem checkerError {n unit : Nat} (h : Canonical s) : Canonical (s.checkerError n unit) := by
  unfold State.checkerError
  split
  · exact h
  · refine .ite h ?_
    extract_lets src r s1 first _ _ _
    have h1 : Canonical s1 := h.lastErr
    exact .ite h1.report.openRecovery.retryFiring.updFiring (.ite h1.retryGone.report h1.retryGone.report)

theorem drainPe {k t p : Nat} (h : Canonical s) : Canonical (State.drainPe k s t p) := by
  induction k generalizing s with
  | zero => exact h
  | succ k ih =>
    unfold State.drainPe
    refine .ite (ih h.drainStore) (.ite ?_ h)
    split
    · exact h
    · exact .ite (ih h.drainStore) (ih h.drainEvent)

theorem substitute {t p : Nat} (h : Canonical s) : Canonical (s.substitute t p) := by
  unfold State.substitute
  split
  · exact h
  · refine .ite h.endJob.report ?_
    extract_lets mine fs s1 s2 s3 s4
    have h1 : Canonical s1 := .foldl h fun _ _ h => h.unstage
    have h2 : Canonical s2 := h1.drainPe
    have h3 : Canonical s3 := .frame h2 rfl
    have h4 : Canonical s4 := h3.rmax.spareIn.endJob
    exact .ite h4 (.frame h4 rfl)

theorem replaySlot {k : Nat} (h : Canonical s) : Canonical (s.replaySlot k) := by
  unfold State.replaySlot
  extract_lets x _ inc s1 s2 ids s3 s4 s5
  have h1 : Canonical s1 := h.updSlot
  have h2 : Canonical s2 := h1.decision
  have h3 : Canonical s3 := .foldl h2.lockReplay fun _ _ h => h.dropFiring
  have h4 : Canonical s4 := h3.rewind
  have h5 : Canonical s5 := .frame h4 rfl
  exact .ite h (.ite h.collect.graveReaction h5)

theorem setCur {j x : RecJob} (h : Canonical s) : Canonical (s.setCur j x) := h.frame rfl

theorem waferReplay {k : Nat} (h : Canonical s) : Canonical (s.waferReplay k) := by
  unfold State.waferReplay
  split
  · exact h
  · exact .ite h (.ite h.replaySlot (.ite h.replaySlot.setCur.endJob h.replaySlot.setCur))

theorem journalRestore {k : Nat} (h : Canonical s) : Canonical (s.journalRestore k) := by
  unfold State.journalRestore
  extract_lets x s1
  have h1 : Canonical s1 := .ite h.rsetBit.collect (.foldl h fun _ _ h => h.memWrite)
  exact .ite h h1.updSlot.lockUnhold.placeRoots.settle

theorem retireTile {t : Nat} (h : Canonical s) : Canonical (s.retireTile t) := by
  unfold State.retireTile
  split
  · exact h
  · refine .ite h ?_
    extract_lets s1 s2 s3 s4 s5
    have h1 : Canonical s1 := .foldl h fun _ _ h => h.drainPe
    have h2 : Canonical s2 := .foldl h1 fun _ _ h => h.replaySlot
    clear_value s2
    have h3 : Canonical s3 := .foldl (h2.setFilt (smWf_filter _ h2.filt) rfl) fun _ _ h => h.rset
    have h4 : Canonical s4 := h3.rsetFld.updTile
    have h5 : Canonical s5 := h4.endJob
    exact .ite h5.grave h5

theorem recDispatch (h : Canonical s) : Canonical s.recDispatch := by
  unfold State.recDispatch
  split
  · extract_lets s1
    have h1 : Canonical s1 := .frame h rfl
    exact .ite h1.endJob (.ite h1.updEngine.endJob (.ite h1.ucsReadBack (.ite h1.endJob h1)))
  · exact h

theorem tileError {t kind i : Nat} {e : Codeword} (h : Canonical s) : Canonical (s.tileError t kind i e) := by
  unfold State.tileError
  extract_lets sub r m
  have hm : Canonical m.2 := h.noteError
  split
  · exact h
  · exact h.report
  · refine .ite ?_ ?_
    · split
      · exact .ite h.askReplay h
      · exact h
    · refine .ite ?_ ?_
      · split
        · exact .askReplay (.frame h rfl)
        · exact h
      · refine .ite ?_ (.ite hm.report hm.askReplay)
        split
        · exact .askReplay (.frame h rfl)
        · exact h

theorem seqError {kind : Nat} {e : Codeword} (h : Canonical s) : Canonical (s.seqError kind e) := by
  unfold State.seqError
  refine .ite h ?_
  extract_lets sub r s1 u
  have h1 : Canonical s1 := h.rset
  have hu : Canonical u := h1.retried
  split
  · exact h
  · exact h.rinc.rset.report
  · exact .ite (.frame hu (by with_reducible rfl)) h1.report

theorem recWatchdog (h : Canonical s) : Canonical s.recWatchdog := .ite h.grave h

theorem seqWatchdog (h : Canonical s) : Canonical s.seqWatchdog := .ite h.grave h

theorem aliveToggle (h : Canonical s) : Canonical s.aliveToggle := .ite (.frame h rfl) h

theorem fclCtrl {v : Word} (h : Canonical s) : Canonical (s.fclCtrl v) := .ite (.frame h.rsetBit rfl) h

theorem fclClear {v : Word} (h : Canonical s) : Canonical (s.fclClear v) :=
  .foldl h fun _ _ h => .ite h.rset.rset.rset.rset.rsetBit h

/-! ### The transform units (Machine/Transforms) -/

theorem jobRead {m : Nat} {p : Nat × Nat} (h : Canonical s) : Canonical (s.jobRead m p).2 := by
  unfold State.jobRead
  split
  · exact h
  · exact h.memRead

theorem jobWrite {m a : Nat} {bs : List Byte} (h : Canonical s) : Canonical (s.jobWrite m a bs) := by
  unfold State.jobWrite
  split
  · exact h.updEngine
  · exact .foldl h fun _ _ h => .ite h h.memWrite

theorem freeBytes {k : Nat} (h : Canonical s) : Canonical (s.freeBytes k).2 := by
  unfold State.freeBytes
  exact .frame h rfl

theorem jobBroken {j : Job} {rstat : Nat} (h : Canonical s) : Canonical (s.jobBroken j rstat).2 := by
  unfold State.jobBroken
  exact h.drawNat.freeBytes

theorem keySet {slot policy : Nat} {key : BitVec 256} (h : Canonical s) :
    Canonical (s.keySet slot policy key) :=
  h.frame rfl

theorem keySettle (h : Canonical s) : Canonical s.keySettle := h.frame rfl

theorem keyClear (h : Canonical s) : Canonical s.keyClear := h.frame rfl

theorem runDeflate {j : Job} (h : Canonical s) : Canonical (s.runDeflate j).2 := by
  unfold State.runDeflate
  exact .iteSnd h.jobBroken (.iteSnd (.iteSnd h.jobRead.jobBroken h.jobRead) h.jobRead.jobBroken)

theorem runGlaze {j : Job} (h : Canonical s) : Canonical (s.runGlaze j).2 := by
  unfold State.runGlaze
  split
  · exact h
  · refine .iteSnd h.jobBroken ?_
    extract_lets r a iv x g
    have hr : Canonical r.2 := h.jobRead
    have ha : Canonical a.2 := hr.jobRead
    have hg : Canonical g.2 := ha.jobRead
    refine .iteSnd ha ?_
    split
    · exact hg
    · exact .iteSnd hg.keySet hg

theorem runJob {j : Job} (h : Canonical s) : Canonical (s.runJob j).2 := by
  unfold State.runJob
  exact .iteSnd h.jobBroken (.iteSnd h (.iteSnd h (.iteSnd h (.iteSnd h.runGlaze h.runDeflate))))

theorem finishJob {j : Job} {x : JobEnd} (h : Canonical s) : Canonical (s.finishJob j x) := by
  unfold State.finishJob
  extract_lets s1 s2 s3 s4 s5 s6 f
  have h1 : Canonical s1 := .foldl h fun _ _ h => h.jobWrite
  have h2 : Canonical s2 := h1.rinc.radd
  have h3 : Canonical s3 := .ite h2 h2.radd
  have h4 : Canonical s4 := .ite h3 h3.rinc
  have h5 : Canonical s5 := .ite h4 h4.jobWrite
  have h6 : Canonical s6 := .keySettle (.frame h5 rfl)
  have hf : Canonical f.2 := h6.drawNat
  exact .ite (.ite hf.engineEntry h6.engineEntry) h6

theorem jobDone {u : Nat} (h : Canonical s) : Canonical (s.jobDone u) := by
  unfold State.jobDone
  split
  · exact h
  · exact .ite h h.runJob.finishJob

theorem descriptor {m u a : Nat} (h : Canonical s) : Canonical (s.descriptor m u a).2 := by
  unfold State.descriptor
  exact .iteSnd h.jobRead h

theorem submit {m u : Nat} {v : Word} (h : Canonical s) : Canonical (s.submit m u v) :=
  .ite h.rsetBit (.frame h.descriptor rfl)

theorem submitOp {m u op : Nat} {v : Word} (h : Canonical s) : Canonical (s.submitOp m u op v) :=
  .ite h.submit h

theorem jobError {u : Nat} {bad : Bool} (h : Canonical s) : Canonical (s.jobError u bad) := by
  unfold State.jobError
  extract_lets src r r' s1
  have h1 : Canonical s1 := h.rset
  refine .ite h.rinc.rset.report ?_
  split
  · exact h
  · exact .ite (.retried (.frame h1 (by with_reducible rfl)))
      (.degrade (.foldl (.rsetBit (.frame h1 (by with_reducible rfl))) fun _ _ h => h.jobDone))

theorem keyWordsClear (h : Canonical s) : Canonical s.keyWordsClear := h.rset.rset.rset.rset

theorem keyLoad {m : Nat} {v : Word} (h : Canonical s) : Canonical (s.keyLoad m v) :=
  .keyWordsClear (.ite h.keySet h.rsetBit)

theorem keyErase {m : Nat} {v : Word} (h : Canonical s) : Canonical (s.keyErase m v) :=
  .keyWordsClear (.ite (.frame h rfl) h.rsetBit)

theorem keyCommand {m : Nat} {v : Word} (h : Canonical s) : Canonical (s.keyCommand m v) :=
  .ite h.keyLoad (.ite h.keyErase h.rsetBit.keyWordsClear)

theorem keyZeroize {v : Word} (h : Canonical s) : Canonical (s.keyZeroize v) := .ite h.keyClear h

/-! ### The network on chip (Machine/Noc) -/

theorem flitError {k kind n : Nat} {e : Codeword} {side : Option Nat} {again : Bool} (h : Canonical s) :
    Canonical (s.flitError k kind n e side again) := by
  unfold State.flitError
  extract_lets r0 r bad s1
  have hbad : Canonical (bad s) := by
    dsimp -zeta only [bad]
    extract_lets b1 near b2
    have hb1 : Canonical b1 := h.rinc.rsetBit.rset
    have hb2 : Canonical b2 := .ite hb1 (.frame hb1 rfl)
    refine .ite hb2.report (.ite ?_ (.ite ?_ (.ite hb2.askReplay hb2.retried)))
    · split
      · exact .askReplay (.frame hb2 rfl)
      · exact hb2
    · split
      · exact .ite hb2 hb2.retried.retryFiring
      · exact hb2
  have h1 : Canonical s1 := h.rinc.rset
  split
  · exact hbad
  · split
    · exact h
    · exact .ite h1.report h1
    · exact hbad

theorem reserve {r : Nat} {v : Word} (h : Canonical s) : Canonical (s.reserve r v) :=
  .ite h.rsetBit (.ite (.frame h rfl) h.rset)

theorem offReturn {kind n a : Nat} (h : Canonical s) : Canonical (s.offReturn kind n a) := by
  unfold State.offReturn
  extract_lets s1 u
  have h1 : Canonical s1 := h.rinc.rsetBit
  have hu : Canonical u := h1.rsetBit
  exact .ite (.inject (.frame h1 rfl)) (.ite h1 (.ite (.frame hu rfl) (.ite h1.rsetBit h1.holeEvent)))

theorem pllDown {p : Nat} (h : Canonical s) : Canonical (s.pllDown p) :=
  .ite (.foldl h fun _ _ h => .ite h h.linkLeave) (.ite h.rsetBit (.ite h.masterReset.abortOf.rsetFld h))

theorem pllLoss {p : Nat} (h : Canonical s) : Canonical (s.pllLoss p) := by
  unfold State.pllLoss
  refine .ite h ?_
  extract_lets s1 grave s2
  have h1 : Canonical s1 := h.rsetBit.rsetBit
  have h2 : Canonical s2 := h1.degrade.pllDown
  exact .ite h1.grave (.ite h2.tripEval_keeps h2)

theorem pllLock {p : Nat} (h : Canonical s) : Canonical (s.pllLock p) :=
  .ite h.rsetBit.tripEval_keeps (.ite (.foldl h.rsetBit fun _ _ h => h.linkTrain) h.rsetBit)

theorem refLoss (h : Canonical s) : Canonical s.refLoss := h.rsetBit.grave

/-! ### Power (Machine/Power) -/

theorem regsReset {lo hi : Nat} {keep : List Nat} (h : Canonical s) : Canonical (s.regsReset lo hi keep) := by
  unfold State.regsReset
  exact h.setCsr (smWf_filter _ h.csr) rfl

theorem blockReset {b : Nat} (h : Canonical s) : Canonical (s.blockReset b) := h.regsReset

theorem pesReset {t : Nat} {ps : List Nat} (h : Canonical s) : Canonical (s.pesReset t ps) := by
  unfold State.pesReset
  exact .frame (.foldl h fun _ _ h => h.regsReset.rsetFld.rsetBit) rfl

theorem poolCount {t : Nat} (h : Canonical s) : Canonical (s.poolCount t) := h.rsetFld

theorem clusterB {t : Nat} {on : Bool} (h : Canonical s) : Canonical (s.clusterB t on) :=
  .poolCount (.foldl h fun _ _ h => h.rsetBit)

theorem storeReset {t : Nat} (h : Canonical s) : Canonical (s.storeReset t) := by
  unfold State.storeReset
  extract_lets s1 u
  have h1 : Canonical s1 := h.regsReset
  have hu : Canonical u := h1.updTile
  exact ⟨hu.mem, hu.csr, hu.code, smWf_filter _ h1.ucs, smWf_filter _ h1.filt⟩

theorem ucsLoad {t : Nat} (h : Canonical s) : Canonical (s.ucsLoad t) := by
  unfold State.ucsLoad
  extract_lets s1 s2
  have h1 : Canonical s1 := h.setUcs' (smWf_filter _ h.ucs) rfl
  have h2 : Canonical s2 := h1.setUcs' (smWf_foldl_put h1.ucs) rfl
  exact .ite h2.rsetBit.rsetFld.degrade h2

theorem hostLost (h : Canonical s) : Canonical s.hostLost := h.masterReset.abortOf.blockReset

theorem stillRetired {old : State} {u : Nat} (h : Canonical s) : Canonical (s.stillRetired old u) :=
  .foldl h fun _ _ h => h.rsetBit

theorem linkOff {p : Nat} (h : Canonical s) : Canonical (s.linkOff p) := .ite h h.linkLeave

theorem domainReset {d : Nat} (h : Canonical s) : Canonical (s.domainReset d) := by
  unfold State.domainReset
  refine .ite ?_ ?_
  · extract_lets t
    split
    · exact h.pesReset
    · exact h.pesReset
    · exact h.pesReset
    · exact h.storeReset
    · exact h
  · refine .ite h.updEngine <| .ite h.blockReset.blockReset.stillRetired ?_
    refine .ite h.blockReset.blockReset.keyClear.stillRetired <| .ite (.foldl h fun _ _ h => h.linkOff) ?_
    refine .ite h.linkOff <| .ite (.rsetBit (.frame h.blockReset.blockReset (by with_reducible rfl))) ?_
    exact .ite (.frame (.foldl h fun _ _ h => h.blockReset) (by with_reducible rfl)) (.ite h.hostLost h)

theorem setDom {d v : Nat} (h : Canonical s) : Canonical (s.setDom d v) := h.frame rfl

theorem cutDom {d : Nat} (h : Canonical s) : Canonical (s.cutDom d) := .ite h h.domainReset.setDom

theorem refused (h : Canonical s) : Canonical s.refused := h.rsetBit

theorem powerDown {d : Nat} (h : Canonical s) : Canonical (s.powerDown d) := .ite (.frame h rfl) (.frame h rfl)

theorem unitPower {m : Nat} {v : Word} (h : Canonical s) : Canonical (s.unitPower m v) := by
  unfold State.unitPower
  refine .foldl h fun s x h => ?_
  extract_lets d s1
  have h1 : Canonical s1 := h.rsetBit.powerDown
  exact .ite h (.ite (.ite h.refused (.ite h1.engineReset.updEngine.rsetBit h1)) h.rsetBit.powerUp)

theorem domDown {d : Nat} (h : Canonical s) : Canonical (s.domDown d) :=
  .ite h (.ite (.ite h.groupOff h) (.cutDom (.ite (.groupOff (.frame h rfl)) (.frame h rfl))))

theorem domOnEffect {d : Nat} (h : Canonical s) : Canonical (s.domOnEffect d) :=
  .ite h.rsetBit (.ite h.rsetBit.clusterB (.ite (.ite h.updEngine.rsetBit.eStart h.updEngine.rsetBit) h))

theorem joinDom {d : Nat} (h : Canonical s) : Canonical (s.joinDom d) :=
  .ite h (.ite h.setDom.domOnEffect h.setDom)

theorem domUp {d : Nat} (h : Canonical s) : Canonical (s.domUp d) := .ite h (.joinDom (.frame h rfl))

theorem tilePark {t : Nat} {v : Bool} (h : Canonical s) : Canonical (s.tilePark t v) := by
  unfold State.tilePark
  extract_lets a busy u _ s1 _ s2
  have hu : Canonical u := h.rsetBit
  have h1 : Canonical s1 := h.rsetBit
  have h2 : Canonical s2 := .frame h1 rfl
  refine .ite h ?_
  exact .ite (.ite h.refused (.frame hu rfl)) (.ite (.ite h2 (.foldl h2 fun _ _ h => h.powerUp)) (.frame h1 rfl))

theorem parkDone {t : Nat} (h : Canonical s) : Canonical (s.parkDone t) :=
  .ite h (.frame (.rsetFld (.foldl h fun _ _ h => h.cutDom)) (by with_reducible rfl))

theorem unparkDone {t : Nat} (h : Canonical s) : Canonical (s.unparkDone t) := .ite h (.frame h.ucsLoad rfl)

theorem tileClb {t : Nat} {v : Bool} (h : Canonical s) : Canonical (s.tileClb t v) := by
  unfold State.tileClb
  extract_lets a u _
  have hu : Canonical u := h.rsetBit.clusterB.powerDown
  exact .ite h (.ite (.ite h.rsetBit.refused (.ite h.rsetBit.clusterB.powerDown (.frame hu rfl))) h.rsetBit.powerUp)

theorem tileSp {t : Nat} {v : Bool} (h : Canonical s) : Canonical (s.tileSp t v) :=
  .ite h (.ite (.ite h.refused h.rsetBit.powerDown) (.ite h.rsetBit h.rsetBit.powerUp))

theorem dozeEnter (h : Canonical s) : Canonical s.dozeEnter :=
  .ite h (.ite h.refused (.pauseDetectors (.frame h.rsetBit rfl)))

theorem dozeGroup {t g : Nat} (h : Canonical s) : Canonical (s.dozeGroup t g) :=
  .ite h (.ite h.setDom h.groupOff)

theorem dozeFence (h : Canonical s) : Canonical s.dozeFence := by
  unfold State.dozeFence
  extract_lets quiet s1 s2 s3 s4 s5 stays _
  have h1 : Canonical s1 := .foldl h fun _ _ h => h.dozeGroup
  have h2 : Canonical s2 := .foldl h1 fun _ _ h => h.groupOff
  have h3 : Canonical s3 := .foldl h2 fun _ _ h => h.cutDom
  have h4 : Canonical s4 := .foldl h3 fun _ _ h => .ite h.setDom h
  have h5 : Canonical s5 := .foldl h4 fun _ _ h => .ite (.ite h.drawNat.updLink.linkEvent h.drawNat) h
  exact .ite h (.frame h5 (by with_reducible rfl))

theorem wakeDone (h : Canonical s) : Canonical s.wakeDone := by
  unfold State.wakeDone
  refine .ite h ?_
  extract_lets s1 s2 _ s3
  have h1 : Canonical s1 := .foldl h fun _ _ h => h.joinDom
  have h2 : Canonical s2 := .foldl h1 fun _ _ h => h.ucsLoad
  have h3 : Canonical s3 := .frame h2 rfl
  exact .ite h3 h3.admitAll

theorem supplyWarning {rail mv : Nat} (h : Canonical s) : Canonical (s.supplyWarning rail mv) := by
  unfold State.supplyWarning
  extract_lets _ s0 a s1 s1' s2
  have h0 : Canonical s0 := .frame h rfl
  have h1 : Canonical s1 := h0.rsetFld
  have h1' : Canonical s1' := h0.rset
  have h2 : Canonical s2 := h1'.rinc.rset
  exact .ite h (.ite h0 (.ite (.ite h1.rsetFld h1) h2.collect.pauseDetectors))

theorem supplyCross {rail : Nat} {up : Bool} (h : Canonical s) : Canonical (s.supplyCross rail up) := by
  unfold State.supplyCross
  extract_lets _ s1 u _
  have h1 : Canonical s1 := .frame h rfl
  have hu : Canonical u := h1.rsetFld
  exact .ite h1 (.ite (.ite h1 (.frame hu rfl)) h1.rsetFld)

theorem holdEnd (h : Canonical s) : Canonical s.holdEnd :=
  .ite h (.ite (.frame h.rsetFld rfl) (.admitAll (.frame h.rsetFld rfl)))

/-! ### Configuration (Machine/CfgUnit) -/

theorem setCfgRec {r : CfgRec} (h : Canonical s) : Canonical (s.setCfgRec r) := h.frame rfl

theorem cfgStat {m x : Nat} (h : Canonical s) : Canonical (s.cfgStat m x) := h.setCfgRec

theorem cfgOpen {m : Nat} (h : Canonical s) : Canonical (s.cfgOpen m) :=
  .ite h.cfgStat (.ite h.cfgStat (.cfgStat (.frame h rfl)))

theorem cfgCopied (h : Canonical s) : Canonical s.cfgCopied := .ite (.frame h rfl) h

theorem cfgNext {m : Nat} (h : Canonical s) : Canonical (s.cfgNext m) := h.setCfgRec

theorem cfgDataWrite {m : Nat} {v : Word} (h : Canonical s) : Canonical (s.cfgDataWrite m v) :=
  .ite h.cfgNext.cfgStat (.ite h.cfgNext.cfgStat (.ite h.cfgNext.cfgStat
    (.frame h.cfgNext (by with_reducible rfl))))

theorem cfgDataRead {m : Nat} (h : Canonical s) : Canonical (s.cfgDataRead m).2 := by
  unfold State.cfgDataRead
  exact h.cfgNext

theorem cfgImgload {m : Nat} (h : Canonical s) : Canonical (s.cfgImgload m) := by
  unfold State.cfgImgload
  split
  · exact h.cfgStat
  · extract_lets r src first n want b ws d u _ s1
    have hu : Canonical u := h.memRead
    have h1 : Canonical s1 := .codeDrop (hu.setCode (smWf_foldl_put hu.code) rfl)
    exact .ite h.cfgStat (.ite h.cfgStat (.cfgStat (.foldl h1 fun _ _ h => h.rset)))

theorem cfgCommit {m : Nat} (h : Canonical s) : Canonical (s.cfgCommit m) := by
  unfold State.cfgCommit
  split
  · exact h.cfgStat
  · exact .cfgStat (.frame h rfl)

theorem cfgValidated (h : Canonical s) : Canonical s.cfgValidated := by
  unfold State.cfgValidated
  extract_lets o _ at_
  refine .ite h ?_
  split
  · exact .rset (.cfgStat (.frame h rfl))
  · exact .cfgStat (.frame h rfl)

theorem cfgAbort {m : Nat} (h : Canonical s) : Canonical (s.cfgAbort m) :=
  .ite h.cfgStat (.cfgStat (h.setCode (smWf_foldl_filter h.code) rfl))

theorem cfgCommand {m : Nat} {v : Word} (h : Canonical s) : Canonical (s.cfgCommand m v) :=
  .ite h.cfgOpen (.ite h.cfgCommit (.ite h.cfgAbort (.ite h.cfgImgload h.cfgStat)))

/-! ### Resets and boot flash (Machine/BootRom) -/

theorem tripQuiet (h : Canonical s) : Canonical s.tripQuiet := by
  unfold State.tripQuiet
  exact .frame h rfl

theorem bare {strap : Bool} (h : Canonical s) : Canonical (s.bare strap) :=
  ⟨memOk_iff.2 ⟨rfl, rfl, h.flash⟩, trivial, trivial, trivial, trivial⟩

theorem keepTrip {old : State} (h : Canonical s) : Canonical (old.keepTrip s) :=
  .foldl (.frame h rfl) fun _ _ h => h.rset

theorem powerOn {strap : Bool} (h : Canonical s) : Canonical (s.powerOn strap) :=
  .ite (.tripQuiet (.frame h.bare.keepTrip (by with_reducible rfl))) h.bare

theorem flushAll (h : Canonical s) : Canonical s.flushAll := .foldl h fun _ _ h => h.l2Clean

theorem warmReset {s0 : State} {cause : Nat} (h : Canonical s0) : Canonical (s0.warmReset cause) := by
  unfold State.warmReset
  extract_lets keeps s' s1 _ _ _ _ _ _ _ s2 s3 s4 s5 s6 s7
  have h' : Canonical s' := .ite h.flushAll h
  have h1 : Canonical s1 := h'.bare
  have h2 : Canonical s2 := by
    refine ⟨memOk_iff.2 ⟨?_, rfl, h1.flash⟩, h1.csr, h1.code, h1.ucs, h1.filt⟩
    show Memory.wf 0 (if keeps then s'.mem.sdram else []) = true
    split
    · exact h'.sdram
    · rfl
  have h3 : Canonical s3 := .ite h2.keepTrip h2
  have h4 : Canonical s4 := .foldl h3 fun _ _ h => h.rset
  have h5 : Canonical s5 := h4.rset.rset.rset
  have h6 : Canonical s6 := .foldl h5 fun _ _ h => h.rsetBit
  have h7 : Canonical s7 := .foldl h6 fun _ _ h => h.rsetFld.rset
  exact h7.stillRetired.stillRetired.rsetBit.tripQuiet

theorem supplyReset {rail : Nat} (h : Canonical s) : Canonical (s.supplyReset rail) := by
  unfold State.supplyReset
  extract_lets low _ _ s1
  have h1 : Canonical s1 := .setForce_keeps (.frame h rfl)
  exact .ite h1.powerOn (.ite h1 h1.warmReset)

theorem hostReset {m : Nat} {v : Word} (h : Canonical s) : Canonical (s.hostReset m v) := .ite h.warmReset h

theorem flashCommand {m : Nat} {v : Word} (h : Canonical s) : Canonical (s.flashCommand m v) :=
  .ite h (.ite h.rsetFld (.ite h.rsetFld (.ite h.rsetFld (.frame h rfl))))

theorem flashDone {ok : Bool} (h : Canonical s) : Canonical (s.flashDone ok) := by
  unfold State.flashDone
  split
  · exact h
  · extract_lets _ s1 _
    have h1 : Canonical s1 := .rsetFld (.frame h rfl)
    exact .ite h1 (.ite h1.rset (.ite (h1.setFlash (Memory.wf_putBytes h1.flash) rfl)
      (h1.setFlash (Memory.wf_filter _ h1.flash) rfl)))

theorem svnAdvance {m : Nat} {v : Word} (h : Canonical s) : Canonical (s.svnAdvance m v) :=
  .ite (.frame h rfl) h

theorem keyRevoke {m : Nat} {v : Word} (h : Canonical s) : Canonical (s.keyRevoke m v) := .ite (.frame h rfl) h

/-! ### Pins (Machine/Pins) -/

theorem tempReading {k : Nat} {t : ℤ} (h : Canonical s) : Canonical (s.tempReading k t) := by
  unfold State.tempReading
  extract_lets was _ s1 w s2 s3
  have h1 : Canonical s1 := .frame h rfl
  have h2 : Canonical s2 := h1.rset
  have h3 : Canonical s3 := .ite h2.rset h2
  exact .ite h3.rsetBit.event h3

theorem tempCritical {k : Nat} (h : Canonical s) : Canonical (s.tempCritical k) := by
  unfold State.tempCritical
  split
  · exact .ite h.grave h
  · exact h

theorem pciIrq {m : Nat} {v : Word} (h : Canonical s) : Canonical (s.pciIrq m v) := .ite h.raiseVector h

theorem pciUp (h : Canonical s) : Canonical s.pciUp := .ite h h.drawNat.rsetBit.rsetFld

theorem pcieReset {kind : Nat} (h : Canonical s) : Canonical (s.pcieReset kind) :=
  .ite h.masterReset.abortOf.rsetBit (.ite h.masterReset.abortOf.rsetFld h.masterReset.abortOf)

theorem updPort {i : Nat} {f : Port → Port} (h : Canonical s) : Canonical (s.updPort i f) := h.frame rfl

theorem pauseFrame {i : Nat} {f : List Byte} (h : Canonical s) : Canonical (s.pauseFrame i f) :=
  .ite h.updPort h

theorem frameIn {s0 : State} {i ts : Nat} {fcs : Bool} {f : List Byte} (h : Canonical s0) :
    Canonical (s0.frameIn i ts fcs f) := by
  unfold State.frameIn
  extract_lets s' rx head d r buf stat s1 s2
  have h' : Canonical s' := .ite h.classSent h
  have hr : Canonical r.2 := h'.memRead
  have h1 : Canonical s1 := .ite hr hr.memWrite
  have h2 : Canonical s2 := h1.memWrite
  exact .ite h' (.ite h'.pauseFrame (.ite h' (.ite h'.rinc.rsetBit h2.rset)))

theorem frameOut {i c : Nat} (h : Canonical s) : Canonical (s.frameOut i c) := by
  unfold State.frameOut
  extract_lets tx n head count p ks info
  refine .ite h ?_
  split
  · exact h
  · exact .ite h.rsetBit (.rset (.updPort (.memWrite (.iteSnd h.memRead.memRead h.memRead))))

theorem gateNext {i : Nat} (h : Canonical s) : Canonical (s.gateNext i) :=
  .ite h (.ite h.updPort (.ite h.updPort h))

theorem sensorFrame {p ts : Nat} {payload : List Byte} (h : Canonical s) :
    Canonical (s.sensorFrame p ts payload) := by
  unfold State.sensorFrame
  extract_lets i bad w nw fits timed t w0
  have hbad : Canonical bad := h.rinc
  refine .ite h <| .ite hbad ?_
  split
  · exact hbad
  · exact .ite hbad h.classSent.unitPacket

theorem portWrite {i o : Nat} {v : Word} (h : Canonical s) : Canonical (s.portWrite i o v) :=
  .ite (.ite h.rsetBit h.rwrite) (.ite h.updPort h.rwrite)

/-! ### Register accesses (Machine/Regio) -/

theorem cfgValue {m o : Nat} {w : Word} (h : Canonical s) : Canonical (s.cfgValue m o w).2 := by
  unfold State.cfgValue
  exact .iteSnd h (.iteSnd h (.iteSnd h.cfgDataRead (.iteSnd h (.iteSnd h (.iteSnd h h)))))

theorem clkValue {o : Nat} {w : Word} (h : Canonical s) : Canonical (s.clkValue o w).2 := by
  unfold State.clkValue
  exact .iteSnd h (.iteSnd h h)

theorem nocValue {o : Nat} {w : Word} (h : Canonical s) : Canonical (s.nocValue o w).2 := by
  unfold State.nocValue
  exact .iteSnd h (.iteSnd h (.iteSnd h.drawWord.rset h))

theorem cenValue {n o : Nat} {w : Word} (h : Canonical s) : Canonical (s.cenValue n o w).2 := by
  unfold State.cenValue
  exact .iteSnd h (.iteSnd h (.iteSnd h (.iteSnd h (.iteSnd h.ramRead h))))

theorem portValue {i o : Nat} {w : Word} (h : Canonical s) : Canonical (s.portValue i o w).2 := by
  unfold State.portValue
  exact .iteSnd h (.iteSnd h h.drawNat)

theorem regValue {m a : Nat} (h : Canonical s) : Canonical (s.regValue m a).2 := by
  unfold State.regValue
  extract_lets b o w
  refine .iteSnd h <| .iteSnd h.cfgValue <| .iteSnd h <| .iteSnd h <| .iteSnd h <| .iteSnd h.clkValue ?_
  refine .iteSnd h.nocValue <| .iteSnd h <| .iteSnd h <| .iteSnd h <| .iteSnd h.drawWord <| .iteSnd h ?_
  exact .iteSnd h.cenValue (.iteSnd h (.iteSnd h (.iteSnd h (.iteSnd h.portValue (.iteSnd h.portValue h)))))

theorem regRead {m a : Nat} (h : Canonical s) : Canonical (s.regRead m a).2 := by
  unfold State.regRead
  split
  · exact h
  · exact .iteSnd h (.iteSnd h.regValue.rset h.regValue)

theorem csrRead {m a : Nat} (h : Canonical s) : Canonical (s.csrRead m a).2 := by
  unfold State.csrRead
  exact .iteSnd h (.iteSnd h (.iteSnd h.rsetBit (.iteSnd h h.regRead)))

theorem gated {bar : Bool} {st i : Nat} {f : State → State}
    (h : Canonical s) (hf : ∀ s, Canonical s → Canonical (f s)) :
    Canonical (s.gated bar st i f) :=
  .ite h.rsetBit (hf _ h)

theorem clampLow {a n lo hi : Nat} {v : Word} (h : Canonical s) : Canonical (s.clampLow a n lo hi v) :=
  .ite h h.rset

theorem tckWrite {a : Nat} {v : Word} (h : Canonical s) : Canonical (s.tckWrite a v) := by
  unfold State.tckWrite
  extract_lets o was
  refine .ite h.tckCtrl ?_
  exact .ite h.tckPeriod (.ite (.ite h (.frame h rfl)) (.ite h.rset (.ite h.rset.lagWarn h.rwrite)))

theorem cfgWrite {m a : Nat} {v : Word} (h : Canonical s) : Canonical (s.cfgWrite m a v) := by
  unfold State.cfgWrite
  extract_lets o r
  refine .ite h.cfgCommand ?_
  exact .ite h.setCfgRec (.ite h.cfgDataWrite (.ite h.setCfgRec (.ite h.setCfgRec h.rwrite)))

theorem bootWrite {m a : Nat} {v : Word} (h : Canonical s) : Canonical (s.bootWrite m a v) := by
  unfold State.bootWrite
  extract_lets o
  refine .ite h.hostReset ?_
  exact .ite h.svnAdvance (.ite h.keyRevoke (.ite (.ite h.rwrite h) (.ite h.flashCommand h.rwrite)))

theorem fclWrite {a : Nat} {v : Word} (h : Canonical s) : Canonical (s.fclWrite a v) := by
  unfold State.fclWrite
  extract_lets o _
  refine .ite h.fclCtrl <| .ite h.fclClear <| .ite (.ite (.frame h rfl) h) ?_
  refine .ite (.gated h (fun _ h => h.rwrite)) <| .ite (.gated h (fun _ h => h.clampLow)) ?_
  exact .ite (.ite (.frame h rfl) h) (.ite (.gated h (fun _ h => h.clampLow)) (.ite (.ite h.rset h) h.rwrite))

theorem pwrWrite {m a : Nat} {v : Word} (h : Canonical s) : Canonical (s.pwrWrite m a v) :=
  .ite h (.ite (.ite h.dozeEnter h.wake) (.ite h.unitPower (.ite h.tileClb.tileSp.tilePark h.rwrite)))

theorem schWrite {a : Nat} {v : Word} (h : Canonical s) : Canonical (s.schWrite a v) := by
  unfold State.schWrite
  extract_lets o ring
  refine .ite (.gated h (fun _ h => h.rwrite)) ?_
  exact .ite h.clampLow (.ite (.gated h (fun _ h => .ite h h.rset)) (.ite h.rset h.rwrite))

theorem chnWrite {m a : Nat} {v : Word} (h : Canonical s) : Canonical (s.chnWrite m a v) := by
  unfold State.chnWrite
  extract_lets o _
  refine .ite (.gated h (fun _ h => h.rwrite)) <| .ite (.gated h (fun _ h => h.clampLow)) ?_
  exact .ite (.ite h.setChnRec h) (.ite (.ite h.setChnRec h) (.ite (.ite h.chnCommand h) h.rwrite))

theorem tileWrite {t a : Nat} {v : Word} (h : Canonical s) : Canonical (s.tileWrite t a v) := by
  unfold State.tileWrite
  extract_lets o
  refine .ite h.tilControl <| .ite h.clampLow <| .ite h.clampLow <| .ite h.clampLow <| .ite h.clampLow ?_
  refine .ite (.ite h h.rwrite) ?_
  exact .ite h.ucsControl (.ite h.lockWays (.ite h.groupPower (.ite h.peRetire h.rwrite)))

theorem l2cWrite {a : Nat} {v : Word} (h : Canonical s) : Canonical (s.l2cWrite a v) := by
  unfold State.l2cWrite
  extract_lets o v'
  refine .ite (.gated h (fun _ h => h.rwrite)) ?_
  exact .ite (.gated h (fun _ h => h.rwrite)) (.ite h.clampLow (.ite h.clampLow (.ite h.mntStart h.rwrite)))

theorem cenWrite {m n a : Nat} {v : Word} (h : Canonical s) : Canonical (s.cenWrite m n a v) := by
  unfold State.cenWrite
  extract_lets o
  refine .ite h.cenCtrl <| .ite (.ite h.rwrite h) <| .ite (.ite h.rwrite h) <| .ite h.ramWrite ?_
  exact .ite h (.ite h.rwrite.updEngine (.ite h.rwrite.updEngine (.ite h.doorbell (.ite h.rset h.rwrite))))

theorem unitWrite {m u a : Nat} {v : Word} (h : Canonical s) : Canonical (s.unitWrite m u a v) :=
  .ite h.submit (.ite h.keyCommand (.ite h.keyZeroize (.ite h.rset h.rwrite)))

theorem afeWrite {a : Nat} {v : Word} (h : Canonical s) : Canonical (s.afeWrite a v) :=
  .ite h.shadowWrite (.ite h.afeCtrl (.ite h.afeChannelCfg (.ite h.afeTachCfg h.rwrite)))

theorem trpWrite {a : Nat} {v : Word} (h : Canonical s) : Canonical (s.trpWrite a v) := by
  unfold State.trpWrite
  extract_lets o
  refine .ite h.shadowWrite ?_
  exact .ite h.trpCtrl (.ite h.tripEval_keeps (.ite (.ite h.rsetBit h) (.ite h.trpOutCfg h.rwrite)))

theorem fabWrite {a : Nat} {v : Word} (h : Canonical s) : Canonical (s.fabWrite a v) := by
  unfold State.fabWrite
  extract_lets o keep v' s1 s2
  have h1 : Canonical s1 := h.rwrite
  have h2 : Canonical s2 := .ite h1.rsetBit h1
  refine .ite (.ite h2 (.ite h2.planLoad.linksChanged h2.linksChanged)) ?_
  refine .ite (.gated h (fun _ h => h.rwrite.linksChanged)) <| .ite (.gated h (fun _ h => h.rwrite)) ?_
  refine .ite h.clampLow ?_
  exact .ite h.clampLow (.ite h.clampLow (.ite h.clampLow (.ite h.clampLow (.ite h.linkCtrl h.rwrite))))

theorem regWrite {m a : Nat} {v : Word} (h : Canonical s) : Canonical (s.regWrite m a v) := by
  unfold State.regWrite
  extract_lets b o
  refine .ite h <| .ite h.tckWrite <| .ite h.cfgWrite <| .ite h.bootWrite <| .ite h.fclWrite ?_
  refine .ite h.pwrWrite <| .ite (.ite h.reserve h.rwrite) <| .ite h.schWrite ?_
  refine .ite (.ite h.lkuRequest (.ite h.lkuMreset h.rwrite)) <| .ite h.chnWrite <| .ite h.tileWrite ?_
  refine .ite h.l2cWrite <| .ite (.ite h.sdcConfig (.ite h.clampLow h.rwrite)) <| .ite h.cenWrite ?_
  refine .ite h.unitWrite <| .ite h.afeWrite <| .ite h.trpWrite ?_
  exact .ite h.fabWrite (.ite (.ite h.pciIrq h.rwrite) (.ite h.portWrite (.ite h.portWrite h.rwrite)))

theorem csrWrite {m a : Nat} {v : Word} (h : Canonical s) : Canonical (s.csrWrite m a v) :=
  .ite h (.ite (.ite h h.rsetBit) (.ite h h.regWrite))

theorem readInto {m a : Nat} (h : Canonical s) : Canonical (s.readInto m a) := h.csrRead.frame rfl

theorem complete {ur : Bool} {bs : List Byte} (h : Canonical s) : Canonical (s.complete ur bs) := h.frame rfl

theorem hostHole {a : Nat} (h : Canonical s) : Canonical (s.hostHole a) := h.holeEvent.complete

theorem hostAccess {write snoop : Bool} {a n : Nat} {data : List Byte} (h : Canonical s) :
    Canonical (s.hostAccess write snoop a n data) := by
  unfold State.hostAccess
  split
  · exact .ite h.hostHole (.ite h.complete (.ite h.csrWrite.complete (.complete (.frame h.csrRead rfl))))
  · exact h.hostHole
  · exact h.hostHole
  · refine .ite h.complete ?_
    extract_lets direct r u
    have hr : Canonical r.2 := .iteSnd (foldl_by Prod.snd (fun _ _ h => h.sdRead) h) h.memRead
    refine .ite ?_ (.complete (.frame hr rfl))
    exact .complete (.ite (foldl_by Prod.fst (fun _ _ h => h.sdWrite) h) h.memWrite)

theorem pcieRequest {bar2 write noSnoop : Bool} {off n : Nat} {data : List Byte} (h : Canonical s) :
    Canonical (s.pcieRequest bar2 write noSnoop off n data) :=
  .ite h h.wakeBy.pciUp.hostAccess

theorem i2cRead (h : Canonical s) : Canonical s.i2cRead := by
  unfold State.i2cRead
  exact .frame (.iteSnd h.csrRead h) rfl

theorem jtag {i : Nat} (h : Canonical s) : Canonical (s.jtag i) := h.frame rfl

/-! ### Boot (Machine/Boot) -/

theorem bootErr {e : Nat} (h : Canonical s) : Canonical (s.bootErr e) := h.rsetFld

theorem setPhase {p : Nat} (h : Canonical s) : Canonical (s.setPhase p) := h.rsetFld

theorem bootFailed {e : Nat} (h : Canonical s) : Canonical (s.bootFailed e) := h.bootErr.setPhase.frame rfl

theorem regInit {rs : List (Word × Word)} (h : Canonical s) : Canonical (s.regInit rs) :=
  .foldl h fun _ _ h => .ite h h.csrWrite

theorem slotStart {k : Nat} (h : Canonical s) : XOk (s.slotStart k) := by
  unfold State.slotStart
  split
  · exact .error
  · extract_lets d u _ s1
    have hu : Canonical u := h.rsetBit.rset.rsetFld.rset.rset.rset
    have h1 : Canonical s1 := .frame hu rfl
    split
    · exact .ok h1.setPhase
    · split
      · exact .error
      · exact .ite (.ok h1.setPhase.regInit) .error

theorem bootFrom {k : Nat} (h : Canonical s) : Canonical (s.bootFrom k) := by
  unfold State.bootFrom
  split
  · next e => exact h.slotStart _ e
  · refine .ite h.bootFailed ?_
    extract_lets s1
    have h1 : Canonical s1 := h.bootErr.rsetBit
    split
    · next e => exact h1.slotStart _ e
    · exact h1.bootFailed

theorem romStart (h : Canonical s) : Canonical s.romStart := h.updEngine.rsetBit

theorem resetRelease {flashOk token : Bool} (h : Canonical s) : Canonical (s.resetRelease flashOk token) := by
  unfold State.resetRelease
  refine .ite h ?_
  extract_lets _ s1 s2 s3
  have h1 : Canonical s1 := .frame h rfl
  have h2 : Canonical s2 := .romStart (.ite h1.rsetBit h1)
  have h3 : Canonical s3 := h2.rsetFld.rsetBit.tripEval_keeps.pciUp
  exact .ite h2.setPhase.pciUp (.ite h3.bootFailed h3.setPhase.bootFrom)

theorem loadRams {n : Nat} {bs : List Byte} (h : Canonical s) : Canonical (s.loadRams n bs) := h.updEngine

theorem loadMicrocode {i : Image} {c : Comp} {bs : List Byte} (h : Canonical s) : XOk (s.loadMicrocode i c bs) := by
  unfold State.loadMicrocode
  extract_lets pers ws img s1 v
  have h1 : Canonical s1 := .frame h rfl
  exact .ite .error (.ok (.foldl h1 fun _ _ h => h.ucsLoad.rset))

theorem loadKey {r : List Byte} (h : Canonical s) : Canonical (s.loadKey r) := by
  unfold State.loadKey
  extract_lets slot iv
  split
  · exact .ite h.keySet h.rsetBit
  · exact h.rsetBit

theorem loadEngine {c : Comp} {bs : List Byte} (h : Canonical s) : Canonical (s.loadEngine c bs) :=
  h.loadRams.rset.rsetBit

theorem loadChannels {rs : List (Word × Word)} (h : Canonical s) : XOk (State.loadChannels rs s) := by
  induction rs generalizing s with
  | nil => exact .ok h
  | cons r rs ih => exact .ite (ih h.createChan) .error

theorem loadGraph {c : Comp} {bs : List Byte} (h : Canonical s) : Canonical (s.loadGraph c bs) := by
  unfold State.loadGraph
  exact h.setCode (smWf_foldl_put h.code) rfl

theorem loadComp {i : Image} {c : Comp} (h : Canonical s) : XOk (State.loadComp i s c) := by
  unfold State.loadComp
  split
  · exact .error
  · refine .ite (.ok h.loadRams) <| .ite h.loadMicrocode <| .ite (.ok (.foldl h fun _ _ h => h.loadKey)) <|
      .ite (.ok h.loadEngine) <| .ite h.loadChannels <| .ite (.ok h.loadGraph) <| .ite ?_ <| .ite (.ok h) <|
      .ite (.ok h.regInit) .error
    extract_lets b
    split
    · exact .error
    · exact .ok (.bankRegs (.frame h rfl))

theorem loadComps {i : Image} {cs : List Comp} (h : Canonical s) : XOk (State.loadComps i cs s) := by
  induction cs generalizing s with
  | nil => exact .ok h
  | cons c cs ih =>
    unfold State.loadComps
    split
    · next e => exact ih (h.loadComp _ e)
    · exact .error

theorem bootReady {i : Image} (h : Canonical s) : Canonical (s.bootReady i) := by
  unfold State.bootReady
  extract_lets s1 s2 u _ s3 s4 s5 s6 entry
  have h1 : Canonical s1 := h.setPhase.rset
  have h2 : Canonical s2 := .foldl h1 fun _ _ h => h.eStart
  have hu : Canonical u := h2.rsetBit
  have h3 : Canonical s3 := .frame hu rfl
  have h4 : Canonical s4 := .ite h3.csrWrite h3
  have h5 : Canonical s5 := .ite h4.csrWrite.csrWrite h4
  have h6 : Canonical s6 := .ite h5.csrWrite h5
  exact h6.updEngine.rsetBit

theorem sdramTrained {ok : Bool} (h : Canonical s) : Canonical (s.sdramTrained ok) := by
  unfold State.sdramTrained
  refine .ite h (.ite h.bootFailed (.ite h ?_))
  split
  · exact h.bootFailed
  · split
    · next e =>
      have ht := h.setPhase.loadComps _ e
      exact .ite ht ht.bootReady
    · exact .ite h.bootFailed (.bootFrom (.frame h.bootErr.rsetBit.setPhase (by with_reducible rfl)))

/-! ### The moves of the engines (Machine/EngineExec) -/

theorem moveFrom {io : Io} {n p d : Nat} (h : Canonical s) (hio : IoKeeps io) :
    Canonical (State.moveFrom io s n p d) :=
  .ite (.runMoves h.drainOne.readPort hio) h

/-! ### The commands (Machine/Dispatch and Machine/Step) -/

theorem fireCompute {n opc : Nat} {op : OpIn → Option OpRes} {isInt : Bool} (h : Canonical s) :
    Canonical (s.fire n opc (State.compute op isInt)) :=
  h.fire fun _ _ _ _ h => h.compute

theorem fireMicro {n opc entry : Nat} {op : OpIn → Option OpRes} {isInt : Bool} (h : Canonical s) :
    Canonical (s.fire n opc (State.micro entry (State.compute op isInt))) :=
  h.fire fun _ _ _ _ h => h.micro fun _ _ _ _ h => h.compute

theorem io_keeps : IoKeeps State.io := ⟨fun _ _ _ h => h.csrRead, fun _ _ _ _ h => h.csrWrite⟩

theorem admitOne_getD (h : Canonical s) : Canonical (s.admitOne.getD s) := by
  cases e : s.admitOne with
  | none => exact h
  | some t => exact h.admitOne e

theorem execWaferCommit (h : Canonical s) : Leads (execWaferCommit s) := by
  refine .next <| h.onlyIf fun s0 h => ?_
  extract_lets s
  have hs : Canonical s := h.settle
  split
  · exact hs.commitWafer
  · exact hs

theorem execRcCounterRead {m a : Nat} (h : Canonical s) : Leads (execRcCounterRead m a s) := by
  refine .next ?_
  split
  · exact .ite h.readInto h
  · exact h

theorem execFiringCommit {f : Nat} (h : Canonical s) : Leads (execFiringCommit f s) := by
  refine .next <| h.onlyIf fun s h => ?_
  split
  · exact .ite h h.commitFiring
  · exact h

theorem execUcsFetchParityError {t a f : Nat} {flips : MicroWord} (h : Canonical s) :
    Leads (execUcsFetchParityError t a f flips s) := by
  refine .next ?_
  split
  · exact h
  · exact .ite h (.ite h.setUcs.useqFree.machineCheck (.ite h.setUcs h.setUcs.useqFree.machineCheck))

theorem execUcsWordRepair {t a : Nat} {ok : Bool} (h : Canonical s) : Leads (execUcsWordRepair t a ok s) := by
  refine .next ?_
  split
  · next j b _ _ =>
    extract_lets s1 s2 m s3
    have h1 : Canonical s1 := .rsetBit (.frame h rfl)
    have hm : Canonical m.2 := h1.retryChecked.rinc.rsetBit.noteError
    have h3 : Canonical s3 := hm.endJob
    exact .ite (.ite h3.report h3) h1.endJob.ucsRewrite.retryChecked
  · exact h

theorem execL2FillComplete {n : Nat} (h : Canonical s) : Leads (execL2FillComplete n s) := by
  refine .next ?_
  split
  · exact h
  · extract_lets r d s1
    have hd : Canonical d.2 := by
      dsimp only [d]
      split
      · exact h
      · exact h.sdLine.l2Install
    have h1 : Canonical s1 := .ite hd.l1Fill hd
    exact .frame h1 (by with_reducible rfl)

theorem execL2ScrubRead {t : Nat} {e : Codeword} (h : Canonical s) : Leads (execL2ScrubRead t e s) := by
  refine .next <| h.onlyIf fun s h => ?_
  split
  · exact h
  · exact h.l2DataError.rset

theorem execDieLinkCorrection {e : Codeword} (h : Canonical s) : Leads (execDieLinkCorrection e s) := by
  refine .next ?_
  split
  · exact h.rsetBit.report
  · exact h

/-- Every command keeps the form: one line for the commands that share an operation. -/
theorem exec (h : Canonical s) (c : Instr) : Leads (Machine.exec c s) := by
  cases c with
  | tick => exact .next <| h.onlyIf fun _ h => h.doTick
  | waferAdmit => exact .next <| h.onlyIf fun _ h => h.admitOne_getD
  | waferCommit => exact h.execWaferCommit
  | subtickEdge => exact .next h.subtick
  | tckRun => exact .next <| h.onlyIf fun _ h => h.tckCtrl
  | tckPeriodWrite => exact .next <| h.onlyIf fun _ h => h.tckPeriod
  | tckTimeSet | fclLogPop | fclSeqKick => exact .next <| h.onlyIf fun _ h => .frame h rfl
  | timeSourceLost | trpFirstClr => exact .next <| h.onlyIf fun _ h => h.rsetBit
  | timeSourceReturn => exact .next h.rsetBit
  | tckLagMaxRead | tilReadyqMaxRead | pexInflightMaxRead | mstOccMaxRead | schActMaxRead | schDlyMaxRead |
    bootTempmaxRead | fclRecovMaxRead | cenRamdataRead => exact .next h.readInto
  | afePkholdRead => exact .next <| .frame h.rset (by with_reducible rfl)
  | rcCounterRead => exact h.execRcCounterRead
  | registerWrite | cenRun | cenReset | cenDoorbell | cenRamdataWrite => exact .next h.csrWrite
  | tokenArrival | fireLoopgate | fireFan => exact .next <| h.onlyIf fun _ h => h.tokenIn
  | spillWrite => exact .next <| h.onlyIf fun _ h => h.spillOne
  | spillFetch => exact .next <| h.onlyIf fun _ h => h.spillFetch
  | reserveReload => exact .next <| h.onlyIf fun _ h => h.reserveReload
  | deadlockWindowExpiry => exact .next <| h.onlyIf fun _ h => h.dlExpire
  | deadlockConfirm => exact .next <| h.onlyIf fun _ h => h.dlConfirm
  | mstPurgeWalk => exact .next <| h.onlyIf fun _ h => h.purgeWalk
  | mstEccError => exact .next <| h.onlyIf fun _ h => h.mstError
  | dispatchGrant => exact .next <| h.onlyIf fun _ h => h.dispatch
  | readyQueueAdmit => exact .next <| h.onlyIf fun _ h => h.admitReady
  | firingCommit => exact h.execFiringCommit
  | storeDrain => exact .next <| h.onlyIf fun _ h => h.drainStore
  | eventBufferDrain => exact .next <| h.onlyIf fun _ h => h.drainEvent
  | actIdReturn => exact .next <| h.onlyIf fun _ h => h.returnId
  | peRetire => exact .next <| h.onlyIf fun _ h => h.peRetire
  | peRetireComplete => exact .next <| h.onlyIf fun _ h => h.peRetireDone
  | statclr => exact .next <| h.onlyIf fun _ h => h.tilControl
  | fireIllegalEncoding => exact .next h.fireIllegal
  | firePass | fireStore | fireStorex => exact .next <| h.fire fun _ _ _ _ h => h.handOp
  | fireAdd | fireSub | fireAdds | fireSubs | fireNeg | fireNegs | fireAbs | fireAbss | fireMul | fireMulh |
    fireMuls | fireMin | fireMax | fireAnd | fireOr | fireXor | fireNot | fireAndn | fireShl | fireShr |
    fireSar | fireRol | fireRor | fireClz | firePopc | fireCmpeq | fireCmpne | fireCmplt | fireCmple |
    fireCmpun | fireFadd | fireFsub | fireFmul | fireFneg | fireFabs | fireFmin | fireFmax | fireFma |
    fireFms | fireFnma | fireFrint | fireCvt | fireFclass | fireSplat | fireXlane | fireInslane | firePerm |
    fireVsel | fireHsum | fireHmin | fireHmax | fireDot | fireLoad | fireCopy => exact .next h.fireCompute
  | fireDiv | fireRem | fireFdiv | fireFsqrt | fireFrsqrt | fireCmul | fireFft4 | fireIfft4 | fireCmag |
    fireCphase | fireHilb | fireResamp | fireMoment => exact .next h.fireMicro
  | fireSel => exact .next <| h.fire fun _ _ _ _ h => h.selOp
  | fireSwitch => exact .next <| h.fire fun _ _ _ _ h => h.switchOp
  | fireGate => exact .next <| h.fire fun _ _ _ _ h => h.gateOp
  | fireMerge => exact .next <| h.fire fun _ _ _ _ h => h.mergeOp
  | fireIfetch => exact .next <| h.fire fun _ _ _ _ h => h.ifetchOp
  | fireIstore => exact .next <| h.fire fun _ _ _ _ h => h.istoreOp
  | fireFence => exact .next <| h.fire fun _ _ _ _ h => h.fenceOp
  | fireClean | fireClinv => exact .next <| h.fire fun _ _ _ _ h => h.maintOp
  | fireCpolar => exact .next <| h.fire fun _ _ _ _ h => h.micro fun _ _ _ _ h => h.cpolarOp
  | fireNewact => exact .next <| h.fire fun _ _ _ _ h => h.newactOp
  | fireFreeact => exact .next <| h.fire fun _ _ _ _ h => h.freeactOp
  | fireIter => exact .next <| h.fire fun _ _ _ _ h => h.iterOp
  | fireChtag => exact .next <| h.fire fun _ _ _ _ h => h.chtagOp
  | fireSelf => exact .next <| h.fire fun _ _ _ _ h => h.selfOp
  | fireTagq => exact .next <| h.fire fun _ _ _ _ h => h.tagqOp
  | fireChsend | fireChpart | fireChend => exact .next <| h.fire fun _ _ _ _ h => h.sendOp
  | fireChpoll => exact .next <| h.fire fun _ _ _ _ h => h.pollOp
  | fireLkacq => exact .next <| h.fire fun _ _ _ _ h => h.lkacqOp
  | fireLktry => exact .next <| h.fire fun _ _ _ _ h => h.lktryOp
  | fireLkrel => exact .next <| h.fire fun _ _ _ _ h => h.lkrelOp
  | fireLkhand => exact .next <| h.fire fun _ _ _ _ h => h.lkhandOp
  | fireDelay | fireTickwait => exact .next <| h.fire fun _ _ _ _ h => h.delayOp
  | fireSchstat => exact .next <| h.fire fun _ _ _ _ h => h.schstatOp
  | fireCrumb => exact .next <| h.fire fun _ _ _ _ h => h.crumbOp
  | fireCodeCommit => exact .next <| h.fire fun _ _ _ _ h => h.codeCommitOp
  | fireVote => exact .next <| h.fire fun _ _ _ _ h => h.voteOp
  | fireRsend => exact .next <| h.fire fun _ _ _ _ h => h.rsendOp
  | fireTimeq => exact .next <| h.fire fun _ _ _ _ h => h.timeqOp
  | fireExtOp => exact .next <| .fireIf h fun _ _ _ _ h => h.extOp
  | extReply => exact .next <| h.onlyIf fun _ h => h.extReply
  | extReplyTimeout => exact .next <| h.onlyIf fun _ h => h.xExpire
  | ucsFetchParityError => exact h.execUcsFetchParityError
  | ucsWordRepair => exact h.execUcsWordRepair
  | ucsScrubRead =>
    exact .next <| .ite h (.ite h.updTile.setUcs.rset h.updTile.setUcs.rset.lastErr.retried.ucsRewrite)
  | ucsReload => exact .next <| h.onlyIf fun _ h => h.ucsControl
  | ucsReloadDone => exact .next <| h.onlyIf fun _ h => h.reloadTo.updTile.noteError.rsetBit.rsetBit
  | mntClean | mntInval | mntClinv | mntPin | mntUnpin => exact .next <| h.onlyIf fun _ h => h.mntStart
  | mntComplete => exact .next h.mntRun
  | l2cLockWrite => exact .next <| h.onlyIf fun _ h => h.lockWays
  | wayGroupPowerRequest => exact .next <| h.onlyIf fun _ h => h.groupPower
  | wayGroupPowerDownDone => exact .next <| h.onlyIf fun _ h => h.groupOff
  | l2FillComplete => exact h.execL2FillComplete
  | l2ScrubRead => exact h.execL2ScrubRead
  | sdramPatrolRead => exact .next h.sdPatrol
  | l2EccError => exact .next h.cacheError
  | sdramEccError => exact .next h.sdReadError
  | sdcCfgWrite => exact .next <| h.onlyIf fun _ h => h.sdcConfig
  | sdramTrainingDone => exact .next h.sdcTrained
  | sdramRefresh => exact .next h
  | sdramRefreshRateChange => exact .next h.rsetFld.rsetBit
  | pcieRequest => exact .next h.pcieRequest
  | schedGrant => exact .next <| h.onlyIf fun _ h => h.schedGrant
  | flowItemRelease => exact .next <| h.onlyIf fun _ h => h.flowRelease
  | flowWaitWarning => exact .next <| h.onlyIf fun _ h => h.flowWarn
  | lkuAcq => exact .next <| h.onlyIf fun _ h => h.lkuAcq
  | lkuTry => exact .next <| h.onlyIf fun _ h => h.lkuTry
  | lkuRel => exact .next <| h.onlyIf fun _ h => h.lkuRel
  | lkuHand => exact .next <| h.onlyIf fun _ h => h.lkuHand
  | lkuCancel => exact .next <| h.onlyIf fun _ h => h.lkuCancel
  | lkuMreset => exact .next <| h.onlyIf fun _ h => h.lkuMreset
  | afeStart => exact .next <| h.onlyIf fun _ h => h.afeCtrl
  | afeChannelConfig => exact .next <| h.onlyIf fun _ h => h.afeChannelCfg
  | afeTachConfig => exact .next <| h.onlyIf fun _ h => h.afeTachCfg
  | shadowWrite => exact .next <| h.onlyIf fun _ h => h.shadowWrite
  | protectionSample => exact .next h.protectionSample
  | measurementSample => exact .next h.measurementSample
  | tachCrossing => exact .next h.tachCrossing
  | tachEdgeQualify => exact .next h.tachQualify
  | overspeedTimeout => exact .next h.overspeedTimeout
  | biasReading => exact .next h.biasReading
  | graphDemandApply => exact .next h.demandApply
  | graphDemandDiscard => exact .next h.demandDiscard
  | graphDemandTimeout => exact .next h.demandTimeout
  | trpReset => exact .next <| h.onlyIf fun _ h => h.tripEval_keeps
  | trpArm => exact .next <| h.onlyIf fun _ h => h.trpCtrl
  | aliveSilenceForce => exact .next <| h.onlyIf fun _ h => h.setForce_keeps
  | tripRailLoss => exact .next h.tripRailLoss
  | tripRailRestore => exact .next <| .tripEval_keeps (.frame h rfl)
  | tripConfigMismatch => exact .next h.configMismatch
  | driverSenseMismatch => exact .next h.updOut.rsetBit.rsetBit.event
  | driverCurrentLimit | driverRetry => exact .next h.updOut
  | dieLinkLoss => exact .next h.rsetBit.degrade
  | dieLinkCorrection => exact h.execDieLinkCorrection
  | chnCreate => exact .next <| h.onlyIf fun _ h => h.chnRun fun _ h => h.chnCreate
  | chnDestroy => exact .next <| h.onlyIf fun _ h => h.chnRun fun _ h => h.chnDestroy
  | chnFlush => exact .next <| h.onlyIf fun _ h => h.chnRun fun _ h => h.chnFlush
  | chnDropPacket => exact .next <| h.onlyIf fun _ h => h.chnRun fun _ h => h.chnDropPacket
  | chnQuery => exact .next <| h.onlyIf fun _ h => h.chnRun fun _ h => h.chnQuery
  | windowComplete => exact .next <| h.atIndex fun _ _ h => h.windowComplete
  | staleTailExpiry => exact .next <| h.atIndex fun _ _ h => h.staleTail
  | queueReset => exact .next <| h.atIndex fun _ _ h => h.pointerRead
  | qramEccError => exact .next h.qramError
  | overflowMoveBack => exact .next <| h.atIndex fun _ _ h => h.moveBack
  | engineBundle => exact .next <| h.runBundle io_keeps
  | aluAdd | aluSub | aluAnd | aluOr | aluXor | aluAndn | aluShl | aluShr | aluSar | aluRol | aluEq | aluNe |
    aluLts | aluLtu | aluLes | aluLeu | aluMins | aluMaxs | aluMinu | aluMaxu | aluPass | aluClz | aluPopc |
    aluSx8 | aluSx16 | aluSx32 | mulLo | mulHis | mulHiu | lsuLdu8 | lsuLdu16 | lsuLdu32 | lsuLdu64 |
    lsuLds8 | lsuLds16 | lsuLds32 | lsuSt8 | lsuSt16 | lsuSt32 | lsuSt64 | lsuFence | pcuJump | pcuCall |
    pcuRet | pcuRete | pcuLoop | pcuIsync | pcuHalt | pcuWait | pcuEvmask | pcuWdog | chpSend | chpSende |
    chpRecv | chpDrop | chpFlush => exact .next <| h.oneMove io_keeps
  | chpEvqRead => exact .next <| h.moveFrom io_keeps
  | engineEventTake => exact .next h.eventTake
  | engineWatchdogExpiry => exact .next <| h.onlyIf fun _ h => h.engineWatchdog
  | engineTimer => exact .next <| h.onlyIf fun _ h => h.engineTimer
  | engineRamError => exact .next <| h.onlyIf fun _ h => h.engineRamError
  | deflateJob | inflateJob | fondantJob | fondantDeflateJob | unfondantJob | inflateUnfondantJob |
    encryptJob | decryptJob | unwrapJob => exact .next <| h.onlyIf fun _ h => h.submitOp
  | transformJobDone => exact .next <| h.onlyIf fun _ h => h.jobDone
  | transformUnitError => exact .next <| h.onlyIf fun _ h => h.jobError
  | keyLoad => exact .next <| h.onlyIf fun _ h => h.keyLoad
  | keyErase => exact .next <| h.onlyIf fun _ h => h.keyErase
  | encZeroize => exact .next <| h.onlyIf fun _ h => h.keyZeroize
  | recoveryDispatch => exact .next <| h.onlyIf fun _ h => h.recDispatch
  | linkFrameReceive => exact .next <| h.onlyIf fun _ h => h.frameReceive
  | linkResendTimeout => exact .next <| h.onlyIf fun _ h => h.linkResendTimeout
  | linkSignalDetect => exact .next <| h.onlyIf fun _ h => h.linkSignal
  | linkFrameLock => exact .next <| h.onlyIf fun _ h => h.linkLock
  | linkTrainingFailure => exact .next <| h.onlyIf fun _ h => h.linkTrainFail
  | linkSignalLoss => exact .next <| h.onlyIf fun _ h => h.linkLoss
  | linkHelloTimeout => exact .next <| h.onlyIf fun _ h => h.helloTimeout
  | linkWake => exact .next <| h.onlyIf fun _ h => h.linkWake
  | helloSend => exact .next <| h.onlyIf fun _ h => h.helloSend
  | helloReceive => exact .next <| h.onlyIf fun _ h => h.helloReceive
  | mgmtReceive | routeReceive | rdreqReceive | rdrespReceive | wrreqReceive | wrackReceive | rerrReceive |
    rscredReceive | rsgrantReceive | rsitemReceive | rscloseReceive | rsackReceive | voteMessage |
    rsyreqReceive | rsydataReceive | rsyackReceive | e2eackReceive => exact .next h.recv
  | rscloseSend => exact .next <| h.onlyIf fun _ h => h.rsCloseSend
  | voteTimeout => exact .next <| h.onlyIf fun _ h => h.voteExpire
  | resyncSourcePoint => exact .next <| h.onlyIf fun _ h => h.resyncSource
  | resyncMinorityPoint => exact .next <| h.onlyIf fun _ h => h.resyncMinority
  | resyncTimeout => exact .next <| h.onlyIf fun _ h => h.resyncTimeout
  | e2eResendTimeout => exact .next <| h.onlyIf fun _ h => h.e2eResend
  | deviceLossTimeout => exact .next <| h.onlyIf fun _ h => h.lossTimeout
  | timeExchange => exact .next h.timeExchange
  | syncReceive => exact .next <| h.onlyIf fun _ h => h.syncReceive
  | dreqReceive => exact .next <| h.onlyIf fun _ h => h.dreqReceive
  | drespReceive => exact .next <| h.onlyIf fun _ h => h.drespReceive
  | timeBoundGrowth => exact .next <| h.onlyIf fun _ h => h.boundGrowth
  | xportIdentity => exact .next <| h.onlyIf fun _ h => h.xIdentity
  | nocFlitError => exact .next <| h.onlyIf fun _ h => h.flitError
  | nocReservationWrite => exact .next <| h.onlyIf fun _ h => h.reserve
  | domainOffReturn => exact .next <| h.onlyIf fun _ h => h.offReturn
  | pllLossOfLock => exact .next h.pllLoss
  | refclkLoss => exact .next h.refLoss
  | dozeEnter => exact .next <| h.onlyIf fun _ h => h.dozeEnter
  | dozeTileFence => exact .next <| h.onlyIf fun _ h => h.dozeFence
  | dozeWake => exact .next <| h.onlyIf fun _ h => h.wake
  | wakeComplete => exact .next <| h.onlyIf fun _ h => h.wakeDone
  | unitPowerRequest => exact .next <| h.onlyIf fun _ h => h.unitPower
  | domainPowerDownDone => exact .next <| h.onlyIf fun _ h => h.domDown
  | tilePark => exact .next <| h.onlyIf fun _ h => h.tilePark
  | tileParkComplete => exact .next <| h.onlyIf fun _ h => h.parkDone
  | tileUnparkComplete => exact .next <| h.onlyIf fun _ h => h.unparkDone
  | tileClboff => exact .next <| h.onlyIf fun _ h => h.tileClb
  | tileSpoff => exact .next <| h.onlyIf fun _ h => h.tileSp
  | supplyWarning => exact .next <| h.onlyIf fun _ h => h.supplyWarning
  | supplyHoldEnd => exact .next h.holdEnd
  | supplyReset => exact .next h.supplyReset
  | faultReport => exact .next h.report
  | peCheckerError => exact .next <| h.onlyIf fun _ h => h.checkerError
  | peSubstitution => exact .next <| h.onlyIf fun _ h => h.substitute
  | waferReplay => exact .next <| h.onlyIf fun _ h => h.waferReplay
  | journalRestore => exact .next <| h.onlyIf fun _ h => h.journalRestore
  | tileRetirement => exact .next <| h.onlyIf fun _ h => h.retireTile
  | tileStructureError => exact .next <| h.onlyIf fun _ h => h.tileError
  | sequencerMemoryError => exact .next <| h.onlyIf fun _ h => h.seqError
  | recoveryWatchdogExpiry => exact .next <| h.onlyIf fun _ h => h.recWatchdog
  | sequencerWatchdogExpiry => exact .next <| h.onlyIf fun _ h => h.seqWatchdog
  | aliveToggle => exact .next <| h.onlyIf fun _ h => h.aliveToggle
  | aliveEnable => exact .next <| h.onlyIf fun _ h => h.fclCtrl
  | fclClear => exact .next <| h.onlyIf fun _ h => h.fclClear
  | powerOnReset => exact .next h.powerOn
  | pinReset => exact .next h.warmReset
  | hostReset => exact .next <| h.onlyIf fun _ h => h.hostReset
  | resetRelease => exact .next h.resetRelease
  | bootSdramTrained => exact .next h.sdramTrained
  | cfgOpen => exact .next <| h.onlyIf fun _ h => h.cfgOpen
  | cfgShadowCopyDone => exact .next <| h.onlyIf fun _ h => h.cfgCopied
  | cfgDataWrite => exact .next <| h.onlyIf fun _ h => h.cfgDataWrite
  | cfgDataRead m => exact .next <| (h.cfgDataRead (m := m)).frame rfl
  | cfgImgload => exact .next <| h.onlyIf fun _ h => h.cfgImgload
  | cfgCommit => exact .next <| h.onlyIf fun _ h => h.cfgCommit
  | cfgValidationDone => exact .next <| h.onlyIf fun _ h => h.cfgValidated
  | cfgAbort => exact .next <| h.onlyIf fun _ h => h.cfgAbort
  | cfgLockSet => exact .next <| h.onlyIf fun _ h => h.rset
  | bootFlashRead | bootFlashProgram | bootFlashErase => exact .next <| h.onlyIf fun _ h => h.flashCommand
  | bootFlashDone => exact .next h.flashDone
  | bootSvnAdvance => exact .next <| h.onlyIf fun _ h => h.svnAdvance
  | bootKeyRevoke => exact .next <| h.onlyIf fun _ h => h.keyRevoke
  | tempOverGrade => exact .next h.tempReading
  | tempCritical => exact .next <| h.onlyIf fun _ h => h.tempCritical
  | pcieFunctionReset => exact .next h.pcieReset
  | pciIrqWrite => exact .next <| h.onlyIf fun _ h => h.pciIrq
  | ethFrameReceive => exact .next h.frameIn
  | ethRxTailWrite | ethTxTailWrite => exact .next <| h.onlyIf fun _ h => h.portWrite
  | ethFrameTransmit => exact .next h.frameOut
  | ethGateEntry => exact .next h.gateNext
  | tslSensorFrame => exact .next h.sensorFrame
  | i2cAddressWrite => exact .next <| .frame h rfl
  | i2cRead => exact .next h.i2cRead
  | jtagBypass | jtagSamplePreload | jtagExtest | jtagClamp | jtagHighz => exact .next h.jtag
  | jtagIdcode => exact .next <| .frame h.jtag (by with_reducible rfl)
  | supplyRecoveryCrossing => exact .next h.supplyCross
  | domainPowerUpDone => exact .next <| h.onlyIf fun _ h => h.domUp
  | pllLockRegained => exact .next h.pllLock

theorem idle_keeps (h : Canonical s) : Canonical (idle s) := .ite h (.frame h rfl)

theorem step (h : Canonical s) : Leads (Machine.step s) := by
  unfold Machine.step
  split
  · exact .next h.idle_keeps
  · next c rest _ =>
    have hrest : Canonical { s with pending := rest } := .frame h rfl
    exact hrest.exec c

end Canonical

/-- Settles O4: reset lists nothing in any of the tables. -/
theorem resetTablesAreCanonical : Obligations.ResetTablesAreCanonical :=
  ⟨memOk_iff.2 ⟨rfl, rfl, rfl⟩, trivial, trivial, trivial, trivial⟩

/-- Settles O5: every operation of the model keeps the canonical form, and every command is built from them. -/
theorem stepsKeepTablesCanonical : Obligations.StepsKeepTablesCanonical := fun _ t h e => h.step t e

end Sys2Proof.Safety
end

section
/-! Reads of registers that record a largest value: what the read answers, and what it leaves. -/

namespace Sys2Proof.Safety
open Sys2Proof.Machine

/-! ### Addresses of registers -/

theorem regBlock_csrAddr {b o : Nat} (hb : b < 256) (ho : o < 0x10000) : regBlock (csrAddr b o) = b := by
  have he : csrAddr b o = 0x7F0000000000 + b * 0x10000 + o := rfl
  rw [he, regBlock, if_pos (by omega)]
  omega

theorem regOff_csrAddr {b o : Nat} (ho : o < 0x10000) : regOff (csrAddr b o) = o := by
  simp only [regOff, csrAddr, csrBase]
  omega

/-- The register at `a` is cleared by a read (to the standing quantity where it records a largest value). -/
def ReadClears (a : Nat) : Bool := (regRowAt a).any (fun r => r.rc && !r.wo)

theorem readClears_readyqMax : ∀ t < 16, ReadClears (Reg.TIL_READYQ_MAX t) = true := by decide +kernel

theorem readClears_occMax : ∀ t < 16, ReadClears (Reg.MST_OCC_MAX t) = true := by decide +kernel

theorem readClears_inflightMax : ∀ t < 16, ∀ p < 17, ReadClears (Reg.PEX_INFLIGHT_MAX t p) = true := by decide +kernel

theorem exists_row_of_readClears {a : Nat} (h : ReadClears a = true) :
    ∃ r, regRowAt a = some r ∧ r.rc = true ∧ r.wo = false := by
  simpa [ReadClears, Option.any_eq_true] using h

/-! ### The steps of a read -/

variable {s : State} {m a t n : Nat} {r : RegRow}

theorem csrRead_eq_regRead (hm : s.mayRead m (regBlock a) = true) (hf : s.regFenced a = false)
    (hp : s.regParked a = false) : s.csrRead m a = s.regRead m a := by
  simp [State.csrRead, hm, hf, hp]

theorem regRead_of_rc (hr : regRowAt a = some r) (hc : r.rc = true) (hw : r.wo = false) :
    s.regRead m a =
      ((s.regValue m a).1, (s.regValue m a).2.rset a ((s.maxNow a).elim r.reset w64)) := by
  cases hn : s.maxNow a <;> simp [State.regRead, hr, hc, hw, hn]

theorem readInto_of_rc (hm : s.mayRead m (regBlock a) = true) (hf : s.regFenced a = false)
    (hp : s.regParked a = false) (hr : regRowAt a = some r) (hc : r.rc = true) (hw : r.wo = false) :
    s.readInto m a = { (s.regValue m a).2.rset a ((s.maxNow a).elim r.reset w64) with
      lastRead := (s.regValue m a).1 } := by
  rw [State.readInto, csrRead_eq_regRead hm hf hp, regRead_of_rc hr hc hw]

theorem readInto_of_maxNow (hc : ReadClears a = true) (hm : s.mayRead m (regBlock a) = true)
    (hf : s.regFenced a = false) (hp : s.regParked a = false) (hv : s.regValue m a = (s.rget a, s))
    (hn : s.maxNow a = some n) : s.readInto m a = { s.rset a (w64 n) with lastRead := s.rget a } := by
  obtain ⟨r, hr, hrc, hwo⟩ := exists_row_of_readClears hc
  rw [readInto_of_rc hm hf hp hr hrc hwo, hv, hn, Option.elim_some]

/-! ### Registers of a tile -/

theorem regParked_of_unparked (hb : regBlock a = 0x10 + t) (h : s.tileState t ≠ 3) : s.regParked a = false := by
  simp [State.regParked, hb, h]

theorem regValue_of_tile (ht : t < 16) (hb : regBlock a = 0x10 + t) (ho : regOff a ≠ 0x1080) :
    s.regValue m a = (s.tileValue t (regOff a) (s.rget a), s) := by
  have hlo : ∀ k < 16, ¬0x10 + t = k := by omega
  have hin : 0x10 ≤ 0x10 + t ∧ 0x10 + t < 0x20 := by omega
  simp [State.regValue, hb, ho, hlo, hin]

theorem maxNow_of_tile (ht : t < 16) (hb : regBlock a = 0x10 + t) :
    s.maxNow a = if regOff a = 0x38 then some (s.readyCount t) else if regOff a = 0x1018 then some (s.mstOcc t)
      else if 0x4000 ≤ regOff a ∧ regOff a % 0x100 = 0x40 then some (s.inflight t ((regOff a - 0x4000) / 0x100))
      else none := by
  have hin : 0x10 ≤ 0x10 + t ∧ 0x10 + t < 0x20 := by omega
  have hne : ∀ c, regBlock c < 16 → a ≠ c := by
    rintro c hc rfl
    omega
  simp [State.maxNow, hb, hin, hne Reg.TCK_LAG_MAX (by decide +kernel), hne Reg.SCH_ACT_MAX (by decide +kernel),
    hne Reg.SCH_DLY_MAX (by decide +kernel), hne Reg.BOOT_TEMPMAX (by decide +kernel)]

/-- A read of a largest value that a tile records. -/
theorem readInto_of_tile (ht : t < 16) (hb : regBlock a = 0x10 + t) (hc : ReadClears a = true)
    (hm : s.mayRead m (0x10 + t) = true) (hf : s.regFenced a = false) (hs : s.tileState t ≠ 3)
    (ho : regOff a ≠ 0x1080) (hv : s.tileValue t (regOff a) (s.rget a) = s.rget a) (hn : s.maxNow a = some n) :
    s.readInto m a = { s.rset a (w64 n) with lastRead := s.rget a } :=
  readInto_of_maxNow hc (hb ▸ hm) hf (regParked_of_unparked hb hs) ((regValue_of_tile ht hb ho).trans (by rw [hv])) hn

theorem readInto_readyqMax (ht : t < 16) (hm : s.mayRead m (0x10 + t) = true)
    (hf : s.regFenced (Reg.TIL_READYQ_MAX t) = false) (hs : s.tileState t ≠ 3) :
    s.readInto m (Reg.TIL_READYQ_MAX t) =
      { s.rset (Reg.TIL_READYQ_MAX t) (w64 (s.readyCount t)) with lastRead := s.rget (Reg.TIL_READYQ_MAX t) } := by
  have hb : regBlock (Reg.TIL_READYQ_MAX t) = 0x10 + t := regBlock_csrAddr (by omega) (by omega)
  have ho : regOff (Reg.TIL_READYQ_MAX t) = 0x38 := regOff_csrAddr (by omega)
  refine readInto_of_tile ht hb (readClears_readyqMax t ht) hm hf hs ?_ ?_ ?_
  · simp [ho]
  · simp [ho, State.tileValue]
  · simp [maxNow_of_tile ht hb, ho]

theorem readInto_occMax (ht : t < 16) (hm : s.mayRead m (0x10 + t) = true)
    (hf : s.regFenced (Reg.MST_OCC_MAX t) = false) (hs : s.tileState t ≠ 3) :
    s.readInto m (Reg.MST_OCC_MAX t) =
      { s.rset (Reg.MST_OCC_MAX t) (w64 (s.mstOcc t)) with lastRead := s.rget (Reg.MST_OCC_MAX t) } := by
  have hb : regBlock (Reg.MST_OCC_MAX t) = 0x10 + t := regBlock_csrAddr (by omega) (by omega)
  have ho : regOff (Reg.MST_OCC_MAX t) = 0x1018 := regOff_csrAddr (by omega)
  refine readInto_of_tile ht hb (readClears_occMax t ht) hm hf hs ?_ ?_ ?_
  · simp [ho]
  · simp [ho, State.tileValue]
  · simp [maxNow_of_tile ht hb, ho]

theorem readInto_inflightMax {p : Nat} (ht : t < 16) (hp : p < 17) (hm : s.mayRead m (0x10 + t) = true)
    (hf : s.regFenced (Reg.PEX_INFLIGHT_MAX t p) = false) (hs : s.tileState t ≠ 3) :
    s.readInto m (Reg.PEX_INFLIGHT_MAX t p) =
      { s.rset (Reg.PEX_INFLIGHT_MAX t p) (w64 (s.inflight t p)) with
        lastRead := s.rget (Reg.PEX_INFLIGHT_MAX t p) } := by
  have hb : regBlock (Reg.PEX_INFLIGHT_MAX t p) = 0x10 + t := regBlock_csrAddr (by omega) (by omega)
  have ho : regOff (Reg.PEX_INFLIGHT_MAX t p) = 0x4040 + p * 0x100 := regOff_csrAddr (by omega)
  have hlo : ∀ k < 0x4000, ¬0x4040 + p * 0x100 = k := by omega
  have hmod : (0x4040 + p * 0x100) % 0x100 = 0x40 := by omega
  refine readInto_of_tile ht hb (readClears_inflightMax t ht p hp) hm hf hs ?_ ?_ ?_
  · rw [ho]
    omega
  · have hge : ¬0x4040 + p * 0x100 < 0x1000 := by omega
    simp [ho, State.tileValue, hlo, hge, hmod]
  · have hge : 0x4000 ≤ 0x4040 + p * 0x100 := by omega
    have hdiv : (0x4040 + p * 0x100 - 0x4000) / 0x100 = p := by omega
    simp [maxNow_of_tile ht hb, ho, hlo, hge, hmod, hdiv]

/-! ### Registers outside the tiles -/

theorem readInto_lagMax (hm : s.mayRead m 0 = true) : s.readInto m Reg.TCK_LAG_MAX =
    { s.rset Reg.TCK_LAG_MAX (w64 s.closed.length) with lastRead := s.rget Reg.TCK_LAG_MAX } :=
  readInto_of_maxNow (by decide +kernel) hm rfl rfl rfl rfl

theorem readInto_actMax (hm : s.mayRead m 8 = true) : s.readInto m Reg.SCH_ACT_MAX =
    { s.rset Reg.SCH_ACT_MAX (w64 s.acts.length) with lastRead := s.rget Reg.SCH_ACT_MAX } :=
  readInto_of_maxNow (by decide +kernel) hm rfl rfl rfl rfl

theorem readInto_dlyMax (hm : s.mayRead m 8 = true) : s.readInto m Reg.SCH_DLY_MAX =
    { s.rset Reg.SCH_DLY_MAX (w64 s.delays.length) with lastRead := s.rget Reg.SCH_DLY_MAX } :=
  readInto_of_maxNow (by decide +kernel) hm rfl rfl rfl rfl

theorem readInto_tempMax (hm : s.mayRead m 2 = true) : s.readInto m Reg.BOOT_TEMPMAX =
    { s.rset Reg.BOOT_TEMPMAX (w64 (s.rget Reg.BOOT_TEMP).toNat) with lastRead := s.rget Reg.BOOT_TEMPMAX } :=
  readInto_of_maxNow (by decide +kernel) hm rfl rfl rfl rfl

/-- FCL_RECOV_MAX has no standing quantity: a read leaves its reset value. -/
theorem readInto_recovMax (hm : s.mayRead m 3 = true) : s.readInto m Reg.FCL_RECOV_MAX =
    { s.rset Reg.FCL_RECOV_MAX 0 with lastRead := s.rget Reg.FCL_RECOV_MAX } := by
  obtain ⟨r, hr, hc, hw⟩ := exists_row_of_readClears (a := Reg.FCL_RECOV_MAX) (by decide +kernel)
  have hreset : ∀ r ∈ regRowAt Reg.FCL_RECOV_MAX, r.reset = 0 := by decide +kernel
  have hv : s.regValue m Reg.FCL_RECOV_MAX = (s.rget Reg.FCL_RECOV_MAX, s) := rfl
  have hn : s.maxNow Reg.FCL_RECOV_MAX = none := rfl
  rw [readInto_of_rc hm rfl rfl hr hc hw, hv, hn, Option.elim_none, hreset r hr]

theorem rcCounterRead_completes (hr : regRowAt a = some r) (hc : r.rc = true) (hw : r.wo = false)
    (hm : s.mayRead m (regBlock a) = true) (hf : s.regFenced a = false) (hp : s.regParked a = false) :
    Completes (.rcCounterRead m a) s (fun t => t.lastRead = (s.regValue m a).1 ∧
      t.rget a = (s.maxNow a).elim r.reset w64 ∧ ∀ b, b ≠ a → t.rget b = (s.regValue m a).2.rget b) := by
  refine ⟨s.readInto m a, ?_, ?_⟩
  · simp [execRcCounterRead, hr, hc]
  · rw [readInto_of_rc hm hf hp hr hc hw]
    exact ⟨rfl, State.rget_rset_same _ _ _, fun b hb => State.rget_rset_ne _ _ hb⟩

end Sys2Proof.Safety

namespace Sys2Proof.Safety
open Sys2Proof.Machine

/-- Settles O32: each register's row is RC, no rule but the stored value gives what the read answers, and the standing
quantity is the one that the register's address names. -/
theorem maximumReadsLeaveTheStandingQuantity : Obligations.MaximumReadsLeaveTheStandingQuantity := by
  refine ⟨?_, ?_, ?_, ?_, ?_, ?_, ?_, ?_, ?_, ?_⟩
  · exact fun s m hm => congrArg _ (readInto_lagMax hm)
  · exact fun s m t ht hm hf hs => congrArg _ (readInto_readyqMax ht hm hf hs)
  · exact fun s m t p ht hp hm hf hs => congrArg _ (readInto_inflightMax ht hp hm hf hs)
  · exact fun s m t ht hm hf hs => congrArg _ (readInto_occMax ht hm hf hs)
  · exact fun s m hm => congrArg _ (readInto_actMax hm)
  · exact fun s m hm => congrArg _ (readInto_dlyMax hm)
  · exact fun s m hm => congrArg _ (readInto_tempMax hm)
  · exact fun s m hm => congrArg _ (readInto_recovMax hm)
  · exact fun s m c => rfl
  · intro s m a r hr hc hw hm hf hp
    obtain ⟨t, ht, hread, hleft, hrest⟩ := rcCounterRead_completes hr hc hw hm hf hp
    refine ⟨t, ht, hread, hleft.trans ?_, hrest⟩
    cases s.maxNow a <;> rfl

end Sys2Proof.Safety
end

section
/-! The tick unit's registers, and what the operations beside it leave as it is: a register write outside block 0, the
fault log, the trace, the network, the tiles and the fabric. -/

namespace Sys2Proof.Safety
open Sys2Proof.Machine

/-! ### Registers outside the tick unit -/

/-- The registers of every block but the tick unit's lie above it. -/
theorem csrAddr_above_tck {b o : Nat} (hb : 0 < b) : csrAddr 1 0 ≤ csrAddr b o := by
  simp only [csrAddr]
  omega

/-- The tick unit's registers hold in `s` what they hold in `s0`, but for the time of the next tick. -/
def KeepsTck (s0 s : State) : Prop := ∀ a < csrAddr 1 0, a ≠ Reg.TCK_NEXT → s.rget a = s0.rget a

namespace KeepsTck
variable {s0 s t : State}

theorem refl : KeepsTck s s := fun _ _ _ => rfl

theorem frame (h : KeepsTck s0 s) (e : t.csr = s.csr) : KeepsTck s0 t := fun a ha hn =>
  (State.rget_congr e a).trans (h a ha hn)

theorem rset {a : Nat} {v : Word} (h : KeepsTck s0 s)
    (ha : csrAddr 1 0 ≤ a := by exact csrAddr_above_tck (by decide)) : KeepsTck s0 (s.rset a v) := fun b hb hn =>
  (State.rget_rset_ne s v (by omega)).trans (h b hb hn)

theorem ite {c : Prop} [Decidable c] (h : KeepsTck s0 s) (g : KeepsTck s0 t) : KeepsTck s0 (if c then s else t) := by
  split
  · exact h
  · exact g

theorem foldl {α : Type} {f : State → α → State} {xs : List α} (h : KeepsTck s0 s)
    (hf : ∀ s x, KeepsTck s0 s → KeepsTck s0 (f s x)) : KeepsTck s0 (xs.foldl f s) := by
  induction xs generalizing s with
  | nil => exact h
  | cons x xs ih => exact ih (hf s x h)

end KeepsTck

/-! ### Operations beside the tick unit and its wafers -/

/-- What the tick unit and the wafers in flight hold beside registers. -/
structure TickParts where
  now : Nat
  tick : Tick
  closed : List ClosedWafer
  slots : List Slot
  firings : List Firing
  acts : List Act
  chans : List Chan
  startReqs : List StartReq
  flowQ : List StartReq
  votes : List VoteMsg
  cfg : Cfg

/-- Those parts of a state. -/
def tickParts (s : State) : TickParts :=
  ⟨s.now, s.tick, s.closed, s.slots, s.firings, s.acts, s.chans, s.startReqs, s.flowQ, s.votes, s.cfg⟩

/-- `s` is `s0` in all that the tick unit and the wafers in flight hold. -/
structure Aside (s0 s : State) : Prop where
  regs : KeepsTck s0 s
  parts : tickParts s = tickParts s0

namespace Aside
variable {s0 s t : State}

theorem refl : Aside s s := ⟨.refl, rfl⟩

theorem trans (h : Aside s0 s) (g : Aside s t) : Aside s0 t :=
  ⟨fun a ha hn => (g.regs a ha hn).trans (h.regs a ha hn), g.parts.trans h.parts⟩

theorem frame (h : Aside s0 s) (e : (t.csr, tickParts t) = (s.csr, tickParts s)) : Aside s0 t := by
  obtain ⟨hcsr, hparts⟩ := Prod.mk.inj e
  exact ⟨h.regs.frame hcsr, hparts.trans h.parts⟩

theorem rset {a : Nat} {v : Word} (h : Aside s0 s)
    (ha : csrAddr 1 0 ≤ a := by exact csrAddr_above_tck (by decide)) : Aside s0 (s.rset a v) :=
  ⟨h.regs.rset ha, h.parts⟩

theorem ite {c : Prop} [Decidable c] (h : Aside s0 s) (g : Aside s0 t) : Aside s0 (if c then s else t) := by
  split
  · exact h
  · exact g

theorem foldl {α : Type} {f : State → α → State} {xs : List α} (h : Aside s0 s)
    (hf : ∀ s x, Aside s0 s → Aside s0 (f s x)) : Aside s0 (xs.foldl f s) := by
  induction xs generalizing s with
  | nil => exact h
  | cons x xs ih => exact ih (hf s x h)

theorem closed (h : Aside s0 s) : s.closed = s0.closed := congrArg TickParts.closed h.parts

theorem slots (h : Aside s0 s) : s.slots = s0.slots := congrArg TickParts.slots h.parts

theorem firings (h : Aside s0 s) : s.firings = s0.firings := congrArg TickParts.firings h.parts

theorem acts (h : Aside s0 s) : s.acts = s0.acts := congrArg TickParts.acts h.parts

theorem chans (h : Aside s0 s) : s.chans = s0.chans := congrArg TickParts.chans h.parts

theorem startReqs (h : Aside s0 s) : s.startReqs = s0.startReqs := congrArg TickParts.startReqs h.parts

theorem flowQ (h : Aside s0 s) : s.flowQ = s0.flowQ := congrArg TickParts.flowQ h.parts

theorem votes (h : Aside s0 s) : s.votes = s0.votes := congrArg TickParts.votes h.parts

theorem cfg (h : Aside s0 s) : s.cfg = s0.cfg := congrArg TickParts.cfg h.parts

theorem slotAt (h : Aside s0 s) (k : Nat) : s.slotAt k = s0.slotAt k := by rw [State.slotAt, h.slots, State.slotAt]

/-! The fault log (Machine/FaultLog) -/

theorem raiseVector {v : Nat} (h : Aside s0 s) : Aside s0 (s.raiseVector v) := .ite h (.frame h rfl)

theorem latch {c : Nat} {fr : FclRec} (h : Aside s0 s) : Aside s0 (s.latch c fr) :=
  .ite h.rset h.rset.rset.rset.rset.raiseVector

theorem logRecord {c : Nat} {fr : FclRec} (h : Aside s0 s) : Aside s0 (s.logRecord c fr) :=
  .ite (.frame h rfl) (.ite (.frame h rfl) h.rset)

theorem event {src loc code arg : Nat} (h : Aside s0 s) : Aside s0 (s.event src loc code arg) := h.latch.rset.logRecord

/-! The trace (Machine/Memory, Machine/Trace) -/

theorem sdWrite {a : Nat} {bs : List Byte} (h : Aside s0 s) : Aside s0 (s.sdWrite a bs) :=
  .rset (.rset (.frame h rfl))

theorem ringWrite {cs : List (BitVec 128)} (h : Aside s0 s) : Aside s0 (s.ringWrite cs) :=
  h.foldl fun _ _ h => h.sdWrite.rset

theorem ringItem {wrap : Bool} {cs : List (BitVec 128)} (h : Aside s0 s) : Aside s0 (s.ringItem wrap cs) := by
  unfold State.ringItem
  extract_lets size used all s1
  have h1 : Aside s0 s1 := .ringWrite (.frame h rfl)
  exact .ite (.ite h1.rset.rset h1) (.ite (.ringWrite (.frame h rfl)) (.rset (.rset (.frame h rfl))))

theorem decision {kind inc slot low : Nat} {d : Word} (h : Aside s0 s) : Aside s0 (s.decision kind inc slot low d) :=
  .ite h.ringItem h

theorem codeDropped {n : Nat} (h : Aside s0 s) : Aside s0 (s.codeDropped n) := .ite h h.rset.event

/-! The network, the tiles and the fabric (Machine/Tokens, Machine/Match, Machine/FabSend) -/

theorem injectOne {i : Nat} (h : Aside s0 s) : Aside s0 (s.injectOne i) := by
  unfold State.injectOne
  split
  · exact h
  · exact .ite h (.frame h rfl)

theorem inject (h : Aside s0 s) : Aside s0 s.inject := .ite h (h.foldl fun _ _ h => h.injectOne)

theorem progress {k : Nat} (h : Aside s0 s) : Aside s0 (s.progress k) := h.frame rfl

theorem leaveOldest {t : Nat} (h : Aside s0 s) : Aside s0 (s.leaveOldest t) := .ite (.frame h rfl) h

theorem newOldest (h : Aside s0 s) : Aside s0 s.newOldest :=
  .inject (h.foldl fun _ _ h => .ite (.leaveOldest (.foldl (.frame h rfl) fun _ _ h => h.progress)) h)

theorem sendMsg {dst kind vc aux arg : Nat} {body : List (BitVec 128)} (h : Aside s0 s) :
    Aside s0 (s.sendMsg dst kind vc aux arg body) := by
  unfold State.sendMsg
  extract_lets m _ k n m' s1 _
  have h1 : Aside s0 s1 := .frame h rfl
  refine .ite (.rset (.frame h rfl)) ?_
  split
  · next s2 e =>
    obtain ⟨p, -, rfl⟩ := Option.map_eq_some_iff.1 e
    exact .frame h1 rfl
  · exact .frame h1 rfl

end Aside

end Sys2Proof.Safety
end

section
/-! The configuration epoch: when a tick swaps banks, and what a swap leaves in TCK_EPOCH (R31, R140, R502). -/

namespace Sys2Proof.Safety
open Sys2Proof.Machine

/-! ### Operations of a swap that leave the tick unit's registers -/

namespace KeepsTck
variable {s0 s : State}

theorem applyWord {x : StagedWord} (h : KeepsTck s0 s) : KeepsTck s0 (s.applyWord x) :=
  .ite (fun a ha hn => (Aside.refl.codeDropped.regs a ha hn).trans (h a ha hn)) (.frame h rfl)

theorem beginService {t0 w n : Nat} (h : KeepsTck s0 s) : KeepsTck s0 (s.beginService t0 w n) := fun a ha hn =>
  (State.rget_rset_ne _ _ hn).trans (h a ha hn)

theorem startService (h : KeepsTck s0 s) : KeepsTck s0 s.startService :=
  .ite h (.ite (.ite (.beginService (.frame h rfl)) h) (.ite h.beginService h.beginService))

theorem elected {mgr tm : Option Nat} (h : KeepsTck s0 s) : KeepsTck s0 (s.elected mgr tm) :=
  .startService (.ite h.rset.rset.rset.rset.rset h.rset.rset.rset.rset)

theorem noteUps (h : KeepsTck s0 s) : KeepsTck s0 s.noteUps := by
  unfold State.noteUps
  exact .frame h rfl

theorem planLoad (h : KeepsTck s0 s) : KeepsTck s0 s.planLoad :=
  .ite h (.elected (.foldl h.noteUps fun _ _ h => h.rset))

theorem bankRegs (h : KeepsTck s0 s) : KeepsTck s0 s.bankRegs :=
  .foldl h.rset.rset.planLoad fun _ _ h => h.rset.rset.rset

theorem recordSwap {info wafer t : Nat} (h : KeepsTck s0 s) : KeepsTck s0 (s.recordSwap info wafer t) :=
  .rset (.rset (.rset (.foldl h fun _ _ h => h.rset.rset.rset)))

theorem epoch (h : KeepsTck s0 s) : s.rget Reg.TCK_EPOCH = s0.rget Reg.TCK_EPOCH := h _ (by decide) (by decide)

theorem epochNow (h : KeepsTck s0 s) : s.epochNow = s0.epochNow := congrArg (fld · 31 0) h.epoch

end KeepsTck

/-! ### When a tick swaps -/

theorem insertBy_ne_nil {α : Type} (le : α → α → Bool) (x : α) (xs : List α) : insertBy le x xs ≠ [] := by
  cases xs with
  | nil => exact List.cons_ne_nil _ _
  | cons y ys =>
    rw [insertBy]
    split <;> exact List.cons_ne_nil _ _

theorem sortBy_isEmpty {α : Type} (le : α → α → Bool) (xs : List α) : (sortBy le xs).isEmpty = xs.isEmpty := by
  cases xs with
  | nil => rfl
  | cons x xs => exact List.isEmpty_eq_false_iff.2 (insertBy_ne_nil _ _ _)

/-- At the tick of wafer `w` a bank swap is pending: a staged word or the armed transaction is due. -/
def SwapDue (s : State) (w : Nat) : Prop :=
  (∃ x ∈ s.staged, x.due = true) ∨ (s.cfg.txn = .armed ∧ (s.cfg.late = true ∨ s.cfg.whenAt ≤ w))

/-- The test of `State.bankSwap` for nothing to swap. -/
theorem nothingDue_iff {s : State} {w : Nat} (le : StagedWord → StagedWord → Bool) :
    ((sortBy le (s.staged.filter (·.due))).isEmpty &&
      !(decide (s.cfg.txn = .armed) && (s.cfg.late || decide (s.cfg.whenAt ≤ w)))) = true ↔ ¬SwapDue s w := by
  simp [sortBy_isEmpty, SwapDue, List.filter_eq_nil_iff, imp_iff_not_or]

theorem bankSwap_of_not_due {s : State} {w t : Nat} (h : ¬SwapDue s w) : s.bankSwap w t = s :=
  if_pos ((nothingDue_iff _).2 h)

/-- The epoch that follows `e`: 0 never returns (R31). -/
def nextEpoch (e : Nat) : Nat := if e = 2 ^ 32 - 1 then 1 else e + 1

theorem rget_epoch_bankSwap {s : State} {w t : Nat} (h : SwapDue s w) :
    (s.bankSwap w t).rget Reg.TCK_EPOCH = w64 (nextEpoch s.epochNow) := by
  unfold State.bankSwap
  rw [if_neg (mt (nothingDue_iff _).1 (not_not.2 h))]
  extract_lets s1 e olds late _ s2 e' u _ s3
  have h1 : KeepsTck s s1 := .foldl (.frame .refl rfl) fun _ _ h => h.applyWord
  have h3 : KeepsTck u s3 := .bankRegs (.frame .refl rfl)
  calc _ = u.rget Reg.TCK_EPOCH := h3.recordSwap.epoch
    _ = w64 (nextEpoch s1.epochNow) := State.rget_rset_same _ _ _
    _ = w64 (nextEpoch s.epochNow) := by rw [h1.epochNow]

/-- Settles O31: a swap writes TCK_EPOCH once, and nothing else of a swap writes the tick unit's registers but the time of
the next tick. -/
theorem bankSwapsRaiseTheEpoch : Obligations.BankSwapsRaiseTheEpoch := by
  refine ⟨by decide +kernel, ?_, ?_⟩
  · intro s w t hstaged htxn
    refine bankSwap_of_not_due ?_
    rintro (⟨x, hx, hdue⟩ | ⟨harmed, hnow⟩)
    · exact Bool.false_ne_true ((hstaged x hx).symm.trans hdue)
    · obtain hidle | ⟨hlate, hw⟩ := htxn
      · exact hidle harmed
      · obtain h | h := hnow
        · exact Bool.false_ne_true (hlate.symm.trans h)
        · exact Nat.not_le_of_lt hw h
  · intro s w t hdue _
    have he := rget_epoch_bankSwap (t := t) hdue
    constructor
    · intro hlt
      rw [he, nextEpoch, if_neg (by omega)]
    · intro hmax
      rw [he, nextEpoch, if_pos hmax]
      rfl

end Sys2Proof.Safety
end

section
/-! Commands on device time and service: the start of service, ticks, and writes of the period (R13 to R16, R33, R37). -/

namespace Sys2Proof.Safety
open Sys2Proof.Machine

variable {s : State} {m : Nat} {v : Word}

/-! ### The start of service -/

theorem multipleFrom_mod {n t : Nat} (hn : n ≠ 0) : multipleFrom n t % n = 0 := by
  rw [multipleFrom, if_neg hn]
  exact Nat.mul_mod_left _ _

theorem le_multipleFrom {n t : Nat} (hn : n ≠ 0) : t ≤ multipleFrom n t := by
  have hdiv := Nat.div_add_mod' (t + n - 1) n
  have hmod := Nat.mod_lt (t + n - 1) (Nat.pos_of_ne_zero hn)
  rw [multipleFrom, if_neg hn]
  omega

theorem multipleFrom_lt {n t : Nat} (hn : n ≠ 0) : multipleFrom n t < t + n := by
  have hle := Nat.div_mul_le_self (t + n - 1) n
  rw [multipleFrom, if_neg hn]
  omega

theorem toNat_w64 {x : Nat} (h : x < 2 ^ 64) : (w64 x).toNat = x := Nat.mod_eq_of_lt h

/-- The row of TCK_CTRL: ADMIT and LAGEV are RW, SRC is RWL and RUN is W1S (Table 1.4). -/
theorem regRowAt_ctrl : regRowAt Reg.TCK_CTRL =
    some ⟨0x0, 1, 0x0, 1, 0x0, 0x4, 0xc, 0xc0, 0x0, 0x1, false, false⟩ := by decide +kernel

/-- A write of TCK_CTRL sets RUN where the value holds it, and never clears it. -/
theorem running_rwrite_ctrl : (s.rwrite Reg.TCK_CTRL v).running = (s.running || bit v 0) := by
  rw [State.rwrite, regRowAt_ctrl]
  cases hl : s.locked <;> simp [State.running, State.rbit, RegRow.write, bit]

theorem rget_rwrite_ne {a b : Nat} (h : b ≠ a) : (s.rwrite a v).rget b = s.rget b := by
  unfold State.rwrite
  split
  · exact State.rget_rset_ne _ _ h
  · rfl

theorem rwrite_parts {a : Nat} : tickParts (s.rwrite a v) = tickParts s := by
  unfold State.rwrite
  split <;> rfl

theorem foldl_progress_parts (ks : List Nat) :
    ((ks.foldl State.progress s).csr, tickParts (ks.foldl State.progress s)) = (s.csr, tickParts s) := by
  induction ks generalizing s with
  | nil => rfl
  | cons k ks ih => exact ih

theorem pauseDetectors_parts : (s.pauseDetectors.csr, tickParts s.pauseDetectors) = (s.csr, tickParts s) := by
  unfold State.pauseDetectors
  split
  · exact foldl_progress_parts _
  · rfl

/-- The state in which a write of RUN starts service: RUN is set, and only TCK_CTRL has changed of what service needs. -/
theorem tckCtrl_starts (hr : s.running = false) (hv : bit v 0 = true) :
    ∃ u : State, s.tckCtrl v = u.startService ∧ u.running = true ∧ u.now = s.now ∧ u.tick = s.tick ∧
      ∀ a, a ≠ Reg.TCK_CTRL → u.rget a = s.rget a := by
  unfold State.tckCtrl
  extract_lets p v' s1
  obtain ⟨hpcsr, hpparts⟩ := Prod.mk.inj (pauseDetectors_parts (s := s.rwrite Reg.TCK_CTRL
    (setBit (s.rget Reg.TCK_CTRL) 2 (bit v 2))))
  have hp : p.running = false := by
    have hold : bit (s.rget Reg.TCK_CTRL) 0 = false := hr
    rw [State.running, State.rbit, State.rget_congr hpcsr, ← State.rbit, ← State.running, running_rwrite_ctrl, hr,
      bit_setBit_ne _ _ (by decide), hold, Bool.or_false]
  have hv' : v' = v := if_neg (hp ▸ Bool.false_ne_true)
  have h1 : s1.running = true := by rw [running_rwrite_ctrl, hv', hv, Bool.or_true]
  have hparts : tickParts s1 = tickParts s := rwrite_parts.trans (hpparts.trans rwrite_parts)
  refine ⟨_, if_neg (by simp [hp, h1]), h1, congrArg TickParts.now hparts, congrArg TickParts.tick hparts, fun a ha => ?_⟩
  calc s1.rget a = p.rget a := rget_rwrite_ne ha
    _ = (s.rwrite Reg.TCK_CTRL _).rget a := State.rget_congr hpcsr a
    _ = s.rget a := rget_rwrite_ne ha

theorem startService_standalone (hr : s.running = true) (hs : s.tick.started = false)
    (hf : s.rbit Reg.FAB_CTRL 0 = false) (hm : s.rbit Reg.FAB_STATUS 10 = false) : s.startService =
    s.beginService (multipleFrom (s.rfld Reg.TCK_PERIOD 19 0 * 1000) (s.now + s.rfld Reg.TCK_PERIOD 19 0 * 1000))
      (s.rget Reg.TCK_WAFER_BASE).toNat (s.rfld Reg.TCK_PERIOD 19 0) := by
  simp [State.startService, State.follower, hr, hs, hf, hm]

/-- RUN outside fabric service: service begins by the stand-alone rule of R16. -/
theorem tckRun_begins (hw : s.mayWrite m = true) (hr : s.running = false) (hs : s.tick.started = false)
    (hf : s.rbit Reg.FAB_CTRL 0 = false) (hm : s.rbit Reg.FAB_STATUS 10 = false) :
    ∃ u : State, exec (.tckRun m v) s = .next (u.beginService
        (multipleFrom (s.rfld Reg.TCK_PERIOD 19 0 * 1000) (s.now + s.rfld Reg.TCK_PERIOD 19 0 * 1000))
        (s.rget Reg.TCK_WAFER_BASE).toNat (s.rfld Reg.TCK_PERIOD 19 0)) ∧ u.running = true := by
  obtain ⟨u, hu, hrun, hnow, htick, hregs⟩ := tckCtrl_starts (v := setBit v 0 true) hr (bit_setBit_same v true (by decide))
  have hfld : u.rfld Reg.TCK_PERIOD 19 0 = s.rfld Reg.TCK_PERIOD 19 0 := congrArg (fld · 19 0) (hregs _ (by decide))
  have hbit : ∀ a i, a ≠ Reg.TCK_CTRL → u.rbit a i = s.rbit a i := fun a i ha => congrArg (bit · i) (hregs a ha)
  have hstart := startService_standalone hrun (htick ▸ hs) ((hbit _ _ (by decide)).trans hf)
    ((hbit _ _ (by decide)).trans hm)
  rw [hfld, hnow, hregs _ (by decide)] at hstart
  refine ⟨u, ?_, hrun⟩
  rw [exec_tckRun, execTckRun, State.onlyIf_pos s _ hw, hu, hstart]

theorem running_beginService {t0 w n : Nat} : (s.beginService t0 w n).running = s.running :=
  State.rbit_rset_ne _ _ _ (by decide)

/-- Service that begins at `t0` names that time in TCK_NEXT, and its first wafer opened one period before. -/
theorem beginService_spec {t0 w n : Nat} (ht : t0 < 2 ^ 64) :
    ((s.beginService t0 w n).rget Reg.TCK_NEXT).toNat = t0 ∧ (s.beginService t0 w n).tick.prevClose = t0 - n * 1000 :=
  ⟨by rw [State.beginService, State.rget_rset_same, toNat_w64 ht], rfl⟩

/-! ### Sub-tick edges and ticks -/

/-- The state as device time reaches its next whole microsecond. -/
def atNextEdge (s : State) : State :=
  { s with now := (s.now / 1000 + 1) * 1000, clock := s.clock + (1000 - s.now % 1000) }

theorem subtick_of_dead (h : s.dead = true) : s.subtick = atNextEdge s := if_pos h

theorem subtick_of_alive (h : s.dead = false) (hs : s.tick.shadowDue = false) : s.subtick =
    ((atNextEdge s).releaseDelays (atNextEdge s).delaysDue).sampleStats.routeApply.reloadTick.rsRetry.rsGrantAll.dlSubtick := by
  have hdead : (atNextEdge s).dead ≠ true := by
    rw [show (atNextEdge s).dead = s.dead from rfl, h]
    exact Bool.false_ne_true
  have hshadow : (atNextEdge s).tick.shadowDue ≠ true := by
    rw [show (atNextEdge s).tick = s.tick from rfl, hs]
    exact Bool.false_ne_true
  unfold State.subtick
  rw [← atNextEdge, if_neg hdead, if_neg hshadow]

theorem rget_next_doTick (hr : s.running = true) (hs : s.tick.started = true) (hnow : (s.rget Reg.TCK_NEXT).toNat ≤ s.now) :
    s.doTick.rget Reg.TCK_NEXT = w64 ((s.rget Reg.TCK_NEXT).toNat + s.doTick.tick.period * 1000) := by
  have hdue : ¬(!s.running || !s.tick.started || decide (s.now < (s.rget Reg.TCK_NEXT).toNat)) = true := by
    simp [hr, hs, hnow]
  unfold State.doTick
  rw [if_neg hdue]
  exact State.rget_rset_same _ _ _

/-! ### Writes of the period -/

theorem tckPeriod_taken (hl : s.locked = false) (hf : s.follower = false) (hlo : 50 ≤ fld v 19 0)
    (hhi : fld v 19 0 ≤ 1000000) : s.tckPeriod v =
    { s.rset Reg.TCK_PERIOD (w64 (fld v 19 0)) with
      tick.pend := if s.tick.started then s.tick.pend ++ [(s.now, fld v 19 0)] else s.tick.pend } := by
  unfold State.tckPeriod
  rw [if_neg (by simp [hl, hf]), if_neg (by omega)]
  cases hs : s.tick.started with
  | false => exact if_neg (hs ▸ Bool.false_ne_true)
  | true => exact if_pos hs

theorem tckPeriod_refused (hl : s.locked = false) (hf : s.follower = false)
    (hn : fld v 19 0 < 50 ∨ 1000000 < fld v 19 0) : s.tckPeriod v = s.rsetBit Reg.TCK_STATUS 4 true := by
  unfold State.tckPeriod
  rw [if_neg (by simp [hl, hf]), if_pos hn]

theorem tckPeriod_ignored (h : s.locked = true ∨ s.follower = true) : s.tckPeriod v = s :=
  if_pos (by simpa using h)

theorem exec_tckPeriodWrite_of_mayWrite (hw : s.mayWrite m = true) :
    exec (.tckPeriodWrite m v) s = .next (s.tckPeriod v) := congrArg _ (State.onlyIf_pos s _ hw)

theorem exec_tckTimeSet_of_mayWrite (hw : s.mayWrite m = true) :
    exec (.tckTimeSet m v) s = .next (if s.running then s else { s with now := v.toNat }) := by
  rw [exec_tckTimeSet, execTckTimeSet, hw]
  cases s.running <;> rfl

/-- Settles O30: each command's rule, under the conditions of its clause. -/
theorem timeCommandsActOnDeviceTime : Obligations.TimeCommandsActOnDeviceTime := by
  refine ⟨?_, ?_, ?_, ?_, ?_, ?_, ?_, by decide +kernel, ?_, ?_, ?_, ?_⟩
  · intro s m v hw hr hs hf hm hn hlt
    obtain ⟨u, hu, hrun⟩ := tckRun_begins (v := v) hw hr hs hf hm
    generalize s.rfld Reg.TCK_PERIOD 19 0 = n at *
    have hn' : n * 1000 ≠ 0 := by omega
    have hmod := multipleFrom_mod (t := s.now + n * 1000) hn'
    have hle := le_multipleFrom (t := s.now + n * 1000) hn'
    have hup := multipleFrom_lt (t := s.now + n * 1000) hn'
    obtain ⟨hnext, hopen⟩ := beginService_spec (s := u) (w := (s.rget Reg.TCK_WAFER_BASE).toNat) (n := n)
      (t0 := multipleFrom (n * 1000) (s.now + n * 1000)) (by omega)
    refine ⟨_, hu, running_beginService.trans hrun, rfl, rfl, rfl, ?_⟩
    rw [hnext, hopen]
    exact ⟨hmod, hle, by omega, rfl, by omega⟩
  · exact fun s hd => congrArg _ (subtick_of_dead hd)
  · exact fun s hd hs => ⟨_, rfl, subtick_of_alive hd hs⟩
  · exact fun s m v hw => exec_tckTimeSet_of_mayWrite hw
  · exact fun s hsrc => congrArg _ (State.onlyIf_pos s _ (decide_eq_true hsrc))
  · exact fun s hsrc => congrArg _ (State.onlyIf_neg s _ (decide_eq_false (not_not.2 hsrc)))
  · exact fun s => rfl
  · intro s hd hr hs hnow
    refine ⟨s.doTick, ?_, rget_next_doTick hr hs hnow⟩
    rw [exec_tick, execTick, State.onlyIf_pos s _ (by rw [hd]; rfl)]
  · intro s m v hw hl hf hlo hhi
    refine ⟨_, exec_tckPeriodWrite_of_mayWrite hw, ?_⟩
    rw [tckPeriod_taken hl hf hlo hhi]
    exact ⟨State.rget_rset_same _ _ _, rfl, rfl, fun a ha => State.rget_rset_ne _ _ ha⟩
  · exact fun s m v hw hl hf hn => (exec_tckPeriodWrite_of_mayWrite hw).trans (congrArg _ (tckPeriod_refused hl hf hn))
  · exact fun s m v hw h => (exec_tckPeriodWrite_of_mayWrite hw).trans (congrArg _ (tckPeriod_ignored h))

end Sys2Proof.Safety
end

section
/-! Admission and commit: requests of roots, completion of wafers, and the slot of a wafer (R19 to R29, R260). -/

namespace Sys2Proof.Safety
open Sys2Proof.Machine

variable {s s0 t : State} {k : Nat}

/-! ### Slots -/

theorem slotAt_updSlot_same {f : Slot → Slot} (hk : k < s.slots.length) : (s.updSlot k f).slotAt k = f (s.slotAt k) :=
  nth_updAt_same _ _ _ _ hk

theorem slotAt_updSlot_ne {f : Slot → Slot} {j : Nat} (hj : j ≠ k) : (s.updSlot k f).slotAt j = s.slotAt j :=
  nth_updAt_ne _ _ _ hj

theorem lt_of_slot_taken (h : (s.slotAt k).state ≠ 0) : k < s.slots.length := by
  by_contra hk
  refine h ?_
  rw [State.slotAt, nth, List.getD_eq_default _ _ (not_lt.1 hk)]
  rfl

/-! ### Wafers become COMPLETE -/

/-- The slot of a wafer that has become COMPLETE (R27). -/
def completed (x : Slot) : Slot := { x with state := 2, journal := [], nojrnl := false }

/-- The wafer in a slot becomes COMPLETE where it can. -/
def completeSlot (s : State) (k : Nat) : State :=
  let st := (s.slotAt k).state
  if (st = 1 ∨ st = 3) ∧ s.isComplete k then s.updSlot k completed else s

theorem settle_eq_completeSlots (s : State) : s.settle = (List.range 8).foldl completeSlot s.inject := rfl

/-- A start request of slot `k` waits in a ready list or in a flow's queue. -/
def Requested (s : State) (k : Nat) : Prop := ∃ r ∈ s.startReqs ++ s.flowQ, r.slot = k

theorem isComplete_of_requested (h : Requested s k) : s.isComplete k = false := by
  have hany : s.startReqs.any (fun r => decide (r.slot = k)) = true ∨ s.flowQ.any (fun r => decide (r.slot = k)) = true := by
    obtain ⟨r, hr, hk⟩ := h
    exact (List.mem_append.1 hr).imp (fun hr => List.any_eq_true.2 ⟨r, hr, decide_eq_true hk⟩)
      (fun hr => List.any_eq_true.2 ⟨r, hr, decide_eq_true hk⟩)
  obtain h | h := hany <;> simp [State.isComplete, h]

/-- The state with no slot. -/
def withoutSlots (s : State) : State := { s with slots := [] }

theorem Aside.withoutSlots (h : Aside s0 s) : Aside (withoutSlots s0) (withoutSlots s) :=
  ⟨h.regs, congrArg (fun p => { p with slots := [] }) h.parts⟩

/-- From `s0` to `s`, some wafers have become COMPLETE, none of a slot with a start request, and tokens have moved. -/
structure Completing (s0 s : State) : Prop where
  aside : Aside (withoutSlots s0) (withoutSlots s)
  length : s.slots.length = s0.slots.length
  slot : ∀ k, s.slotAt k = s0.slotAt k ∨ (s.slotAt k = completed (s0.slotAt k) ∧ ¬Requested s0 k)

namespace Completing

theorem inject : Completing s s.inject where
  aside := (Aside.inject .refl).withoutSlots
  length := by rw [(Aside.inject .refl).slots]
  slot k := .inl ((Aside.inject .refl).slotAt k)

theorem closed (h : Completing s0 s) : s.closed = s0.closed := h.aside.closed

theorem firings (h : Completing s0 s) : s.firings = s0.firings := h.aside.firings

theorem acts (h : Completing s0 s) : s.acts = s0.acts := h.aside.acts

theorem chans (h : Completing s0 s) : s.chans = s0.chans := h.aside.chans

theorem startReqs (h : Completing s0 s) : s.startReqs = s0.startReqs := h.aside.startReqs

theorem flowQ (h : Completing s0 s) : s.flowQ = s0.flowQ := h.aside.flowQ

theorem regs (h : Completing s0 s) : KeepsTck s0 s := h.aside.regs

theorem requested_iff (h : Completing s0 s) : Requested s k ↔ Requested s0 k := by
  rw [Requested, h.startReqs, h.flowQ, Requested]

theorem updSlot (h : Completing s0 s) (hk : k < s.slots.length) (hr : ¬Requested s0 k) :
    Completing s0 (s.updSlot k completed) where
  aside := h.aside
  length := (length_updAt _ _ _).trans h.length
  slot j := by
    by_cases hj : j = k
    · subst hj
      rw [slotAt_updSlot_same hk]
      obtain e | ⟨e, -⟩ := h.slot j
      · exact .inr ⟨by rw [e], hr⟩
      · exact .inr ⟨by rw [e]; rfl, hr⟩
    · rw [slotAt_updSlot_ne hj]
      exact h.slot j

theorem completeSlot (h : Completing s0 s) : Completing s0 (completeSlot s k) := by
  unfold Safety.completeSlot
  extract_lets st
  split
  · next hc =>
    obtain ⟨hst, hdone⟩ := hc
    refine h.updSlot (lt_of_slot_taken (by omega)) fun hr => ?_
    exact Bool.false_ne_true ((isComplete_of_requested (h.requested_iff.2 hr)).symm.trans hdone)
  · exact h

theorem settle : Completing s s.settle := by
  rw [settle_eq_completeSlots]
  generalize List.range 8 = ks
  have h := inject (s := s)
  generalize s.inject = u at h ⊢
  induction ks generalizing u with
  | nil => exact h
  | cons k ks ih => exact ih _ h.completeSlot

end Completing

theorem slotAt_settle_of_requested (h : Requested s k) : s.settle.slotAt k = s.slotAt k :=
  (Completing.settle.slot k).resolve_right fun hc => hc.2 h

/-- Whether a wafer has become COMPLETE leaves all else of its slot that admission sets. -/
theorem slotAt_settle (s : State) (k : Nat) : s.settle.slotAt k = s.slotAt k ∨ s.settle.slotAt k = completed (s.slotAt k) :=
  (Completing.settle.slot k).imp_right And.left

theorem wafer_slotAt_settle (s : State) (k : Nat) : (s.settle.slotAt k).wafer = (s.slotAt k).wafer := by
  obtain h | h := slotAt_settle s k
  · rw [h]
  · rw [h]
    rfl

/-! ### Requests of roots -/

/-- The start request of root descriptor `n` with entry `e`, for the wafer of slot `k` that `x` describes (R260). -/
def rootReq (x : Slot) (k n : Nat) (e : Entry) (arr : Nat) : StartReq :=
  { root := true, desc := n, slot := k, inc := x.inc, wafer := x.wafer, epoch := x.epoch, prio := e.prio, act := 0,
    firing := 0, flow := if e.fen then some e.flow else none, arr := arr, no := 0, warned := false }

/-- Root descriptor `n` of a bank `b` places its request, where it has an entry. -/
def placeRoot (x : Slot) (b : List (Nat × Word)) (k : Nat) (s : State) (n : Nat) : State :=
  (bankEntry b n).elim s fun e => s.placeReq (rootReq x k n e s.now)

theorem placeRoots_eq_foldl (s : State) (k : Nat) : s.placeRoots k =
    (bankRoots (s.bankOf (s.slotAt k).epoch)).foldl (placeRoot (s.slotAt k) (s.bankOf (s.slotAt k).epoch) k) s := by
  refine congrArg (fun f => List.foldl f s _) (funext fun t => funext fun n => ?_)
  unfold placeRoot
  cases bankEntry (s.bankOf (s.slotAt k).epoch) n <;> rfl

/-- The state with no start request. -/
def withoutRequests (s : State) : State := { s with startReqs := [], flowQ := [] }

/-- From `s0` to `s`, start requests have been placed. -/
structure Placing (s0 s : State) : Prop where
  aside : Aside (withoutRequests s0) (withoutRequests s)
  mono : ∀ r ∈ s0.startReqs ++ s0.flowQ, r ∈ s.startReqs ++ s.flowQ

namespace Placing

theorem refl : Placing s s := ⟨.refl, fun _ h => h⟩

theorem trans (h : Placing s0 s) (g : Placing s t) : Placing s0 t :=
  ⟨h.aside.trans g.aside, fun r hr => g.mono r (h.mono r hr)⟩

theorem closed (h : Placing s0 s) : s.closed = s0.closed := h.aside.closed

theorem firings (h : Placing s0 s) : s.firings = s0.firings := h.aside.firings

theorem acts (h : Placing s0 s) : s.acts = s0.acts := h.aside.acts

theorem chans (h : Placing s0 s) : s.chans = s0.chans := h.aside.chans

theorem slotAt (h : Placing s0 s) (k : Nat) : s.slotAt k = s0.slotAt k := h.aside.slotAt k

theorem regs (h : Placing s0 s) : KeepsTck s0 s := h.aside.regs

theorem placeReq {r : StartReq} : Placing s (s.placeReq r) := by
  unfold State.placeReq
  extract_lets r' s1
  split
  · exact ⟨.frame .refl rfl, fun x hx => by
      rw [← List.append_assoc]
      exact List.mem_append_left _ hx⟩
  · refine ⟨.frame .refl rfl, fun x hx => ?_⟩
    rw [List.append_assoc]
    exact (List.mem_append.1 hx).elim (List.mem_append_left _) fun h => List.mem_append_right _ (List.mem_append_right _ h)

theorem placeRoot {x : Slot} {b : List (Nat × Word)} {n : Nat} : Placing s (placeRoot x b k s n) := by
  unfold Safety.placeRoot
  cases bankEntry b n with
  | none => exact refl
  | some e => exact placeReq

theorem foldl_placeRoot {x : Slot} {b : List (Nat × Word)} {ns : List Nat} :
    Placing s (ns.foldl (Safety.placeRoot x b k) s) := by
  induction ns generalizing s with
  | nil => exact refl
  | cons n ns ih => exact placeRoot.trans ih

theorem placeRoots : Placing s (s.placeRoots k) := by
  rw [placeRoots_eq_foldl]
  exact foldl_placeRoot

end Placing

/-- A root's start request of descriptor `n` for the wafer of slot `k` that `x` describes waits. -/
def RootRequested (s : State) (x : Slot) (k n : Nat) : Prop :=
  ∃ r ∈ s.startReqs ++ s.flowQ, r.root = true ∧ r.desc = n ∧ r.slot = k ∧ r.wafer = x.wafer ∧ r.epoch = x.epoch

theorem mem_placeReq (s : State) (r : StartReq) :
    { r with no := s.arrNo } ∈ (s.placeReq r).startReqs ++ (s.placeReq r).flowQ := by
  unfold State.placeReq
  extract_lets r' s1
  split
  · exact List.mem_append_right _ (List.mem_append_right _ (List.mem_singleton_self _))
  · exact List.mem_append_left _ (List.mem_append_right _ (List.mem_singleton_self _))

theorem rootRequested_placeRoot {x : Slot} {b : List (Nat × Word)} {n : Nat} (h : bankEntry b n ≠ none) :
    RootRequested (placeRoot x b k s n) x k n := by
  obtain ⟨e, he⟩ := Option.ne_none_iff_exists'.1 h
  rw [placeRoot, he]
  exact ⟨_, mem_placeReq s (rootReq x k n e s.now), rfl, rfl, rfl, rfl, rfl⟩

theorem rootRequested_foldl {x : Slot} {b : List (Nat × Word)} {ns : List Nat} {n : Nat} (hn : n ∈ ns)
    (h : bankEntry b n ≠ none) : RootRequested (ns.foldl (placeRoot x b k) s) x k n := by
  induction ns generalizing s with
  | nil => exact absurd hn List.not_mem_nil
  | cons m ns ih =>
    obtain rfl | hn := List.mem_cons.1 hn
    · obtain ⟨r, hr, hreq⟩ := rootRequested_placeRoot (x := x) (k := k) (s := s) h
      exact ⟨r, (Placing.foldl_placeRoot (s := placeRoot x b k s n)).mono r hr, hreq⟩
    · exact ih hn

theorem rootRequested_placeRoots {n : Nat} (hn : n ∈ bankRoots (s.bankOf (s.slotAt k).epoch))
    (h : bankEntry (s.bankOf (s.slotAt k).epoch) n ≠ none) : RootRequested (s.placeRoots k) (s.slotAt k) k n := by
  rw [placeRoots_eq_foldl]
  exact rootRequested_foldl hn h

end Sys2Proof.Safety
end

section
/-! Admission of a closed wafer (R20, R23, R26, R30, R260). -/

namespace Sys2Proof.Safety
open Sys2Proof.Machine

variable {s p : State} {c : ClosedWafer} {rest : List ClosedWafer}

/-- The slot of a wafer as it is admitted, where the slot held `y` before (R30, R473). -/
def admittedSlot (s : State) (c : ClosedWafer) (y : Slot) : Slot :=
  let kinds := s.rget Reg.SCH_TRC_CTRL
  { Reset.slot with
    wafer := c.num, state := 1, epoch := s.epochNow, wide := c.wide, suspect := c.suspect, openT := c.openT,
    closeT := c.closeT, inc := y.inc, trcOn := bit kinds 0 && s.trcArea, trcWrap := bit kinds 1, trcKinds := kinds.toNat,
    noTiles := s.parkMask }

/-- The state in which the first closed wafer has taken its slot. -/
def slotTaken (s : State) (c : ClosedWafer) (rest : List ClosedWafer) : State :=
  ({ s with closed := rest }.updSlot (c.num % 8) (admittedSlot s c)).rset Reg.TCK_WAFER_ADMITTED (w64 c.num)

/-- An admission takes the slot, records a decision crumb, places the roots' requests and lets the tokens move. -/
theorem admitOne_of_free (hc : s.closed = c :: rest) (hh : s.admitHeld = false) (hk : (s.slotAt (c.num % 8)).state = 0) :
    ∃ p, Aside (slotTaken s c rest) p ∧ s.admitOne = some (p.placeRoots (c.num % 8)).settle := by
  refine ⟨(slotTaken s c rest).decision 0x10 ((slotTaken s c rest).slotAt (c.num % 8)).inc (c.num % 8)
    (rest.length % 8192) (w64 c.num), Aside.refl.decision, ?_⟩
  unfold State.admitOne
  rw [hc]
  exact if_neg (by simp [hh, hk])

theorem admitOne_of_held (h : s.closed = [] ∨ s.admitHeld = true ∨
    ∃ c rest, s.closed = c :: rest ∧ (s.slotAt (c.num % 8)).state ≠ 0) : s.admitOne = none := by
  unfold State.admitOne
  cases hc : s.closed with
  | nil => rfl
  | cons c rest =>
    refine if_pos ?_
    obtain h | h | ⟨c', rest', h, hk⟩ := h
    · exact absurd (hc.symm.trans h) (List.cons_ne_nil _ _)
    · rw [h, Bool.true_or]
    · obtain ⟨rfl, -⟩ := List.cons.inj (hc.symm.trans h)
      rw [decide_eq_true hk, Bool.or_true]

theorem exec_waferAdmit_of_none (h : s.admitOne = none) : exec .waferAdmit s = .next s := by
  simp [execWaferAdmit, State.onlyIf, h]

theorem exec_waferAdmit_of_some {t : State} (hd : s.dead = false) (h : s.admitOne = some t) : exec .waferAdmit s = .next t := by
  rw [exec_waferAdmit, execWaferAdmit, State.onlyIf_pos s _ (by rw [hd]; rfl), h]
  rfl

/-! ### What has been admitted -/

/-- What an admission leaves beside the slots: the wafer has left the closed ones, TCK_WAFER_ADMITTED holds its number, and
firings, activations and channels stay. -/
theorem admitted_frame (hp : Aside (slotTaken s c rest) p) (k : Nat) :
    (p.placeRoots k).settle.closed = rest ∧ (p.placeRoots k).settle.rget Reg.TCK_WAFER_ADMITTED = w64 c.num ∧
    (p.placeRoots k).settle.firings = s.firings ∧ (p.placeRoots k).settle.acts = s.acts ∧
    (p.placeRoots k).settle.chans = s.chans := by
  have hplace := Placing.placeRoots (s := p) (k := k)
  have hsettle := Completing.settle (s := p.placeRoots k)
  refine ⟨hsettle.closed.trans (hplace.closed.trans hp.closed), ?_, hsettle.firings.trans (hplace.firings.trans hp.firings),
    hsettle.acts.trans (hplace.acts.trans hp.acts), hsettle.chans.trans (hplace.chans.trans hp.chans)⟩
  calc (p.placeRoots k).settle.rget Reg.TCK_WAFER_ADMITTED
    _ = (p.placeRoots k).rget Reg.TCK_WAFER_ADMITTED := hsettle.regs _ (by decide) (by decide)
    _ = p.rget Reg.TCK_WAFER_ADMITTED := hplace.regs _ (by decide) (by decide)
    _ = (slotTaken s c rest).rget Reg.TCK_WAFER_ADMITTED := hp.regs _ (by decide) (by decide)
    _ = w64 c.num := State.rget_rset_same _ _ _

theorem slotAt_slotTaken_same (hk : c.num % 8 < s.slots.length) :
    (slotTaken s c rest).slotAt (c.num % 8) = admittedSlot s c (s.slotAt (c.num % 8)) := slotAt_updSlot_same hk

theorem slotAt_slotTaken_ne {k : Nat} (hk : k ≠ c.num % 8) : (slotTaken s c rest).slotAt k = s.slotAt k :=
  slotAt_updSlot_ne hk

/-- The wafers look up the bank in force, which a swap alone replaces. -/
theorem bankOf_admitted (hp : Aside (slotTaken s c rest) p) : p.bankOf s.epochNow = s.bankOf s.epochNow := by
  have hreg : (slotTaken s c rest).rget Reg.TCK_EPOCH = s.rget Reg.TCK_EPOCH := State.rget_rset_ne _ _ (by decide)
  have hepoch : p.epochNow = s.epochNow := hp.regs.epochNow.trans (congrArg (fld · 31 0) hreg)
  rw [State.bankOf, if_pos hepoch.symm, hp.cfg, State.bankOf, if_pos rfl]
  rfl

theorem slotAt_places_same (hp : Aside (slotTaken s c rest) p) (hk : c.num % 8 < s.slots.length) :
    (p.placeRoots (c.num % 8)).slotAt (c.num % 8) = admittedSlot s c (s.slotAt (c.num % 8)) :=
  (Placing.placeRoots.slotAt _).trans ((hp.slotAt _).trans (slotAt_slotTaken_same hk))

theorem slotAt_places_ne (hp : Aside (slotTaken s c rest) p) {k : Nat} (hk : k ≠ c.num % 8) :
    (p.placeRoots (c.num % 8)).slotAt k = s.slotAt k :=
  (Placing.placeRoots.slotAt _).trans ((hp.slotAt _).trans (slotAt_slotTaken_ne hk))

theorem admitted_slot_fields (hp : Aside (slotTaken s c rest) p) (hk : c.num % 8 < s.slots.length) :
    ((p.placeRoots (c.num % 8)).settle.slotAt (c.num % 8)).wafer = c.num ∧
    ((p.placeRoots (c.num % 8)).settle.slotAt (c.num % 8)).epoch = s.epochNow ∧
    ((p.placeRoots (c.num % 8)).settle.slotAt (c.num % 8)).openT = c.openT ∧
    ((p.placeRoots (c.num % 8)).settle.slotAt (c.num % 8)).closeT = c.closeT ∧
    ((p.placeRoots (c.num % 8)).settle.slotAt (c.num % 8)).wide = c.wide ∧
    ((p.placeRoots (c.num % 8)).settle.slotAt (c.num % 8)).suspect = c.suspect := by
  have h := slotAt_settle (p.placeRoots (c.num % 8)) (c.num % 8)
  rw [slotAt_places_same hp hk] at h
  obtain h | h := h
  · rw [h]
    exact ⟨rfl, rfl, rfl, rfl, rfl, rfl⟩
  · rw [h]
    exact ⟨rfl, rfl, rfl, rfl, rfl, rfl⟩

/-- A root of the bank in force has its start request, which keeps the wafer RUNNING. -/
theorem admitted_root (hp : Aside (slotTaken s c rest) p) (hk : c.num % 8 < s.slots.length) {n : Nat}
    (hn : n ∈ bankRoots (s.bankOf s.epochNow)) (hb : bankEntry (s.bankOf s.epochNow) n ≠ none) :
    ((p.placeRoots (c.num % 8)).settle.slotAt (c.num % 8)).state = 1 ∧
    RootRequested (p.placeRoots (c.num % 8)).settle (admittedSlot s c (s.slotAt (c.num % 8))) (c.num % 8) n := by
  have hslot := (hp.slotAt _).trans (slotAt_slotTaken_same (rest := rest) hk)
  have hepoch : (p.slotAt (c.num % 8)).epoch = s.epochNow := by rw [hslot]; rfl
  rw [← bankOf_admitted hp, ← hepoch] at hn hb
  have hroot := rootRequested_placeRoots hn hb
  have hsettle := Completing.settle (s := p.placeRoots (c.num % 8))
  constructor
  · obtain ⟨r, hr, -, -, hrk, -⟩ := hroot
    rw [slotAt_settle_of_requested ⟨r, hr, hrk⟩, slotAt_places_same hp hk]
    rfl
  · rw [RootRequested, hsettle.startReqs, hsettle.flowQ, ← hslot]
    exact hroot

/-- Other slots keep their wafers, which may become COMPLETE. -/
theorem admitted_others (hp : Aside (slotTaken s c rest) p) {k : Nat} (hk : k ≠ c.num % 8) :
    ((p.placeRoots (c.num % 8)).settle.slotAt k).wafer = (s.slotAt k).wafer ∧
    (((p.placeRoots (c.num % 8)).settle.slotAt k).state = (s.slotAt k).state ∨
      ((p.placeRoots (c.num % 8)).settle.slotAt k).state = 2) := by
  have h := slotAt_settle (p.placeRoots (c.num % 8)) k
  rw [slotAt_places_ne hp hk] at h
  obtain h | h := h
  · rw [h]
    exact ⟨rfl, .inl rfl⟩
  · rw [h]
    exact ⟨rfl, .inr rfl⟩

end Sys2Proof.Safety
end

section
/-! Commit of the oldest wafer (R21, R29, R142, R275). -/

namespace Sys2Proof.Safety
open Sys2Proof.Machine

variable {s0 s t : State} {k : Nat}

/-! ### The wafer that is due -/

theorem commitDue_spec (h : s.commitDue = some k) :
    k < 8 ∧ (s.slotAt k).state = 2 ∧ s.oldestWafer = some (s.slotAt k).wafer := by
  have hk := List.mem_range.1 (List.mem_of_find?_eq_some h)
  have hdue := List.find?_some h
  rw [Bool.and_eq_true, decide_eq_true_eq, State.isOldest, Bool.and_eq_true, decide_eq_true_eq, decide_eq_true_eq] at hdue
  obtain ⟨hstate, -, hold⟩ := hdue
  exact ⟨hk, hstate, hold⟩

/-! ### What a commit leaves -/

/-- On the way to the commit of slot `k`'s wafer: the closed wafers, the other slots, the number of the slot's wafer and the
tick unit's registers stay, and no vote message is new. -/
structure Committing (k : Nat) (s0 s : State) : Prop where
  regs : KeepsTck s0 s
  closed : s.closed = s0.closed
  length : s.slots.length = s0.slots.length
  others : ∀ j, j ≠ k → s.slotAt j = s0.slotAt j
  wafer : (s.slotAt k).wafer = (s0.slotAt k).wafer
  votes : ∀ v ∈ s.votes, v ∈ s0.votes

namespace Committing

theorem refl : Committing k s s := ⟨.refl, rfl, rfl, fun _ _ => rfl, rfl, fun _ h => h⟩

theorem trans (h : Committing k s0 s) (g : Committing k s t) : Committing k s0 t where
  regs a ha hn := (g.regs a ha hn).trans (h.regs a ha hn)
  closed := g.closed.trans h.closed
  length := g.length.trans h.length
  others j hj := (g.others j hj).trans (h.others j hj)
  wafer := g.wafer.trans h.wafer
  votes v hv := h.votes v (g.votes v hv)

theorem of_aside (h : Aside s0 s) : Committing k s0 s where
  regs := h.regs
  closed := h.closed
  length := by rw [h.slots]
  others j _ := h.slotAt j
  wafer := by rw [h.slotAt]
  votes v hv := h.votes ▸ hv

/-- A step that leaves registers, closed wafers, slots and votes. -/
theorem frame (e : (t.csr, t.closed, t.slots, t.votes) = (s.csr, s.closed, s.slots, s.votes)) : Committing k s t := by
  simp only [Prod.mk.injEq] at e
  obtain ⟨hcsr, hclosed, hslots, hvotes⟩ := e
  have hslot : ∀ j, t.slotAt j = s.slotAt j := fun j => by rw [State.slotAt, hslots, State.slotAt]
  exact ⟨.frame .refl hcsr, hclosed, by rw [hslots], fun j _ => hslot j, by rw [hslot], fun v hv => hvotes ▸ hv⟩

theorem updSlot {f : Slot → Slot} (hk : k < s.slots.length) (hf : ∀ x, (f x).wafer = x.wafer) : Committing k s (s.updSlot k f) where
  regs := .frame .refl rfl
  closed := rfl
  length := length_updAt _ _ _
  others _ hj := slotAt_updSlot_ne hj
  wafer := by rw [slotAt_updSlot_same hk, hf]
  votes _ hv := hv

theorem rsCloseSend (hk : k < s.slots.length) : Committing k s (s.rsCloseSend k) := by
  unfold State.rsCloseSend
  extract_lets x
  split
  · exact refl
  · exact (updSlot (f := fun y => { y with rsclosed := true }) hk fun _ => rfl).trans (of_aside (.foldl .refl fun _ _ h => .ite h h.sendMsg))

end Committing

/-- A slot as the commit of its wafer leaves it (R29). -/
def freedSlot (x : Slot) : Slot := { x with state := 0, crumbs := [], journal := [] }

/-- The wafer of slot `k` has left: its RSCLOSE, crumbs, staged words and votes, but its slot still names it. -/
theorem commitWafer_frees (hk : k < s.slots.length) : ∃ u : State, Committing k s u ∧
    (∀ v ∈ u.votes, v.wafer ≠ (s.slotAt k).wafer) ∧
    s.commitWafer k = (((u.releaseWindows (s.slotAt k).wafer k).updSlot k freedSlot).rset Reg.TCK_WAFER_COMMITTED
      (w64 (s.slotAt k).wafer)).dropCopies.newOldest := by
  unfold State.commitWafer
  extract_lets r x s1 mine s2 _ s3 s4
  have hr : Committing k s r := .rsCloseSend hk
  have h1 : Aside r s1 := .ite Aside.refl.ringItem .refl
  have h2 : Committing k s s2 := hr.trans (.of_aside h1.codeDropped)
  have hx : x.wafer = (s.slotAt k).wafer := hr.wafer
  refine ⟨s3, h2.trans ⟨.frame .refl rfl, rfl, rfl, fun _ _ => rfl, rfl, fun v hv => List.mem_of_mem_filter hv⟩, ?_, ?_⟩
  · intro v hv
    rw [← hx]
    exact of_decide_eq_true (List.mem_filter.1 hv).2
  · rw [← hx]
    rfl

/-- A commit frees the slot, writes TCK_WAFER_COMMITTED and drops the wafer's votes; the closed wafers and the other slots
stay. -/
theorem commitWafer_spec (hk : k < s.slots.length) :
    (s.commitWafer k).rget Reg.TCK_WAFER_COMMITTED = w64 (s.slotAt k).wafer ∧
    (∃ x, (s.commitWafer k).slotAt k = freedSlot x) ∧ (s.commitWafer k).closed = s.closed ∧
    (∀ v ∈ (s.commitWafer k).votes, v.wafer ≠ (s.slotAt k).wafer) ∧
    ∀ j, j ≠ k → (s.commitWafer k).slotAt j = s.slotAt j := by
  obtain ⟨u, hu, hvotes, he⟩ := commitWafer_frees hk
  have hr : Committing k s (u.releaseWindows (s.slotAt k).wafer k) := hu.trans (.frame rfl)
  have hrvotes : (u.releaseWindows (s.slotAt k).wafer k).votes = u.votes := rfl
  generalize u.releaseWindows (s.slotAt k).wafer k = r at he hr hrvotes
  have ha : Aside ((r.updSlot k freedSlot).rset Reg.TCK_WAFER_COMMITTED (w64 (s.slotAt k).wafer)).dropCopies
      (s.commitWafer k) := by
    rw [he]
    exact .newOldest .refl
  refine ⟨(ha.regs _ (by decide) (by decide)).trans (State.rget_rset_same _ _ _),
    ⟨r.slotAt k, (ha.slotAt k).trans (slotAt_updSlot_same (hr.length ▸ hk))⟩, ha.closed.trans hr.closed, ?_,
    fun j hj => (ha.slotAt j).trans ((slotAt_updSlot_ne hj).trans (hr.others j hj))⟩
  intro v hv
  exact hvotes v (hrvotes ▸ ha.votes ▸ hv)

theorem exec_waferCommit_of_due (hd : s.dead = false) (h : s.settle.commitDue = some k) :
    exec .waferCommit s = .next (s.settle.commitWafer k) := by
  rw [exec_waferCommit, execWaferCommit, State.onlyIf_pos s _ (by rw [hd]; rfl)]
  dsimp only
  rw [h]

theorem admitHeld_of_not_admit (h : s.rbit Reg.TCK_CTRL 2 = false) : s.admitHeld = true := by
  rw [State.admitHeld, State.admitPaused, h]
  rfl

/-- Settles O29: an admission takes the slot, places the roots' requests and lets wafers become COMPLETE, and a commit
frees the slot of the oldest wafer alone. -/
theorem wafersAreAdmittedAndCommitInOrder : Obligations.WafersAreAdmittedAndCommitInOrder := by
  refine ⟨?_, ?_, ?_, ?_, ?_⟩
  · intro s c rest hd hc hh hk hlen
    have hlt : c.num % 8 < s.slots.length := by omega
    obtain ⟨p, hp, hadmit⟩ := admitOne_of_free hc hh hk
    obtain ⟨hclosed, hreg, hfirings, hacts, hchans⟩ := admitted_frame hp (c.num % 8)
    obtain ⟨hwafer, hepoch, hopen, hclose, hwide, hsuspect⟩ := admitted_slot_fields hp hlt
    exact ⟨_, exec_waferAdmit_of_some hd hadmit, hclosed, hreg, hwafer, hepoch, hopen, hclose, hwide, hsuspect,
      fun n hn hb => admitted_root hp hlt hn hb, fun k _ hne => admitted_others hp hne, hfirings, hacts, hchans⟩
  · exact fun s h => exec_waferAdmit_of_none (admitOne_of_held h)
  · intro s k hd hdue hlen
    obtain ⟨hk, -, -⟩ := commitDue_spec hdue
    have hsettle := Completing.settle (s := s)
    have hlt : k < s.settle.slots.length := by
      rw [hsettle.length]
      omega
    obtain ⟨hreg, ⟨x, hslot⟩, hclosed, hvotes, hothers⟩ := commitWafer_spec hlt
    rw [wafer_slotAt_settle] at hreg hvotes
    exact ⟨_, exec_waferCommit_of_due hd hdue, hreg, congrArg Slot.state hslot, congrArg Slot.journal hslot,
      congrArg Slot.crumbs hslot, hclosed.trans hsettle.closed, hvotes, fun j _ hne => hothers j hne, rfl⟩
  · exact fun s k h => commitDue_spec h
  · exact fun s c rest _ h => exec_waferAdmit_of_none (admitOne_of_held (.inr (.inl (admitHeld_of_not_admit h))))

end Sys2Proof.Safety
end

section
/-! Firings that execute: a ready firing runs the body of its opcode, and results for which the buffers have room are staged
(R45, R48, R58, R62, R116). -/

namespace Sys2Proof.Safety
open Sys2Proof.Machine

variable {s s1 s2 : State} {n opc : Nat} {f : Firing} {a : Act} {row : OpRow}

/-! ### The shared steps of a firing -/

theorem fire_of_ready (h : Ready s n opc f a row) (body : State → Firing → Act → OpRow → State) :
    s.fire n opc body = body s f a row := by
  simp [State.fire, State.fireIf, h.alive, h.found, h.stage, h.wait, h.opc, h.serves, h.act, h.legal, h.runs]

theorem stage_eq_staged {outs : List OutTok} {stores : List StoreRec} {effects : List Effect} {raised : Flags7} {nd : Bool}
    (h : Room s f stores.length effects) : s.stage f outs stores effects raised nd = staged s f outs stores effects raised nd := by
  obtain ⟨hsb, heb⟩ := h
  exact if_neg (by omega)

theorem withIns_of_inputs {ok : Nat} {x : Ins} (h : Inputs s f a row ok x s1) (go : State → Ins → State) :
    s.withIns f a row ok go = go s1 x := by
  simp [State.withIns, h.noCtx, h.read, h.wait, h.bad]

/-- A firing without trap causes stages its value and its stores. -/
theorem finish_eq_staged {x : Ins} {v : Value} {st : Status} {fls : List Flags7} {isInt : Bool} {stores : List StoreRec}
    {effects : List Effect} {nd : Bool} (hx : x.bad = []) (hs : Stores s1 f a v stores effects nd s2)
    (ht : enabledCauses a.mode isInt (orFlags fls) = []) (hr : Room s2 f stores.length effects) :
    s1.finish f a row x v st fls isInt =
      staged s2 f (f.outsAB ⟨v, st⟩) stores effects (orFlags fls) (f.inhNd || x.nd || nd) := by
  rw [Stores] at hs
  simp only [State.finish, hs, hx, ht, List.append_nil, List.isEmpty_nil, if_pos]
  exact stage_eq_staged hr

theorem enabledCauses_of_no_flags (mode : BitVec 16) : enabledCauses mode false (orFlags []) = [] := by
  simp [enabledCauses, orFlags]

/-! ### Operations that compute -/

/-- Whether `op` is defined depends on the types alone, not on the values. -/
def DefinedByType (op : OpIn → Option OpRes) : Prop :=
  ∀ x y : OpIn, x.ty = y.ty → x.lty = y.lty → (op x).isSome = (op y).isSome

theorem definedByType_of_isSome {op : OpIn → Option OpRes} (h : ∀ x, (op x).isSome = true) : DefinedByType op := fun x y _ _ =>
  (h x).trans (h y).symm

theorem compute_eq_staged {op : OpIn → Option OpRes} (hop : DefinedByType op) {isInt : Bool} {x : Ins} {z : OpRes}
    {stores : List StoreRec} {effects : List Effect} {nd : Bool} (hi : Inputs s f a row 0 x s1) (hz : op (opInputs f a x) = some z)
    (hs : Stores s1 f a z.val stores effects nd s2) (ht : enabledCauses a.mode isInt (orFlags z.flags) = [])
    (hr : Room s2 f stores.length effects) :
    State.compute op isInt s f a row = staged s2 f (f.outsAB ⟨z.val, f.comp z.ty (orFlags z.flags) x.nd⟩) stores effects
      (orFlags z.flags) (f.inhNd || x.nd || nd) := by
  have hdef : (op (opInputs f a (State.firingFixed f row))).isNone = false := by
    have h := hop (opInputs f a (State.firingFixed f row)) (opInputs f a x) rfl rfl
    rw [hz] at h
    simpa using h
  rw [opInputs] at hz hdef
  simp only [State.compute, hdef, hi.noCtx, hi.read, hi.wait, hi.bad, hz, List.isEmpty_nil, Bool.not_true, if_neg,
    Bool.false_eq_true, not_false_eq_true]
  exact finish_eq_staged hi.bad hs ht hr

theorem computesBy_of_definedByType {c : Nat → Instr} {opc : Nat} {op : OpIn → Option OpRes} {isInt : Bool}
    (hop : DefinedByType op) (hc : ∀ n s, Sys2Proof.Machine.exec (c n) s = .next (s.fire n opc (State.compute op isInt))) :
    ComputesBy c opc op isInt := by
  intro s n f a row x s1 s2 z stores effects nd hready hin hz hs ht hr
  rw [hc, fire_of_ready hready, compute_eq_staged hop hin hz hs ht hr]

theorem computesBy_of_isSome {c : Nat → Instr} {opc : Nat} {op : OpIn → Option OpRes} {isInt : Bool}
    (hop : ∀ x, (op x).isSome = true) (hc : ∀ n s, Sys2Proof.Machine.exec (c n) s = .next (s.fire n opc (State.compute op isInt))) :
    ComputesBy c opc op isInt :=
  computesBy_of_definedByType (definedByType_of_isSome hop) hc

theorem opCmp_isSome (c : FCmp) (x : OpIn) : (opCmp c x).isSome = true := by
  unfold opCmp
  dsimp only
  split <;> rfl

theorem opHsum_isSome (x : OpIn) : (opHsum x).isSome = true := by
  unfold opHsum
  dsimp only
  split
  · rfl
  · rfl
  · split <;> rfl

theorem opHminmax_isSome (wantMax : Bool) (x : OpIn) : (opHminmax wantMax x).isSome = true := by
  unfold opHminmax
  dsimp only
  split <;> rfl

theorem opCvt_definedByType : DefinedByType opCvt := by
  intro x y hty hlty
  have h : ∀ x : OpIn, (opCvt x).isSome =
      ((decide (x.lty ≤ 5) && decide (x.ty ≤ 5)) || (decide (6 ≤ x.lty ∧ x.lty ≤ 8) && decide (6 ≤ x.ty ∧ x.ty ≤ 8))) := by
    intro x
    unfold opCvt
    dsimp only
    split
    · next hc => split <;> exact hc.symm
    · next hc => exact (Bool.eq_false_iff.2 hc).symm
  rw [h, h, hty, hlty]

theorem opSplat_definedByType : DefinedByType opSplat := by
  intro x y hty hlty
  have h : ∀ x : OpIn, (opSplat x).isSome = decide (x.lty = laneType x.ty) := by
    intro x
    unfold opSplat
    dsimp only
    split
    · next hc => exact (decide_eq_true hc).symm
    · next hc => exact (decide_eq_false hc).symm
  rw [h, h, hty, hlty]

/-- Settles O9: each of these operations is defined on all inputs. -/
theorem integerFiringsComplete : Obligations.IntegerFiringsComplete := by
  refine ⟨?_, ?_, ?_, ?_, ?_, ?_, ?_, ?_, ?_, ?_, ?_, ?_, ?_, ?_, ?_, ?_, ?_, ?_, ?_, ?_, ?_, ?_, ?_, ?_, ?_, ?_, ?_, ?_, ?_, ?_⟩
  iterate 25 exact computesBy_of_isSome (fun _ => rfl) (fun _ _ => rfl)
  iterate 5 exact computesBy_of_isSome (opCmp_isSome _) (fun _ _ => rfl)

/-- Settles O10: of these operations all but CVT and SPLAT are defined on all inputs, and whether these two are depends on the
types of instruction and L alone. -/
theorem floatLaneAndCopyFiringsComplete : Obligations.FloatLaneAndCopyFiringsComplete := by
  refine ⟨?_, ?_, ?_, ?_, ?_, ?_, ?_, ?_, ?_, ?_, ?_, ?_, ?_, ?_, ?_, ?_, ?_, ?_, ?_, ?_, ?_, ?_, ?_, ?_⟩
  iterate 11 exact computesBy_of_isSome (fun _ => rfl) (fun _ _ => rfl)
  · exact computesBy_of_definedByType opCvt_definedByType (fun _ _ => rfl)
  · exact computesBy_of_isSome (fun _ => rfl) (fun _ _ => rfl)
  · exact computesBy_of_definedByType opSplat_definedByType (fun _ _ => rfl)
  iterate 4 exact computesBy_of_isSome (fun _ => rfl) (fun _ _ => rfl)
  · exact computesBy_of_isSome opHsum_isSome (fun _ _ => rfl)
  iterate 2 exact computesBy_of_isSome (opHminmax_isSome _) (fun _ _ => rfl)
  iterate 3 exact computesBy_of_isSome (fun _ => rfl) (fun _ _ => rfl)

/-! ### Operations that hand on and steer their tokens -/

theorem isTrue_iff (v : Value) : Machine.isTrue v = true ↔ fld v 31 0 ≠ 0 := decide_eq_true_iff

/-- Settles O12: each operation reads its inputs and ends with the value that it hands on. -/
theorem handingFiringsComplete : Obligations.HandingFiringsComplete := by
  refine ⟨?_, ?_⟩
  · intro s s1 s2 n f a row x stores effects nd c opc hc hready hin hs hr
    have hexec : Sys2Proof.Machine.exec (c n) s = .next (s.fire n opc State.handOp) := by
      obtain ⟨rfl, rfl⟩ | ⟨rfl, rfl⟩ | ⟨rfl, rfl⟩ := hc <;> rfl
    rw [hexec, fire_of_ready hready, State.handOp, withIns_of_inputs hin,
      finish_eq_staged hin.bad hs (enabledCauses_of_no_flags _) hr]
    rfl
  · intro s s1 s2 n f a row x stores effects nd v t hready hin hv hs hr
    have hpick : (if isTrue x.c then (x.l, f.inL) else (x.r, f.inR)) = (v, t) := by
      rw [hv]
      exact if_congr (isTrue_iff _) rfl rfl
    rw [exec_fireSel, execFireSel, fire_of_ready hready, State.selOp, withIns_of_inputs hin]
    dsimp only
    rw [hpick, finish_eq_staged hin.bad hs (enabledCauses_of_no_flags _) hr]
    cases t <;> rfl

/-- Settles O13: each operation stages the tokens of its row of Table 2.10. -/
theorem steeringFiringsComplete : Obligations.SteeringFiringsComplete := by
  refine ⟨?_, ?_, ?_, ?_⟩
  · intro s s1 n f a row x hready hin hr
    rw [exec_fireSwitch, execFireSwitch, fire_of_ready hready, State.switchOp, withIns_of_inputs hin, stage_eq_staged hr,
      if_congr (isTrue_iff _) rfl rfl]
  · intro s s1 n f a row x hready hin hr
    rw [exec_fireGate, execFireGate, fire_of_ready hready, State.gateOp, withIns_of_inputs hin, stage_eq_staged hr,
      if_congr (isTrue_iff _) rfl rfl]
  · intro s n f a row t hready ht hr
    have hpick : (f.inL.orElse (fun _ => f.inR)).getD ⟨0, 0⟩ = t := by
      obtain h | ⟨hl, h⟩ := ht
      · rw [h]
        rfl
      · rw [hl, h]
        rfl
    rw [exec_fireMerge, execFireMerge, fire_of_ready hready, State.mergeOp, hpick, stage_eq_staged hr]
  · intro s n f a row hready hr
    rw [exec_fireIter, execFireIter, fire_of_ready hready, State.iterOp, stage_eq_staged hr]
    rfl

theorem updAt_const_idem {α : Type} (xs : List α) (k : Nat) (c : α) :
    updAt (updAt xs k fun _ => c) k (fun _ => c) = updAt xs k fun _ => c := by
  induction xs generalizing k with
  | nil => rfl
  | cons x xs ih =>
    cases k with
    | zero => rfl
    | succ k => exact congrArg (x :: ·) (ih k)

theorem progress_progress (s : State) (k : Nat) : (s.progress k).progress k = s.progress k := by
  simp [State.progress, updAt_const_idem, Function.comp_def]

/-- A firing that has placed its start request waits for the grant; the detectors of its slot have started again. -/
theorem placeReq_waitFor (s : State) (f : Firing) (r : StartReq) (hslot : r.slot = f.slot) :
    (s.placeReq r).waitFor f .alloc = { s.progress f.slot with
      arrNo := s.arrNo + 1
      flowQ := if r.flow.isSome then s.flowQ ++ [{ r with no := s.arrNo }] else s.flowQ
      startReqs := if r.flow.isSome then s.startReqs else s.startReqs ++ [{ r with no := s.arrNo }]
      firings := s.firings.map (fun y => if y.id = f.id then { y with wait := .alloc } else y) } := by
  have htiles : ((s.progress r.slot).progress f.slot).tiles = (s.progress f.slot).tiles := by rw [hslot, progress_progress]
  cases hflow : r.flow.isSome
  · simp only [State.waitFor, State.placeReq, hflow]
    exact congrArg (fun t => ({ s with
      arrNo := s.arrNo + 1, startReqs := s.startReqs ++ [{ r with no := s.arrNo }], tiles := t
      firings := s.firings.map (fun y => if y.id = f.id then { y with wait := .alloc } else y) } : State)) htiles
  · simp only [State.waitFor, State.placeReq, hflow]
    exact congrArg (fun t => ({ s with
      arrNo := s.arrNo + 1, flowQ := s.flowQ ++ [{ r with no := s.arrNo }], tiles := t
      firings := s.firings.map (fun y => if y.id = f.id then { y with wait := .alloc } else y) } : State)) htiles

/-- Settles O14: each operation stages its tokens, or places its request and waits for the grant. -/
theorem contextFiringsComplete : Obligations.ContextFiringsComplete := by
  refine ⟨?_, ?_, ?_, ?_, ?_⟩
  · intro s n f a b row r hready hr hctx hb hroom
    have hof : State.ctxOfR f = some (fld r.v 15 0) := by simp [State.ctxOfR, hr, hctx]
    rw [exec_fireChtag, execFireChtag, fire_of_ready hready, State.chtagOp, hof]
    dsimp only
    rw [hb, stage_eq_staged hroom]
    rfl
  · intro s n f a row hready hr
    rw [exec_fireSelf, execFireSelf, fire_of_ready hready, State.selfOp, stage_eq_staged hr]
  · intro s n f a row hready hr
    rw [exec_fireTagq, execFireTagq, fire_of_ready hready, State.tagqOp, stage_eq_staged hr]
  · intro s n f a row hready hr
    rw [exec_fireFreeact, execFireFreeact, fire_of_ready hready, State.freeactOp, stage_eq_staged hr]
  · intro s n f a row e hready he
    rw [exec_fireNewact, execFireNewact, fire_of_ready hready, State.newactOp, he]
    dsimp only
    rw [placeReq_waitFor s f _ rfl]
    cases e.fen <;> rfl

end Sys2Proof.Safety
end

section
/-! Retirement of PEs and the statistics of a tile (R75, R76). -/

namespace Sys2Proof.Safety
open Sys2Proof.Machine

variable {s s0 t : State} {a b : Nat}

/-! ### Registers that an operation leaves -/

theorem csrAddr_ne_of_off {b o p : Nat} (h : o ≠ p) : csrAddr b o ≠ csrAddr b p := by
  simp only [csrAddr]
  omega

theorem csrAddr_ne_of_block {b c o p : Nat} (h : b ≠ c) (ho : o < 0x10000) (hp : p < 0x10000) : csrAddr b o ≠ csrAddr c p := by
  simp only [csrAddr]
  omega

theorem csrAddr_le_of_block {b c o : Nat} (h : b ≤ c) : csrAddr b 0 ≤ csrAddr c o := by
  simp only [csrAddr]
  omega

/-- The registers that `P` names hold in `s` what they hold in `s0`. -/
def Keeps (P : Nat → Prop) (s0 s : State) : Prop := ∀ a, P a → s.rget a = s0.rget a

namespace Keeps
variable {P : Nat → Prop}

theorem refl : Keeps P s s := fun _ _ => rfl

theorem frame (h : Keeps P s0 s) (e : t.csr = s.csr) : Keeps P s0 t := fun a ha => (State.rget_congr e a).trans (h a ha)

theorem rset {v : Word} (h : Keeps P s0 s) (hb : ∀ a, P a → a ≠ b) : Keeps P s0 (s.rset b v) := fun a ha =>
  (State.rget_rset_ne s v (hb a ha)).trans (h a ha)

theorem ite {c : Prop} [Decidable c] (h : Keeps P s0 s) (g : Keeps P s0 t) : Keeps P s0 (if c then s else t) := by
  split
  · exact h
  · exact g

theorem raiseVector {v : Nat} (h : Keeps P s0 s) : Keeps P s0 (s.raiseVector v) := .ite h (.frame h rfl)

/-- A report of class C0 writes registers of the fault collector alone (R455, R456). -/
theorem collect {r : Report} (h : Keeps P s0 s) (hP : ∀ a, P a → csrAddr 4 0 ≤ a) (hr : r.cls = 0) :
    Keeps P s0 (s.collect r) := by
  have hne : ∀ o < 0x10000, ∀ a, P a → a ≠ csrAddr 3 o := by
    intro o ho a ha
    have := hP a ha
    simp only [csrAddr] at this ⊢
    omega
  have hlatch : Keeps P s0 (s.latch r.cls (s.record r)) := by
    rw [hr]
    exact .ite (h.rset (hne _ (by decide))) ((((h.rset (hne _ (by decide))).rset (hne _ (by decide))).rset
      (hne _ (by decide))).rset (hne _ (by decide))).raiseVector
  have hcount : Keeps P s0 ((s.latch r.cls (s.record r)).rinc (Reg.FCL_COUNT r.cls)) := by
    rw [hr] at hlatch ⊢
    exact hlatch.rset (hne _ (by decide))
  exact .ite (.frame hcount rfl) (.ite (.frame hcount rfl) (hcount.rset (hne _ (by decide))))

end Keeps

theorem rget_event_above {src loc code arg : Nat} (ha : csrAddr 4 0 ≤ a) :
    (s.event src loc code arg).rget a = s.rget a :=
  Keeps.refl.collect (P := fun a => csrAddr 4 0 ≤ a) (fun _ h => h) rfl a ha

/-- Registers cleared one after another: each of them holds 0, and no other has changed. -/
theorem rget_foldl_clear (s : State) (as : List Nat) (a : Nat) :
    (as.foldl (fun (s : State) a => s.rset a 0) s).rget a = if a ∈ as then 0 else s.rget a := by
  induction as generalizing s with
  | nil => rfl
  | cons b as ih =>
    rw [List.foldl_cons, ih]
    by_cases hb : a = b
    · subst hb
      simp
    · simp [hb, State.rget_rset_ne]

theorem foldl_clear_eq (s : State) (as : List Nat) :
    ∃ csr, as.foldl (fun (s : State) a => s.rset a 0) s = { s with csr := csr } := by
  induction as generalizing s with
  | nil => exact ⟨s.csr, rfl⟩
  | cons b as ih => exact ih (s.rset b 0)

theorem rwrite_eq (s : State) (a : Nat) (v : Word) : ∃ csr, s.rwrite a v = { s with csr := csr } := by
  unfold State.rwrite
  split
  · exact ⟨_, rfl⟩
  · exact ⟨s.csr, rfl⟩

/-! ### Statistics -/

/-- The counters that STATCLR clears on a tile (Table 2.17). -/
def statRegs (t : Nat) : List Nat :=
  Reg.TIL_FIRINGS t :: Reg.TIL_LOOKUPS t :: (List.range 17).flatMap (fun p => [Reg.PEX_FIRED t p, Reg.PEX_RETRY t p,
    Reg.PEX_SB_FWD t p, Reg.PEX_SB_FULL t p, Reg.PEX_IC_MISS t p, Reg.PEX_DC_MISS t p])

theorem tilControl_of_clear {t : Nat} {v : Word} (hv : bit v 4 = true) :
    s.tilControl t v = (statRegs t).foldl (fun (s : State) a => s.rset a 0) (s.rwrite (Reg.TIL_CTRL t) v) := by
  rw [State.tilControl, if_pos hv, statRegs, List.foldl_cons, List.foldl_cons, List.foldl_flatMap]

theorem pexCounters_mem_statRegs {t p : Nat} (hp : p < 17) : Reg.PEX_FIRED t p ∈ statRegs t ∧ Reg.PEX_RETRY t p ∈ statRegs t := by
  simp only [statRegs, List.mem_cons, List.mem_flatMap, List.mem_range]
  exact ⟨.inr (.inr ⟨p, hp, .inl rfl⟩), .inr (.inr ⟨p, hp, .inr (.inl rfl)⟩)⟩

/-! ### Retirement -/

/-- The state in which the spare of tile `t` has power (R440). -/
def sparePowered (s : State) (t : Nat) : State :=
  { s with
    power.doms := updAt s.power.doms (7 * t + 2) (fun _ => 1)
    power.moving := s.power.moving.filter (fun r => decide (r.1 ≠ 7 * t + 2))
    power.waiting := s.power.waiting.filter (fun d => decide (d ≠ 7 * t + 2)) }.rsetBit (Reg.PWR_TILE_CFG t) 2 false

/-- PE `k` comes into service in the place of PE `p`, which is RETIRED (R76, R468). -/
def swapPe (s : State) (t p k : Nat) : State :=
  (((((s.rsetFld (Reg.PEX_STATUS t k) 3 0 0).rsetFld (Reg.PEX_STATUS t p) 3 0 3).rsetBit (Reg.TIL_POOL t) p false).rsetBit
    (Reg.TIL_POOL t) k true).rset (Reg.TIL_SPARE t) 0x1F).rsetBit (Reg.PEX_CTRL t p) 0 false

theorem spareIn_eq_swapPe {t : Nat} (ht : t < 16) (s : State) (p : Nat) :
    s.spareIn t p = swapPe (sparePowered s t) t p (s.rfld (Reg.TIL_SPARE t) 4 0) := by
  have hspare : (sparePowered s t).rget (Reg.TIL_SPARE t) = s.rget (Reg.TIL_SPARE t) :=
    State.rget_rset_ne _ _ (csrAddr_ne_of_block (by omega) (by omega) (by omega))
  have hk : (sparePowered s t).rfld (Reg.TIL_SPARE t) 4 0 = s.rfld (Reg.TIL_SPARE t) 4 0 := congrArg (fld · 4 0) hspare
  exact congrArg (swapPe (sparePowered s t) t p) hk

theorem swapPe_regs {t p k : Nat} (hk : k < 17) (hp : p < 17) (hne : k ≠ p) :
    (swapPe s t p k).rfld (Reg.PEX_STATUS t p) 3 0 = 3 ∧ (swapPe s t p k).rfld (Reg.PEX_STATUS t k) 3 0 = 0 ∧
    (swapPe s t p k).rbit (Reg.TIL_POOL t) p = false ∧ (swapPe s t p k).rbit (Reg.TIL_POOL t) k = true ∧
    (swapPe s t p k).rget (Reg.TIL_SPARE t) = 0x1F ∧ (swapPe s t p k).rbit (Reg.PEX_CTRL t p) 0 = false := by
  simp only [swapPe, State.rsetBit_eq, State.rsetFld_eq, State.rfld, State.rbit, Reg.PEX_STATUS, Reg.TIL_POOL,
    Reg.TIL_SPARE, Reg.PEX_CTRL]
  simp (disch := (refine csrAddr_ne_of_off ?_; omega)) only [State.rget_rset_ne, State.rget_rset_same]
  refine ⟨fld_setFld_same _ _ (by decide), fld_setFld_same _ _ (by decide), ?_, bit_setBit_same _ _ (by omega), trivial,
    bit_setBit_same _ _ (by decide)⟩
  rw [bit_setBit_ne _ _ hne.symm, bit_setBit_same _ _ (by omega)]

theorem peRetireDone_of_empty {t p : Nat} (hr : s.rbit (Reg.PEX_CTRL t p) 0 = true) (hs : s.rfld (Reg.PEX_STATUS t p) 3 0 = 2)
    (hi : s.inflight t p = 0) (hk : s.rfld (Reg.TIL_SPARE t) 4 0 ≠ 0x1F)
    (hj : ∀ j ∈ s.recOpen, ¬(j.mech = 2 ∧ j.a = t ∧ j.b = p)) :
    s.peRetireDone t p = (s.spareIn t p).event (srcTile t 0) p 0x13 p := by
  have hopen : s.recOpen.any (fun j => decide (j.mech = 2 ∧ j.a = t ∧ j.b = p)) = false := by
    simpa [List.any_eq_false] using hj
  refine if_pos ?_
  rw [hr, hs, hi, hopen, decide_eq_true hk]
  rfl

theorem exec_peRetireComplete_of_alive {t p : Nat} (hd : s.dead = false) :
    exec (.peRetireComplete t p) s = .next (s.peRetireDone t p) := by
  rw [exec_peRetireComplete, execPeRetireComplete, State.onlyIf_pos s _ (by rw [hd]; rfl)]

/-- Settles O38: PE_RETIRE writes the PE's registers, PE_RETIRE_COMPLETE exchanges the PE and its spare, and STATCLR writes
0 to each counter. -/
theorem retirementAndStatisticsCommands : Obligations.RetirementAndStatisticsCommands := by
  refine ⟨?_, ?_, ?_, ?_, ?_⟩
  · intro s m t p v hw hv hs hk
    rw [exec_peRetire, execPeRetire, State.onlyIf_pos s _ hw]
    simp [State.peRetire, hv, hs, hk]
  · intro s m t p v hw hv hk
    rw [exec_peRetire, execPeRetire, State.onlyIf_pos s _ hw]
    simp [State.peRetire, hv, hk]
  · intro s t p hd ht hp hk hne hj hr hs hi
    have habove : ∀ o, csrAddr 4 0 ≤ csrAddr (0x10 + t) o := fun o => csrAddr_le_of_block (by omega)
    obtain ⟨hstatus, hspare, hout, hin, hnone, hctrl⟩ := swapPe_regs (s := sparePowered s t) (t := t) hk hp hne
    refine ⟨_, exec_peRetireComplete_of_alive hd, ?_⟩
    rw [peRetireDone_of_empty hr hs hi (by omega) hj, spareIn_eq_swapPe ht]
    refine ⟨?_, ?_, ?_, ?_, ?_, ?_, ?_, ?_⟩
    · exact (congrArg (fld · 3 0) (rget_event_above (habove _))).trans hstatus
    · exact (congrArg (fld · 3 0) (rget_event_above (habove _))).trans hspare
    · exact (congrArg (bit · p) (rget_event_above (habove _))).trans hout
    · exact (congrArg (bit · _) (rget_event_above (habove _))).trans hin
    · exact (rget_event_above (habove _)).trans hnone
    · exact (congrArg (bit · 0) (rget_event_above (habove _))).trans hctrl
    · rw [State.event_firings]
      rfl
    · rw [State.event_mem]
      rfl
  · intro s t p hi
    have hne : decide (s.inflight t p = 0) = false := decide_eq_false (by omega)
    rw [exec_peRetireComplete, execPeRetireComplete, State.onlyIf]
    simp [State.peRetireDone, hne]
  · intro s m t v _ hw hv
    obtain ⟨csr1, h1⟩ := rwrite_eq s (Reg.TIL_CTRL t) v
    obtain ⟨csr2, h2⟩ := foldl_clear_eq (s.rwrite (Reg.TIL_CTRL t) v) (statRegs t)
    have hclear : ∀ a ∈ statRegs t, (s.tilControl t v).rget a = 0 := fun a ha => by
      rw [tilControl_of_clear hv, rget_foldl_clear, if_pos ha]
    refine ⟨s.tilControl t v, ?_, hclear _ (by simp [statRegs]), hclear _ (by simp [statRegs]), ?_, ?_, ?_⟩
    · rw [exec_statclr, execStatclr, State.onlyIf_pos s _ hw]
    · intro p hp
      obtain ⟨hfired, hretry⟩ := pexCounters_mem_statRegs (t := t) hp
      exact ⟨hclear _ hfired, hclear _ hretry⟩
    · rw [tilControl_of_clear hv, h2, h1]
    · rw [tilControl_of_clear hv, h2, h1]

end Sys2Proof.Safety
end

section
/-! Tokens on their way, and what settles after a command: tokens leave their sources and wafers become COMPLETE; the registers
that an operation on memory leaves (R27, R61, R231, R426). -/

namespace Sys2Proof.Safety
open Sys2Proof.Machine

variable {s s0 t : State}

/-! ### Tokens that leave their sources -/

/-- A token as it waits at its source. -/
def atSource (k : Token) : Token := { k with vc := 0, sent := 0 }

theorem map_updAt_of_eq {α β : Type} {g : α → β} {f : α → α} (h : ∀ x, g (f x) = g x) (xs : List α) (i : Nat) :
    (updAt xs i f).map g = xs.map g := by
  induction xs generalizing i with
  | nil => rfl
  | cons x xs ih =>
    cases i with
    | zero => exact congrArg (· :: xs.map g) (h x)
    | succ i => exact congrArg (g x :: ·) (ih i)

/-- Between `s` and `t` some tokens have left their sources, and nothing else has happened. -/
def Injecting (s t : State) : Prop :=
  ∃ net n, t = { s with net := net, netSeq := n } ∧ net.map atSource = s.net.map atSource

theorem Injecting.refl : Injecting s s := ⟨s.net, s.netSeq, rfl, rfl⟩

theorem Injecting.trans (h : Injecting s0 s) (g : Injecting s t) : Injecting s0 t := by
  obtain ⟨net, n, rfl, hnet⟩ := h
  obtain ⟨net', n', rfl, hnet'⟩ := g
  exact ⟨net', n', rfl, hnet'.trans hnet⟩

theorem injectOne_injecting (s : State) (i : Nat) : Injecting s (s.injectOne i) := by
  unfold State.injectOne
  split
  · exact .refl
  · extract_lets c
    split
    · exact .refl
    · exact ⟨_, _, rfl, map_updAt_of_eq (f := fun x => { x with vc := c, sent := s.netSeq }) (g := atSource) (fun _ => rfl) _ _⟩

theorem inject_injecting (s : State) : Injecting s s.inject := by
  unfold State.inject
  split
  · exact .refl
  · exact List.foldlRecOn _ _ .refl fun u hu i _ => hu.trans (injectOne_injecting u i)

/-- After a command: tokens leave their sources, and the slots of wafers change. -/
theorem settle_eq (s : State) : ∃ net n slots,
    s.settle = { s with net := net, netSeq := n, slots := slots } ∧ net.map atSource = s.net.map atSource := by
  obtain ⟨net, n, hinject, hnet⟩ := inject_injecting s
  have hslots : ∀ (ks : List Nat) (u : State), ∃ slots, ks.foldl completeSlot u = { u with slots := slots } := by
    intro ks
    induction ks with
    | nil => exact fun u => ⟨u.slots, rfl⟩
    | cons k ks ih =>
      intro u
      obtain ⟨slots, h⟩ := ih (completeSlot u k)
      refine ⟨slots, h.trans ?_⟩
      unfold completeSlot
      dsimp only
      split <;> rfl
  obtain ⟨slots, hs⟩ := hslots (List.range 8) s.inject
  refine ⟨net, n, slots, ?_, hnet⟩
  rw [settle_eq_completeSlots, hs, hinject]

theorem sendTokens_eq (s : State) (ks : List Token) : ∃ net n,
    s.sendTokens ks = { s with net := net, netSeq := n } ∧ net.map atSource = (s.net ++ ks).map atSource :=
  inject_injecting { s with net := s.net ++ ks }

theorem carried_of_atSource {ks js : List Token} (h : ks.map atSource = js.map atSource) : carried ks = carried js := by
  have hfield : ∀ ks : List Token, carried ks = (ks.map atSource).map (fun k => (k.tag, k.tv)) := fun ks => by
    rw [List.map_map]
    rfl
  rw [hfield, hfield, h]

theorem carried_append (ks js : List Token) : carried (ks ++ js) = carried ks ++ carried js := List.map_append

theorem carried_settle (s : State) : carried s.settle.net = carried s.net := by
  obtain ⟨net, n, slots, h, hnet⟩ := settle_eq s
  rw [h]
  exact carried_of_atSource hnet

theorem carried_sendTokens (s : State) (ks : List Token) : carried (s.sendTokens ks).net = carried s.net ++ carried ks := by
  obtain ⟨net, n, h, hnet⟩ := sendTokens_eq s ks
  rw [h, ← carried_append]
  exact carried_of_atSource hnet

theorem incs_sendTokens (s : State) (ks : List Token) : (s.sendTokens ks).net.map (·.inc) = s.net.map (·.inc) ++ ks.map (·.inc) := by
  have hfield : ∀ ks : List Token, ks.map (·.inc) = (ks.map atSource).map (·.inc) := fun ks => by
    rw [List.map_map]
    rfl
  obtain ⟨net, n, h, hnet⟩ := sendTokens_eq s ks
  rw [h, ← List.map_append, hfield net, hfield (s.net ++ ks), hnet]

/-! ### Registers that memory leaves -/

/-- A register in the first 4 KiB of its block. -/
def LowReg (a : Nat) : Prop := a % 0x10000 < 0x1000

theorem LowReg.ne {a b o : Nat} (h : LowReg a) (hlo : 0x1000 ≤ o) (hhi : o < 0x10000) : a ≠ csrAddr b o := by
  unfold LowReg at h
  simp only [csrAddr, csrBase]
  omega

theorem ne_of_high {b o : Nat} (hlo : 0x1000 ≤ o) (hhi : o < 0x10000) : ∀ a, LowReg a → a ≠ csrAddr b o := fun _ h =>
  h.ne hlo hhi

theorem sdChannel_lt (a : Nat) : sdChannel a < 2 ^ 2 :=
  Nat.xor_lt_two_pow (Nat.xor_lt_two_pow (Nat.mod_lt _ (Nat.two_pow_pos 2)) (Nat.mod_lt _ (Nat.two_pow_pos 2)))
    (Nat.mod_lt _ (Nat.two_pow_pos 2))

theorem ne_sdcRead (c : Nat) : ∀ a, LowReg a → a ≠ Reg.SDC_CH_RDBYTES (sdChannel c) :=
  have := sdChannel_lt c
  ne_of_high (by omega) (by omega)

theorem ne_sdcWrite (c : Nat) : ∀ a, LowReg a → a ≠ Reg.SDC_CH_WRBYTES (sdChannel c) :=
  have := sdChannel_lt c
  ne_of_high (by omega) (by omega)

theorem ne_l2cHits (sl : Nat) : ∀ a, LowReg a → a ≠ Reg.L2C_HITS sl := ne_of_high (by decide) (by decide)

theorem ne_l2cMisses (sl : Nat) : ∀ a, LowReg a → a ≠ Reg.L2C_MISSES sl := ne_of_high (by decide) (by decide)

theorem ne_l2cWbacks (sl : Nat) : ∀ a, LowReg a → a ≠ Reg.L2C_WBACKS sl := ne_of_high (by decide) (by decide)

namespace Keeps

theorem foldl {α : Type} {P : Nat → Prop} {f : State → α → State} {xs : List α} (h : Keeps P s0 s)
    (hf : ∀ s x, Keeps P s0 s → Keeps P s0 (f s x)) : Keeps P s0 (xs.foldl f s) := by
  induction xs generalizing s with
  | nil => exact h
  | cons x xs ih => exact ih (hf s x h)

theorem rinc {P : Nat → Prop} {b : Nat} (h : Keeps P s0 s) (hb : ∀ a, P a → a ≠ b) : Keeps P s0 (s.rinc b) := h.rset hb

theorem radd {P : Nat → Prop} {b n : Nat} (h : Keeps P s0 s) (hb : ∀ a, P a → a ≠ b) : Keeps P s0 (s.radd b n) := h.rset hb

theorem sdWrite {a : Nat} {bs : List Byte} (h : Keeps LowReg s0 s) : Keeps LowReg s0 (s.sdWrite a bs) :=
  .radd (.radd (.frame h rfl) (ne_sdcRead a)) (ne_sdcWrite a)

theorem sdLine {line : Nat} (h : Keeps LowReg s0 s) : Keeps LowReg s0 (s.sdLine line).2 := by
  unfold State.sdLine
  split
  · exact h.radd (ne_sdcRead _)
  · exact h.radd (ne_sdcRead _)

theorem l2Set {f : L2Line} (h : Keeps LowReg s0 s) : Keeps LowReg s0 (s.l2Set f) := h.frame rfl

theorem l2Clean {f : L2Line} (h : Keeps LowReg s0 s) : Keeps LowReg s0 (s.l2Clean f) :=
  .ite (.l2Set (.rinc (.sdWrite h) (ne_l2cWbacks _))) h

theorem l2Inval {f : L2Line} (h : Keeps LowReg s0 s) : Keeps LowReg s0 (s.l2Inval f) := .ite (.frame h rfl) (.frame h rfl)

theorem l2Install {line : Nat} {d : BitVec 512} {dirty : Bool} (h : Keeps LowReg s0 s) :
    Keeps LowReg s0 (s.l2Install line d dirty) := by
  unfold State.l2Install
  extract_lets sl set ways fresh r w
  split
  · exact h.l2Set
  · split
    · exact h.l2Set
    · refine .ite (.ite h.sdWrite h) ?_
      have hr : Keeps LowReg s0 r.2 := h.frame rfl
      split
      · exact hr.l2Clean.l2Set
      · exact hr.l2Set

theorem storeLine {own : Option (Nat × Nat)} {a : Nat} {bs : List Byte} (h : Keeps LowReg s0 s) :
    Keeps LowReg s0 (s.storeLine own a bs) := by
  unfold State.storeLine
  extract_lets line l1
  have hl1 : ∀ u : State, Keeps LowReg s0 u → Keeps LowReg s0 (l1 u) := fun u hu => hu.frame rfl
  split
  · exact hl1 _ (h.frame rfl)
  · next attr sl miss _ _ =>
    have hmiss : ∀ u : State, Keeps LowReg s0 u → Keeps LowReg s0 (miss u) := by
      intro u hu
      have hinst : ∀ d b, Keeps LowReg s0 (((u.sdLine line).2.l2Install line d b).rinc (Reg.L2C_MISSES sl)) := fun d b =>
        hu.sdLine.l2Install.rinc (ne_l2cMisses sl)
      exact .ite (hu.sdWrite.rinc (ne_l2cMisses sl)) (.ite (hinst _ _).sdWrite (hinst _ _))
    refine .ite (hl1 _ h.sdWrite) ?_
    split
    · next f _ =>
      have hset : ∀ f, Keeps LowReg s0 ((s.l2Set f).rinc (Reg.L2C_HITS sl)) := fun f => h.l2Set.rinc (ne_l2cHits sl)
      exact .ite (hl1 _ (.ite (hset _).sdWrite (hset _))) (hl1 _ (hmiss _ h.l2Clean.l2Inval))
    · exact hl1 _ (hmiss _ h)
  · exact h

theorem memWrite {own : Option (Nat × Nat)} {a : Nat} {bs : List Byte} (h : Keeps LowReg s0 s) :
    Keeps LowReg s0 (s.memWrite own a bs) := by
  unfold State.memWrite
  generalize piecesOf a bs.length = ps
  induction ps generalizing s bs with
  | nil => exact h
  | cons p ps ih => exact ih h.storeLine

end Keeps

end Sys2Proof.Safety
end

section
/-! Grants of the scheduler and the release of flow items (R46, R260, R261, R265, R267). -/

namespace Sys2Proof.Safety
open Sys2Proof.Machine

variable {s : State}

/-! ### The lowest ID that no activation holds -/

theorem lowestFree_taken {j : Nat} : ∀ n k, k ≤ j → j < s.lowestFree n k → (s.act? j).isSome = true := by
  intro n
  induction n with
  | zero => exact fun k hkj hj => absurd hj (Nat.not_lt.2 hkj)
  | succ n ih =>
    intro k hkj hj
    rw [State.lowestFree] at hj
    split at hj
    · next htaken =>
      obtain rfl | hlt := Nat.eq_or_lt_of_le hkj
      · exact htaken
      · exact ih (k + 1) hlt hj
    · exact absurd hj (Nat.not_lt.2 hkj)

theorem lowestFree_free_of_lt : ∀ n k, s.lowestFree n k < k + n → s.act? (s.lowestFree n k) = none := by
  intro n
  induction n with
  | zero => exact fun k h => absurd h (by simp [State.lowestFree])
  | succ n ih =>
    intro k h
    rw [State.lowestFree] at h ⊢
    split at h
    · next htaken =>
      rw [if_pos htaken]
      exact ih (k + 1) (by omega)
    · next hfree =>
      rw [if_neg hfree]
      simpa using hfree

theorem act?_isSome_iff {i : Nat} : (s.act? i).isSome = true ↔ i ∈ s.acts.map (·.id) := by
  simp [State.act?]

/-- The IDs below the lowest free one are taken, and no more IDs are taken than there are activations (R261). -/
theorem act?_lowestFree : s.act? (s.lowestFree s.acts.length 0) = none := by
  generalize hk : s.lowestFree s.acts.length 0 = k
  by_contra htaken
  have hge : s.acts.length ≤ k := by
    by_contra hlt
    exact htaken (hk ▸ lowestFree_free_of_lt s.acts.length 0 (by omega))
  have hsub : List.range (k + 1) ⊆ s.acts.map (·.id) := by
    intro j hj
    rw [List.mem_range, Nat.lt_succ_iff_lt_or_eq] at hj
    refine act?_isSome_iff.1 ?_
    obtain hj | rfl := hj
    · exact lowestFree_taken s.acts.length 0 (Nat.zero_le j) (hk ▸ hj)
    · exact Option.isSome_iff_ne_none.2 htaken
  have hlen := (List.subperm_of_subset List.nodup_range hsub).length_le
  rw [List.length_range, List.length_map] at hlen
  omega

/-! ### A new activation -/

/-- The activation that a request starts, with its ID and its frame's address (R46). -/
def startedAct (r : StartReq) (e : Entry) (id fa : Nat) : Act :=
  { id := id, state := .live, slot := r.slot, inc := r.inc, wafer := r.wafer, epoch := r.epoch, desc := r.desc,
    base := e.prio, eff := e.prio, mode := e.mode, handler := e.handler, bases := e.bases, fa := fa, frame := e.frame,
    flags := 0, nd := false, flow := r.flow }

/-- The activation stands, its request has left the ready lists, and its slot is part of the flow of the request (R261, R264). -/
def startIn (s : State) (r : StartReq) (a : Act) : State :=
  { s with acts := a :: s.acts, startReqs := s.startReqs.filter (fun q => decide (q ≠ r)) }.updSlot r.slot (fun y =>
    { y with flows := (r.flow.toList ++ y.flows).eraseDups })

theorem createAct_eq (s : State) (r : StartReq) (e : Entry) : ∃ fa bs, s.createAct r e = (s.lowestFree s.acts.length 0,
    (startIn (s.drawNat.2.memWrite none fa bs) r (startedAct r e (s.lowestFree s.acts.length 0) fa)).rmax Reg.SCH_ACT_MAX
      ((s.drawNat.2.memWrite none fa bs).acts.length + 1)) :=
  ⟨_, _, rfl⟩

theorem rmax_frame (s : State) (a v : Nat) : ∃ csr, s.rmax a v = { s with csr := csr } := by
  unfold State.rmax
  split
  · exact ⟨_, rfl⟩
  · exact ⟨s.csr, rfl⟩

theorem Keeps.rmax {P : Nat → Prop} {s0 : State} {b v : Nat} (h : Keeps P s0 s) (hb : ∀ a, P a → a ≠ b) :
    Keeps P s0 (s.rmax b v) := .ite (h.rset hb) h

theorem localId_createAct (s : State) (r : StartReq) (e : Entry) : (s.createAct r e).2.localId = s.localId := by
  obtain ⟨fa, bs, h⟩ := createAct_eq s r e
  rw [h]
  have hne : ∀ a, LowReg a ∧ a ≠ Reg.SCH_ACT_MAX → a ≠ Reg.SCH_ACT_MAX := fun _ ha => ha.2
  have hdraw : Keeps LowReg s s.drawNat.2 := Keeps.refl.frame rfl
  have hmem : Keeps (fun a => LowReg a ∧ a ≠ Reg.SCH_ACT_MAX) s (startIn (s.drawNat.2.memWrite none fa bs) r
      (startedAct r e (s.lowestFree s.acts.length 0) fa)) := fun a ha => hdraw.memWrite a ha.1
  have hlow : LowReg Reg.FAB_ID := show Reg.FAB_ID % 0x10000 < 0x1000 by decide
  exact congrArg (fld · 9 0) (hmem.rmax hne Reg.FAB_ID ⟨hlow, by decide⟩)

theorem createAct_fields (s : State) (r : StartReq) (e : Entry) : ∃ fa,
    (s.createAct r e).1 = s.lowestFree s.acts.length 0 ∧
    (s.createAct r e).2.acts = startedAct r e (s.lowestFree s.acts.length 0) fa :: s.acts ∧
    (s.createAct r e).2.startReqs = s.startReqs.filter (fun q => decide (q ≠ r)) ∧ (s.createAct r e).2.net = s.net := by
  obtain ⟨fa, bs, h⟩ := createAct_eq s r e
  obtain ⟨m, csr, free, hmem⟩ := (MemStep.memWrite s.drawNat.2 none fa bs).frame
  obtain ⟨csr', hmax⟩ := rmax_frame
    (startIn (s.drawNat.2.memWrite none fa bs) r (startedAct r e (s.lowestFree s.acts.length 0) fa)) Reg.SCH_ACT_MAX
    ((s.drawNat.2.memWrite none fa bs).acts.length + 1)
  rw [h, hmax]
  refine ⟨fa, rfl, ?_, ?_, ?_⟩ <;>
    · rw [hmem]
      rfl

/-- The start token of a root leaves the scheduler with the wafer's number (R260). -/
theorem sendRoot_eq (s : State) (r : StartReq) (e : Entry) (id : Nat) : ∃ (k : Token) (u : State),
    s.sendRoot r e id = u.sendTokens [k] ∧
    u.acts = s.acts ∧ u.startReqs = s.startReqs ∧ u.net = s.net ∧ k.inc = r.inc ∧ carried [k] =
      [(mkTag s.localId id r.slot 0 e.entry 0, ⟨BitVec.ofNat 256 (r.wafer % 2 ^ 64), mkStatus 3 false false false 0⟩)] :=
  ⟨_, _, rfl, rfl, rfl, rfl, rfl, rfl⟩

theorem schedGrant_of_root {r : StartReq} {e : Entry} (hg : s.grantee = some r) (he : s.reqEntry r = some e)
    (hr : r.root = true) : s.schedGrant = (s.createAct r e).2.sendRoot r e (s.createAct r e).1 := by
  rw [State.schedGrant, hg]
  dsimp only
  rw [he]
  exact if_pos hr

theorem schedGrant_root {r : StartReq} {e : Entry} (hg : s.grantee = some r) (he : s.reqEntry r = some e) (hr : r.root = true) :
    ∃ fa, s.schedGrant.acts = startedAct r e (s.lowestFree s.acts.length 0) fa :: s.acts ∧
      s.schedGrant.startReqs = s.startReqs.filter (fun q => decide (q ≠ r)) ∧
      carried s.schedGrant.net = carried s.net ++ [(mkTag s.localId (s.lowestFree s.acts.length 0) r.slot 0 e.entry 0,
        ⟨BitVec.ofNat 256 (r.wafer % 2 ^ 64), mkStatus 3 false false false 0⟩)] ∧
      s.schedGrant.net.map (·.inc) = s.net.map (·.inc) ++ [r.inc] := by
  obtain ⟨fa, hid, hacts, hreqs, hnet⟩ := createAct_fields s r e
  obtain ⟨k, u, hsend, hua, hur, hun, hinc, hk⟩ := sendRoot_eq (s.createAct r e).2 r e (s.createAct r e).1
  obtain ⟨net, n, htok, -⟩ := sendTokens_eq u [k]
  rw [schedGrant_of_root hg he hr, hsend]
  refine ⟨fa, ?_, ?_, ?_, ?_⟩
  · rw [htok]
    exact hua.trans hacts
  · rw [htok]
    exact hur.trans hreqs
  · rw [carried_sendTokens, hun, hnet, hk, localId_createAct, hid]
  · rw [incs_sendTokens, hun, hnet, ← hinc]
    rfl

/-! ### Flows -/

/-- The first of the least elements of a list is the one that the list's fold keeps. -/
theorem foldl_least {α : Type} {f : Option α → α → Option α} {w : α → Nat} (hnone : ∀ x, f none x = some x)
    (hsome : ∀ x y, f (some x) y = if w y < w x then some y else some x) {r : α} {xs : List α} (hr : r ∈ xs)
    (hmin : ∀ x ∈ xs, x = r ∨ w r < w x) : xs.foldl f none = some r := by
  have hacc : ∀ xs : List α, (∀ x ∈ xs, x = r ∨ w r < w x) → ∀ y, (y = r ∨ w r < w y) → (y = r ∨ r ∈ xs) →
      xs.foldl f (some y) = some r := by
    intro xs
    induction xs with
    | nil => exact fun _ y _ h => congrArg some (h.resolve_right List.not_mem_nil)
    | cons x xs ih =>
      intro h y hy hmem
      obtain ⟨hx, hxs⟩ := List.forall_mem_cons.1 h
      rw [List.mem_cons] at hmem
      rw [List.foldl_cons, hsome]
      split
      · next hlt =>
        refine ih hxs x hx ?_
        obtain rfl | rfl | hin := hmem
        · exact .inl (hx.resolve_right (Nat.lt_asymm hlt))
        · exact .inl rfl
        · exact .inr hin
      · next hge =>
        refine ih hxs y hy ?_
        obtain rfl | rfl | hin := hmem
        · exact .inl rfl
        · exact .inl (hy.resolve_right hge)
        · exact .inr hin
  cases xs with
  | nil => exact absurd hr List.not_mem_nil
  | cons x xs =>
    obtain ⟨hx, hxs⟩ := List.forall_mem_cons.1 hmin
    rw [List.foldl_cons, hnone]
    exact hacc xs hxs x hx ((List.mem_cons.1 hr).imp Eq.symm id)

/-- The item of a flow with the lowest wafer number becomes ready where the flow serves no other, nothing holds it, and no older wafer
is in flight (R265, R419). -/
theorem flowRelease_of_oldest {fl : Nat} {r : StartReq} (hr : r ∈ s.flowQ) (hfl : r.flow = some fl)
    (hmin : ∀ x ∈ s.flowQ, x.flow = some fl → x = r ∨ r.wafer < x.wafer) : s.flowRelease fl =
      if !s.flowBusy fl && !s.flowHeld fl && s.slots.all (fun k => decide (k.state = 0 ∨ r.wafer ≤ k.wafer ∨ k.state = 2)) then
        { s with flowQ := s.flowQ.filter (fun x => decide (x ≠ r)), startReqs := State.readyAt r s.startReqs }
      else s := by
  unfold State.flowRelease
  extract_lets q best
  have hbest : best = some r := by
    refine foldl_least (w := (·.wafer)) (fun _ => rfl) (fun _ _ => rfl) (List.mem_filter.2 ⟨hr, decide_eq_true hfl⟩) ?_
    intro x hx
    obtain ⟨hx, hxfl⟩ := List.mem_filter.1 hx
    exact hmin x hx (of_decide_eq_true hxfl)
  rw [hbest]

theorem flowRelease_of_held {fl : Nat} (h : s.flowBusy fl = true ∨ s.flowHeld fl = true) : s.flowRelease fl = s := by
  unfold State.flowRelease
  extract_lets q best
  clear_value best
  cases best with
  | none => rfl
  | some r => obtain h | h := h <;> simp [h]

/-- The state after the warning for an item of a flow queue, but for its report (R267). -/
def warned (s : State) (r : StartReq) : State :=
  { s with flowQ := s.flowQ.map (fun x => if x = r then { x with warned := true } else x) }.rsetBit Reg.SCH_STATUS 3 true

theorem flowWarn_of_late {n : Nat} {r : StartReq} (hn : s.flowQ[n]? = some r) (hw : r.warned = false)
    (hlate : r.arr + clampNat 100 1000000 (s.rfld Reg.SCH_FLOW_WARN 19 0) * 1000 ≤ s.now) : s.flowWarn n =
      if s.rbit Reg.SCH_CTRL 0 then (warned s r).collect { Report.plain 0 0x080 0x10 0 0x50 with wafer := some r.wafer }
      else warned s r := by
  rw [State.flowWarn, hn]
  exact if_pos (by simp [hw, hlate])

theorem flowWarn_of_early {n : Nat} {r : StartReq} (hn : s.flowQ[n]? = some r)
    (hearly : s.now < r.arr + clampNat 100 1000000 (s.rfld Reg.SCH_FLOW_WARN 19 0) * 1000) : s.flowWarn n = s := by
  rw [State.flowWarn, hn]
  exact if_neg (by simp [hearly])

theorem flowWarn_spec {n : Nat} {r : StartReq} (hn : s.flowQ[n]? = some r) (hw : r.warned = false)
    (hlate : r.arr + clampNat 100 1000000 (s.rfld Reg.SCH_FLOW_WARN 19 0) * 1000 ≤ s.now) :
    (s.flowWarn n).rbit Reg.SCH_STATUS 3 = true ∧ (s.flowWarn n).startReqs = s.startReqs ∧
    (s.flowWarn n).flowQ = s.flowQ.map (fun x => if x = r then { x with warned := true } else x) := by
  have hbit : (warned s r).rbit Reg.SCH_STATUS 3 = true := by
    rw [warned, State.rsetBit_eq, State.rbit, State.rget_rset_same]
    exact bit_setBit_same _ _ (by decide)
  rw [flowWarn_of_late hn hw hlate]
  split
  · refine ⟨?_, ?_, ?_⟩
    · have hkeep := Keeps.refl.collect (P := (· = Reg.SCH_STATUS)) (s := warned s r)
        (r := { Report.plain 0 0x080 0x10 0 0x50 with wafer := some r.wafer })
        (fun a ha => ha ▸ csrAddr_le_of_block (by decide)) rfl Reg.SCH_STATUS rfl
      exact (congrArg (bit · 3) hkeep).trans hbit
    · simp [warned]
    · simp [warned]
  · exact ⟨hbit, rfl, rfl⟩

/-- Settles O44: a root's grant by the fields of the new activation, a flow's release by the least wafer number of its queue. -/
theorem theSchedulerGrantsAndReleases : Obligations.TheSchedulerGrantsAndReleases := by
  unfold Obligations.TheSchedulerGrantsAndReleases
  refine ⟨?_, ?_, ?_, ?_, ?_, ?_⟩
  · intro s r e hd hg he hr
    obtain ⟨fa, hacts, hreqs, hcarried, hincs⟩ := schedGrant_root hg he hr
    refine ⟨s.schedGrant, by simp [exec_schedGrant, execSchedGrant, hd], startedAct r e (s.lowestFree s.acts.length 0) fa, hacts,
      act?_lowestFree, fun j hj => lowestFree_taken _ 0 (Nat.zero_le j) hj, rfl, rfl, rfl, rfl, rfl, rfl, rfl, rfl, rfl, rfl,
      hreqs, hcarried, hincs⟩
  · intro s hg
    have hgrant : s.schedGrant = s := by rw [State.schedGrant, hg]
    simp [exec_schedGrant, execSchedGrant, State.onlyIf, hgrant]
  · intro s fl r hd hr hfl hmin
    have hexec : exec (.flowItemRelease fl) s = .next (s.flowRelease fl) := by
      rw [exec_flowItemRelease, execFlowItemRelease, State.onlyIf_pos s _ (by rw [hd]; rfl)]
    rw [hexec, flowRelease_of_oldest hr hfl hmin]
    refine ⟨?_, ?_⟩
    · intro hbusy hheld hslots
      rw [if_pos]
      simpa [hbusy, hheld] using hslots
    · rintro ⟨k, hk, h0, h2, hlt⟩
      rw [if_neg]
      have hstop : s.slots.all (fun k => decide (k.state = 0 ∨ r.wafer ≤ k.wafer ∨ k.state = 2)) = false := by
        refine List.all_eq_false.2 ⟨k, hk, ?_⟩
        simp [h0, h2, hlt]
      rw [hstop, Bool.and_false]
      exact Bool.false_ne_true
  · intro s fl h
    rw [exec_flowItemRelease, execFlowItemRelease, State.onlyIf, flowRelease_of_held h, ite_self]
  · intro s n r hd hn hw hlate
    refine ⟨s.flowWarn n, ?_, flowWarn_spec hn hw hlate⟩
    rw [exec_flowWaitWarning, execFlowWaitWarning, State.onlyIf_pos s _ (by rw [hd]; rfl)]
  · intro s n r hn hearly
    rw [exec_flowWaitWarning, execFlowWaitWarning, State.onlyIf, flowWarn_of_early hn hearly, ite_self]

end Sys2Proof.Safety
end

section
/-! The occupancy of a tile's matching store: what follows its change, and entries that come and go (R85 to R99). -/

namespace Sys2Proof.Safety
open Sys2Proof.Machine

variable {s s0 u : State} {t : Nat}

/-! ### What a change of occupancy leaves -/

/-- A register of the tiles or of a later block, in the first 4 KiB of its block: no counter of a matching store. -/
def TileReg (a : Nat) : Prop := LowReg a ∧ csrAddr 0x10 0 ≤ a

theorem TileReg.ne {b o : Nat} (hlo : 0x1000 ≤ o) (hhi : o < 0x10000) : ∀ a, TileReg a → a ≠ csrAddr b o := fun _ h =>
  h.1.ne hlo hhi

theorem TileReg.above : ∀ a, TileReg a → csrAddr 4 0 ≤ a := fun _ h => (csrAddr_le_of_block (by decide)).trans h.2

theorem tileReg_of {b o : Nat} (hb : 0x10 ≤ b) (ho : o < 0x1000) : TileReg (csrAddr b o) := by
  refine ⟨?_, csrAddr_le_of_block hb⟩
  simp only [LowReg, csrAddr, csrBase]
  omega

/-- A state without its tiles' modes, the throttle, the registers and the logs: what a change of occupancy leaves (R88 to R99). -/
def beyondOccupancy (s : State) : State :=
  { s with csr := [], fclLog := [], pins := Reset.pins, tiles := [], throttle := false }

theorem beyondOccupancy_raiseVector (s : State) (v : Nat) : beyondOccupancy (s.raiseVector v) = beyondOccupancy s := by
  unfold State.raiseVector
  split <;> rfl

theorem beyondOccupancy_rset (s : State) (a : Nat) (v : Word) : beyondOccupancy (s.rset a v) = beyondOccupancy s := rfl

theorem beyondOccupancy_latch (s : State) (c : Nat) (fr : FclRec) : beyondOccupancy (s.latch c fr) = beyondOccupancy s := by
  unfold State.latch
  split
  · exact beyondOccupancy_rset _ _ _
  · simp only [beyondOccupancy_raiseVector, beyondOccupancy_rset]

theorem beyondOccupancy_logRecord (s : State) (c : Nat) (fr : FclRec) :
    beyondOccupancy (s.logRecord c fr) = beyondOccupancy s := by
  unfold State.logRecord
  split
  · rfl
  · split <;> rfl

theorem beyondOccupancy_collect (s : State) (r : Report) : beyondOccupancy (s.collect r) = beyondOccupancy s :=
  (beyondOccupancy_logRecord _ _ _).trans ((beyondOccupancy_rset _ _ _).trans (beyondOccupancy_latch s r.cls (s.record r)))

/-- From `s0` to `s`, tiles have changed their modes and events have been reported; nothing else has happened. -/
structure Occupies (s0 s : State) : Prop where
  parts : beyondOccupancy s = beyondOccupancy s0
  regs : Keeps TileReg s0 s

namespace Occupies

theorem refl : Occupies s s := ⟨rfl, .refl⟩

theorem mst (h : Occupies s0 s) : s.mst = s0.mst :=
  have e := congrArg State.mst h.parts
  e

theorem net (h : Occupies s0 s) : s.net = s0.net :=
  have e := congrArg State.net h.parts
  e

theorem firings (h : Occupies s0 s) : s.firings = s0.firings :=
  have e := congrArg State.firings h.parts
  e

theorem acts (h : Occupies s0 s) : s.acts = s0.acts :=
  have e := congrArg State.acts h.parts
  e

theorem storeBuf (h : Occupies s0 s) : s.storeBuf = s0.storeBuf :=
  have e := congrArg State.storeBuf h.parts
  e


/-- A change of parts that occupancy may change too. -/
theorem frame (h : Occupies s0 s) (hp : beyondOccupancy u = beyondOccupancy s) (hr : u.csr = s.csr) : Occupies s0 u :=
  ⟨hp.trans h.parts, h.regs.frame hr⟩

theorem ite {c : Prop} [Decidable c] (h : Occupies s0 s) (g : Occupies s0 u) : Occupies s0 (if c then s else u) := by
  split
  · exact h
  · exact g

theorem updTile {f : Tile → Tile} (h : Occupies s0 s) : Occupies s0 (s.updTile t f) := h.frame rfl rfl

theorem progress {k : Nat} (h : Occupies s0 s) : Occupies s0 (s.progress k) := h.frame rfl rfl

theorem rset {b : Nat} {v : Word} (h : Occupies s0 s) (hb : ∀ a, TileReg a → a ≠ b) : Occupies s0 (s.rset b v) :=
  ⟨h.parts, h.regs.rset hb⟩

theorem rmax {b v : Nat} (h : Occupies s0 s) (hb : ∀ a, TileReg a → a ≠ b) : Occupies s0 (s.rmax b v) := .ite (h.rset hb) h

theorem collect {r : Report} (h : Occupies s0 s) (hr : r.cls = 0) : Occupies s0 (s.collect r) :=
  ⟨(beyondOccupancy_collect s r).trans h.parts, h.regs.collect TileReg.above hr⟩

theorem event {src loc code arg : Nat} (h : Occupies s0 s) : Occupies s0 (s.event src loc code arg) := h.collect rfl

theorem enterOldest (h : Occupies s0 s) : Occupies s0 (s.enterOldest t) := by
  unfold State.enterOldest
  split
  · exact h
  · extract_lets en s1 s2 s3
    have h1 : Occupies s0 s1 := h.updTile
    have h2 : Occupies s0 s2 := .ite h1 (h1.rset (TileReg.ne (by decide) (by decide))).event
    have h3 : Occupies s0 s3 := List.foldlRecOn _ _ h2 fun v hv k _ => .ite hv hv.progress
    exact ((h3.rset (TileReg.ne (by decide) (by decide))).rset (TileReg.ne (by decide) (by decide))).event

theorem leaveOldest (h : Occupies s0 s) : Occupies s0 (s.leaveOldest t) := .ite h.updTile h

theorem throttleEval (h : Occupies s0 s) : Occupies s0 (s.throttleEval t) := by
  have h1 : Occupies s0 ({ s with throttle := true }.rsetBit (Reg.MST_STATUS t) 3 true) :=
    .rset (h.frame rfl rfl) (TileReg.ne (by decide) (by decide))
  exact .ite (.ite (h.frame rfl rfl) h) (.ite (.ite h1.event h1) h)

theorem spillEval (h : Occupies s0 s) : Occupies s0 (s.spillEval t) := by
  have h1 : Occupies s0 ((s.updTile t (fun x => { x with spilling := true })).rsetBit (Reg.MST_STATUS t) 4 true) :=
    h.updTile.rset (TileReg.ne (by decide) (by decide))
  exact .ite (.ite h.updTile h) (.ite (.ite (.ite h1.event h1) h.enterOldest) h)

theorem occChanged (h : Occupies s0 s) : Occupies s0 (s.occChanged t) :=
  (((h.rmax (TileReg.ne (by decide) (by decide))).throttleEval).spillEval).leaveOldest

theorem dlAppear {k : Nat} (h : Occupies s0 s) : Occupies s0 (s.dlAppear t k) := h.updTile

end Occupies

/-! ### Entries that come and go -/

/-- An entry put into a way stands there, and nothing but the occupancy has changed. -/
theorem putWay_occupies (s : State) (t b st w : Nat) (e : MEntry) :
    Occupies { s with mst := s.mst ++ [{ e with place := .way b st w }] } (s.putWay t b st w e) :=
  Occupies.refl.dlAppear.occChanged

theorem insertEntry_of_freeWay {e : MEntry} {key w : Nat} (hk : e.key = key) (h : FreeWay s t key w) (isNew : Bool)
    (busy : MEntry → Bool) :
    s.insertEntry t e isNew busy = (true, s.putWay t (s.bankSet t key).1 (s.bankSet t key).2 w e) := by
  subst hk
  unfold State.insertEntry
  extract_lets bs here
  split
  · next w' hw =>
    obtain rfl : w' = w := Option.some.inj (hw.symm.trans h)
    rfl
  · next hnone => exact absurd (hnone.symm.trans h) (by simp)

theorem freeStale_of_current {key inc : Nat} (h : ∀ e ∈ s.mst, e.tile = t → e.key = key → e.inc = inc) :
    s.freeStale t key inc = s := by
  unfold State.freeStale
  extract_lets old
  have hold : old = [] := by
    refine List.filter_eq_nil_iff.2 fun e he hc => ?_
    obtain ⟨htile, hkey, hinc⟩ := of_decide_eq_true hc
    exact hinc (h e he htile hkey)
  rw [hold]
  rfl

end Sys2Proof.Safety
end

section
/-! What a quarantine unwinds: firings, lock waits and holds, entries and packets (R52, R282 to R286). -/

namespace Sys2Proof.Safety
open Sys2Proof.Machine

variable {s s0 u : State}

/-- From `s0` to `s`, firings have gone or changed their waits, and activations their levels and flags; registers of the tiles and
the committed stores are the same, and so is what each activation is in. -/
structure Unwinds (s0 s : State) : Prop where
  regs : Keeps TileReg s0 s
  storeBuf : s.storeBuf = s0.storeBuf
  acts : s.acts.map (fun a => (a.id, a.state)) = s0.acts.map (fun a => (a.id, a.state))
  firings : ∀ g ∈ s.firings, ∃ f ∈ s0.firings, f.id = g.id ∧ f.act = g.act

namespace Unwinds

theorem refl : Unwinds s s := ⟨.refl, rfl, rfl, fun g hg => ⟨g, hg, rfl, rfl⟩⟩

theorem trans (h : Unwinds s0 s) (g : Unwinds s u) : Unwinds s0 u where
  regs a ha := (g.regs a ha).trans (h.regs a ha)
  storeBuf := g.storeBuf.trans h.storeBuf
  acts := g.acts.trans h.acts
  firings x hx := by
    obtain ⟨y, hy, hyid, hyact⟩ := g.firings x hx
    obtain ⟨z, hz, hzid, hzact⟩ := h.firings y hy
    exact ⟨z, hz, hzid.trans hyid, hzact.trans hyact⟩

/-- An operation on other parts of the state. -/
theorem beside (h : Unwinds s0 s) (hr : Keeps TileReg s u) (hb : u.storeBuf = s.storeBuf) (ha : u.acts = s.acts)
    (hf : u.firings = s.firings) : Unwinds s0 u :=
  h.trans ⟨hr, hb, congrArg _ ha, fun g hg => ⟨g, hf ▸ hg, rfl, rfl⟩⟩

theorem frame (h : Unwinds s0 s) (hr : u.csr = s.csr) (hb : u.storeBuf = s.storeBuf) (ha : u.acts = s.acts)
    (hf : u.firings = s.firings) : Unwinds s0 u := h.beside (Keeps.refl.frame hr) hb ha hf

theorem ite {c : Prop} [Decidable c] (h : Unwinds s0 s) (g : Unwinds s0 u) : Unwinds s0 (if c then s else u) := by
  split
  · exact h
  · exact g

theorem foldl {α : Type} {f : State → α → State} {xs : List α} (h : Unwinds s0 s)
    (hf : ∀ s x, Unwinds s0 s → Unwinds s0 (f s x)) : Unwinds s0 (xs.foldl f s) := List.foldlRecOn _ _ h fun u hu x _ => hf u x hu

theorem rset {b : Nat} {v : Word} (h : Unwinds s0 s) (hb : ∀ a, TileReg a → a ≠ b) : Unwinds s0 (s.rset b v) :=
  h.beside (Keeps.refl.rset hb) rfl rfl rfl

theorem ofOccupies (h : Unwinds s0 s) (g : Occupies s u) : Unwinds s0 u := h.beside g.regs g.storeBuf g.acts g.firings

theorem event {src loc code arg : Nat} (h : Unwinds s0 s) : Unwinds s0 (s.event src loc code arg) :=
  h.ofOccupies Occupies.refl.event

theorem occChanged {t : Nat} (h : Unwinds s0 s) : Unwinds s0 (s.occChanged t) := h.ofOccupies Occupies.refl.occChanged

/-- Activations keep their numbers and states under a change of their other parts. -/
theorem updAct {id : Nat} {f : Act → Act} (h : Unwinds s0 s) (hid : ∀ a, (f a).id = a.id) (hst : ∀ a, (f a).state = a.state) :
    Unwinds s0 (s.updAct id f) := by
  refine h.trans ⟨.refl, rfl, ?_, fun g hg => ⟨g, hg, rfl, rfl⟩⟩
  rw [State.updAct, List.map_map]
  refine List.map_congr_left fun a _ => ?_
  rw [Function.comp_apply]
  split
  · rw [hid, hst]
  · rfl

/-- Firings keep their numbers and activations under a change of their other parts. -/
theorem mapFirings {p : Firing → Prop} [DecidablePred p] {f : Firing → Firing} (h : Unwinds s0 s) (hid : ∀ g, (f g).id = g.id)
    (hact : ∀ g, (f g).act = g.act) :
    Unwinds s0 { s with firings := s.firings.map (fun g => if p g then f g else g) } := by
  refine h.trans ⟨.refl, rfl, rfl, fun g hg => ?_⟩
  obtain ⟨x, hx, rfl⟩ := List.mem_map.1 hg
  refine ⟨x, hx, ?_⟩
  split
  · exact ⟨(hid x).symm, (hact x).symm⟩
  · exact ⟨rfl, rfl⟩

/-! ### Memory and crumbs -/

theorem sdWrite {a : Nat} {bs : List Byte} (h : Unwinds s0 s) : Unwinds s0 (s.sdWrite a bs) :=
  h.beside (fun r hr => Keeps.sdWrite .refl r hr.1) rfl rfl rfl

theorem ne_of_block {b o : Nat} (hb : b < 0x10) (ho : o < 0x10000) : ∀ a, TileReg a → a ≠ csrAddr b o := by
  intro a ha
  have := ha.2
  simp only [csrAddr] at this ⊢
  omega

theorem ringWrite {cs : List (BitVec 128)} (h : Unwinds s0 s) : Unwinds s0 (s.ringWrite cs) :=
  h.foldl fun _ _ hu => hu.sdWrite.rset (ne_of_block (by decide) (by decide))

theorem ringItem {w : Bool} {cs : List (BitVec 128)} (h : Unwinds s0 s) : Unwinds s0 (s.ringItem w cs) := by
  unfold State.ringItem
  extract_lets size used all s1
  have h1 : Unwinds s0 s1 := ringWrite (h.frame rfl rfl rfl rfl)
  have hreg : ∀ {v : State} {b o : Nat} {w : Word}, Unwinds s0 v → b < 0x10 → o < 0x10000 →
      Unwinds s0 (v.rset (csrAddr b o) w) := fun hv hb ho => hv.rset (ne_of_block hb ho)
  have hover : ∀ w, Unwinds s0 ((s1.rset Reg.SCH_TRC_RD w).rsetBit Reg.SCH_STATUS 2 true) := fun _ =>
    hreg (hreg h1 (by decide) (by decide)) (by decide) (by decide)
  have hlost : Unwinds s0 (({ s with trcLost := s.trcLost + cs.length }.radd Reg.SCH_TRC_LOST cs.length).rsetBit
      Reg.SCH_STATUS 1 true) :=
    hreg (hreg (h.frame rfl rfl rfl rfl) (by decide) (by decide)) (by decide) (by decide)
  exact .ite (.ite (hover _) h1) (.ite h1 hlost)

theorem decision {kind inc slot low : Nat} {d : Word} (h : Unwinds s0 s) : Unwinds s0 (s.decision kind inc slot low d) :=
  .ite h.ringItem h

theorem lockCrumb {kind k low : Nat} {o : Owner} (h : Unwinds s0 s) : Unwinds s0 (s.lockCrumb kind k low o) := h.decision

theorem waferCrumb {kind slot p : Nat} {d : Word} (h : Unwinds s0 s) : Unwinds s0 (s.waferCrumb kind slot p d) := by
  have hslot : ∀ f, Unwinds s0 (s.updSlot slot f) := fun f => h.frame rfl rfl rfl rfl
  have hdrop : ∀ f v, Unwinds s0 ((s.updSlot slot f).rset Reg.SCH_TRC_DROP v) := fun f _ =>
    (hslot f).rset (ne_of_block (by decide) (by decide))
  exact .ite (.ite (.ite (hslot _).sdWrite (hslot _)) (hdrop _ _)) h

/-! ### Locks -/

theorem setLock {l : Lock} (h : Unwinds s0 s) : Unwinds s0 (s.setLock l) := h.frame rfl rfl rfl rfl

theorem relevelOne {k : Nat} {o : Owner} (h : Unwinds s0 s) : Unwinds s0 (s.relevelOne k o) := by
  unfold State.relevelOne
  split
  · exact h.frame rfl rfl rfl rfl
  · extract_lets e old s1 r s2
    have hnote : Unwinds s0 (s.noteLevel o e) := h.frame rfl rfl rfl rfl
    have h1 : Unwinds s0 s1 := hnote.lockCrumb.rset (ne_of_block (by decide) (by decide))
    have h2 : Unwinds s0 s2 := .ite (h1.frame rfl rfl rfl rfl) h1
    exact .ite h (.ite (h1.updAct (fun _ => rfl) (fun _ => rfl)) (.ite (h2.frame rfl rfl rfl rfl) h2))

theorem relevel {k : Nat} (h : Unwinds s0 s) : Unwinds s0 (s.relevel k) := h.foldl fun _ _ hu => hu.relevelOne

theorem lockGive {l : Lock} {o : Owner} {b fid : Nat} (h : Unwinds s0 s) : Unwinds s0 (s.lockGive l o b fid) := by
  unfold State.lockGive
  extract_lets st s1 s2 r s3
  have h2 : Unwinds s0 s2 := (h.setLock.rset (ne_of_block (by decide) (by decide))).lockCrumb
  have h3 : Unwinds s0 s3 := h2.frame rfl rfl rfl rfl
  exact .ite (h2.mapFirings (fun _ => rfl) (fun _ => rfl)) (.ite (h3.frame rfl rfl rfl rfl) h3)

theorem lockGrantNext {k : Nat} (h : Unwinds s0 s) : Unwinds s0 (s.lockGrantNext k) := by
  unfold State.lockGrantNext
  extract_lets l
  refine .ite h ?_
  split
  · exact h
  · exact (h.rset (ne_of_block (by decide) (by decide))).lockGive

theorem lockFree {k : Nat} (h : Unwinds s0 s) : Unwinds s0 (s.lockFree k) := h.setLock.lockGrantNext.relevel

theorem markAbandoned {k cause : Nat} {o : Owner} (h : Unwinds s0 s) : Unwinds s0 (s.markAbandoned k cause o) := by
  unfold State.markAbandoned
  extract_lets l s1 s2
  have h2 : Unwinds s0 s2 := (h.setLock.lockCrumb.rset (ne_of_block (by decide) (by decide))).rset
    (ne_of_block (by decide) (by decide))
  exact .ite h2.event h2

theorem abandonAll {mine : Owner → Bool} {cause : Nat} (h : Unwinds s0 s) : Unwinds s0 (s.abandonAll mine cause) :=
  (h.foldl fun _ _ hu => hu.markAbandoned).foldl fun _ _ hu => hu.lockGrantNext.relevel

theorem withdrawWaits {mine : Owner → Bool} (h : Unwinds s0 s) : Unwinds s0 (s.withdrawWaits mine) :=
  h.foldl fun _ _ hu => hu.setLock.relevel

/-! ### Entries and packets -/

theorem bucketSync {t b : Nat} (h : Unwinds s0 s) : Unwinds s0 (s.bucketSync t b) := .ite h.sdWrite h

theorem takeTable {t : Nat} {e : MEntry} (h : Unwinds s0 s) : Unwinds s0 (s.takeTable t e) := by
  unfold State.takeTable
  extract_lets v0 v1
  have h0 : Unwinds s0 v0 := h.frame rfl rfl rfl rfl
  have h1 : Unwinds s0 v1 := by
    unfold v1
    split
    · exact h0.bucketSync
    · exact h0
  exact .ite (.foldl (h1.frame rfl rfl rfl rfl) fun _ _ hu => hu.bucketSync) h1

theorem wakeChannel (h : Unwinds s0 s) : Unwinds s0 s.wakeChannel := h.mapFirings (fun _ => rfl) (fun _ => rfl)

theorem rewindDead (h : Unwinds s0 s) : Unwinds s0 s.rewindDead := wakeChannel (h.frame rfl rfl rfl rfl)

theorem sumFlags {a : Act} (h : Unwinds s0 s) : Unwinds s0 (s.sumFlags a) := .ite (h.frame rfl rfl rfl rfl) h

theorem settle (h : Unwinds s0 s) : Unwinds s0 s.settle := by
  obtain ⟨net, n, slots, he, -⟩ := settle_eq s
  rw [he]
  exact h.frame rfl rfl rfl rfl

end Unwinds

/-! ### Firings that are dropped -/

/-- The firing gone with its requests and reads, before its lock waits are withdrawn (R52). -/
def withoutFiring (s0 : State) (f : Firing) : State :=
  let s := s0.retryGone f.id
  { s with
    firings := s.firings.filter (fun x => decide (x.id ≠ f.id))
    startReqs := s.startReqs.filter (fun r => r.root || decide (r.firing ≠ f.id))
    flowQ := s.flowQ.filter (fun r => r.root || decide (r.firing ≠ f.id))
    deferred := s.deferred.filter (fun d => !f.effects.contains (.deferred d.id))
    useqs := s.useqs.filter (fun q => decide (q.firing ≠ f.id))
    useqWait := s.useqWait.filter (fun i => decide (i ≠ f.id))
    fab.remote := s.fab.remote.filter (fun r => decide (r.firing ≠ some f.id))
    xreqs := s.xreqs.map (fun (x : XReq) => if x.firing = f.id then { x with aband := true } else x) }

theorem withoutFiring_unwinds (s : State) (f : Firing) : Unwinds s (withoutFiring s f) :=
  ⟨.refl, rfl, rfl, fun g hg => ⟨g, (List.mem_filter.1 hg).1, rfl, rfl⟩⟩

theorem dropFiring_unwinds_without (s : State) (f : Firing) : Unwinds (withoutFiring s f) (s.dropFiring f) := by
  unfold State.dropFiring
  extract_lets v fab v1 v2
  have h1 : Unwinds (withoutFiring s f) v1 := .refl
  have h2 : Unwinds (withoutFiring s f) v2 := h1.foldl fun _ _ hu => hu.setLock.relevel
  split
  · exact h2
  · exact .ite h2.lockFree h2

theorem dropFiring_unwinds (s : State) (f : Firing) : Unwinds s (s.dropFiring f) :=
  (withoutFiring_unwinds s f).trans (dropFiring_unwinds_without s f)

theorem dropFiring_gone (s : State) (f : Firing) : ∀ g ∈ (s.dropFiring f).firings, g.id ≠ f.id := by
  intro g hg
  obtain ⟨x, hx, hid, -⟩ := (dropFiring_unwinds_without s f).firings g hg
  exact hid ▸ of_decide_eq_true (List.mem_filter.1 hx).2

/-- Firings dropped one after another: none of them is left. -/
theorem foldl_dropFiring (xs : List Firing) (s : State) : Unwinds s (xs.foldl (fun s f => s.dropFiring f) s) ∧
    ∀ g ∈ (xs.foldl (fun s f => s.dropFiring f) s).firings, ∀ x ∈ xs, g.id ≠ x.id := by
  induction xs generalizing s with
  | nil => exact ⟨.refl, fun _ _ _ hx => absurd hx List.not_mem_nil⟩
  | cons x xs ih =>
    obtain ⟨hun, hgone⟩ := ih (s.dropFiring x)
    refine ⟨(dropFiring_unwinds s x).trans hun, fun g hg => List.forall_mem_cons.2 ⟨?_, hgone g hg⟩⟩
    obtain ⟨y, hy, hid, -⟩ := hun.firings g hg
    exact hid ▸ dropFiring_gone s x y hy

end Sys2Proof.Safety
end

section
/-! Dispatch, commit, discard and the draining of stores (R49 to R61, R234). -/

namespace Sys2Proof.Safety
open Sys2Proof.Machine

variable {s s0 u : State}

/-! ### What follows a commit -/

/-- From `s0` to `s`, tokens have left their sources, firings have gone or changed their waits, packets have gone, and recoveries,
activations' flags, slots and tiles' timers have changed. -/
structure Settles (s0 s : State) : Prop where
  regs : Keeps (csrAddr 0x10 0 ≤ ·) s0 s
  cseq : s.cseq = s0.cseq
  storeBuf : s.storeBuf = s0.storeBuf
  eventBuf : s.eventBuf = s0.eventBuf
  mem : s.mem = s0.mem
  net : s.net.map atSource = s0.net.map atSource
  firings : ∀ g ∈ s.firings, ∃ f ∈ s0.firings, f.id = g.id

namespace Settles

theorem refl : Settles s s := ⟨.refl, rfl, rfl, rfl, rfl, rfl, fun g hg => ⟨g, hg, rfl⟩⟩

theorem frame (h : Settles s0 s) (hr : u.csr = s.csr) (hc : u.cseq = s.cseq) (hs : u.storeBuf = s.storeBuf)
    (he : u.eventBuf = s.eventBuf) (hm : u.mem = s.mem) (hn : u.net.map atSource = s.net.map atSource)
    (hf : u.firings = s.firings) : Settles s0 u :=
  ⟨h.regs.frame hr, hc.trans h.cseq, hs.trans h.storeBuf, he.trans h.eventBuf, hm.trans h.mem, hn.trans h.net, hf ▸ h.firings⟩

theorem ite {c : Prop} [Decidable c] (h : Settles s0 s) (g : Settles s0 u) : Settles s0 (if c then s else u) := by
  split
  · exact h
  · exact g

theorem rset {b : Nat} {v : Word} (h : Settles s0 s) (hb : b < csrAddr 0x10 0) : Settles s0 (s.rset b v) :=
  { h with regs := h.regs.rset fun _ ha => Nat.ne_of_gt (hb.trans_le ha) }

theorem rmax {b v : Nat} (h : Settles s0 s) (hb : b < csrAddr 0x10 0) : Settles s0 (s.rmax b v) := .ite (h.rset hb) h

theorem sendTokens {ks : List Token} (h : Settles s0 { s with net := s.net ++ ks }) : Settles s0 (s.sendTokens ks) := by
  obtain ⟨net, n, he, hn⟩ := sendTokens_eq s ks
  rw [he]
  exact h.frame rfl rfl rfl rfl rfl hn rfl

theorem accumulate {id : Nat} {fl : Flags7} {nd : Bool} (h : Settles s0 s) : Settles s0 (s.accumulate id fl nd) :=
  h.frame rfl rfl rfl rfl rfl rfl rfl

theorem retryDone {id : Nat} (h : Settles s0 s) : Settles s0 (s.retryDone id) := by
  unfold State.retryDone
  split
  · next j _ =>
    have h1 : Settles s0 ({ s with recOpen := s.recOpen.erase j, recLast := some j }) := h.frame rfl rfl rfl rfl rfl rfl rfl
    exact ((h1.rset (by decide)).rmax (by decide)).rset (by decide)
  · exact h

theorem wakeChannel (h : Settles s0 s) : Settles s0 s.wakeChannel :=
  { h with
    regs := h.regs.frame rfl
    firings := fun g hg => by
      obtain ⟨f, hf, rfl⟩ := List.mem_map.1 hg
      obtain ⟨f0, hf0, hid⟩ := h.firings f hf
      refine ⟨f0, hf0, hid.trans ?_⟩
      split <;> rfl }

theorem rewindDead (h : Settles s0 s) : Settles s0 s.rewindDead := wakeChannel (h.frame rfl rfl rfl rfl rfl rfl rfl)

theorem settle (h : Settles s0 s) : Settles s0 s.settle := by
  obtain ⟨net, n, slots, he, hn⟩ := settle_eq s
  rw [he]
  exact h.frame rfl rfl rfl rfl rfl hn rfl

end Settles

/-! ### A commit without effects -/

/-- The token that a firing's commit forms for one of its outputs (R58, R61). -/
def commitTok (s : State) (f : Firing) (a : Act) (o : OutTok) : Token :=
  s.mkToken o a.epoch f.inc 0 f.tile f.pe 0 (s.cseq + 1) ((s.tileAt f.tile).oldest && !s.isOldestWafer f.wafer)

/-- The firing gone, its stores in the store buffer and its tokens at their source (R58, R61). -/
def committed (s : State) (f : Firing) (a : Act) : State :=
  { s with
    cseq := s.cseq + 1
    firings := s.firings.filter (fun x => decide (x.id ≠ f.id))
    storeBuf := s.storeBuf ++ f.stores.map (fun st => ⟨f.tile, f.pe, s.cseq + 1, f.act, f.slot, f.inc, f.wafer, st⟩)
    net := s.net ++ f.outs.map (commitTok s f a) }

/-- The firing that commits in `s` has no effects beside its stores and tokens, starts no activation and sends nothing on port X. -/
structure PlainCommit (s : State) (f : Firing) (a : Act) : Prop where
  stage : f.stage = .executed
  act : s.act? f.act = some a
  inc : f.inc = (s.slotAt f.slot).inc
  effects : f.effects = []
  notX : f.iw.opc < 0x3C0
  notStart : f.iw.opc ≠ 0x280
  room : s.egressFull f = false

theorem maintWaits_of_no_effects {f : Firing} (h : f.effects = []) : s.maintWaits f = false := by
  rw [State.maintWaits, h]
  rfl

theorem PlainCommit.settles {f : Firing} {a : Act} (h : PlainCommit s f a) : ∃ v, Settles (committed s f a) v ∧
    Settles ((v.rinc (Reg.TIL_FIRINGS f.tile)).rinc (Reg.PEX_FIRED f.tile f.pe)) (s.commitFiring f) := by
  obtain ⟨hstage, hact, hinc, heff, hX, hstart, hroom⟩ := h
  unfold State.commitFiring
  rw [if_neg (by simp [hstage, maintWaits_of_no_effects heff, hroom]), hact]
  dsimp -zeta only
  rw [if_neg (not_not.2 hinc)]
  extract_lets n egress isStart tok evs s1 poll os isX xs polled s2 s3 nd s4 s5 s6
  have hpoll : poll = ([], s1) := by
    unfold poll
    rw [heff]
    rfl
  have hos : os = f.outs := by
    unfold os
    rw [hpoll]
    exact List.append_nil _
  have hisX : ∀ o, isX o = false := fun o => by simp [isX, hX]
  have htok : tok = commitTok s f a := by
    funext o
    simp [tok, isStart, hstart, commitTok, n, egress]
  have hxs : xs = [] := by
    unfold xs
    rw [List.filter_eq_nil_iff.2 fun o _ => by simp [hisX]]
    rfl
  have hout : (os.filter (fun o => !isX o)).map tok ++ xs = f.outs.map (commitTok s f a) := by
    rw [hxs, hos, htok, List.append_nil, List.filter_eq_self.2 fun o _ => by simp [hisX]]
  have hevs : evs = [] := by
    unfold evs
    rw [heff]
    rfl
  have h2 : Settles (committed s f a) s2 := by
    unfold s2 polled
    rw [hpoll, hout]
    refine .sendTokens (Settles.refl.frame rfl rfl rfl ?_ rfl rfl rfl)
    change s.eventBuf ++ evs.map _ = s.eventBuf
    rw [hevs]
    exact List.append_nil _
  have h3 : Settles (committed s f a) s3 := List.foldlRecOn _ _ h2 fun _ hu _ _ => hu.accumulate
  have h4 : Settles (committed s f a) s4 := .ite (h3.frame rfl rfl rfl rfl rfl rfl rfl) h3
  have h5 : s5 = s4 := by
    unfold s5
    rw [heff]
    rfl
  have h6 : Settles ((s4.rinc (Reg.TIL_FIRINGS f.tile)).rinc (Reg.PEX_FIRED f.tile f.pe)) s6 := by
    unfold s6
    rw [h5]
    exact Settles.refl.frame rfl rfl rfl rfl rfl rfl rfl
  exact ⟨s4, h4, h6.retryDone.rewindDead.settle⟩

/-- Every token that a settled state has added to `s` is one of those sent, but for where it is on its way. -/
theorem Settles.of_mem_drop {ks : List Token} {x : Token} (h : u.net.map atSource = (s.net ++ ks).map atSource)
    (hx : x ∈ u.net.drop s.net.length) : ∃ k ∈ ks, atSource k = atSource x := by
  have hdrop : (u.net.drop s.net.length).map atSource = ks.map atSource := by
    rw [List.map_drop, h, List.map_append, List.drop_append_of_le_length (by simp)]
    simp
  have hmem := List.mem_map_of_mem (f := atSource) hx
  rw [hdrop] at hmem
  obtain ⟨k, hk, he⟩ := List.mem_map.1 hmem
  exact ⟨k, hk, he⟩

theorem rget_rinc_rinc (s : State) {a b : Nat} (h : a ≠ b) :
    ((s.rinc a).rinc b).rget a = s.rget a + 1 ∧ ((s.rinc a).rinc b).rget b = s.rget b + 1 :=
  ⟨(State.rget_rset_ne _ _ h).trans (State.rget_rset_same _ _ _),
    (State.rget_rset_same _ _ _).trans (congrArg (· + 1) (State.rget_rset_ne _ _ h.symm))⟩

/-! ### A firing that is discarded -/

/-- A firing that holds no lock reservation and waits for none goes with nothing but its own requests (R52). -/
theorem dropFiring_eq_withoutFiring {f : Firing} (hg : f.granted = none)
    (hw : ∀ l ∈ s.locks, ∀ w ∈ l.waiters, w.firing ≠ f.id + 1) : s.dropFiring f = withoutFiring s f := by
  unfold State.dropFiring
  extract_lets v fab v1 v2
  have hwaits : v.locks.filter (fun l => l.waiters.any (fun w => decide (w.firing = f.id + 1))) = [] := by
    refine List.filter_eq_nil_iff.2 fun l hl hany => ?_
    obtain ⟨w, hmem, hid⟩ := List.any_eq_true.1 hany
    exact hw l hl w hmem (of_decide_eq_true hid)
  rw [hg]
  unfold v2
  rw [hwaits]
  rfl

/-- A firing of an older incarnation is discarded (R471). -/
theorem commitFiring_of_stale {f : Firing} {a : Act} (hstage : f.stage = .executed) (hact : s.act? f.act = some a)
    (hinc : f.inc ≠ (s.slotAt f.slot).inc) (hmaint : s.maintWaits f = false) (hroom : s.egressFull f = false) :
    s.commitFiring f = (s.dropFiring f).rewindDead.settle := by
  unfold State.commitFiring
  rw [if_neg (by simp [hstage, hmaint, hroom]), hact]
  exact if_pos hinc

/-! ### Stores that are performed -/

theorem piecesOf_within_line {a n : Nat} (hn : 0 < n) (h : a % 64 + n ≤ 64) : piecesOf a n = [(a, n)] := by
  have hmin : min n (64 - a % 64) = n := Nat.min_eq_left (by omega)
  rw [piecesOf, pieces, if_neg (by omega)]
  dsimp only
  rw [hmin, Nat.sub_self, pieces, if_pos rfl]

theorem memWrite_within_line {own : Option (Nat × Nat)} {a : Nat} {bs : List Byte} (hn : 0 < bs.length)
    (h : a % 64 + bs.length ≤ 64) : s.memWrite own a bs = s.storeLine own a bs := by
  rw [State.memWrite, piecesOf_within_line hn h, List.foldl_cons, List.foldl_nil, List.take_length]

theorem storeLine_scratch {own : Option (Nat × Nat)} {a : Nat} {bs : List Byte} (h : s.addrKind a = .scratch) :
    (s.storeLine own a bs).mem.scratch = smPutBytes s.mem.scratch 0 a bs ∧
    (s.storeLine own a bs).mem.sdram = s.mem.sdram ∧ (s.storeLine own a bs).storeBuf = s.storeBuf := by
  rw [State.storeLine, h]
  exact ⟨rfl, rfl, rfl⟩

theorem storeLine_uncached {own : Option (Nat × Nat)} {a : Nat} {bs : List Byte} (h : s.addrKind a = .sdram)
    (huc : (s.sdramAttr a).1 = 2) : (s.storeLine own a bs).mem.sdram = smPutBytes s.mem.sdram 0 a bs ∧
    (s.storeLine own a bs).mem.scratch = s.mem.scratch ∧ (s.storeLine own a bs).storeBuf = s.storeBuf := by
  unfold State.storeLine
  extract_lets line l1
  rw [h]
  dsimp -zeta only
  rw [if_pos huc]
  exact ⟨rfl, rfl, rfl⟩

/-- A store of this device to a line that is not journalled is a write of its bytes (R59, R472). -/
theorem performStore_eq_storeLine {b : SbEntry} (hdev : b.st.device = s.localId) (hcell : b.st.cell = none)
    (hline : b.st.addr % 64 + b.st.bytes.length ≤ 64) (hn : 0 < b.st.bytes.length) (hj : s.journalled b.st.addr = false) :
    s.performStore b = s.storeLine (some (b.tile, b.pe)) b.st.addr b.st.bytes := by
  have hjournal : s.journal b b.st.addr b.st.bytes.length = s := if_neg (by simp [hj])
  unfold State.performStore
  rw [if_neg (not_not.2 hdev), hcell]
  dsimp only
  rw [hjournal, memWrite_within_line hn hline]

theorem settle_mem (s : State) : s.settle.mem = s.mem := by
  obtain ⟨net, n, slots, he, -⟩ := settle_eq s
  rw [he]

theorem settle_storeBuf (s : State) : s.settle.storeBuf = s.storeBuf := by
  obtain ⟨net, n, slots, he, -⟩ := settle_eq s
  rw [he]

theorem exec_storeDrain_of_oldest {t p : Nat} {b : SbEntry} (hd : s.dead = false)
    (hb : s.storeBuf.find? (fun b => decide (b.tile = t ∧ b.pe = p)) = some b) :
    exec (.storeDrain t p) s = .next ({ s with storeBuf := s.storeBuf.erase b }.performStore b).settle := by
  rw [exec_storeDrain, execStoreDrain, State.onlyIf_pos s _ (by rw [hd]; rfl), State.drainStore, hb]

/-! ### Dispatch -/

theorem codeFetch_memStep (s : State) (j : Nat) : MemStep s (s.codeFetch j) := by
  unfold State.codeFetch
  extract_lets line
  split
  · exact .refl s
  · split
    · exact .rinc s _
    · exact ((MemStep.sdLine s line).trans (.l2Install _ _ _ _)).trans (.rinc _ _)

theorem fetchLine_memStep (s : State) (t p iaddr : Nat) : MemStep s (s.fetchLine t p iaddr) := by
  unfold State.fetchLine
  extract_lets line s1 same m r v
  have h1 : MemStep s s1 := (MemStep.rinc s _).trans (codeFetch_memStep _ _)
  split
  · exact .refl s
  · split
    · exact h1.trans (.quiet s1 _ s1.csr s1.free rfl rfl)
    · exact h1.trans ((MemStep.drawNat s1).trans (.quiet r.2 _ r.2.csr r.2.free rfl rfl))

theorem redispatched_frame (s : State) (id : Nat) : ∃ csr w, s.redispatched id = { s with csr := csr, recWait := w } := by
  unfold State.redispatched
  split
  · exact ⟨s.csr, s.recWait, rfl⟩
  · next w _ =>
    extract_lets fids rest i s1
    obtain ⟨csr, h1⟩ := rmax_frame { s with recWait := rest } Reg.FCL_RECOV_MAX i
    have h1 : s1 = { s with csr := csr, recWait := rest } := h1
    split
    · exact ⟨s.csr, _, rfl⟩
    · rw [h1]
      split
      · exact ⟨_, rest, rfl⟩
      · exact ⟨csr, rest, rfl⟩

theorem completeOldest_of_normal {t : Nat} (h : (s.tileAt t).oldest = false) : s.completeOldest t = s := by
  rw [State.completeOldest, h]
  rfl

theorem nextReady_of_one {t : Nat} {f : Firing} (hf : s.firings = [f]) (ht : f.tile = t) (hst : f.stage = .ready)
    (hold : (s.tileAt t).oldest = false) : s.nextReady t = some f := by
  rw [State.nextReady, hf, hold, List.filter_cons_of_pos (by simp [ht, hst])]
  rfl

/-- A grant of the one ready firing: it is dispatched to the PE, and only its line's fetch and the recovery's record follow (R53). -/
theorem grantOne_of_one {n t p : Nat} {f : Firing} {a : Act} (hf : s.firings = [f]) (ht : f.tile = t) (hst : f.stage = .ready)
    (hold : (s.tileAt t).oldest = false) (hact : s.act? f.act = some a) (hlive : a.state = .live) :
    (State.grantOne (n + 1) t p s).firings = [{ f with stage := .dispatched, pe := p, wait := .none }] ∧
    (State.grantOne (n + 1) t p s).net = s.net ∧ (State.grantOne (n + 1) t p s).mst = s.mst := by
  have hany : s.acts.any (fun a => decide (a.id = f.act ∧ a.state = .live)) = true := by
    refine List.any_eq_true.2 ⟨a, List.mem_of_find?_eq_some hact, decide_eq_true ⟨?_, hlive⟩⟩
    simpa using List.find?_some hact
  rw [State.grantOne]
  rw [completeOldest_of_normal hold, nextReady_of_one hf ht hst hold]
  dsimp -zeta only
  rw [if_pos hany]
  extract_lets s1 s2
  obtain ⟨m, c, fr, h2⟩ := (fetchLine_memStep (s1.updTile t (fun x => { x with rr := p + 1 })) t p f.iaddr).frame
  obtain ⟨csr, hmax⟩ := rmax_frame s2 (Reg.PEX_INFLIGHT_MAX t p) (s2.inflight t p)
  obtain ⟨csr', w, hre⟩ := redispatched_frame (s2.rmax (Reg.PEX_INFLIGHT_MAX t p) (s2.inflight t p)) f.id
  have h2 : s2 = _ := h2
  rw [hre, hmax, h2]
  refine ⟨?_, rfl, rfl⟩
  change s.firings.filter _ ++ _ = _
  rw [hf, List.filter_cons_of_neg (by simp)]
  rfl

/-! ### Entries that become ready -/

/-- The ready firing of a word with its inputs (R45, R54). -/
def readyFiring (s : State) (word : Word) (t : Nat) (tag : Tag) (a : Act) (l r c : Option TVal) : Firing :=
  { id := s.nextFid, tile := t, pe := 0, tag := tag &&& ~~~3, inc := a.inc, wafer := a.wafer, epoch := a.epoch,
    word := word, inL := l, inR := r, inC := c, stage := .ready, wait := .none, outs := [], stores := [], effects := [],
    raised := 0, nd := false, attempt := 0, reserved := 0, granted := none, fenceSeq := 0, since := s.now }

theorem enqueueWord_frame (s : State) (word : Word) (t : Nat) (tag : Tag) (a : Act) (l r c : Option TVal) : ∃ csr,
    s.enqueueWord word t tag a l r c =
      { s with csr := csr, nextFid := s.nextFid + 1, firings := s.firings ++ [readyFiring s word t tag a l r c] } := by
  unfold State.enqueueWord
  extract_lets f s1
  obtain ⟨csr, h⟩ := rmax_frame s1 (Reg.TIL_READYQ_MAX t) (s1.readyCount t)
  exact ⟨csr, h⟩

theorem enqueue_frame (s : State) (t : Nat) (tag : Tag) (a : Act) (l r c : Option TVal) : ∃ csr,
    s.enqueue t tag a l r c = { s with csr := csr, nextFid := s.nextFid + 1, firings := s.firings ++
      [readyFiring s (s.fetchWord a.epoch (tagIaddr tag)) t tag a l r c] } := enqueueWord_frame _ _ _ _ _ _ _ _

theorem entryReady_of_room {t : Nat} {e : MEntry} {a : Act} (hact : s.act? (keyAct e.key) = some a) (hroom : s.readyRoom t = true) :
    s.entryReady t e =
      ((s.enqueue t (BitVec.ofNat 64 (e.key * 4)) a (e.at 0) (e.at 1) (e.at 2)).mstDrop e).occChanged t := by
  rw [State.entryReady, hact]
  exact if_pos hroom

/-- A complete entry with room in the queue gives its place to a ready firing with its inputs (R55). -/
theorem entryReady_fields {t : Nat} {e : MEntry} {a : Act} (hact : s.act? (keyAct e.key) = some a) (hroom : s.readyRoom t = true) :
    ∃ u, s.entryReady t e = State.occChanged u t ∧ u.mst = s.mst.filter (fun x => decide (x ≠ e)) ∧ u.net = s.net ∧
      u.firings = s.firings ++ [readyFiring s (s.fetchWord a.epoch (tagIaddr (BitVec.ofNat 64 (e.key * 4)))) t
        (BitVec.ofNat 64 (e.key * 4)) a (e.at 0) (e.at 1) (e.at 2)] := by
  obtain ⟨csr, he⟩ := enqueue_frame s t (BitVec.ofNat 64 (e.key * 4)) a (e.at 0) (e.at 1) (e.at 2)
  refine ⟨_, entryReady_of_room hact hroom, ?_, ?_, ?_⟩ <;>
    · rw [he]
      rfl

/-! ### IDs that return -/

/-- The state in which an ID is free: its locks are abandoned and its activation is gone (R49, R286). -/
theorem returnId_of_done {id : Nat} {a : Act} (hact : s.act? id = some a) (hst : a.state ≠ .live)
    (htok : s.hasTokens id = false) (hsb : ∀ b ∈ s.storeBuf, b.act ≠ id) (heb : ∀ b ∈ s.eventBuf, b.act ≠ id) :
    (s.returnId id).act? id = none ∧ (s.returnId id).storeBuf = s.storeBuf := by
  have hsb' : s.storeBuf.any (fun b => decide (b.act = id)) = false := by simpa [List.any_eq_false] using hsb
  have heb' : s.eventBuf.any (fun b => decide (b.act = id)) = false := by simpa [List.any_eq_false] using heb
  unfold State.returnId
  rw [hact]
  dsimp -zeta only
  rw [if_neg (by simp [hst, htok, hsb', heb'])]
  extract_lets mine s1
  have hbuf : s1.storeBuf = s.storeBuf := (Unwinds.refl (s := s)).abandonAll.storeBuf
  obtain ⟨net, n, slots, he, -⟩ := settle_eq { s1 with
    acts := s1.acts.filter (fun x => decide (x.id ≠ id)), levels := s1.levels.filter (fun x => !mine x.owner) }.rewindDead
  rw [he]
  refine ⟨?_, hbuf⟩
  change (s1.acts.filter (fun x => decide (x.id ≠ id))).find? _ = none
  simp [List.find?_eq_none]

theorem returnId_of_tokens {id : Nat} (h : s.act? id = none ∨ s.hasTokens id = true) : s.returnId id = s := by
  unfold State.returnId
  split
  · rfl
  · next a ha =>
    refine if_pos ?_
    rw [h.resolve_left (by simp [ha])]
    simp

/-- Settles O37: a commit without effects is followed by nothing but the moves of tokens and waits; a drained store writes its bytes,
a grant dispatches the one ready firing, and an ID returns with its locks abandoned. -/
theorem firingsAreGrantedAndCommit : Obligations.FiringsAreGrantedAndCommit := by
  unfold Obligations.FiringsAreGrantedAndCommit
  refine ⟨?_, ?_, ?_, ?_, ?_, ?_, ?_, ?_, ?_⟩
  · intro s n f a hd hf hst hact hinc heff hX hstart ht hp hfence hroom
    obtain ⟨v, hv, hu⟩ := PlainCommit.settles ⟨hst, hact, hinc, heff, hX, hstart, hroom⟩
    have hnet := hu.net.trans hv.net
    have htil : csrAddr 0x10 0 ≤ Reg.TIL_FIRINGS f.tile := csrAddr_le_of_block (by omega)
    have hpex : csrAddr 0x10 0 ≤ Reg.PEX_FIRED f.tile f.pe := csrAddr_le_of_block (by omega)
    have hcount := rget_rinc_rinc v (a := Reg.TIL_FIRINGS f.tile) (b := Reg.PEX_FIRED f.tile f.pe) (csrAddr_ne_of_off (by omega))
    refine ⟨s.commitFiring f, ?_, hu.cseq.trans hv.cseq, ?_, hu.storeBuf.trans hv.storeBuf, hu.eventBuf.trans hv.eventBuf,
      hu.mem.trans hv.mem, ?_, ?_, ?_, ?_⟩
    · rw [exec_firingCommit, execFiringCommit, State.onlyIf_pos s _ (by rw [hd]; rfl), hf]
      dsimp only
      rw [if_neg (ne_true_of_eq_false hfence)]
    · intro g hg
      obtain ⟨y, hy, hid⟩ := hu.firings g hg
      obtain ⟨z, hz, hid'⟩ := hv.firings y hy
      exact (hid'.trans hid) ▸ of_decide_eq_true (List.mem_filter.1 hz).2
    · rw [carried_of_atSource hnet]
      change carried (s.net ++ f.outs.map (commitTok s f a)) = _
      rw [carried_append]
      congr 1
      exact List.map_map.trans rfl
    · intro x hx
      obtain ⟨k, hk, hkx⟩ := Settles.of_mem_drop hnet hx
      obtain ⟨o, -, rfl⟩ := List.mem_map.1 hk
      have hfield : ∀ {α : Type} (g : Token → α), g (atSource (commitTok s f a o)) = g (atSource x) := fun g => congrArg g hkx
      exact ⟨(hfield (·.barrier)).symm, (hfield (·.inc)).symm, (hfield (·.seq)).symm, (hfield (·.srcTile)).symm,
        (hfield (·.srcPe)).symm⟩
    · exact (hu.regs _ hpex).trans (hcount.2.trans (congrArg (· + 1) (hv.regs _ hpex)))
    · exact (hu.regs _ htil).trans (hcount.1.trans (congrArg (· + 1) (hv.regs _ htil)))
  · intro s n f a hd hf hst hact hinc hgr hfence hroom hmaint hw
    have hu : Settles (withoutFiring s f) (s.commitFiring f) := by
      rw [commitFiring_of_stale hst hact hinc hmaint hroom, dropFiring_eq_withoutFiring hgr hw]
      exact Settles.refl.rewindDead.settle
    refine ⟨s.commitFiring f, ?_, ?_, hu.storeBuf, carried_of_atSource hu.net, hu.eventBuf, hu.mem, hu.cseq⟩
    · rw [exec_firingCommit, execFiringCommit, State.onlyIf_pos s _ (by rw [hd]; rfl), hf]
      dsimp only
      rw [if_neg (ne_true_of_eq_false hfence)]
    · intro g hg
      obtain ⟨y, hy, hid⟩ := hu.firings g hg
      exact hid ▸ of_decide_eq_true (List.mem_filter.1 hy).2
  · intro s t p b hd hb
    exact exec_storeDrain_of_oldest hd hb
  · intro s t p b hd hb hdev hcell hline hn hj
    have hperform : { s with storeBuf := s.storeBuf.erase b }.performStore b =
        { s with storeBuf := s.storeBuf.erase b }.storeLine (some (b.tile, b.pe)) b.st.addr b.st.bytes :=
      performStore_eq_storeLine hdev hcell hline hn hj
    refine ⟨fun hkind => ?_, fun hkind huc => ?_⟩
    · obtain ⟨hscratch, hsdram, hbuf⟩ := storeLine_scratch (s := { s with storeBuf := s.storeBuf.erase b })
        (own := some (b.tile, b.pe)) (a := b.st.addr) (bs := b.st.bytes) hkind
      refine ⟨_, exec_storeDrain_of_oldest hd hb, ?_⟩
      beta_reduce
      rw [settle_mem, settle_storeBuf, hperform, hscratch, hsdram, hbuf]
      exact ⟨rfl, smBytes_putBytes _ _ _ _, rfl, fun x hx => smGet_putBytes_outside (by omega)⟩
    · obtain ⟨hsdram, hscratch, hbuf⟩ := storeLine_uncached (s := { s with storeBuf := s.storeBuf.erase b })
        (own := some (b.tile, b.pe)) (a := b.st.addr) (bs := b.st.bytes) hkind huc
      refine ⟨_, exec_storeDrain_of_oldest hd hb, ?_⟩
      beta_reduce
      rw [settle_mem, settle_storeBuf, hperform, hscratch, hsdram, hbuf]
      exact ⟨rfl, smBytes_putBytes _ _ _ _, rfl, fun x hx => smGet_putBytes_outside (by omega)⟩
  · intro s t p e hd he
    have hexec : exec (.eventBufferDrain t p) s = .next (s.drainEvent t p) := by
      rw [exec_eventBufferDrain, execEventBufferDrain, State.onlyIf_pos s _ (by rw [hd]; rfl)]
    rw [hexec, State.drainEvent, he]
    exact ⟨fun hw => congrArg Host.Outcome.next (if_pos hw),
      fun hw => congrArg Host.Outcome.next (if_neg (ne_true_of_eq_false hw))⟩
  · intro s t p f a hd hlive hps hold hfence hf ht hst hact hal
    obtain ⟨hfir, hnet, hmst⟩ := grantOne_of_one (n := s.firings.length) (p := p) hf ht hst hold hact hal
    have hdispatch : s.dispatch t = State.grantOne (s.firings.length + 1) t p s := by
      unfold State.dispatch
      rw [if_pos (by rw [hlive, hfence]; rfl)]
      extract_lets rr ps
      have hone : ps = [p] := hps
      rw [hone]
      rfl
    refine ⟨s.dispatch t, ?_, { f with stage := .dispatched, pe := p, wait := .none }, ?_, rfl, rfl, rfl, rfl, rfl, rfl, ?_, ?_⟩
    · rw [exec_dispatchGrant, execDispatchGrant, State.onlyIf_pos s _ (by rw [hd]; rfl)]
    · rw [hdispatch, hfir]
    · rw [hdispatch, hnet]
    · rw [hdispatch, hmst]
  · intro s t e a hd hroom he hact
    obtain ⟨v, hready, hmst, -, hfir⟩ := entryReady_fields (t := t) hact hroom
    have hocc : Occupies v ((s.entryReady t e).leaveOldest t) := by
      rw [hready]
      exact Occupies.refl.occChanged.leaveOldest
    refine ⟨(s.entryReady t e).leaveOldest t, ?_, _, hocc.firings.trans hfir, rfl, rfl, rfl, rfl, rfl, ?_⟩
    · rw [exec_readyQueueAdmit, execReadyQueueAdmit, State.onlyIf_pos s _ (by rw [hd]; rfl), State.admitReady, if_pos hroom, he]
    · intro x hx
      rw [hocc.mst, hmst] at hx
      exact of_decide_eq_true (List.mem_filter.1 hx).2
  · intro s id a hd hact hst htok hsb heb
    refine ⟨s.returnId id, ?_, returnId_of_done hact hst htok hsb heb⟩
    rw [exec_actIdReturn, execActIdReturn, State.onlyIf_pos s _ (by rw [hd]; rfl)]
  · intro s id h
    rw [exec_actIdReturn, execActIdReturn, State.onlyIf, returnId_of_tokens h, ite_self]

end Sys2Proof.Safety
end

section
/-! Tokens at the store's input: how they arrive, and FAN and LOOPGATE (R65, R67, R80, R85). -/

namespace Sys2Proof.Safety
open Sys2Proof.Machine

variable {s s0 u : State} {t n : Nat} {k : Token} {a : Act} {ks : List (Tag × TVal)} {m : List MEntry}

/-! ### What a token's treatment passes on -/

/-- From `s0` to `s`, no firing has changed, the store has come to hold the entries `m`, and the tokens `ks` have been sent. -/
structure Passes (s0 : State) (m : List MEntry) (ks : List (Tag × TVal)) (s : State) : Prop where
  firings : s.firings = s0.firings
  mst : s.mst = m
  net : carried s.net = carried s0.net ++ ks

namespace Passes

theorem refl : Passes s s.mst [] s := ⟨rfl, rfl, (List.append_nil _).symm⟩

theorem frame (h : Passes s0 m ks s) (hf : u.firings = s.firings) (hm : u.mst = s.mst) (hn : carried u.net = carried s.net) :
    Passes s0 m ks u := ⟨hf.trans h.firings, hm.trans h.mst, hn.trans h.net⟩

theorem occupies (h : Passes s0 m ks s) (g : Occupies s u) : Passes s0 m ks u :=
  h.frame g.firings g.mst (congrArg carried g.net)

theorem ite {c : Prop} [Decidable c] (h : Passes s0 m ks s) (g : Passes s0 m ks u) : Passes s0 m ks (if c then s else u) := by
  split
  · exact h
  · exact g

theorem mstPut {x y : MEntry} (h : Passes s0 m ks s) : Passes s0 (m.map (fun e => if e = x then y else e)) ks (s.mstPut x y) :=
  ⟨h.firings, congrArg (List.map _) h.mst, h.net⟩

theorem mstDrop {x : MEntry} (h : Passes s0 m ks s) : Passes s0 (m.filter (fun e => decide (e ≠ x))) ks (s.mstDrop x) :=
  ⟨h.firings, congrArg (List.filter _) h.mst, h.net⟩

theorem putWay {b st w : Nat} {e : MEntry} (h : Passes s0 m ks s) :
    Passes s0 (m ++ [{ e with place := .way b st w }]) ks (s.putWay t b st w e) :=
  have hin : Passes s0 (m ++ [{ e with place := .way b st w }]) ks { s with mst := s.mst ++ [{ e with place := .way b st w }] } :=
    ⟨h.firings, congrArg (· ++ [{ e with place := .way b st w }]) h.mst, h.net⟩
  hin.occupies (putWay_occupies s t b st w e)

theorem accumulate {id : Nat} {fl : Flags7} {nd : Bool} (h : Passes s0 m ks s) : Passes s0 m ks (s.accumulate id fl nd) :=
  h.frame rfl rfl rfl

theorem emitTok {o : OutTok} {pe : Nat} (h : Passes s0 m ks s) : Passes s0 m (ks ++ [(o.tag, o.tv)]) (s.emitTok o a t pe) := by
  have hnet : carried (s.emitTok o a t pe).net = carried s.net ++ [(o.tag, o.tv)] := carried_sendTokens s _
  obtain ⟨net, n, he, -⟩ := sendTokens_eq s
    [s.mkToken o a.epoch a.inc 0 t pe 0 0 ((s.tileAt t).oldest && !s.isOldestWafer a.wafer)]
  have he : s.emitTok o a t pe = { s with net := net, netSeq := n } := he
  refine ⟨?_, ?_, ?_⟩
  · rw [he]
    exact h.firings
  · rw [he]
    exact h.mst
  · rw [hnet, h.net, List.append_assoc]

theorem emitAll {pe : Nat} (os : List OutTok) (h : Passes s0 m ks s) :
    Passes s0 m (ks ++ os.map (fun o => (o.tag, o.tv))) (os.foldl (fun (s : State) o => s.emitTok o a t pe) s) := by
  induction os generalizing s ks with
  | nil => simpa using h
  | cons o os ih => simpa using ih h.emitTok

theorem settle (h : Passes s0 m ks s) : Passes s0 m ks s.settle := by
  obtain ⟨net, n, slots, he, -⟩ := settle_eq s
  refine h.frame ?_ ?_ (carried_settle s)
  · rw [he]
  · rw [he]

end Passes

/-! ### The arrival of a token -/

/-- The state in which the `n`-th token for tile `t` has left the network. -/
def taken (s : State) (t n : Nat) : State := { s with net := State.netErase t n s.net }

theorem tokenIn_of_arrives {c : State → Token → Bool} (htok : s.netTok t n = some k) (hmay : s.mayArrive t k = true)
    (hc : c s k = true) (hr : (taken s t n).arrive t k = (true, u)) : s.tokenIn t n c = u.settle := by
  unfold State.tokenIn
  rw [htok]
  dsimp -zeta only
  rw [if_pos (by rw [hmay, hc]; rfl)]
  extract_lets s0 r
  have hr : r = (true, u) := hr
  rw [hr]
  rfl

theorem tokenIn_of_waits {c : State → Token → Bool} (htok : s.netTok t n = some k) (hmay : s.mayArrive t k = false) :
    s.tokenIn t n c = s := by
  unfold State.tokenIn
  rw [htok]
  dsimp -zeta only
  rw [if_neg (by simp [hmay])]

/-- The token is of its slot's incarnation, for an instruction of this device, and of a LIVE activation (R39, R44, R49). -/
structure Current (s : State) (k : Token) (a : Act) : Prop where
  inc : k.inc = (s.slotAt (tagSlot k.tag)).inc
  port : tagPort k.tag ≠ 3
  here : tagDevice k.tag = s.localId
  act : s.act? (tagAct k.tag) = some a
  live : a.state = .live

theorem Accepted.current (h : Accepted s t n k a) : Current (taken s t n) k a := ⟨h.inc, h.port, h.here, h.act, h.live⟩

/-- The word that a token of a LIVE activation starts (R146, R163). -/
def tokenWord (s : State) (a : Act) (k : Token) : Word := if k.stray then unloadedWord else s.fetchWord a.epoch (tagIaddr k.tag)

/-- A token that needs no other (R84). -/
def arriveAlone (s : State) (t : Nat) (k : Token) (a : Act) (ok : Bool) : Bool × State :=
  if !ok then (true, s.badToken t 3 k)
  else if s.readyRoom t then
    (true, s.enqueueWord (tokenWord s a k) t k.tag a (if tagPort k.tag = 0 then some k.tv else none)
      (if tagPort k.tag = 1 then some k.tv else none) (if tagPort k.tag = 2 then some k.tv else none))
  else (false, s)

/-- A current token by the match of its instruction (R84). -/
def arriveAs (s : State) (t : Nat) (k : Token) (a : Act) : MatchKind → Bool × State
  | .illegal => arriveAlone s t k a true
  | .merge => arriveAlone s t k a (decide (tagPort k.tag ≤ 1))
  | .fan => if tagPort k.tag = 0 then (true, s.fanOut t k a) else (true, s.badToken t 3 k)
  | .loopgate => s.loopgate t k a
  | .need m => if m = 1 ∨ m = 2 ∨ m = 4 then arriveAlone s t k a (m.testBit (tagPort k.tag)) else s.lookup t m k a

theorem Current.arrive (h : Current s k a) : s.arrive t k = arriveAs s t k a (s.tokenMatch a k) := by
  obtain ⟨hinc, hport, hhere, hact, hlive⟩ := h
  unfold State.arrive
  rw [if_neg (not_not.2 hinc), if_neg (by simp [hport, hhere])]
  extract_lets orphan
  rw [hact]
  dsimp -zeta only
  rw [hlive]
  dsimp -zeta only
  cases s.tokenMatch a k <;> rfl

theorem Accepted.tokKind (h : Accepted s t n k a) : s.tokKind k = some (s.tokenMatch a k) := by
  rw [State.tokKind, h.act]
  exact if_pos h.live

/-! ### FAN -/

theorem fanOut_passes : Passes s s.mst
    ([(decodeIWord (s.fetchWord a.epoch (tagIaddr k.tag))).da, (decodeIWord (s.fetchWord a.epoch (tagIaddr k.tag))).db].filterMap
      (fun x => (destOf (tagIaddr k.tag) x).map (fun d =>
        (mkTag (tagDevice k.tag) (tagAct k.tag) (tagSlot k.tag) (tagIter k.tag) d.1 d.2, k.tv)))) (s.fanOut t k a) := by
  unfold State.fanOut
  extract_lets i out os s1 s2
  have hout : ∀ x, (out x).map (fun o => (o.tag, o.tv)) = ((destOf (tagIaddr k.tag) x).map (fun d =>
      (mkTag (tagDevice k.tag) (tagAct k.tag) (tagSlot k.tag) (tagIter k.tag) d.1 d.2, k.tv))).toList := by
    intro x
    unfold out
    cases destOf (tagIaddr k.tag) x <;> rfl
  have hos : os.map (fun o => (o.tag, o.tv)) = [i.da, i.db].filterMap (fun x => (destOf (tagIaddr k.tag) x).map (fun d =>
      (mkTag (tagDevice k.tag) (tagAct k.tag) (tagSlot k.tag) (tagIter k.tag) d.1 d.2, k.tv))) := by
    rw [List.map_append, hout, hout]
    cases hA : destOf (tagIaddr k.tag) i.da <;> cases hB : destOf (tagIaddr k.tag) i.db <;> simp [hA, hB]
  have h1 : Passes s s.mst (os.map (fun o => (o.tag, o.tv))) s1 := Passes.refl.emitAll os
  rw [hos] at h1
  have h2 : Passes s s.mst _ s2 := .ite h1 h1.accumulate
  exact h2.frame rfl rfl rfl

/-! ### Lookups -/

/-- From `s0` to `s`, lookups of tile `t` have been counted (R85, R93). -/
structure LooksUp (t : Nat) (s0 s : State) : Prop where
  frame : ∃ csr, s = { s0 with csr := csr }
  regs : Keeps (fun a => a ≠ Reg.TIL_LOOKUPS t ∧ a ≠ Reg.MST_CONFLICT t ∧ a ≠ Reg.MST_FILTER_FP t) s0 s
  count : s.rget (Reg.TIL_LOOKUPS t) = s0.rget (Reg.TIL_LOOKUPS t) + 1

namespace LooksUp

theorem counted (s : State) (t : Nat) : LooksUp t s ((s.rinc (Reg.TIL_LOOKUPS t)).rset (Reg.MST_CONFLICT t) 1) where
  frame := ⟨_, rfl⟩
  regs := (Keeps.refl.rset fun _ h => h.1).rset fun _ h => h.2.1
  count := (State.rget_rset_ne _ _ (csrAddr_ne_of_off (by decide))).trans (State.rget_rset_same _ _ _)

theorem missed (h : LooksUp t s0 s) : LooksUp t s0 (s.rinc (Reg.MST_FILTER_FP t)) where
  frame := by
    obtain ⟨csr, rfl⟩ := h.frame
    exact ⟨_, rfl⟩
  regs := h.regs.rset fun _ h => h.2.2
  count := (State.rget_rset_ne _ _ (csrAddr_ne_of_off (by decide))).trans h.count

theorem ite {c : Prop} [Decidable c] (h : LooksUp t s0 s) (g : LooksUp t s0 u) : LooksUp t s0 (if c then s else u) := by
  split
  · exact h
  · exact g

theorem mst (h : LooksUp t s0 s) : s.mst = s0.mst := by
  obtain ⟨csr, rfl⟩ := h.frame
  rfl

theorem act? (h : LooksUp t s0 s) (id : Nat) : s.act? id = s0.act? id := by
  obtain ⟨csr, rfl⟩ := h.frame
  rfl

theorem nextFid (h : LooksUp t s0 s) : s.nextFid = s0.nextFid := by
  obtain ⟨csr, rfl⟩ := h.frame
  rfl

theorem readyRoom (h : LooksUp t s0 s) (v : Nat) : s.readyRoom v = s0.readyRoom v := by
  obtain ⟨csr, rfl⟩ := h.frame
  rfl

theorem passes (h : LooksUp t s0 s) : Passes s0 s0.mst [] s := by
  obtain ⟨csr, rfl⟩ := h.frame
  exact Passes.refl.frame rfl rfl rfl

theorem bankSet (h : LooksUp t s0 s) (key : Nat) : s.bankSet t key = s0.bankSet t key := by
  have hseed := h.regs (Reg.MST_HASH_SEED t)
    ⟨csrAddr_ne_of_off (by decide), csrAddr_ne_of_off (by decide), csrAddr_ne_of_off (by decide)⟩
  have hfld : s.hashSeed t = s0.hashSeed t := congrArg (fld · 11 0) hseed
  rw [State.bankSet, hfld]
  rfl

theorem mstFind (h : LooksUp t s0 s) (key inc : Nat) (g : MKind → Bool) : s.mstFind t key inc g = s0.mstFind t key inc g := by
  rw [State.mstFind, h.mst]
  rfl

theorem freeWay (h : LooksUp t s0 s) {key w : Nat} (hw : FreeWay s0 t key w) : FreeWay s t key w := by
  unfold FreeWay at hw ⊢
  rw [h.mst, h.bankSet]
  exact hw

end LooksUp

theorem find?_key_none {key inc : Nat} {p : MKind → Bool} (h : ∀ e ∈ m, e.tile = t → e.key ≠ key) :
    m.find? (fun e => decide (e.tile = t ∧ e.key = key ∧ e.inc = inc) && p e.kind) = none := by
  refine List.find?_eq_none.2 fun e he hc => ?_
  rw [Bool.and_eq_true] at hc
  obtain ⟨htile, hkey, -⟩ := of_decide_eq_true hc.1
  exact h e he htile hkey

theorem mstFind_of_none {key inc : Nat} {p : MKind → Bool} (h : ∀ e ∈ s.mst, e.tile = t → e.key ≠ key) :
    s.mstFind t key inc p = none := find?_key_none h

theorem mstFind_key {key inc : Nat} {g : MKind → Bool} {e : MEntry} (h : s.mstFind t key inc g = some e) : e.key = key := by
  rw [State.mstFind] at h
  have hc := List.find?_some h
  rw [Bool.and_eq_true] at hc
  obtain ⟨-, hkey, -⟩ := of_decide_eq_true hc.1
  exact hkey

theorem bringBack_of_inStore {e : MEntry} (h : e.inStore = true) (busy : MEntry → Bool) : s.bringBack t e busy = (true, s) :=
  if_pos h

/-- An entry changed where it lies leaves the free ways of every set. -/
theorem freeWay_mstPut {x y : MEntry} (htile : y.tile = x.tile) (hplace : y.place = x.place) {key w : Nat}
    (hw : FreeWay s t key w) : FreeWay (s.mstPut x y) t key w := by
  refine Eq.trans (congrArg (fun p => (List.range 8).find? p) (funext fun v => congrArg (!·) ?_)) hw
  rw [List.any_filter, List.any_filter, State.mstPut, List.any_map]
  refine congrArg (s.mst.any ·) (funext fun e => ?_)
  rw [Function.comp_apply]
  split
  · next he =>
    subst he
    rw [htile]
    simp only [MEntry.inSet, MEntry.way, hplace]
    rfl
  · rfl

/-! ### LOOPGATE -/

/-- The limit of a LOOPGATE (R67). -/
def gateLimit (s : State) (k : Token) (a : Act) : Nat := (decodeIWord (s.fetchWord a.epoch (tagIaddr k.tag))).lit % 2048

/-- Destination field A of a LOOPGATE. -/
def gateDest (s : State) (k : Token) (a : Act) : Nat := (decodeIWord (s.fetchWord a.epoch (tagIaddr k.tag))).da

/-- The token that LOOPGATE sends on to A (R67). -/
def gateTok (k : Token) (d : Nat × Nat) (iter : Nat) (tv : TVal) : OutTok :=
  ⟨mkTag (tagDevice k.tag) (tagAct k.tag) (tagSlot k.tag) iter d.1 d.2, tv⟩

/-- A token goes on to A, its flags in its activation's accumulator (R42, R67). -/
def gateSend (s : State) (t : Nat) (k : Token) (a : Act) (d : Nat × Nat) (iter : Nat) (tv : TVal) : State :=
  (s.emitTok (gateTok k d iter tv) a t 0).accumulate a.id (stFlags tv.st) (stNd tv.st)

theorem Passes.gateSend {d : Nat × Nat} {iter : Nat} {tv : TVal} (h : Passes s0 m ks s) :
    Passes s0 m (ks ++ [((gateTok k d iter tv).tag, tv)]) (gateSend s t k a d iter tv) := h.emitTok.accumulate

/-- The entry of a token that a LOOPGATE holds (R67, R80). -/
def heldEntry (t : Nat) (k : Token) (a : Act) (g : MEntry) : MEntry :=
  { (MEntry.fresh t (State.heldKey k.tag g.tail) .held 0 a.inc a.wafer).add 0 k.tv with heldIter := tagIter k.tag }

/-- The state with the lookup of a token counted (R85). -/
def counted (s : State) (t : Nat) : State := (s.rinc (Reg.TIL_LOOKUPS t)).rset (Reg.MST_CONFLICT t) 1

/-- The state with the lookup's miss in the filter counted, where it was one (R93). -/
def countedMiss (s : State) (t key : Nat) : State :=
  if (counted s t).filterHit t key then (counted s t).rinc (Reg.MST_FILTER_FP t) else counted s t

theorem counted_looksUp (s : State) (t : Nat) : LooksUp t s (counted s t) := .counted s t

theorem countedMiss_looksUp (s : State) (t key : Nat) : LooksUp t s (countedMiss s t key) :=
  .ite (counted_looksUp s t).missed (counted_looksUp s t)

/-- The state entry of a LOOPGATE brought to a way, or made by its first L token (R67, R85, R94). -/
def gateEntry (s : State) (t : Nat) (k : Token) (a : Act) : Bool × State :=
  match (counted s t).mstFind t (State.gateKey k.tag) a.inc State.isGate with
  | some g => (counted s t).bringBack t g State.noneBusy
  | none =>
    if tagPort k.tag = 0 then
      (countedMiss s t (State.gateKey k.tag)).insertEntry t
        (MEntry.fresh t (State.gateKey k.tag) .gateState 0 a.inc a.wafer) true State.noneBusy
    else (true, countedMiss s t (State.gateKey k.tag))

/-- The registers of a lookup that must be tried again, as they were (R85). -/
def uncounted (s : State) (t : Nat) (x : State) : Bool × State :=
  (false, (x.rset (Reg.TIL_LOOKUPS t) (s.rget (Reg.TIL_LOOKUPS t))).rset (Reg.MST_FILTER_FP t) (s.rget (Reg.MST_FILTER_FP t)))

/-- What LOOPGATE does with a token in `u`, whose state entry is `g` (R67). -/
def gateServe (s u : State) (t : Nat) (k : Token) (a : Act) (g : MEntry) : Bool × State :=
  if tagPort k.tag = 0 then
    if g.live < gateLimit s k a then
      (true, match destOf (tagIaddr k.tag) (gateDest s k a) with
        | none => u.mstPut g { g with live := g.live + 1 }
        | some d => gateSend (u.mstPut g { g with live := g.live + 1 }) t k a d (tagIter k.tag) k.tv)
    else
      let r := (u.mstPut g { g with tail := (g.tail + 1) % 2097152 }).insertEntry t (heldEntry t k a g) true (State.sameEntry g)
      if r.1 then r else uncounted s t (u.insertEntry t (heldEntry t k a g) true (State.sameEntry g)).2
  else if g.live = 0 then (true, u.quarantine a.id 5 t 2 (tagIaddr k.tag))
  else if decide (g.head ≠ g.tail) then
    let r := u.gateRelease t k a g (gateDest s k a)
    if r.1 then r else uncounted s t r.2
  else if g.live - 1 = 0 then
    (true, ((u.mstPut g { g with live := g.live - 1 }).mstDrop { g with live := g.live - 1 }).occChanged t)
  else (true, u.mstPut g { g with live := g.live - 1 })

theorem loopgate_eq_gateServe {g : MEntry} (hp : tagPort k.tag ≠ 1) (hctx : stCtx k.tv.st = false)
    (hcur : ∀ e ∈ s.mst, e.tile = t → e.key = State.gateKey k.tag → e.inc = a.inc) (he : gateEntry s t k a = (true, u))
    (hg : u.mstFind t (State.gateKey k.tag) a.inc State.isGate = some g) : s.loopgate t k a = gateServe s u t k a g := by
  unfold State.loopgate
  extract_lets i lim key v0 v1 p miss ready undo v2
  have h0 : v0 = s := freeStale_of_current hcur
  have h1 : v1 = counted s t := by
    unfold v1
    rw [h0]
    rfl
  have hready : ready = (true, u) := by
    rw [← he]
    unfold ready miss
    rw [h1]
    rfl
  rw [if_neg hp, if_neg (ne_true_of_eq_false hctx)]
  unfold v2
  rw [hready]
  dsimp -zeta only
  rw [hg]
  rfl

theorem gateEntry_of_found {g : MEntry} (hg : s.mstFind t (State.gateKey k.tag) a.inc State.isGate = some g)
    (hin : g.inStore = true) : gateEntry s t k a = (true, counted s t) := by
  unfold gateEntry
  rw [(counted_looksUp s t).mstFind, hg]
  exact bringBack_of_inStore hin _

/-- The entry that a LOOPGATE's first L token makes, in its way (R67). -/
def gateFresh (s : State) (t : Nat) (k : Token) (a : Act) (w : Nat) : MEntry :=
  { MEntry.fresh t (State.gateKey k.tag) .gateState 0 a.inc a.wafer with
    place := .way (s.bankSet t (State.gateKey k.tag)).1 (s.bankSet t (State.gateKey k.tag)).2 w }

theorem gateEntry_of_free {w : Nat} (hp : tagPort k.tag = 0) (hkeys : ∀ e ∈ s.mst, e.tile = t → e.key ≠ State.gateKey k.tag)
    (hw : FreeWay s t (State.gateKey k.tag) w) : ∃ v, gateEntry s t k a = (true, v) ∧
    Passes s (s.mst ++ [gateFresh s t k a w]) [] v := by
  have hmiss := countedMiss_looksUp s t (State.gateKey k.tag)
  refine ⟨_, ?_, (hmiss.passes.putWay (t := t) (e := MEntry.fresh t (State.gateKey k.tag) .gateState 0 a.inc a.wafer))⟩
  have hkey : (MEntry.fresh t (State.gateKey k.tag) .gateState 0 a.inc a.wafer).key = State.gateKey k.tag := rfl
  unfold gateEntry
  rw [(counted_looksUp s t).mstFind, mstFind_of_none hkeys]
  dsimp -zeta only
  rw [if_pos hp, insertEntry_of_freeWay hkey (hmiss.freeWay hw) true State.noneBusy, hmiss.bankSet]

theorem mstFind_of_append {g : MEntry} {key inc : Nat} {p : MKind → Bool} (hm : u.mst = m ++ [g])
    (hkeys : ∀ e ∈ m, e.tile = t → e.key ≠ key) (ht : g.tile = t) (hk : g.key = key) (hi : g.inc = inc) (hp : p g.kind = true) :
    u.mstFind t key inc p = some g := by
  rw [State.mstFind, hm, List.find?_append, find?_key_none hkeys, Option.none_or, List.find?_cons_of_pos]
  simp [ht, hk, hi, hp]

/-- An entry at the end of a store changed where it lies. -/
theorem map_append_replace {x y : MEntry} (h : x ∉ m) :
    (m ++ [x]).map (fun e => if e = x then y else e) = m ++ [y] := by
  have hkeep : m.map (fun e => if e = x then y else e) = m.map id :=
    List.map_congr_left fun e he => if_neg fun hx : e = x => h (hx ▸ he)
  rw [List.map_append, hkeep, List.map_id, List.map_singleton, if_pos rfl]

/-- An L token below the limit goes on to A (R67). -/
theorem gateServe_admits {d : Nat × Nat} {g : MEntry} (h : Passes s m [] u) (hp : tagPort k.tag = 0)
    (hdest : destOf (tagIaddr k.tag) (gateDest s k a) = some d) (hlim : g.live < gateLimit s k a) :
    ∃ v, gateServe s u t k a g = (true, v) ∧ Passes s (m.map (fun e => if e = g then { g with live := g.live + 1 } else e))
      [((gateTok k d (tagIter k.tag) k.tv).tag, k.tv)] v := by
  refine ⟨_, ?_, (h.mstPut (x := g) (y := { g with live := g.live + 1 })).gateSend (t := t) (k := k) (a := a) (d := d)
    (iter := tagIter k.tag) (tv := k.tv)⟩
  rw [gateServe, if_pos hp, if_pos hlim, hdest]

theorem heldEntry_key (t : Nat) (k : Token) (a : Act) (g : MEntry) : (heldEntry t k a g).key = State.heldKey k.tag g.tail := rfl

/-- At the limit an L token is held in an entry of its own (R67, R80). -/
theorem gateServe_holds {g : MEntry} {w : Nat} (h : LooksUp t s u) (hp : tagPort k.tag = 0) (hlim : gateLimit s k a ≤ g.live)
    (hw : FreeWay s t (State.heldKey k.tag g.tail) w) : ∃ v b st, gateServe s u t k a g = (true, v) ∧
      Passes s (s.mst.map (fun e => if e = g then { g with tail := (g.tail + 1) % 2097152 } else e) ++
        [{ heldEntry t k a g with place := .way b st w }]) [] v := by
  have hw' : FreeWay (u.mstPut g { g with tail := (g.tail + 1) % 2097152 }) t (State.heldKey k.tag g.tail) w :=
    freeWay_mstPut (x := g) (y := { g with tail := (g.tail + 1) % 2097152 }) rfl rfl (h.freeWay hw)
  refine ⟨_, (u.bankSet t (State.heldKey k.tag g.tail)).1, (u.bankSet t (State.heldKey k.tag g.tail)).2, ?_,
    h.passes.mstPut.putWay (t := t) (e := heldEntry t k a g)⟩
  rw [gateServe, if_pos hp, if_neg (Nat.not_lt.2 hlim), insertEntry_of_freeWay (heldEntry_key t k a g) hw']
  rfl

/-- A C token lets the token at the head go on to A (R67, R80). -/
theorem gateServe_releases {d : Nat × Nat} {g x : MEntry} (h : LooksUp t s u) (hp : tagPort k.tag = 2)
    (hdest : destOf (tagIaddr k.tag) (gateDest s k a) = some d) (hlive : 0 < g.live) (hheld : g.head ≠ g.tail)
    (hx : s.mstFind t (State.heldKey k.tag g.head) a.inc State.isHeld = some x) (hin : x.inStore = true) :
    ∃ v, gateServe s u t k a g = (true, v) ∧ Passes s ((s.mst.filter (fun e => decide (e ≠ x))).map
      (fun e => if e = g then { g with head := (g.head + 1) % 2097152 } else e))
      [((gateTok k d x.heldIter x.v0).tag, x.v0)] v := by
  have hrelease : u.gateRelease t k a g (gateDest s k a) = (true, ((gateSend ((u.mstDrop x).mstPut g
      { g with head := (g.head + 1) % 2097152 }) t k a d x.heldIter x.v0).progress (tagSlot k.tag)).occChanged t) := by
    unfold State.gateRelease
    extract_lets key back v
    have hfind : u.mstFind t key a.inc State.isHeld = some x := (h.mstFind _ _ _).trans hx
    have hback : back = (true, u) := by
      unfold back
      rw [hfind]
      exact bringBack_of_inStore hin _
    unfold v
    rw [hback]
    dsimp -zeta only
    rw [if_neg (by simp), hfind, hdest]
    rfl
  refine ⟨_, ?_, (h.passes.mstDrop.mstPut.gateSend (t := t) (k := k) (a := a) (d := d)).occupies
    (Occupies.refl.progress (k := tagSlot k.tag) |>.occChanged (t := t))⟩
  rw [gateServe, if_neg (by omega), if_neg (by omega), if_pos (decide_eq_true hheld), hrelease]
  rfl

/-- A C token with nothing held lowers the live count, and frees the state entry when that was 1 (R67). -/
theorem gateServe_lowers {g : MEntry} (h : LooksUp t s u) (hp : tagPort k.tag = 2) (hlive : 1 < g.live) (hheld : g.head = g.tail) :
    gateServe s u t k a g = (true, u.mstPut g { g with live := g.live - 1 }) ∧
    Passes s (s.mst.map (fun e => if e = g then { g with live := g.live - 1 } else e)) []
      (u.mstPut g { g with live := g.live - 1 }) := by
  refine ⟨?_, h.passes.mstPut⟩
  rw [gateServe, if_neg (by omega), if_neg (by omega), if_neg (by simp [hheld]), if_neg (by omega)]

theorem gateServe_frees {g : MEntry} (h : LooksUp t s u) (hp : tagPort k.tag = 2) (hlive : g.live = 1) (hheld : g.head = g.tail) :
    ∃ v, gateServe s u t k a g = (true, v) ∧ Passes s ((s.mst.map (fun e => if e = g then { g with live := 0 } else e)).filter
      (fun e => decide (e ≠ { g with live := 0 }))) [] v := by
  have hzero : g.live - 1 = 0 := by omega
  refine ⟨_, ?_, (h.passes.mstPut.mstDrop).occupies (Occupies.refl.occChanged (t := t))⟩
  rw [gateServe, if_neg (by omega), if_neg (by omega), if_neg (by simp [hheld]), if_pos hzero, hzero]

/-- An entry that is changed where it lies and then dropped is gone, and no other has gone. -/
theorem mem_replace_drop {x y z : MEntry} (h : z ∈ (m.map (fun e => if e = x then y else e)).filter (fun e => decide (e ≠ y))) :
    z ∈ m ∧ z ≠ x := by
  obtain ⟨hmap, hne⟩ := List.mem_filter.1 h
  obtain ⟨e, he, rfl⟩ := List.mem_map.1 hmap
  have hne := of_decide_eq_true hne
  by_cases hx : e = x
  · exact absurd (if_pos hx) hne
  · rw [if_neg hx]
    exact ⟨he, hx⟩

theorem mem_replace_drop_of_key {x y z : MEntry} (hk : y.key = x.key) (hz : z ∈ m) (hne : z.key ≠ x.key) :
    z ∈ (m.map (fun e => if e = x then y else e)).filter (fun e => decide (e ≠ y)) := by
  refine List.mem_filter.2 ⟨List.mem_map.2 ⟨z, hz, if_neg fun h => hne (congrArg MEntry.key h)⟩, decide_eq_true fun h => ?_⟩
  exact hne ((congrArg MEntry.key h).trans hk)

/-! ### The commands -/

theorem exec_fireFan_of_arrives (h : Accepted s t n k a) (hm : s.tokenMatch a k = .fan)
    (hr : (taken s t n).arrive t k = (true, u)) : exec (.fireFan t n) s = .next u.settle := by
  rw [exec_fireFan, execFireFan, State.onlyIf_pos s _ (by rw [h.alive]; rfl),
    tokenIn_of_arrives h.token h.may (decide_eq_true (h.tokKind.trans (congrArg some hm))) hr]

theorem exec_fireLoopgate_of_arrives (h : Accepted s t n k a) (hm : s.tokenMatch a k = .loopgate)
    (hr : (taken s t n).loopgate t k a = (true, u)) : exec (.fireLoopgate t n) s = .next u.settle := by
  have harrive : (taken s t n).arrive t k = (true, u) := by
    have hm' : (taken s t n).tokenMatch a k = .loopgate := hm
    rw [h.current.arrive, hm']
    exact hr
  rw [exec_fireLoopgate, execFireLoopgate, State.onlyIf_pos s _ (by rw [h.alive]; rfl),
    tokenIn_of_arrives h.token h.may (decide_eq_true (h.tokKind.trans (congrArg some hm))) harrive]

/-- A LOOPGATE whose state entry lies in the store of the tile (R67). -/
theorem loopgate_of_found {g : MEntry} (hp : tagPort k.tag ≠ 1) (hctx : stCtx k.tv.st = false)
    (hcur : ∀ e ∈ s.mst, e.tile = t → e.key = State.gateKey k.tag → e.inc = a.inc)
    (hg : s.mstFind t (State.gateKey k.tag) a.inc State.isGate = some g) (hin : g.inStore = true) :
    s.loopgate t k a = gateServe s (counted s t) t k a g :=
  loopgate_eq_gateServe hp hctx hcur (gateEntry_of_found hg hin) (((counted_looksUp s t).mstFind _ _ _).trans hg)

/-- The first L token of a LOOPGATE makes its state entry and goes on to A (R67). -/
theorem loopgate_of_free {d : Nat × Nat} {w : Nat} (hp : tagPort k.tag = 0) (hctx : stCtx k.tv.st = false)
    (hdest : destOf (tagIaddr k.tag) (gateDest s k a) = some d) (hlim : 0 < gateLimit s k a)
    (hkeys : ∀ e ∈ s.mst, e.tile = t → e.key ≠ State.gateKey k.tag) (hw : FreeWay s t (State.gateKey k.tag) w) :
    ∃ v, s.loopgate t k a = (true, v) ∧ Passes s (s.mst ++ [{ gateFresh s t k a w with live := 1 }])
      [((gateTok k d (tagIter k.tag) k.tv).tag, k.tv)] v := by
  obtain ⟨u, hentry, hu⟩ := gateEntry_of_free (a := a) hp hkeys hw
  have hfind : u.mstFind t (State.gateKey k.tag) a.inc State.isGate = some (gateFresh s t k a w) :=
    mstFind_of_append hu.mst hkeys rfl rfl rfl rfl
  have hnew : gateFresh s t k a w ∉ s.mst := fun h => hkeys _ h rfl rfl
  obtain ⟨v, hserve, hv⟩ := gateServe_admits hu hp hdest (g := gateFresh s t k a w) hlim
  rw [map_append_replace hnew] at hv
  refine ⟨v, ?_, hv⟩
  rw [loopgate_eq_gateServe (by omega) hctx (fun e he ht hk => absurd hk (hkeys e he ht)) hentry hfind]
  exact hserve

/-- Settles O35: FAN by the list of its tokens, LOOPGATE by what it does with a token whose state entry is in the store. -/
theorem fanAndLoopgateWorkInTheStore : Obligations.FanAndLoopgateWorkInTheStore := by
  unfold Obligations.FanAndLoopgateWorkInTheStore
  refine ⟨?_, ?_⟩
  · intro s t n k a h hm hp
    have hm' : (taken s t n).tokenMatch a k = .fan := hm
    have harrive : (taken s t n).arrive t k = (true, (taken s t n).fanOut t k a) := by
      rw [h.current.arrive, hm']
      exact if_pos hp
    have hpass := (fanOut_passes (s := taken s t n) (t := t) (k := k) (a := a)).settle
    exact ⟨_, exec_fireFan_of_arrives h hm harrive, hpass.firings, hpass.mst, hpass.net⟩
  · intro s t n k a d h hm hctx hdest lim key sent
    have hfinish : ∀ {u : State} {m : List MEntry} {ks : List (Tag × TVal)},
        (taken s t n).loopgate t k a = (true, u) → Passes (taken s t n) m ks u →
        exec (.fireLoopgate t n) s = .next u.settle ∧ u.settle.firings = s.firings ∧ u.settle.mst = m ∧
          carried u.settle.net = carried (State.netErase t n s.net) ++ ks := fun hr hp =>
      ⟨exec_fireLoopgate_of_arrives h hm hr, hp.settle.firings, hp.settle.mst, hp.settle.net⟩
    refine ⟨?_, fun g hcur hg hin => ⟨?_, ?_, ?_, ?_, ?_⟩⟩
    · intro w hp hlim hfree hw
      obtain ⟨v, hr, hv⟩ := loopgate_of_free (s := taken s t n) hp hctx hdest hlim hfree.1 hw
      obtain ⟨hexec, hfir, hmst, hnet⟩ := hfinish hr hv
      exact ⟨_, hexec, hfir, hnet, hmst⟩
    · intro hp hlim
      have hgate := loopgate_of_found (s := taken s t n) (a := a) (by omega) hctx hcur hg hin
      obtain ⟨v, hr, hv⟩ := gateServe_admits (counted_looksUp (taken s t n) t).passes hp hdest hlim
      obtain ⟨hexec, hfir, hmst, hnet⟩ := hfinish (hgate.trans hr) hv
      exact ⟨_, hexec, hfir, hmst, hnet⟩
    · intro w hp hlim hw
      have hgate := loopgate_of_found (s := taken s t n) (a := a) (by omega) hctx hcur hg hin
      obtain ⟨v, b, st, hr, hv⟩ := gateServe_holds (counted_looksUp (taken s t n) t) hp hlim hw
      obtain ⟨hexec, hfir, hmst, hnet⟩ := hfinish (hgate.trans hr) hv
      exact ⟨_, hexec, hfir, hnet.trans (List.append_nil _), _, hmst, rfl, rfl, rfl, rfl, rfl, rfl⟩
    · intro x hp hlive hheld hx hxin
      have hgate := loopgate_of_found (s := taken s t n) (a := a) (by omega) hctx hcur hg hin
      obtain ⟨v, hr, hv⟩ := gateServe_releases (counted_looksUp (taken s t n) t) hp hdest hlive hheld hx hxin
      obtain ⟨hexec, hfir, hmst, hnet⟩ := hfinish (hgate.trans hr) hv
      exact ⟨_, hexec, hfir, hnet, hmst⟩
    · intro hp hlive hheld
      have hgate := loopgate_of_found (s := taken s t n) (a := a) (by omega) hctx hcur hg hin
      obtain ⟨hr, hv⟩ := gateServe_lowers (counted_looksUp (taken s t n) t) (a := a) hp hlive hheld
      obtain ⟨hexec, hfir, hmst, hnet⟩ := hfinish (hgate.trans hr) hv
      exact ⟨_, hexec, hfir, hnet.trans (List.append_nil _), hmst⟩
    · intro hp hlive hheld
      have hgate := loopgate_of_found (s := taken s t n) (a := a) (by omega) hctx hcur hg hin
      obtain ⟨v, hr, hv⟩ := gateServe_frees (counted_looksUp (taken s t n) t) (a := a) hp hlive hheld
      obtain ⟨hexec, hfir, hmst, hnet⟩ := hfinish (hgate.trans hr) hv
      refine ⟨_, hexec, hfir, hnet.trans (List.append_nil _), ?_, ?_⟩
      · rw [hmst]
        exact fun x hx => mem_replace_drop hx
      · rw [hmst]
        exact fun x hx hk => mem_replace_drop_of_key rfl hx hk

end Sys2Proof.Safety
end

section
/-! Matching of tokens in the store, and quarantine by a bad token (R39 to R55, R85). -/

namespace Sys2Proof.Safety
open Sys2Proof.Machine

variable {s s0 u : State} {t n : Nat} {k : Token} {a : Act}

/-! ### Keys and entries -/

theorem keyAct_tagKey (tag : Tag) : keyAct (tagKey tag) = tagAct tag := by
  simp only [keyAct, tagKey, tagAct, fld, natField]
  omega

theorem tagIaddr_of_key (tag : Tag) : tagIaddr (BitVec.ofNat 64 (tagKey tag * 4)) = tagIaddr tag := by
  have hlt := tag.isLt
  simp only [tagKey, tagIaddr, fld, natField, BitVec.toNat_ofNat]
  omega

theorem tag_of_key (tag : Tag) : BitVec.ofNat 64 (tagKey tag * 4) &&& ~~~3 = tag &&& ~~~3 := by
  have hkey : BitVec.ofNat 64 (tagKey tag * 4) = tag >>> 2 <<< 2 := by
    refine BitVec.eq_of_toNat_eq ?_
    have hlt := tag.isLt
    simp only [tagKey, BitVec.toNat_ofNat, BitVec.toNat_shiftLeft, BitVec.toNat_ushiftRight, Nat.shiftRight_eq_div_pow,
      Nat.shiftLeft_eq]
  rw [hkey]
  refine BitVec.eq_of_getLsbD_eq fun i hi => ?_
  simp only [BitVec.getLsbD_and, BitVec.getLsbD_shiftLeft, BitVec.getLsbD_ushiftRight, BitVec.getLsbD_not, hi, decide_true,
    Bool.true_and]
  obtain hlow | hhigh := Nat.lt_or_ge i 2
  · have hmask : BitVec.getLsbD (3 : Tag) i = true := by
      interval_cases i <;> decide
    rw [hmask]
    simp
  · rw [decide_eq_false (Nat.not_lt.2 hhigh), Nat.add_sub_cancel' hhigh]
    rfl

/-- An entry with a value added holds it at its port, and at every other what it held. -/
theorem at_add {e : MEntry} {p : Nat} {v : TVal} (hcount : e.count < 3) (hfree : e.at p = none) (q : Nat) :
    (e.add p v).at q = if p = q then some v else e.at q := by
  have hcases : e.count = 0 ∨ e.count = 1 ∨ e.count = 2 := by omega
  obtain h | h | h := hcases
  · simp [MEntry.add, MEntry.at, h]
  · have hp0 : e.p0 ≠ p := by simpa [MEntry.at, h] using hfree
    by_cases hq : p = q
    · subst hq
      simp [MEntry.add, MEntry.at, h, hp0]
    · simp [MEntry.add, MEntry.at, h, hq]
  · have hp0 : e.p0 ≠ p := fun hp => by simp [MEntry.at, h, hp] at hfree
    have hp1 : e.p1 ≠ p := fun hp => by simp [MEntry.at, h, hp0, hp] at hfree
    by_cases hq : p = q
    · subst hq
      simp [MEntry.add, MEntry.at, h, hp0, hp1]
    · simp [MEntry.add, MEntry.at, h, hq]

/-! ### Lookups -/

theorem LooksUp.fetchWord (h : LooksUp t s0 s) (epoch iaddr : Nat) : s.fetchWord epoch iaddr = s0.fetchWord epoch iaddr := by
  have hne : ∀ o < 0x10000, Reg.TCK_EPOCH ≠ csrAddr (0x10 + t) o := fun o ho =>
    csrAddr_ne_of_block (by omega) (by decide) ho
  have hepoch : s.epochNow = s0.epochNow := congrArg (fld · 31 0)
    (h.regs Reg.TCK_EPOCH ⟨hne _ (by decide), hne _ (by decide), hne _ (by decide)⟩)
  obtain ⟨csr, hs⟩ := h.frame
  have hbank : s.bankOf epoch = s0.bankOf epoch := by
    rw [State.bankOf, hepoch, hs]
    rfl
  rw [State.fetchWord, hbank, hs]
  rfl

theorem noLookupWaits {key : Nat} (h : ∀ m ∈ s.mfetch, m.tile = t → tagKey m.tok.tag ≠ key) :
    s.mfetch.any (fun m => decide (m.tile = t ∧ tagKey m.tok.tag = key)) = false :=
  List.any_eq_false.2 fun m hm hc => by
    obtain ⟨htile, hkey⟩ := of_decide_eq_true hc
    exact h m hm htile hkey

theorem lookup_of_free {m w : Nat} (hfit : m.testBit (tagPort k.tag) = true) (hfree : KeyFree s t (tagKey k.tag))
    (hw : FreeWay s t (tagKey k.tag) w) : s.lookup t m k a = (true, (countedMiss s t (tagKey k.tag)).putWay t
      (s.bankSet t (tagKey k.tag)).1 (s.bankSet t (tagKey k.tag)).2 w
      ((MEntry.fresh t (tagKey k.tag) .operand m a.inc a.wafer).add (tagPort k.tag) k.tv)) := by
  obtain ⟨hkeys, hwait⟩ := hfree
  have hmiss := countedMiss_looksUp s t (tagKey k.tag)
  unfold State.lookup
  extract_lets key v0 v1 v2 fits e0 e r
  have h0 : v0 = s := freeStale_of_current fun e he ht hk => absurd hk (hkeys e he ht)
  have he : e = e0.add (tagPort k.tag) k.tv := if_pos hfit
  have hkey : e.key = tagKey k.tag := by
    rw [he]
    rfl
  have h2 : v2 = countedMiss s t (tagKey k.tag) := by
    unfold v2 v1
    rw [h0]
    rfl
  have hr : r = (true, (countedMiss s t (tagKey k.tag)).putWay t
      (s.bankSet t (tagKey k.tag)).1 (s.bankSet t (tagKey k.tag)).2 w e) := by
    unfold r
    rw [h2, insertEntry_of_freeWay hkey (hmiss.freeWay hw), hmiss.bankSet]
  rw [if_neg (ne_true_of_eq_false (noLookupWaits hwait)), h0, mstFind_of_none hkeys, hr]
  dsimp -zeta only
  rw [if_pos rfl, if_pos hfit, he]

theorem lookup_of_found {m : Nat} {e : MEntry} (hcur : ∀ x ∈ s.mst, x.tile = t → x.key = tagKey k.tag → x.inc = a.inc)
    (hwait : ∀ x ∈ s.mfetch, x.tile = t → tagKey x.tok.tag ≠ tagKey k.tag)
    (he : s.mstFind t (tagKey k.tag) a.inc State.isPair = some e) (hin : e.inStore = true) :
    s.lookup t m k a = (true, (counted s t).meet t k e) := by
  unfold State.lookup
  extract_lets key v0 v1 v2 fits e0 e' r
  have h0 : v0 = s := freeStale_of_current hcur
  rw [if_neg (ne_true_of_eq_false (noLookupWaits hwait)), h0, he]
  dsimp -zeta only
  rw [if_pos hin]
  unfold v1
  rw [h0]
  rfl

/-- A token that its entry has at another port already is added to it; one that completes it makes a ready firing (R51, R55, R85). -/
theorem meet_of_new {e : MEntry} (hfree : e.at (tagPort k.tag) = none) (hneed : e.need.testBit (tagPort k.tag) = true) :
    s.meet t k e = if (e.add (tagPort k.tag) k.tv).full then
      (s.mstPut e { e.add (tagPort k.tag) k.tv with kind := .complete }).entryReady t
        { e.add (tagPort k.tag) k.tv with kind := .complete }
      else s.mstPut e (e.add (tagPort k.tag) k.tv) := by
  unfold State.meet
  extract_lets p e1 e2
  rw [if_neg (by simp [p, hfree]), if_neg (by simp [p, hneed])]

theorem meet_of_bad {e : MEntry} {cause : Nat} (h : (cause = 2 ∧ e.at (tagPort k.tag) ≠ none) ∨
    (cause = 3 ∧ e.at (tagPort k.tag) = none ∧ e.need.testBit (tagPort k.tag) = false)) :
    s.meet t k e = s.badToken t cause k := by
  unfold State.meet
  extract_lets p e1 e2
  obtain ⟨rfl, hheld⟩ | ⟨rfl, hfree, hneed⟩ := h
  · exact if_pos (Option.isSome_iff_ne_none.2 hheld)
  · rw [if_neg (by simp [p, hfree]), if_pos (by rw [hneed]; rfl)]

/-! ### Quarantine -/

/-- The registers of a tile after a quarantine: what it was, of which wafer, and their number (R52). -/
def quarRegs (s : State) (t : Nat) (last wafer : Word) : State :=
  ((s.rset (Reg.TIL_QUAR_LAST t) last).rset (Reg.TIL_QUAR_WAFER t) wafer).rinc (Reg.TIL_QUAR_COUNT t)

theorem quarRegs_regs (s : State) (t : Nat) (last wafer : Word) :
    (quarRegs s t last wafer).rget (Reg.TIL_BADPORT t) = s.rget (Reg.TIL_BADPORT t) ∧
    (quarRegs s t last wafer).rget (Reg.TIL_QUAR_LAST t) = last := by
  simp only [quarRegs, State.rinc, Reg.TIL_BADPORT, Reg.TIL_QUAR_LAST, Reg.TIL_QUAR_WAFER, Reg.TIL_QUAR_COUNT]
  simp (disch := (refine csrAddr_ne_of_off ?_; omega)) only [State.rget_rset_ne, State.rget_rset_same, and_self]

theorem quarRegs_acts (s : State) (t : Nat) (last wafer : Word) : (quarRegs s t last wafer).acts = s.acts :=
  (State.rset_acts _ _ _).trans ((State.rset_acts _ _ _).trans (State.rset_acts _ _ _))

theorem quarRegs_firings (s : State) (t : Nat) (last wafer : Word) : (quarRegs s t last wafer).firings = s.firings :=
  (State.rset_firings _ _ _).trans ((State.rset_firings _ _ _).trans (State.rset_firings _ _ _))

/-- A quarantine (R52): the activation is QUARANTINED, its firings are gone, and the tile's registers name it. -/
theorem quarantine_unwinds {id cause sub iaddr : Nat} (hact : s.act? id = some a) (hst : a.state ≠ .quarantined) : ∃ v,
    Unwinds (s.updAct id (fun x => { x with state := .quarantined })) v ∧ (∀ f ∈ v.firings, f.act ≠ id) ∧
    Unwinds (quarRegs v t (w64 (2 ^ 63 + cause * 2 ^ 32 + a.slot * 2 ^ 22 + iaddr)) (w64 a.wafer))
      (s.quarantine id cause t sub iaddr) := by
  unfold State.quarantine
  rw [hact]
  dsimp -zeta only
  rw [if_neg hst]
  extract_lets s1 s2 tiles s3 s4 s5 mine s6 s7 s8 s9 s10 x
  obtain ⟨hdrop, hgone⟩ := foldl_dropFiring (s1.firings.filter (fun f => decide (f.act = id))) s1
  have h2 : Unwinds s1 s2 := hdrop
  have hnone : ∀ f ∈ s2.firings, f.act ≠ id := by
    intro f hf hid
    obtain ⟨f0, hf0, hfid, hfact⟩ := h2.firings f hf
    exact hgone f hf f0 (List.mem_filter.2 ⟨hf0, decide_eq_true (hfact.trans hid)⟩) hfid.symm
  have h3 : Unwinds s2 s3 := Unwinds.refl.foldl fun _ _ hu => .ite hu.takeTable (hu.frame rfl rfl rfl rfl)
  have h4 : Unwinds s2 s4 := h3.foldl fun _ _ hu => hu.occChanged
  have h5 : Unwinds s2 s5 := h4.frame rfl rfl rfl rfl
  have h6 : Unwinds s2 s6 := h5.withdrawWaits.abandonAll.rewindDead
  have h7 : Unwinds s2 s7 := h6.waferCrumb
  have h8 : Unwinds s2 s8 := .ite h7.waferCrumb.sumFlags h7
  have h10 : Unwinds s9 s10 := Unwinds.refl.event
  have hquar : Unwinds s9 (s10.updSlot a.slot (fun y => { y with quar := true })) := h10.frame rfl rfl rfl rfl
  refine ⟨s8, h2.trans h8, ?_, ?_⟩
  · intro f hf
    obtain ⟨f0, hf0, -, hfact⟩ := h8.firings f hf
    exact hfact ▸ hnone f0 hf0
  · change Unwinds s9 _
    exact Unwinds.settle (.ite hquar h10)


/-- What a quarantine leaves to be seen: the tile's registers, the activation's state and no firing of it (R52). -/
theorem quarantine_spec {id cause sub iaddr : Nat} (hact : s.act? id = some a) (hst : a.state ≠ .quarantined) :
    (s.quarantine id cause t sub iaddr).rget (Reg.TIL_BADPORT t) = s.rget (Reg.TIL_BADPORT t) ∧
    (s.quarantine id cause t sub iaddr).rget (Reg.TIL_QUAR_LAST t) = w64 (2 ^ 63 + cause * 2 ^ 32 + a.slot * 2 ^ 22 + iaddr) ∧
    (∀ x ∈ (s.quarantine id cause t sub iaddr).acts, x.id = id → x.state = .quarantined) ∧
    (∀ f ∈ (s.quarantine id cause t sub iaddr).firings, f.act ≠ id) := by
  obtain ⟨v, hv, hgone, hu⟩ := quarantine_unwinds (t := t) (cause := cause) (sub := sub) (iaddr := iaddr) hact hst
  have hbad : TileReg (Reg.TIL_BADPORT t) := tileReg_of (b := 0x10 + t) (o := 0x58) (by omega) (by decide)
  have hlast : TileReg (Reg.TIL_QUAR_LAST t) := tileReg_of (b := 0x10 + t) (o := 0x68) (by omega) (by decide)
  refine ⟨?_, ?_, ?_, ?_⟩
  · exact (hu.regs _ hbad).trans ((quarRegs_regs v t _ _).1.trans (hv.regs _ hbad))
  · exact (hu.regs _ hlast).trans (quarRegs_regs v t _ _).2
  · intro x hx hid
    have hmem := List.mem_map_of_mem (f := fun a : Act => (a.id, a.state)) hx
    rw [hu.acts, quarRegs_acts, hv.acts] at hmem
    obtain ⟨y, hy, he⟩ := List.mem_map.1 hmem
    obtain ⟨z, -, rfl⟩ := List.mem_map.1 hy
    obtain ⟨hyid, hyst⟩ := Prod.mk.inj he
    rw [← hyst]
    split at hyid
    · next hz => rw [if_pos hz]
    · next hz => exact absurd (hyid.trans hid) hz
  · intro f hf
    obtain ⟨g, hg, -, hfact⟩ := hu.firings f hf
    rw [quarRegs_firings] at hg
    exact hfact ▸ hgone g hg

/-- A discarded token is counted, and its activation quarantined (R51). -/
theorem badToken_spec {cause : Nat} (hact : s.act? (tagAct k.tag) = some a) (hlive : a.state = .live) :
    (s.badToken t cause k).rget (Reg.TIL_BADPORT t) = s.rget (Reg.TIL_BADPORT t) + 1 ∧
    (s.badToken t cause k).rget (Reg.TIL_QUAR_LAST t) =
      w64 (2 ^ 63 + cause * 2 ^ 32 + a.slot * 2 ^ 22 + tagIaddr k.tag) ∧
    (∀ x ∈ (s.badToken t cause k).acts, x.id = tagAct k.tag → x.state = .quarantined) ∧
    (∀ f ∈ (s.badToken t cause k).firings, f.act ≠ tagAct k.tag) := by
  have hact' : (s.rinc (Reg.TIL_BADPORT t)).act? (tagAct k.tag) = some a := by
    rw [State.act?, State.rinc_eq, State.rset_acts]
    exact hact
  obtain ⟨hbad, hlast, hacts, hfir⟩ := quarantine_spec (t := t) (cause := cause) (sub := 2) (iaddr := tagIaddr k.tag) hact'
    (by rw [hlive]; decide)
  exact ⟨hbad.trans (State.rget_rset_same _ _ _), hlast, hacts, hfir⟩

/-! ### Tokens that reach no instruction -/

/-- The state with an orphan counted, and reported where that is asked for (R49). -/
def orphaned (s : State) (t : Nat) (k : Token) : State :=
  if s.rbit (Reg.TIL_CTRL t) 0 then (s.rinc (Reg.TIL_ORPHAN t)).eventTag (srcTile t 5) 0 0x11 0 k.tag none
  else s.rinc (Reg.TIL_ORPHAN t)

theorem arrive_of_orphan (hinc : k.inc = (s.slotAt (tagSlot k.tag)).inc) (hport : tagPort k.tag ≠ 3)
    (hhere : tagDevice k.tag = s.localId)
    (hact : s.act? (tagAct k.tag) = none ∨ ∃ a, s.act? (tagAct k.tag) = some a ∧ a.state = .ending) :
    s.arrive t k = (true, orphaned s t k) := by
  unfold State.arrive
  rw [if_neg (not_not.2 hinc), if_neg (by simp [hport, hhere])]
  extract_lets orphan
  obtain hnone | ⟨a, ha, hend⟩ := hact
  · rw [hnone]
    rfl
  · rw [ha]
    dsimp -zeta only
    rw [hend]
    rfl

theorem arrive_of_foreign (hinc : k.inc = (s.slotAt (tagSlot k.tag)).inc) (h : tagPort k.tag = 3 ∨ tagDevice k.tag ≠ s.localId) :
    s.arrive t k = (true, (s.rinc (Reg.TIL_BADPORT t)).eventTag (srcTile t 5) 0 0x10 0 k.tag none) := by
  unfold State.arrive
  rw [if_neg (not_not.2 hinc), if_pos h]

theorem arrive_of_old (hinc : k.inc ≠ (s.slotAt (tagSlot k.tag)).inc) : s.arrive t k = (true, s) := by
  unfold State.arrive
  exact if_pos hinc

/-- An event with a tag after a count leaves the count. -/
theorem rinc_eventTag {b src loc code arg : Nat} {tag : Tag} {w : Option Nat} (hb : TileReg b) :
    Occupies (s.rinc b) ((s.rinc b).eventTag src loc code arg tag w) ∧
    ((s.rinc b).eventTag src loc code arg tag w).rget b = s.rget b + 1 := by
  have hocc : Occupies (s.rinc b) ((s.rinc b).eventTag src loc code arg tag w) := Occupies.refl.collect rfl
  exact ⟨hocc, (hocc.regs b hb).trans (State.rget_rset_same _ _ _)⟩

theorem orphaned_spec (s : State) (t : Nat) (k : Token) : Occupies (s.rinc (Reg.TIL_ORPHAN t)) (orphaned s t k) ∧
    (orphaned s t k).rget (Reg.TIL_ORPHAN t) = s.rget (Reg.TIL_ORPHAN t) + 1 := by
  unfold orphaned
  split
  · exact rinc_eventTag (tileReg_of (b := 0x10 + t) (o := 0x50) (by omega) (by decide))
  · exact ⟨.refl, State.rget_rset_same _ _ _⟩

/-! ### The command -/

theorem exec_tokenArrival_of_arrives (hd : s.dead = false) (htok : s.netTok t n = some k) (hmay : s.mayArrive t k = true)
    (hr : (taken s t n).arrive t k = (true, u)) : exec (.tokenArrival t n) s = .next u.settle := by
  rw [exec_tokenArrival, execTokenArrival, State.onlyIf_pos s _ (by rw [hd]; rfl), tokenIn_of_arrives htok hmay rfl hr]

theorem settle_rget (s : State) (a : Nat) : s.settle.rget a = s.rget a := by
  obtain ⟨net, n, slots, he, -⟩ := settle_eq s
  rw [he]
  rfl

theorem settle_acts (s : State) : s.settle.acts = s.acts := by
  obtain ⟨net, n, slots, he, -⟩ := settle_eq s
  rw [he]

theorem settle_firings (s : State) : s.settle.firings = s.firings := by
  obtain ⟨net, n, slots, he, -⟩ := settle_eq s
  rw [he]

theorem settle_mst (s : State) : s.settle.mst = s.mst := by
  obtain ⟨net, n, slots, he, -⟩ := settle_eq s
  rw [he]

/-- A token that needs no other arrives where the ready queue has room (R55). -/
theorem arrive_alone (h : Current s k a) (hroom : s.readyRoom t = true)
    (hm : ((∃ m, s.tokenMatch a k = .need m ∧ (m = 1 ∨ m = 2 ∨ m = 4) ∧ m.testBit (tagPort k.tag) = true) ∨
      (s.tokenMatch a k = .merge ∧ tagPort k.tag ≤ 1) ∨ s.tokenMatch a k = .illegal)) :
    s.arrive t k = (true, s.enqueueWord (tokenWord s a k) t k.tag a (if tagPort k.tag = 0 then some k.tv else none)
      (if tagPort k.tag = 1 then some k.tv else none) (if tagPort k.tag = 2 then some k.tv else none)) := by
  have halone : arriveAlone s t k a true = (true, s.enqueueWord (tokenWord s a k) t k.tag a
      (if tagPort k.tag = 0 then some k.tv else none) (if tagPort k.tag = 1 then some k.tv else none)
      (if tagPort k.tag = 2 then some k.tv else none)) := (if_neg (by decide)).trans (if_pos hroom)
  rw [h.arrive]
  obtain ⟨m, hm, hone, hbit⟩ | ⟨hm, hp⟩ | hm := hm
  · rw [hm, arriveAs, if_pos hone, hbit, halone]
  · rw [hm, arriveAs, decide_eq_true hp, halone]
  · rw [hm, arriveAs, halone]

/-- A token for a port that its instruction does not use, or that its entry holds already, is discarded (R51). -/
theorem arrive_bad {cause : Nat} (h : Current s k a)
    (hc : (cause = 3 ∧ ∃ m, s.tokenMatch a k = .need m ∧ (m = 1 ∨ m = 2 ∨ m = 4) ∧ m.testBit (tagPort k.tag) = false) ∨
      (cause = 3 ∧ s.tokenMatch a k = .merge ∧ tagPort k.tag = 2) ∨
      (∃ m e, s.tokenMatch a k = .need m ∧ ¬ (m = 1 ∨ m = 2 ∨ m = 4) ∧
        (∀ x ∈ s.mst, x.tile = t → x.key = tagKey k.tag → x.inc = a.inc) ∧
        (∀ x ∈ s.mfetch, x.tile = t → tagKey x.tok.tag ≠ tagKey k.tag) ∧
        s.mstFind t (tagKey k.tag) a.inc State.isPair = some e ∧ e.inStore = true ∧
        ((cause = 2 ∧ e.at (tagPort k.tag) ≠ none) ∨
          (cause = 3 ∧ e.at (tagPort k.tag) = none ∧ e.need.testBit (tagPort k.tag) = false)))) :
    s.arrive t k = (true, s.badToken t cause k) ∨ s.arrive t k = (true, (counted s t).badToken t cause k) := by
  have halone : arriveAlone s t k a false = (true, s.badToken t 3 k) := if_pos rfl
  rw [h.arrive]
  obtain ⟨rfl, m, hm, hone, hbit⟩ | ⟨rfl, hm, hp⟩ | ⟨m, e, hm, hmany, hcur, hwait, he, hin, hbad⟩ := hc
  · exact .inl (by rw [hm, arriveAs, if_pos hone, hbit, halone])
  · exact .inl (by rw [hm, arriveAs, decide_eq_false (by omega), halone])
  · exact .inr (by rw [hm, arriveAs, if_neg hmany, lookup_of_found hcur hwait he hin, meet_of_bad hbad])

theorem arrive_many {m : Nat} (h : Current s k a) (hm : s.tokenMatch a k = .need m) (hmany : ¬ (m = 1 ∨ m = 2 ∨ m = 4)) :
    s.arrive t k = s.lookup t m k a := by
  rw [h.arrive, hm]
  exact if_neg hmany

theorem key_add (e : MEntry) (p : Nat) (v : TVal) : (e.add p v).key = e.key := by
  unfold MEntry.add
  split
  · rfl
  · split <;> rfl

/-- The entry that a token completes (R55). -/
def completion (e : MEntry) (k : Token) : MEntry := { e.add (tagPort k.tag) k.tv with kind := .complete }

/-- The last missing token of an entry gives its place to a ready firing with all inputs (R55, R85). -/
theorem meet_completes {e : MEntry} (hkey : e.key = tagKey k.tag) (hact : s.act? (tagAct k.tag) = some a)
    (hroom : s.readyRoom t = true) (hfree : e.at (tagPort k.tag) = none) (hneed : e.need.testBit (tagPort k.tag) = true)
    (hcount : e.count < 3) (hfull : (e.add (tagPort k.tag) k.tv).full = true) : ∃ v f, s.meet t k e = State.occChanged v t ∧
      v.net = s.net ∧
      v.mst = (s.mst.map (fun x => if x = e then completion e k else x)).filter (fun x => decide (x ≠ completion e k)) ∧
      v.firings = s.firings ++ [f] ∧ f.id = s.nextFid ∧ f.stage = .ready ∧ f.tile = t ∧ f.tag = k.tag &&& ~~~3 ∧
      f.word = s.fetchWord a.epoch (tagIaddr k.tag) ∧ f.inL = (if tagPort k.tag = 0 then some k.tv else e.at 0) ∧
      f.inR = (if tagPort k.tag = 1 then some k.tv else e.at 1) ∧ f.inC = (if tagPort k.tag = 2 then some k.tv else e.at 2) := by
  have hkey' : (completion e k).key = tagKey k.tag := (key_add _ _ _).trans hkey
  have hact' : (s.mstPut e (completion e k)).act? (keyAct (completion e k).key) = some a := by
    rw [hkey', keyAct_tagKey]
    exact hact
  obtain ⟨v, hready, hmst, hnet, hfir⟩ := entryReady_fields (s := s.mstPut e (completion e k)) (t := t) hact' hroom
  rw [hkey'] at hfir
  have hat : ∀ q, (completion e k).at q = if tagPort k.tag = q then some k.tv else e.at q := at_add hcount hfree
  rw [meet_of_new hfree hneed, if_pos hfull]
  refine ⟨v, _, hready, hnet, hmst, hfir, rfl, rfl, rfl, tag_of_key k.tag, ?_, hat 0, hat 1, hat 2⟩
  exact congrArg (s.fetchWord a.epoch) (tagIaddr_of_key k.tag)

/-- Settles O34: a token by what its lookup finds; a bad token by what its quarantine leaves. -/
theorem tokensMatchInTheStore : Obligations.TokensMatchInTheStore := by
  unfold Obligations.TokensMatchInTheStore
  refine ⟨?_, ?_, ?_, ?_, ?_, ?_, ?_, ?_⟩
  · intro s t n k hd htok hmay hinc
    exact exec_tokenArrival_of_arrives hd htok hmay (arrive_of_old (s := taken s t n) hinc)
  · intro s t n k htok hmay
    rw [exec_tokenArrival, execTokenArrival, State.onlyIf, tokenIn_of_waits htok hmay, ite_self]
  · intro s t n k a h hm hroom
    have harrive := arrive_alone (t := t) h.current hroom hm
    obtain ⟨csr, he⟩ := enqueueWord_frame (taken s t n) (tokenWord (taken s t n) a k) t k.tag a
      (if tagPort k.tag = 0 then some k.tv else none) (if tagPort k.tag = 1 then some k.tv else none)
      (if tagPort k.tag = 2 then some k.tv else none)
    rw [he] at harrive
    refine ⟨_, exec_tokenArrival_of_arrives h.alive h.token h.may harrive, carried_settle _, settle_mst _, _, settle_firings _,
      rfl, rfl, rfl, rfl, rfl, rfl, rfl, rfl, rfl⟩
  · intro s t n k a m w h hm hmany hfit hfree hw
    have hm' : (taken s t n).tokenMatch a k = .need m := hm
    have harrive := (arrive_many h.current hm' hmany).trans (lookup_of_free (s := taken s t n) (t := t) hfit hfree hw)
    have hmiss := countedMiss_looksUp (taken s t n) t (tagKey k.tag)
    have hpass := (hmiss.passes.putWay (t := t) (b := (s.bankSet t (tagKey k.tag)).1) (st := (s.bankSet t (tagKey k.tag)).2) (w := w)
      (e := (MEntry.fresh t (tagKey k.tag) .operand m a.inc a.wafer).add (tagPort k.tag) k.tv)).settle
    refine ⟨_, exec_tokenArrival_of_arrives h.alive h.token h.may harrive, hpass.net.trans (List.append_nil _), hpass.firings, ?_,
      _, hpass.mst, rfl, rfl, rfl, rfl, rfl, rfl, ?_, rfl⟩
    · have hlook : TileReg (Reg.TIL_LOOKUPS t) := tileReg_of (b := 0x10 + t) (o := 0x48) (by omega) (by decide)
      rw [settle_rget, (putWay_occupies _ _ _ _ _ _).regs _ hlook]
      exact hmiss.count
    · have hnew := at_add (e := MEntry.fresh t (tagKey k.tag) .operand m a.inc a.wafer) (p := tagPort k.tag) (v := k.tv)
        (Nat.succ_pos 2) rfl (tagPort k.tag)
      rw [if_pos rfl] at hnew
      exact hnew
  · intro s t n k a m e h hm hmany hcur hwait he hin hfree hneed hcount
    have hm' : (taken s t n).tokenMatch a k = .need m := hm
    have harrive := (arrive_many h.current hm' hmany).trans (lookup_of_found (s := taken s t n) hcur hwait he hin)
    have hexec := exec_tokenArrival_of_arrives h.alive h.token h.may harrive
    have hlook := counted_looksUp (taken s t n) t
    refine ⟨fun hfull hroom => ?_, fun hpart => ?_⟩
    · obtain ⟨v, f, hmeet, hnet, hmst, hfir, hf⟩ := meet_completes (s := counted (taken s t n) t) (t := t) (a := a)
        (mstFind_key he) ((hlook.act? _).trans h.act) ((hlook.readyRoom t).trans hroom) hfree hneed hcount hfull
      have hocc : Occupies v (v.occChanged t) := Occupies.refl.occChanged
      rw [hmeet] at hexec
      have hstore := (settle_mst _).trans (hocc.mst.trans hmst)
      obtain ⟨hid, hst, htile, htag, hword, hins⟩ := hf
      rw [hlook.nextFid] at hid
      rw [hlook.passes.firings] at hfir
      rw [hlook.mst] at hmst
      refine ⟨_, hexec, ?_, ?_, ?_, f, (settle_firings _).trans (hocc.firings.trans hfir), hid, hst, htile, htag, hword.trans ?_,
        hins⟩
      · exact (carried_settle _).trans (congrArg carried (hocc.net.trans hnet)) |>.trans (hlook.passes.net.trans (List.append_nil _))
      · rw [hstore]
        exact fun x hx => mem_replace_drop hx
      · rw [hstore]
        exact fun x hx hk => mem_replace_drop_of_key (key_add e _ _) hx hk
      · exact hlook.fetchWord _ _
    · rw [meet_of_new hfree hneed, if_neg (ne_true_of_eq_false hpart)] at hexec
      have hpass := (hlook.passes.mstPut (x := e) (y := e.add (tagPort k.tag) k.tv)).settle
      exact ⟨_, hexec, hpass.net.trans (List.append_nil _), hpass.firings, hpass.mst⟩
  · intro s t n k a cause h ht hc
    have hfinish : ∀ v : State, v.act? (tagAct k.tag) = some a → v.rget (Reg.TIL_BADPORT t) = s.rget (Reg.TIL_BADPORT t) →
        (taken s t n).arrive t k = (true, v.badToken t cause k) →
        Completes (.tokenArrival t n) s (fun u => u.rget (Reg.TIL_BADPORT t) = s.rget (Reg.TIL_BADPORT t) + 1 ∧
          u.rget (Reg.TIL_QUAR_LAST t) = w64 (2 ^ 63 + cause * 2 ^ 32 + a.slot * 2 ^ 22 + tagIaddr k.tag) ∧
          (∀ x ∈ u.acts, x.id = tagAct k.tag → x.state = .quarantined) ∧ (∀ f ∈ u.firings, f.act ≠ tagAct k.tag)) := by
      intro v hact hreg harrive
      obtain ⟨hbad, hlast, hacts, hfir⟩ := badToken_spec (t := t) (cause := cause) hact h.live
      refine ⟨_, exec_tokenArrival_of_arrives h.alive h.token h.may harrive, ?_, ?_, ?_, ?_⟩
      · rw [settle_rget, hbad, hreg]
      · rw [settle_rget, hlast]
      · rw [settle_acts]
        exact hacts
      · rw [settle_firings]
        exact hfir
    obtain harrive | harrive := arrive_bad (t := t) h.current hc
    · exact hfinish (taken s t n) h.act (State.rget_congr rfl _) harrive
    · have hlook := counted_looksUp (taken s t n) t
      refine hfinish (counted (taken s t n) t) ((hlook.act? _).trans h.act) ?_ harrive
      exact (hlook.regs _ ⟨csrAddr_ne_of_off (by decide), csrAddr_ne_of_off (by decide),
        csrAddr_ne_of_off (by decide)⟩).trans (State.rget_congr rfl _)
  · intro s t n k hd htok hmay hinc hport hhere hact
    obtain ⟨hocc, hcount⟩ := orphaned_spec (taken s t n) t k
    refine ⟨_, exec_tokenArrival_of_arrives hd htok hmay (arrive_of_orphan (s := taken s t n) hinc hport hhere hact), ?_, ?_,
      (settle_firings _).trans (hocc.firings.trans (State.rset_firings _ _ _)),
      (settle_mst _).trans (hocc.mst.trans (State.rset_mst _ _ _)), (settle_acts _).trans (hocc.acts.trans (State.rset_acts _ _ _))⟩
    · exact (carried_settle _).trans (congrArg carried (hocc.net.trans (State.rset_net _ _ _)))
    · exact (settle_rget _ _).trans hcount
  · intro s t n k hd htok hmay hinc hforeign
    obtain ⟨hocc, hcount⟩ := rinc_eventTag (s := taken s t n) (b := Reg.TIL_BADPORT t) (src := srcTile t 5) (loc := 0) (code := 0x10)
      (arg := 0) (tag := k.tag) (w := none) (tileReg_of (b := 0x10 + t) (o := 0x58) (by omega) (by decide))
    refine ⟨_, exec_tokenArrival_of_arrives hd htok hmay (arrive_of_foreign (s := taken s t n) hinc hforeign), ?_, ?_,
      (settle_firings _).trans (hocc.firings.trans (State.rset_firings _ _ _)),
      (settle_mst _).trans (hocc.mst.trans (State.rset_mst _ _ _)), (settle_acts _).trans (hocc.acts.trans (State.rset_acts _ _ _))⟩
    · exact (carried_settle _).trans (congrArg carried (hocc.net.trans (State.rset_net _ _ _)))
    · exact (settle_rget _ _).trans hcount

end Sys2Proof.Safety
end

section
/-! Entries that leave the store's places and come back to a way, and what that leaves (R83 to R94). -/

namespace Sys2Proof.Safety
open Sys2Proof.Machine

variable {s s0 u : State} {t : Nat} {e : MEntry}

/-! ### What upkeep of the store leaves -/

/-- The hash seed of a tile's store or its count of fetches. -/
def FetchReg (a : Nat) : Prop := csrAddr 0x10 0 ≤ a ∧ (a % 0x10000 = 0x1038 ∨ a % 0x10000 = 0x1070)

namespace FetchReg

theorem seed (t : Nat) : FetchReg (Reg.MST_HASH_SEED t) := by
  refine ⟨csrAddr_le_of_block (by omega), .inl ?_⟩
  simp only [Reg.MST_HASH_SEED, csrAddr, csrBase]
  omega

theorem fetches (t : Nat) : FetchReg (Reg.MST_FETCHES t) := by
  refine ⟨csrAddr_le_of_block (by omega), .inr ?_⟩
  simp only [Reg.MST_FETCHES, csrAddr, csrBase]
  omega

theorem ne {b o : Nat} (ho : o < 0x10000) (hseed : o ≠ 0x1038) (hfetch : o ≠ 0x1070) : ∀ a, FetchReg a → a ≠ csrAddr b o := by
  rintro a ⟨-, h⟩
  simp only [csrAddr, csrBase]
  omega

theorem above : ∀ a, FetchReg a → csrAddr 4 0 ≤ a := fun _ h => (csrAddr_le_of_block (by decide)).trans h.1

end FetchReg

/-- Room in a ready queue depends on the firings and the queue's limit alone (R54). -/
theorem readyRoom_congr (hl : s.tiles.map (·.rqLimit) = s0.tiles.map (·.rqLimit)) (hf : s.firings = s0.firings) :
    s.readyRoom t = s0.readyRoom t := by
  have hget : ∀ v : State, (v.tileAt t).rqLimit = (v.tiles.map (·.rqLimit)).getD t Reset.tile.rqLimit := fun v =>
    (List.getD_map v.tiles Reset.tile (·.rqLimit)).symm
  rw [State.readyRoom, State.readyRoom, State.readyCount, State.readyCount, hf, hget, hget, hl]

/-- From `s0` to `s`, no fetch has been counted, no store has a new seed, and no ready queue a new limit. -/
structure Upkeep (s0 s : State) : Prop where
  regs : Keeps FetchReg s0 s
  limits : s.tiles.map (·.rqLimit) = s0.tiles.map (·.rqLimit)

namespace Upkeep

theorem refl : Upkeep s s := ⟨.refl, rfl⟩

theorem frame (h : Upkeep s0 s) (hr : u.csr = s.csr) (ht : u.tiles = s.tiles) : Upkeep s0 u :=
  ⟨h.regs.frame hr, (congrArg _ ht).trans h.limits⟩

theorem ite {c : Prop} [Decidable c] (h : Upkeep s0 s) (g : Upkeep s0 u) : Upkeep s0 (if c then s else u) := by
  split
  · exact h
  · exact g

theorem foldl {α : Type} {f : State → α → State} {xs : List α} (h : Upkeep s0 s)
    (hf : ∀ s x, Upkeep s0 s → Upkeep s0 (f s x)) : Upkeep s0 (xs.foldl f s) := List.foldlRecOn _ _ h fun u hu x _ => hf u x hu

theorem updTile {f : Tile → Tile} (h : Upkeep s0 s) (hf : ∀ x, (f x).rqLimit = x.rqLimit) : Upkeep s0 (s.updTile t f) :=
  ⟨h.regs.frame rfl, (map_updAt_of_eq hf _ _).trans h.limits⟩

theorem progress {k : Nat} (h : Upkeep s0 s) : Upkeep s0 (s.progress k) := ⟨h.regs.frame rfl, List.map_map.trans h.limits⟩

theorem rset {b : Nat} {v : Word} (h : Upkeep s0 s) (hb : ∀ a, FetchReg a → a ≠ b) : Upkeep s0 (s.rset b v) :=
  ⟨h.regs.rset hb, h.limits⟩

theorem radd {b n : Nat} (h : Upkeep s0 s) (hb : ∀ a, FetchReg a → a ≠ b) : Upkeep s0 (s.radd b n) := h.rset hb

theorem rmax {b v : Nat} (h : Upkeep s0 s) (hb : ∀ a, FetchReg a → a ≠ b) : Upkeep s0 (s.rmax b v) := .ite (h.rset hb) h

theorem event {src loc code arg : Nat} (h : Upkeep s0 s) : Upkeep s0 (s.event src loc code arg) := by
  have htiles : (s.event src loc code arg).tiles = s.tiles := State.event_tiles s src loc code arg
  exact ⟨h.regs.collect FetchReg.above rfl, (congrArg _ htiles).trans h.limits⟩

theorem enterOldest (h : Upkeep s0 s) : Upkeep s0 (s.enterOldest t) := by
  unfold State.enterOldest
  split
  · exact h
  · extract_lets en s1 s2 s3
    have h1 : Upkeep s0 s1 := h.updTile fun _ => rfl
    have h2 : Upkeep s0 s2 := .ite h1 (h1.rset (FetchReg.ne (by decide) (by decide) (by decide))).event
    have h3 : Upkeep s0 s3 := h2.foldl fun _ _ hv => .ite hv hv.progress
    exact ((h3.rset (FetchReg.ne (by decide) (by decide) (by decide))).rset
      (FetchReg.ne (by decide) (by decide) (by decide))).event

theorem leaveOldest (h : Upkeep s0 s) : Upkeep s0 (s.leaveOldest t) := .ite (h.updTile fun _ => rfl) h

theorem throttleEval (h : Upkeep s0 s) : Upkeep s0 (s.throttleEval t) := by
  have h1 : Upkeep s0 ({ s with throttle := true }.rsetBit (Reg.MST_STATUS t) 3 true) :=
    .rset (h.frame rfl rfl) (FetchReg.ne (by decide) (by decide) (by decide))
  exact .ite (.ite (h.frame rfl rfl) h) (.ite (.ite h1.event h1) h)

theorem spillEval (h : Upkeep s0 s) : Upkeep s0 (s.spillEval t) := by
  have h1 : Upkeep s0 ((s.updTile t (fun x => { x with spilling := true })).rsetBit (Reg.MST_STATUS t) 4 true) :=
    (h.updTile (f := fun x => { x with spilling := true }) fun _ => rfl).rset (FetchReg.ne (by decide) (by decide) (by decide))
  exact .ite (.ite (h.updTile fun _ => rfl) h) (.ite (.ite (.ite h1.event h1) h.enterOldest) h)

theorem occChanged (h : Upkeep s0 s) : Upkeep s0 (s.occChanged t) :=
  (h.rmax (FetchReg.ne (by decide) (by decide) (by decide))).throttleEval.spillEval.leaveOldest

theorem dlAppear {k : Nat} (h : Upkeep s0 s) : Upkeep s0 (s.dlAppear t k) := h.updTile fun x => by
  split <;> rfl

theorem putWay {b st w : Nat} (h : Upkeep s0 s) : Upkeep s0 (s.putWay t b st w e) :=
  have hin : Upkeep s0 { s with mst := s.mst ++ [{ e with place := .way b st w }] } := h.frame rfl rfl
  hin.dlAppear.occChanged

theorem sdWrite {a : Nat} {bs : List Byte} (h : Upkeep s0 s) : Upkeep s0 (s.sdWrite a bs) := by
  have hc := sdChannel_lt a
  have hread : ∀ r, FetchReg r → r ≠ Reg.SDC_CH_RDBYTES (sdChannel a) := FetchReg.ne (by omega) (by omega) (by omega)
  have hwrite : ∀ r, FetchReg r → r ≠ Reg.SDC_CH_WRBYTES (sdChannel a) := FetchReg.ne (by omega) (by omega) (by omega)
  exact .radd (.radd (.frame h rfl rfl) hread) hwrite

theorem bucketSync {b : Nat} (h : Upkeep s0 s) : Upkeep s0 (s.bucketSync t b) := .ite h.sdWrite h

theorem takeTable (h : Upkeep s0 s) : Upkeep s0 (s.takeTable t e) := by
  unfold State.takeTable
  extract_lets v0 v1
  have h0 : Upkeep s0 v0 := h.frame rfl rfl
  have h1 : Upkeep s0 v1 := by
    unfold v1
    split
    · exact h0.bucketSync
    · exact h0
  exact .ite (.foldl (h1.frame rfl rfl) fun _ _ hu => hu.bucketSync) h1

theorem entryReady (h : Upkeep s0 s) : Upkeep s0 (s.entryReady t e) := by
  have hdrop : ∀ {v : State}, Upkeep s0 v → Upkeep s0 ((v.mstDrop e).occChanged t) := fun hv =>
    occChanged (hv.frame rfl rfl)
  unfold State.entryReady
  split
  · exact hdrop h
  · split
    · exact hdrop (rmax (h.frame rfl rfl) (FetchReg.ne (by decide) (by decide) (by decide)))
    · exact h

theorem bankSet (h : Upkeep s0 s) (key : Nat) : s.bankSet t key = s0.bankSet t key := by
  have hseed : s.hashSeed t = s0.hashSeed t := congrArg (fld · 11 0) (h.regs _ (FetchReg.seed t))
  rw [State.bankSet, hseed]
  rfl

end Upkeep

theorem Occupies.mfetch (h : Occupies s0 s) : s.mfetch = s0.mfetch :=
  have e := congrArg State.mfetch h.parts
  e

/-! ### An entry taken out of its place -/

/-- The state without an entry, whose slot of the spill table is freed (R92, R93). -/
def takenOut (s : State) (t : Nat) (e : MEntry) : State := if e.inTable then s.takeTable t e else s.mstDrop e

theorem takenOut_upkeep (s : State) (t : Nat) (e : MEntry) : Upkeep s (takenOut s t e) :=
  .ite Upkeep.refl.takeTable (Upkeep.refl.frame rfl rfl)

theorem bucketSync_memStep (s : State) (t b : Nat) : MemStep s (s.bucketSync t b) := by
  unfold State.bucketSync
  split
  · exact MemStep.sdWrite s _ _
  · exact .refl s

theorem takeTable_frame (s : State) (t : Nat) (e : MEntry) : ∃ mem csr free filt ovf, s.takeTable t e =
    { s with mst := s.mst.filter (fun x => decide (x ≠ e)), mem := mem, csr := csr, free := free, filt := filt,
             spillOvf := ovf } := by
  unfold State.takeTable
  extract_lets v0 v1
  have h1 : MemStep v0 v1 := by
    unfold v1
    split
    · exact bucketSync_memStep v0 t _
    · exact .refl v0
  obtain ⟨mem, csr, free, h1⟩ := h1.frame
  split
  · obtain ⟨mem', csr', free', h2⟩ := (MemStep.foldl (fun (s : State) x => s.bucketSync t (x % 65536))
      (fun s x => bucketSync_memStep s t _) ((v1.spillOvf.filter (fun x => decide (x / 65536 = t))).eraseDups)
      { v1 with filt := v1.filt.filter (fun x => decide (x.1 / 262144 ≠ t))
                spillOvf := v1.spillOvf.filter (fun x => decide (x / 65536 ≠ t)) }).frame
    refine ⟨mem', csr', free', v1.filt.filter (fun x => decide (x.1 / 262144 ≠ t)),
      v1.spillOvf.filter (fun x => decide (x / 65536 ≠ t)), h2.trans ?_⟩
    rw [h1]
    rfl
  · exact ⟨mem, csr, free, _, _, h1⟩

theorem takenOut_frame (s : State) (t : Nat) (e : MEntry) : ∃ mem csr free filt ovf, takenOut s t e =
    { s with mst := s.mst.filter (fun x => decide (x ≠ e)), mem := mem, csr := csr, free := free, filt := filt,
             spillOvf := ovf } := by
  unfold takenOut
  split
  · exact takeTable_frame s t e
  · exact ⟨_, _, _, _, _, rfl⟩

theorem takenOut_mst (s : State) (t : Nat) (e : MEntry) : (takenOut s t e).mst = s.mst.filter (fun x => decide (x ≠ e)) := by
  obtain ⟨mem, csr, free, filt, ovf, h⟩ := takenOut_frame s t e
  rw [h]

/-- Entries taken out one after another: they are gone, and no other is. -/
theorem mem_foldl_takenOut {x : MEntry} (es : List MEntry) (s : State) :
    x ∈ (es.foldl (fun (s : State) e => takenOut s t e) s).mst ↔ x ∈ s.mst ∧ x ∉ es := by
  induction es generalizing s with
  | nil => simp
  | cons e es ih => simp [ih, takenOut_mst, and_assoc]

/-! ### An entry that comes back to a way -/

theorem inSet_of_not_inStore {b st : Nat} (h : e.inStore = false) : e.inSet b st = false := by
  unfold MEntry.inStore at h
  unfold MEntry.inSet
  split
  · next hp =>
    rw [hp] at h
    exact Bool.noConfusion h
  · rfl

/-- An entry outside the ways takes none of them. -/
theorem freeWay_takenOut {key w : Nat} (hout : e.inStore = false) (h : FreeWay s t key w) : FreeWay (takenOut s t e) t key w := by
  unfold FreeWay at h ⊢
  rw [takenOut_mst, (takenOut_upkeep s t e).bankSet, List.filter_filter]
  refine Eq.trans ?_ h
  congr 1
  funext v
  congr 2
  refine List.filter_congr fun x _ => ?_
  by_cases hx : x = e
  · rw [hx, inSet_of_not_inStore hout, Bool.and_false, Bool.false_and]
  · rw [decide_eq_true hx, Bool.and_true]

/-- The entry in a way of its set (R86). -/
def inWay (s : State) (t : Nat) (e : MEntry) (w : Nat) : MEntry :=
  { e with place := .way (s.bankSet t e.key).1 (s.bankSet t e.key).2 w }

/-- Entry `e` has come back as `e'` from the table or the reserve (R94, R98). -/
structure CameBack (s : State) (t : Nat) (e e' : MEntry) (u : State) : Prop where
  mst : u.mst = s.mst.filter (fun x => decide (x ≠ e)) ++ [e']
  mfetch : u.mfetch = s.mfetch
  acts : u.acts = s.acts
  firings : u.firings = s.firings
  upkeep : Upkeep s u

theorem takenOut_putWay (s : State) (t : Nat) (e : MEntry) (w : Nat) : CameBack s t e (inWay s t e w)
    ((takenOut s t e).putWay t (s.bankSet t e.key).1 (s.bankSet t e.key).2 w e) := by
  have hocc := putWay_occupies (takenOut s t e) t (s.bankSet t e.key).1 (s.bankSet t e.key).2 w e
  obtain ⟨mem, csr, free, filt, ovf, hout⟩ := takenOut_frame s t e
  refine ⟨hocc.mst.trans ?_, hocc.mfetch.trans ?_, hocc.acts.trans ?_, hocc.firings.trans ?_, (takenOut_upkeep s t e).putWay⟩
  · exact congrArg (· ++ [inWay s t e w]) (takenOut_mst s t e)
  all_goals rw [hout]

/-- An entry that does not lie in the store comes back where a way of its set is free; the fetch is counted. -/
theorem bringBack_of_freeWay {w : Nat} (hout : e.inStore = false) (hdone : e.transit = false) (hw : FreeWay s t e.key w) :
    ∃ v, CameBack s t e (inWay s t e w) v ∧
      s.bringBack t e State.noneBusy = (true, (v.rinc (Reg.MST_FETCHES t)).progress (keySlot e.key)) := by
  refine ⟨_, takenOut_putWay s t e w, ?_⟩
  have hins : (takenOut s t e).insertEntry t e false State.noneBusy =
      (true, (takenOut s t e).putWay t (s.bankSet t e.key).1 (s.bankSet t e.key).2 w e) := by
    rw [insertEntry_of_freeWay rfl (freeWay_takenOut hout hw), (takenOut_upkeep s t e).bankSet]
  unfold State.bringBack
  rw [if_neg (ne_true_of_eq_false hout)]
  extract_lets r
  have hr : r = _ := hins
  rw [hr]
  dsimp only
  rw [if_pos rfl, if_neg (ne_true_of_eq_false hdone)]

end Sys2Proof.Safety
end

section
/-! Spilling, reload, deadlock detection, purge and errors of the matching store (R90 to R105). -/

namespace Sys2Proof.Safety
open Sys2Proof.Machine

variable {s s0 u v : State} {t n k b : Nat} {e : MEntry} {m : MFetch} {a : Act}

theorem onlyIf_alive (hd : s.dead = false) (f : State → State) : s.onlyIf (!s.dead) f = f s :=
  State.onlyIf_pos s f (by rw [hd]; rfl)

/-! ### SPILL_WRITE -/

theorem length_natToBytes (n x : Nat) : (natToBytes n x).length = n := by
  induction n generalizing x with
  | zero => rfl
  | succ n ih => rw [natToBytes, List.length_cons, ih]

/-- The image of an entry has five codewords of 16 bytes (R79). -/
theorem length_entryImage (e : MEntry) : (entryImage e).length = 80 := by
  unfold entryImage
  split <;> simp only [List.length_append, length_natToBytes]

theorem smBytes_putBytes_outside (l : List (Nat × Byte)) {d : Byte} {bs : List Byte} {a j n : Nat}
    (h : j + n ≤ a ∨ a + bs.length ≤ j) : smBytes (smPutBytes l d a bs) d j n = smBytes l d j n := by
  induction n generalizing j with
  | zero => rfl
  | succ n ih => rw [smBytes, smBytes, smGet_putBytes_outside (by omega), ih (by omega)]

/-- The USED bits of the first `k` slots, of which `p` names those in use (Table 3.4). -/
def usedBits (p : Nat → Bool) (k : Nat) : Nat := ((List.range k).filter p).foldl (fun x n => x + 2 ^ n) 0

theorem usedBits_succ (p : Nat → Bool) (k : Nat) : usedBits p (k + 1) = usedBits p k + if p k then 2 ^ k else 0 := by
  unfold usedBits
  rw [List.range_succ, List.filter_append, List.foldl_append]
  cases h : p k <;> simp [h]

theorem usedBits_testBit (p : Nat → Bool) (k n : Nat) : (usedBits p k).testBit n = (decide (n < k) && p n) := by
  have hlt : ∀ k, usedBits p k < 2 ^ k := by
    intro k
    induction k with
    | zero => exact Nat.one_pos
    | succ k ih =>
      rw [usedBits_succ, Nat.pow_succ]
      split <;> omega
  induction k with
  | zero => simp [usedBits]
  | succ k ih =>
    rw [usedBits_succ, Nat.add_comm]
    obtain hn | rfl | hn := Nat.lt_trichotomy n k
    · have hbit : ((if p k then 2 ^ k else 0) + usedBits p k).testBit n = (usedBits p k).testBit n := by
        split
        · exact Nat.testBit_two_pow_add_gt hn _
        · rw [Nat.zero_add]
      rw [hbit, ih, decide_eq_true hn, decide_eq_true (by omega)]
    · cases hp : p n <;> simp [Nat.testBit_two_pow_add_eq, Nat.testBit_lt_two_pow (hlt n)]
    · have hsmall := hlt (k + 1)
      rw [usedBits_succ, Nat.add_comm] at hsmall
      rw [Nat.testBit_lt_two_pow (hsmall.trans_le (Nat.pow_le_pow_right (by decide) hn)), decide_eq_false (by omega),
        Bool.false_and]

/-- A bucket's word has the USED bit of a slot whose entry is written (Table 3.4). -/
theorem bucketWord_used (hn : n < 7) (he : e ∈ s.mst) (htile : e.tile = t) (hplace : e.place = .table b n false) :
    s.bucketWord t b / 2 ^ n % 2 = 1 := by
  have hword : s.bucketWord t b = (if s.spillOvf.contains (t * 65536 + b) then 128 else 0) +
    usedBits (fun n => s.mst.any (fun e => decide (e.tile = t ∧ e.place = .table b n false))) 7 := rfl
  have hused : (usedBits (fun n => s.mst.any (fun e => decide (e.tile = t ∧ e.place = .table b n false))) 7).testBit n = true := by
    rw [usedBits_testBit, decide_eq_true hn, Bool.true_and]
    exact List.any_eq_true.2 ⟨e, he, decide_eq_true ⟨htile, hplace⟩⟩
  have hbit : (s.bucketWord t b).testBit n = true := by
    rw [hword]
    split
    · exact (Nat.testBit_two_pow_add_gt hn _).trans hused
    · rwa [Nat.zero_add]
  rw [Nat.testBit_eq_decide_div_mod_eq] at hbit
  exact of_decide_eq_true hbit

theorem sdWrite_sdram (s : State) (a : Nat) (bs : List Byte) : (s.sdWrite a bs).mem.sdram = smPutBytes s.mem.sdram 0 a bs := rfl

theorem spillEn_sdWrite (s : State) (t a : Nat) (bs : List Byte) : (s.sdWrite a bs).spillEn t = s.spillEn t := by
  have hcap : (s.sdWrite a bs).sdramTop = s.sdramTop :=
    congrArg (fun w : Word => w.toNat - 0x4000000) (Keeps.refl.sdWrite Reg.SDC_CAPACITY (by unfold LowReg; decide))
  rw [State.spillEn, State.spillEn, hcap]
  rfl

theorem spillBase_sdWrite (s : State) (t a : Nat) (bs : List Byte) : (s.sdWrite a bs).spillBase t = s.spillBase t := rfl

theorem bucketWord_sdWrite (s : State) (t b a : Nat) (bs : List Byte) : (s.sdWrite a bs).bucketWord t b = s.bucketWord t b := rfl

/-- The state in which the entry's write in transit is complete (R94). -/
def landed (s : State) (e : MEntry) (b n : Nat) : State :=
  { s with mst := s.mst.map (fun x => if x = e then { e with place := .table b n false } else x) }

/-- The entry's key word and image written to its slot of the spill area (Table 3.4). -/
def imaged (s : State) (t : Nat) (e : MEntry) (b n : Nat) : State :=
  (s.sdWrite (s.spillBase t + b * 1024 + n * 8) (natToBytes 8 (e.key * 4 + kindCode e.kind))).sdWrite
    (s.spillBase t + b * 1024 + 0x40 + n * 0x80) (entryImage e)

/-- The bucket's word written to the spill area (R91, R92). -/
def synced (s : State) (t b : Nat) : State :=
  s.sdWrite (s.spillBase t + b * 1024 + 0x38) (natToBytes 8 (s.bucketWord t b))

theorem sdWrite_frame (s : State) (a : Nat) (bs : List Byte) : ∃ sdram csr,
    s.sdWrite a bs = { s with mem.sdram := sdram, csr := csr } := ⟨_, _, rfl⟩

theorem synced_imaged_frame (s : State) (t : Nat) (e : MEntry) (b n : Nat) : ∃ sdram csr,
    synced (imaged s t e b n) t b = { s with mem.sdram := sdram, csr := csr } := by
  obtain ⟨sdram1, csr1, h1⟩ := sdWrite_frame s (s.spillBase t + b * 1024 + n * 8) (natToBytes 8 (e.key * 4 + kindCode e.kind))
  obtain ⟨sdram2, csr2, h2⟩ := sdWrite_frame { s with mem.sdram := sdram1, csr := csr1 }
    (s.spillBase t + b * 1024 + 0x40 + n * 0x80) (entryImage e)
  obtain ⟨sdram3, csr3, h3⟩ := sdWrite_frame (imaged s t e b n) ((imaged s t e b n).spillBase t + b * 1024 + 0x38)
    (natToBytes 8 ((imaged s t e b n).bucketWord t b))
  refine ⟨sdram3, csr3, ?_⟩
  rw [synced, h3, imaged, h1, h2]

theorem tableWritten_of_transit (hp : e.place = .table b n true) : s.tableWritten t e =
    if s.spillEn t then synced (imaged (landed s e b n) t e b n) t b else landed s e b n := by
  have hen : (imaged (landed s e b n) t e b n).spillEn t = s.spillEn t := by
    rw [imaged, spillEn_sdWrite, spillEn_sdWrite]
    rfl
  unfold State.tableWritten
  rw [hp]
  dsimp -zeta only
  extract_lets s1
  have h1 : s1.spillEn t = s.spillEn t := rfl
  rw [h1]
  by_cases hs : s.spillEn t = true
  · rw [if_pos hs, if_pos hs]
    exact if_pos (hen.trans hs)
  · rw [if_neg hs, if_neg hs]
    rfl

theorem spillOne_of_transit (hs : (s.tileAt t).spilling = false)
    (he : s.mst.find? (fun x => decide (x.tile = t) && x.transit) = some e) : s.spillOne t = s.tableWritten t e := by
  unfold State.spillOne
  extract_lets elig top c r
  rw [hs, he]
  rfl

/-- The bytes of a bucket after an entry's write: its key word, its image and the bucket's word; none outside it (Table 3.4). -/
theorem synced_imaged_bytes (hn : n < 7) :
    smBytes (synced (imaged s t e b n) t b).mem.sdram 0 (s.spillBase t + b * 1024 + n * 8) 8 =
      natToBytes 8 (e.key * 4 + kindCode e.kind) ∧
    smBytes (synced (imaged s t e b n) t b).mem.sdram 0 (s.spillBase t + b * 1024 + 0x40 + n * 0x80) 80 = entryImage e ∧
    smBytes (synced (imaged s t e b n) t b).mem.sdram 0 (s.spillBase t + b * 1024 + 0x38) 8 = natToBytes 8 (s.bucketWord t b) ∧
    ∀ a, a < s.spillBase t + b * 1024 ∨ s.spillBase t + b * 1024 + 1024 ≤ a →
      smGet (synced (imaged s t e b n) t b).mem.sdram a 0 = smGet s.mem.sdram a 0 := by
  have hbase : (imaged s t e b n).spillBase t = s.spillBase t := by rw [imaged, spillBase_sdWrite, spillBase_sdWrite]
  have hbucket : (imaged s t e b n).bucketWord t b = s.bucketWord t b := by rw [imaged, bucketWord_sdWrite, bucketWord_sdWrite]
  have hread : ∀ (l : List (Nat × Byte)) (a k : Nat) (bs : List Byte), bs.length = k →
      smBytes (smPutBytes l 0 a bs) 0 a k = bs := by
    rintro l a k bs rfl
    exact smBytes_putBytes l 0 a bs
  have hlen := length_natToBytes 8
  have himg := length_entryImage e
  rw [synced, hbase, hbucket, sdWrite_sdram, imaged, sdWrite_sdram, sdWrite_sdram]
  refine ⟨?_, ?_, hread _ _ _ _ (hlen _), fun a ha => ?_⟩
  · rw [smBytes_putBytes_outside _ (by omega), smBytes_putBytes_outside _ (by omega), hread _ _ _ _ (hlen _)]
  · rw [smBytes_putBytes_outside _ (by rw [hlen]; omega), hread _ _ _ _ himg]
  · rw [smGet_putBytes_outside (by rw [hlen]; omega), smGet_putBytes_outside (by omega),
      smGet_putBytes_outside (by rw [hlen]; omega)]

/-! ### SPILL_FETCH -/

/-- The state in which the lookup no longer waits (R94). -/
def fetched (s : State) (m : MFetch) : State := { s with mfetch := s.mfetch.filter (fun x => decide (x ≠ m)) }

/-- The `n`-th waiting lookup of the tile is the first that waits under its key (R83). -/
structure FirstWaiting (s : State) (t n : Nat) (m : MFetch) : Prop where
  waits : (s.mfetch.filter (fun x => decide (x.tile = t)))[n]? = some m
  first : (s.mfetch.filter (fun x => decide (x.tile = t ∧ tagKey x.tok.tag = tagKey m.tok.tag))).head? = some m

theorem spillFetch_of_stale (h : FirstWaiting s t n m)
    (hstale : ∀ a, s.act? (tagAct m.tok.tag) = some a → m.tok.inc ≠ (s.slotAt (tagSlot m.tok.tag)).inc) :
    s.spillFetch t n = fetched s m := by
  unfold State.spillFetch
  rw [h.waits]
  dsimp -zeta only
  extract_lets key first s0 inc
  rw [if_neg (not_not.2 h.first)]
  cases hact : s.act? (tagAct m.tok.tag) with
  | none => rfl
  | some a => exact if_pos (.inl (hstale a hact))

theorem spillFetch_of_found {e' : MEntry} (h : FirstWaiting s t n m) (hact : s.act? (tagAct m.tok.tag) = some a)
    (hlive : a.state = .live) (hinc : m.tok.inc = (s.slotAt (tagSlot m.tok.tag)).inc)
    (he : s.mstFind t (tagKey m.tok.tag) a.inc State.isPair = some e)
    (hback : (fetched s m).bringBack t e State.noneBusy = (true, v))
    (he' : v.mstFind t (tagKey m.tok.tag) a.inc State.isPair = some e') :
    s.spillFetch t n = ((v.meet t m.tok e').leaveOldest t).settle := by
  unfold State.spillFetch
  rw [h.waits]
  dsimp -zeta only
  extract_lets key first s0 inc
  have hfound : s0.mstFind t key a.inc State.isPair = some e := he
  rw [if_neg (not_not.2 h.first), hact]
  dsimp -zeta only
  rw [if_neg (not_or.2 ⟨not_not.2 hinc, not_not.2 hlive⟩), hfound]
  dsimp -zeta only
  extract_lets r
  have hr : r = (true, v) := hback
  rw [hr]
  dsimp -zeta only
  rw [if_pos rfl, he']

theorem exec_spillFetch_of (hd : s.dead = false) (h : s.spillFetch t n = u) : exec (.spillFetch t n) s = .next u := by
  rw [exec_spillFetch, execSpillFetch, onlyIf_alive hd, h]

theorem mstFind_of_only {key inc : Nat} {p : MKind → Bool} (he : e ∈ s.mst) (htile : e.tile = t) (hkey : e.key = key)
    (hinc : e.inc = inc) (hp : p e.kind = true) (honly : ∀ x ∈ s.mst, x.tile = t → x.key = key → x = e) :
    s.mstFind t key inc p = some e := by
  unfold State.mstFind
  have hsome : (s.mst.find? (fun x => decide (x.tile = t ∧ x.key = key ∧ x.inc = inc) && p x.kind)).isSome = true :=
    List.find?_isSome.2 ⟨e, he, by simp [htile, hkey, hinc, hp]⟩
  obtain ⟨x, hx⟩ := Option.isSome_iff_exists.1 hsome
  have hc := List.find?_some hx
  rw [Bool.and_eq_true] at hc
  obtain ⟨hxt, hxk, -⟩ := of_decide_eq_true hc.1
  rw [hx, honly x (List.mem_of_find?_eq_some hx) hxt hxk]

theorem add_place (e : MEntry) (pl : MPlace) (p : Nat) (x : TVal) :
    ({ e with place := pl } : MEntry).add p x = { e.add p x with place := pl } := by
  unfold MEntry.add
  split
  · rfl
  · split <;> rfl

theorem enqueue_mfetch (s : State) (t : Nat) (tag : Tag) (a : Act) (l r c : Option TVal) :
    (s.enqueue t tag a l r c).mfetch = s.mfetch := by
  obtain ⟨csr, h⟩ := enqueue_frame s t tag a l r c
  rw [h]

theorem entryReady_mfetch (s : State) (t : Nat) (e : MEntry) : (s.entryReady t e).mfetch = s.mfetch := by
  unfold State.entryReady
  split
  · exact Occupies.refl.occChanged.mfetch
  · split
    · exact Occupies.refl.occChanged.mfetch.trans (enqueue_mfetch _ _ _ _ _ _ _)
    · rfl

/-- The token is the last that its entry needs (R51, R55). -/
structure LastFor (k : Token) (e : MEntry) : Prop where
  key : e.key = tagKey k.tag
  free : e.at (tagPort k.tag) = none
  need : e.need.testBit (tagPort k.tag) = true
  count : e.count < 3
  full : (e.add (tagPort k.tag) k.tv).full = true

namespace LastFor
variable {k : Token}

theorem inWay (h : LastFor k e) (s : State) (t w : Nat) : LastFor k (inWay s t e w) := by
  refine ⟨h.key, h.free, h.need, h.count, ?_⟩
  rw [Safety.inWay, add_place]
  exact h.full

theorem meet_eq (h : LastFor k e) (s : State) (t : Nat) :
    s.meet t k e = (s.mstPut e (completion e k)).entryReady t (completion e k) := by
  rw [meet_of_new h.free h.need, if_pos h.full]
  rfl

theorem meet_upkeep (h : LastFor k e) : Upkeep s (s.meet t k e) := by
  rw [h.meet_eq]
  exact Upkeep.entryReady (Upkeep.refl.frame rfl rfl)

theorem meet_mfetch (h : LastFor k e) : (s.meet t k e).mfetch = s.mfetch := by
  rw [h.meet_eq]
  exact entryReady_mfetch _ _ _

end LastFor

theorem tile_add (e : MEntry) (p : Nat) (v : TVal) : (e.add p v).tile = e.tile := by
  unfold MEntry.add
  split
  · rfl
  · split <;> rfl

/-- The state in which the fetch of an entry under a key is counted (R94, R101). -/
def served (s : State) (t key : Nat) : State := (s.rinc (Reg.MST_FETCHES t)).progress (keySlot key)

theorem progress_csr (s : State) (k : Nat) : (s.progress k).csr = s.csr := rfl

theorem served_frame (s : State) (t key : Nat) : ∃ csr tiles, served s t key = { s with csr := csr, tiles := tiles } ∧
    tiles.map (·.rqLimit) = s.tiles.map (·.rqLimit) := by
  have hset : ∃ csr, s.rinc (Reg.MST_FETCHES t) = { s with csr := csr } := ⟨_, rfl⟩
  obtain ⟨csr, hset⟩ := hset
  rw [served, hset]
  exact ⟨csr, _, rfl, List.map_map⟩

namespace CameBack
variable {e' : MEntry} {key : Nat}

/-- The count of its fetch leaves an entry that has come back where it is. -/
theorem served_parts (h : CameBack s t e e' v) : (served v t key).mst = s.mst.filter (fun x => decide (x ≠ e)) ++ [e'] ∧
    (served v t key).mfetch = s.mfetch ∧ (served v t key).acts = s.acts ∧ (served v t key).firings = s.firings := by
  obtain ⟨csr, tiles, hs, -⟩ := served_frame v t key
  rw [hs]
  exact ⟨h.mst, h.mfetch, h.acts, h.firings⟩

theorem fetches (h : CameBack s t e e' v) : (served v t key).rget (Reg.MST_FETCHES t) = s.rget (Reg.MST_FETCHES t) + 1 :=
  calc (served v t key).rget (Reg.MST_FETCHES t)
    _ = (v.rinc (Reg.MST_FETCHES t)).rget (Reg.MST_FETCHES t) := State.rget_congr (progress_csr _ _) _
    _ = v.rget (Reg.MST_FETCHES t) + 1 := State.rget_rset_same _ _ _
    _ = s.rget (Reg.MST_FETCHES t) + 1 := by rw [h.upkeep.regs _ (FetchReg.fetches t)]

theorem readyRoom (h : CameBack s t e e' v) : (served v t key).readyRoom t = s.readyRoom t := by
  obtain ⟨csr, tiles, hs, hlimits⟩ := served_frame v t key
  rw [hs]
  exact readyRoom_congr (hlimits.trans h.upkeep.limits) h.firings

/-- The last token for an entry that has come back makes a ready firing in the place of the entry (R55, R94). -/
theorem meet_lastFor {k : Token} (h : CameBack s t e e' v) (hlast : LastFor k e') (htile : e'.tile = t)
    (honly : ∀ x ∈ s.mst, x.tile = t → x.key = e'.key → x = e) (hact : s.act? (tagAct k.tag) = some a)
    (hroom : s.readyRoom t = true) :
    ((served v t key).meet t k e').mst = s.mst.filter (fun x => decide (x ≠ e)) ∧
    ((served v t key).meet t k e').mfetch = s.mfetch ∧
    ((served v t key).meet t k e').rget (Reg.MST_FETCHES t) = s.rget (Reg.MST_FETCHES t) + 1 ∧
    ∃ f : Firing, ((served v t key).meet t k e').firings = s.firings ++ [f] ∧ f.stage = .ready ∧ f.tile = t ∧
      f.tag = k.tag &&& ~~~3 ∧ f.inL = (if tagPort k.tag = 0 then some k.tv else e'.at 0) ∧
      f.inR = (if tagPort k.tag = 1 then some k.tv else e'.at 1) ∧
      f.inC = (if tagPort k.tag = 2 then some k.tv else e'.at 2) := by
  obtain ⟨hserved, hmfetch, hacts, hfirings⟩ := h.served_parts (key := key)
  have hact' : (served v t key).act? (tagAct k.tag) = some a := by
    rw [State.act?, hacts]
    exact hact
  obtain ⟨y, f, hmeet, -, hmst, hfir, -, hstage, hftile, htag, -, hins⟩ := meet_completes (s := served v t key) hlast.key hact'
    (h.readyRoom.trans hroom) hlast.free hlast.need hlast.count hlast.full
  have hocc : Occupies y (y.occChanged t) := Occupies.refl.occChanged
  have hother : ∀ x ∈ s.mst.filter (fun x => decide (x ≠ e)), ∀ z : MEntry, z.tile = t → z.key = e'.key → x ≠ z := by
    rintro x hx z hzt hzk rfl
    obtain ⟨hx, hne⟩ := List.mem_filter.1 hx
    exact of_decide_eq_true hne (honly x hx hzt hzk)
  refine ⟨?_, hlast.meet_mfetch.trans hmfetch, (hlast.meet_upkeep.regs _ (FetchReg.fetches t)).trans h.fetches, f, ?_, hstage,
    hftile, htag, hins⟩
  · have hdone : ∀ x ∈ s.mst.filter (fun x => decide (x ≠ e)), decide (x ≠ completion e' k) = true := fun x hx =>
      decide_eq_true (hother x hx _ ((tile_add _ _ _).trans htile) (key_add _ _ _))
    rw [hmeet, hocc.mst, hmst, hserved, map_append_replace fun hin => hother e' hin e' htile rfl rfl, List.filter_append,
      List.filter_eq_self.2 hdone]
    simp
  · rw [hmeet, hocc.firings, hfir, hfirings]

/-- The entry that has come back is the one that a lookup finds. -/
theorem mstFind (h : CameBack s t e e' v) {inc : Nat} {p : MKind → Bool} (htile : e'.tile = t) (hinc : e'.inc = inc)
    (hp : p e'.kind = true) (honly : ∀ x ∈ s.mst, x.tile = t → x.key = e'.key → x = e) :
    (served v t key).mstFind t e'.key inc p = some e' := by
  refine mstFind_of_append h.served_parts.1 (fun x hx hxt hxk => ?_) htile rfl hinc hp
  obtain ⟨hx, hne⟩ := List.mem_filter.1 hx
  exact of_decide_eq_true hne (honly x hx hxt hxk)

end CameBack

theorem settle_mfetch (s : State) : s.settle.mfetch = s.mfetch := by
  obtain ⟨net, n, slots, he, -⟩ := settle_eq s
  rw [he]

/-! ### RESERVE_RELOAD -/

theorem tileAt_updTile_same {f : Tile → Tile} (ht : t < s.tiles.length) : (s.updTile t f).tileAt t = f (s.tileAt t) :=
  nth_updAt_same _ _ _ _ ht

/-- Without an entry of the oldest wafer in the reserve the reload ends (R98). -/
theorem reserveReload_of_none (ht : t < s.tiles.length) (hold : (s.tileAt t).oldest = true)
    (hnone : s.mst.find? (fun e => decide (e.tile = t) && e.inReserve && s.isOldestWafer e.wafer) = none) :
    ((s.reserveReload t).tileAt t).reload = false ∧ (s.reserveReload t).mst = s.mst := by
  have heq : s.reserveReload t = (s.updTile t (fun x => { x with reload := false })).leaveOldest t := by
    rw [State.reserveReload, if_pos hold, hnone]
  rw [heq]
  refine ⟨?_, (Occupies.refl.updTile.leaveOldest).mst⟩
  unfold State.leaveOldest
  extract_lets x
  split
  · rw [tileAt_updTile_same ((length_updAt _ _ _).symm ▸ ht)]
  · rw [tileAt_updTile_same ht]

theorem outside_of_inReserve (h : e.inReserve = true) : e.inStore = false ∧ e.transit = false := by
  unfold MEntry.inReserve at h
  split at h
  · next hp => exact ⟨by rw [MEntry.inStore, hp], by rw [MEntry.transit, hp]⟩
  · exact Bool.noConfusion h

/-- An entry of the oldest wafer comes back from the reserve, and its fetch is counted (R98). -/
theorem reserveReload_of_some {w : Nat} (hold : (s.tileAt t).oldest = true)
    (he : s.mst.find? (fun e => decide (e.tile = t) && e.inReserve && s.isOldestWafer e.wafer) = some e)
    (hw : FreeWay s t e.key w) :
    ∃ v, CameBack s t e (inWay s t e w) v ∧ s.reserveReload t = (served v t e.key).leaveOldest t := by
  have hres : e.inReserve = true := by
    have hc := List.find?_some he
    simp only [Bool.and_eq_true] at hc
    exact hc.1.2
  obtain ⟨hout, hdone⟩ := outside_of_inReserve hres
  obtain ⟨v, hv, hback⟩ := bringBack_of_freeWay hout hdone hw
  refine ⟨v, hv, ?_⟩
  rw [State.reserveReload, if_pos hold, he]
  dsimp only
  rw [hback]
  rfl

/-! ### Deadlock detection -/

theorem dlExpire_of_early (h : s.dlState t k ≠ .watch ∨ nth (s.tileAt t).detT k 0 < (s.tileAt t).levels.window) :
    s.dlExpire t k = s := by
  refine if_neg fun hc => ?_
  obtain ⟨hwatch, hwin⟩ := hc
  obtain hw | hw := h
  · exact hw hwatch
  · omega

/-- The detector watches again, with its timer at 0 (R103). -/
def watching (s : State) (t k : Nat) : State :=
  s.updTile t (fun x => { x with det := updAt x.det k (fun _ => .watch), detT := updAt x.detT k (fun _ => 0) })

theorem dlConfirm_of_busy (hc : s.dlState t k = .confirm) (hb : s.slotBusy k = true) : s.dlConfirm t k = watching s t k := by
  unfold State.dlConfirm
  rw [if_pos hc, if_pos hb]
  rfl

theorem dlConfirm_of_quiet (hc : s.dlState t k = .confirm) (hb : s.slotBusy k = false) : s.dlConfirm t k =
    ((((s.slotEntries t k).map (fun e => keyAct e.key)).eraseDups).foldl (fun (s : State) a => s.quarantine a 1 t 2 0)
      (watching s t k)).rinc (Reg.MST_DL_COUNT t) := by
  unfold State.dlConfirm
  rw [if_pos hc, if_neg (ne_true_of_eq_false hb)]
  rfl

/-! ### The purge walk -/

theorem mem_purgeWalk {x : MEntry} : x ∈ (s.purgeWalk t k).mst ↔
    x ∈ s.mst ∧ ¬(x.tile = t ∧ keySlot x.key = k ∧ x.inc ≠ (s.slotAt k).inc) := by
  have hmst : (s.purgeWalk t k).mst =
      (((s.slotEntries t k).filter (fun e => decide (e.inc ≠ (s.slotAt k).inc))).foldl
        (fun (s : State) e => takenOut s t e) s).mst := Occupies.refl.occChanged.leaveOldest.mst
  rw [hmst, mem_foldl_takenOut, State.slotEntries, List.mem_filter, List.mem_filter, decide_eq_true_iff, decide_eq_true_iff]
  tauto

/-! ### Errors of the store's codewords -/

theorem mstError_of_clean {c : Nat} {w : Codeword} (h : d144Check w = .clean) : s.mstError t n c w = s := by
  unfold State.mstError
  split
  · rfl
  · extract_lets r0 r
    rw [h]

theorem mstError_of_corrected {c j : Nat} {w : Codeword} {p : BitVec 4}
    (he : (s.mst.filter (fun y => decide (y.tile = t)))[n]? = some e) (h : d144Check w = .corrected j p) :
    ∃ r : Report, r.cls = 0 ∧
      s.mstError t n c w = ((s.rinc (Reg.MST_ECC_CE t)).lastErr (Reg.MST_ECC_LAST t) r).report r none := by
  unfold State.mstError
  rw [he]
  dsimp -zeta only
  extract_lets r0 r
  rw [h]
  refine ⟨r, ?_, rfl⟩
  unfold r
  split <;> rfl

/-- A C0 report is collected, or lost where the sequencer reports during a recovery (R455, R460). -/
theorem report_of_class0 {r : Report} (hr : r.cls = 0) : s.report r none = s ∨ s.report r none = s.collect r := by
  unfold State.report
  split
  · exact .inl rfl
  · rw [if_neg (by omega)]
    exact .inr rfl

/-- A corrected codeword is counted, and no entry changes (R104). -/
theorem mstError_corrected {c j : Nat} {w : Codeword} {p : BitVec 4}
    (he : (s.mst.filter (fun y => decide (y.tile = t)))[n]? = some e) (h : d144Check w = .corrected j p) :
    (s.mstError t n c w).mst = s.mst ∧
    (s.mstError t n c w).rget (Reg.MST_ECC_CE t) = s.rget (Reg.MST_ECC_CE t) + 1 := by
  obtain ⟨r, hr, heq⟩ := mstError_of_corrected (c := c) he h
  have hcount : ((s.rinc (Reg.MST_ECC_CE t)).lastErr (Reg.MST_ECC_LAST t) r).rget (Reg.MST_ECC_CE t) =
      s.rget (Reg.MST_ECC_CE t) + 1 :=
    (State.rget_rset_ne _ _ (csrAddr_ne_of_off (by decide))).trans (State.rget_rset_same _ _ _)
  have hmst : ((s.rinc (Reg.MST_ECC_CE t)).lastErr (Reg.MST_ECC_LAST t) r).mst = s.mst := by
    rw [State.lastErr, State.rset_mst, State.rinc_eq, State.rset_mst]
  rw [heq]
  obtain hrep | hrep := report_of_class0 (s := (s.rinc (Reg.MST_ECC_CE t)).lastErr (Reg.MST_ECC_LAST t) r) hr
  · rw [hrep]
    exact ⟨hmst, hcount⟩
  · rw [hrep]
    have habove : csrAddr 4 0 ≤ Reg.MST_ECC_CE t := csrAddr_le_of_block (by omega)
    exact ⟨(State.collect_mst _ _).trans hmst,
      (Keeps.refl.collect (P := fun a => csrAddr 4 0 ≤ a) (fun _ h => h) hr _ habove).trans hcount⟩

/-! ### The commands -/

/-- Settles O36: each command by what its operation on the store leaves of the entries, the registers and the spill area. -/
theorem storeMaintenanceCommands : Obligations.StoreMaintenanceCommands := by
  unfold Obligations.StoreMaintenanceCommands
  refine ⟨?_, ?_, ?_, ?_, ?_, ?_, ?_, ?_, ?_, ?_, ?_, ?_, ?_, ?_⟩
  · intro s t e b n hd hspill he hplace hn
    have hexec : exec (.spillWrite t) s = .next (s.tableWritten t e) := by
      rw [exec_spillWrite, execSpillWrite, onlyIf_alive hd, spillOne_of_transit hspill he]
    rw [tableWritten_of_transit hplace] at hexec
    cases hen : s.spillEn t with
    | false =>
      rw [hen] at hexec
      exact ⟨_, hexec, rfl, fun _ => rfl, fun h => absurd h (by decide)⟩
    | true =>
      rw [hen] at hexec
      obtain ⟨hkeyword, himage, hbucket, hframe⟩ := synced_imaged_bytes (s := landed s e b n) (t := t) (e := e) (b := b) hn
      have hbase : (landed s e b n).spillBase t = s.spillBase t := rfl
      rw [hbase] at hkeyword himage hbucket hframe
      have hin : { e with place := .table b n false } ∈ (landed s e b n).mst :=
        List.mem_map.2 ⟨e, List.mem_of_find?_eq_some he, if_pos rfl⟩
      have htile : e.tile = t := by
        have hc := List.find?_some he
        rw [Bool.and_eq_true] at hc
        exact of_decide_eq_true hc.1
      have hused := bucketWord_used hn hin htile rfl
      obtain ⟨sdram, csr, hparts⟩ := synced_imaged_frame (landed s e b n) t e b n
      rw [if_pos rfl, hparts] at hexec
      rw [hparts] at hkeyword himage hbucket hframe
      exact ⟨_, hexec, rfl, fun h => absurd h (by decide), fun _ =>
        ⟨hkeyword, himage, hbucket, hused, hframe, rfl, rfl, rfl, rfl⟩⟩
  · intro s t n m hd hwaits hfirst hstale
    exact exec_spillFetch_of hd (spillFetch_of_stale ⟨hwaits, hfirst⟩ hstale)
  · intro s t n m a e hd hwaits hfirst hact hlive hinc he hin
    exact exec_spillFetch_of hd (spillFetch_of_found ⟨hwaits, hfirst⟩ hact hlive hinc he (bringBack_of_inStore hin _) he)
  · intro s t n m a e b c w hd hwaits hfirst hact hlive hinc he htile hkey heinc hkind hplace honly hw hfree hneed hcount
      hfull hroom
    have hpair : State.isPair e.kind = true := by
      rw [hkind]
      rfl
    have hstore : e.inStore = false := by rw [MEntry.inStore, hplace]
    have hdone : e.transit = false := by rw [MEntry.transit, hplace]
    have hlast : LastFor m.tok e := ⟨hkey, hfree, hneed, hcount, hfull⟩
    obtain ⟨v, hv, hback⟩ := bringBack_of_freeWay (s := fetched s m) hstore hdone hw
    have hfound := hv.mstFind (key := e.key) (p := State.isPair) htile heinc hpair honly
    have hkey' : (inWay (fetched s m) t e w).key = tagKey m.tok.tag := hkey
    rw [hkey'] at hfound
    have hexec := spillFetch_of_found ⟨hwaits, hfirst⟩ hact hlive hinc
      (mstFind_of_only he htile hkey heinc hpair (hkey ▸ honly)) hback hfound
    obtain ⟨hmst, hmfetch, hcounted, f, hfir, hf⟩ :=
      hv.meet_lastFor (key := e.key) (hlast.inWay _ t w) htile honly hact hroom
    have hleave : ∀ x : State, Occupies x (x.leaveOldest t) := fun _ => Occupies.refl.leaveOldest
    refine ⟨_, exec_spillFetch_of hd hexec, ?_, ?_, ?_, f, ?_, hf⟩
    · exact (settle_mfetch _).trans ((hleave _).mfetch.trans hmfetch)
    · exact (settle_rget _ _).trans ((Upkeep.refl.leaveOldest.regs _ (FetchReg.fetches t)).trans hcounted)
    · exact (settle_mst _).trans ((hleave _).mst.trans hmst)
    · exact (settle_firings _).trans ((hleave _).firings.trans hfir)
  · intro s t hold
    have hsame : s.reserveReload t = s := if_neg (ne_true_of_eq_false hold)
    rw [exec_reserveReload, execReserveReload, State.onlyIf, hsame, ite_self]
  · intro s t hd ht hold hnone
    have hfind : s.mst.find? (fun e => decide (e.tile = t) && e.inReserve && s.isOldestWafer e.wafer) = none := by
      refine List.find?_eq_none.2 fun e he hc => ?_
      simp only [Bool.and_eq_true, decide_eq_true_iff] at hc
      obtain ⟨⟨htile, hres⟩, hwafer⟩ := hc
      exact absurd hwafer (ne_true_of_eq_false (hnone e he htile hres))
    refine ⟨_, ?_, reserveReload_of_none ht hold hfind⟩
    rw [exec_reserveReload, execReserveReload, onlyIf_alive hd]
  · intro s t w e hd hold he hw
    obtain ⟨v, hv, heq⟩ := reserveReload_of_some hold he hw
    refine ⟨(served v t e.key).leaveOldest t, ?_, ?_, Occupies.refl.leaveOldest.mst.trans hv.served_parts.1⟩
    · rw [exec_reserveReload, execReserveReload, onlyIf_alive hd, heq]
    · exact (Upkeep.refl.leaveOldest.regs _ (FetchReg.fetches t)).trans hv.fetches
  · intro s t k hd ht hk hwatch hwin
    refine ⟨s.updTile t (fun x => { x with det := updAt x.det k (fun _ => .confirm) }), ?_, ?_, rfl, rfl⟩
    · rw [exec_deadlockWindowExpiry, execDeadlockWindowExpiry, onlyIf_alive hd, State.dlExpire, if_pos ⟨hwatch, hwin⟩]
    · rw [tileAt_updTile_same ht]
      exact nth_updAt_same _ _ _ _ hk
  · intro s t k hearly
    rw [exec_deadlockWindowExpiry, execDeadlockWindowExpiry, State.onlyIf, dlExpire_of_early hearly, ite_self]
  · intro s t k hd ht hk hkT hc hb
    refine ⟨watching s t k, ?_, ?_, ?_, rfl, rfl⟩
    · rw [exec_deadlockConfirm, execDeadlockConfirm, onlyIf_alive hd, dlConfirm_of_busy hc hb]
    · rw [watching, tileAt_updTile_same ht]
      exact nth_updAt_same _ _ _ _ hk
    · rw [watching, tileAt_updTile_same ht]
      exact nth_updAt_same _ _ _ _ hkT
  · intro s t k hd hc hb
    rw [exec_deadlockConfirm, execDeadlockConfirm, onlyIf_alive hd, dlConfirm_of_quiet hc hb]
    rfl
  · intro s t k hd
    refine ⟨s.purgeWalk t k, ?_, fun e he => (mem_purgeWalk.1 he).1, fun e he htile hslot => ?_, fun e he hkept =>
      mem_purgeWalk.2 ⟨he, hkept⟩⟩
    · rw [exec_mstPurgeWalk, execMstPurgeWalk, onlyIf_alive hd]
    · exact not_not.1 fun hinc => (mem_purgeWalk.1 he).2 ⟨htile, hslot, hinc⟩
  · intro s t n c w hclean
    rw [exec_mstEccError, execMstEccError, State.onlyIf, mstError_of_clean hclean, ite_self]
  · intro s t n c j w p x hd hx hcor
    refine ⟨s.mstError t n c w, ?_, mstError_corrected hx hcor⟩
    rw [exec_mstEccError, execMstEccError, onlyIf_alive hd]

end Sys2Proof.Safety
end

section
/-! Instruction words and tags are the sums of their fields, each field in its place: so a word gives its fields, and the
fields give the word (R43, R107, Tables 2.4 and 4.1). -/

namespace Sys2Proof.Safety
open Sys2Proof.Machine

theorem natField_eq_div_mod (x hi lo : Nat) : natField x hi lo = x / 2 ^ lo % 2 ^ (hi + 1 - lo) := by
  rw [natField, Nat.shiftRight_eq_div_pow]

/-! ### Instruction words -/

theorem toNat_encodeIWord (i : IWord) : (encodeIWord i).toNat =
    i.opc % 1024 * 2 ^ 54 + i.ty % 16 * 2 ^ 50 + i.rnd % 4 * 2 ^ 48 + i.mode % 16 * 2 ^ 44 + i.lit % 4096 * 2 ^ 32 +
      i.da % 65536 * 2 ^ 16 + i.db % 65536 := toNat_w64 (by omega)

theorem decodeIWord_lt (w : Word) : (decodeIWord w).opc < 1024 ∧ (decodeIWord w).ty < 16 ∧ (decodeIWord w).rnd < 4 ∧
    (decodeIWord w).mode < 16 ∧ (decodeIWord w).lit < 4096 ∧ (decodeIWord w).da < 65536 ∧ (decodeIWord w).db < 65536 :=
  ⟨fld_lt w 63 54, fld_lt w 53 50, fld_lt w 49 48, fld_lt w 47 44, fld_lt w 43 32, fld_lt w 31 16, fld_lt w 15 0⟩

/-- The fields of Table 4.1 cover the word. -/
theorem toNat_eq_iword_fields (w : Word) : w.toNat =
    (decodeIWord w).opc * 2 ^ 54 + (decodeIWord w).ty * 2 ^ 50 + (decodeIWord w).rnd * 2 ^ 48 + (decodeIWord w).mode * 2 ^ 44 +
      (decodeIWord w).lit * 2 ^ 32 + (decodeIWord w).da * 2 ^ 16 + (decodeIWord w).db := by
  have hw := w.isLt
  simp only [decodeIWord, fld, natField_eq_div_mod]
  omega

theorem encodeIWord_decodeIWord (w : Word) : encodeIWord (decodeIWord w) = w := by
  obtain ⟨hopc, hty, hrnd, hmode, hlit, hda, hdb⟩ := decodeIWord_lt w
  refine BitVec.eq_of_toNat_eq ?_
  rw [toNat_encodeIWord, Nat.mod_eq_of_lt hopc, Nat.mod_eq_of_lt hty, Nat.mod_eq_of_lt hrnd, Nat.mod_eq_of_lt hmode,
    Nat.mod_eq_of_lt hlit, Nat.mod_eq_of_lt hda, Nat.mod_eq_of_lt hdb]
  exact (toNat_eq_iword_fields w).symm

theorem decodeIWord_encodeIWord {i : IWord} (hopc : i.opc < 1024) (hty : i.ty < 16) (hrnd : i.rnd < 4) (hmode : i.mode < 16)
    (hlit : i.lit < 4096) (hda : i.da < 65536) (hdb : i.db < 65536) : decodeIWord (encodeIWord i) = i := by
  obtain ⟨opc, ty, rnd, mode, lit, da, db⟩ := i
  dsimp only at hopc hty hrnd hmode hlit hda hdb
  simp only [decodeIWord, fld, natField_eq_div_mod, toNat_encodeIWord, IWord.mk.injEq]
  refine ⟨?_, ?_, ?_, ?_, ?_, ?_, ?_⟩ <;> omega

/-! ### Tags -/

theorem toNat_mkTag (d act slot iter iaddr port : Nat) : (mkTag d act slot iter iaddr port).toNat =
    d % 1024 * 2 ^ 54 + act % 65536 * 2 ^ 38 + slot % 8 * 2 ^ 35 + iter % 2048 * 2 ^ 24 + iaddr % 4194304 * 4 + port % 4 :=
  toNat_w64 (by omega)

/-- The fields of Table 2.4 cover the tag. -/
theorem toNat_eq_tag_fields (g : Tag) : g.toNat =
    tagDevice g * 2 ^ 54 + tagAct g * 2 ^ 38 + tagSlot g * 2 ^ 35 + tagIter g * 2 ^ 24 + tagIaddr g * 4 + tagPort g := by
  have hg := g.isLt
  simp only [tagDevice, tagAct, tagSlot, tagIter, tagIaddr, tagPort, fld, natField_eq_div_mod]
  omega

theorem mkTag_tag_fields (g : Tag) : mkTag (tagDevice g) (tagAct g) (tagSlot g) (tagIter g) (tagIaddr g) (tagPort g) = g := by
  have hdevice : tagDevice g < 1024 := fld_lt g 63 54
  have hact : tagAct g < 65536 := fld_lt g 53 38
  have hslot : tagSlot g < 8 := fld_lt g 37 35
  have hiter : tagIter g < 2048 := fld_lt g 34 24
  have hiaddr : tagIaddr g < 4194304 := fld_lt g 23 2
  have hport : tagPort g < 4 := fld_lt g 1 0
  refine BitVec.eq_of_toNat_eq ?_
  rw [toNat_mkTag, Nat.mod_eq_of_lt hdevice, Nat.mod_eq_of_lt hact, Nat.mod_eq_of_lt hslot, Nat.mod_eq_of_lt hiter,
    Nat.mod_eq_of_lt hiaddr, Nat.mod_eq_of_lt hport]
  exact (toNat_eq_tag_fields g).symm

theorem tag_fields_mkTag {d act slot iter iaddr port : Nat} (hd : d < 1024) (hact : act < 65536) (hslot : slot < 8)
    (hiter : iter < 2048) (hiaddr : iaddr < 4194304) (hport : port < 4) :
    tagDevice (mkTag d act slot iter iaddr port) = d ∧ tagAct (mkTag d act slot iter iaddr port) = act ∧
    tagSlot (mkTag d act slot iter iaddr port) = slot ∧ tagIter (mkTag d act slot iter iaddr port) = iter ∧
    tagIaddr (mkTag d act slot iter iaddr port) = iaddr ∧ tagPort (mkTag d act slot iter iaddr port) = port := by
  simp only [tagDevice, tagAct, tagSlot, tagIter, tagIaddr, tagPort, fld, natField_eq_div_mod, toNat_mkTag]
  refine ⟨?_, ?_, ?_, ?_, ?_, ?_⟩ <;> omega

/-- Settles O6: word and tag are the sums of their fields. -/
theorem instructionWordRoundTrip : Obligations.InstructionWordRoundTrip :=
  ⟨encodeIWord_decodeIWord, fun _ hopc hty hrnd hmode hlit hda hdb => decodeIWord_encodeIWord hopc hty hrnd hmode hlit hda hdb,
    mkTag_tag_fields, fun _ _ _ _ _ _ hd hact hslot hiter hiaddr hport => tag_fields_mkTag hd hact hslot hiter hiaddr hport⟩

end Sys2Proof.Safety
end

section
/-! Firings on presence cells and on cache lines: IFETCH, ISTORE, CLEAN and CLINV (R126 to R129, R155). -/

namespace Sys2Proof.Safety
open Sys2Proof.Machine

variable {s s1 s2 : State} {n : Nat} {f : Firing} {a : Act} {row : OpRow} {l : Loc} {cell : Nat × Nat} {inval : Bool}

/-! ### The shared steps of token inputs and addresses -/

theorem tokOp_of_noCtx {ok : Nat} (h : f.ctxBad ok = false) (go : State → Firing → Act → OpRow → State) :
    State.tokOp ok go s f a row = go s f a row :=
  if_neg (ne_true_of_eq_false h)

theorem withAddr_of_ok {x : Desc} {i : Nat} (h : s.addrOf f a x f.size i = (.ok l, s1)) (go : State → Loc → State) :
    s.withAddr f a row x i go = go s1 l := by
  rw [State.withAddr, h]

theorem handWith_eq_staged {es : List Effect} {nd : Bool} (h : Room s f 0 es) :
    s.handWith f es nd = staged s f (f.outsAB (f.handL false)) [] es 0 (f.inhNd || nd) :=
  stage_eq_staged h

/-! ### IFETCH and ISTORE -/

/-- The state in which the read of a cell that is not FULL is recorded (R127). -/
def readDeferred (s : State) (f : Firing) (l : Loc) (cell : Nat × Nat) : State :=
  { s with
    nextFid := s.nextFid + 1
    deferred := s.deferred ++ [{
      id := s.nextFid, slice := s.cellSlice l.addr, cell := cell, ea := l.addr, tile := f.tile, pe := f.pe, tag := f.tag,
      inc := f.inc, dests := (destOf f.iaddr f.iw.da).toList ++ (destOf f.iaddr f.iw.db).toList, ty := f.iw.ty,
      flags := f.inhFlags, nd := f.inhNd || l.nd, done := false }] }

theorem ifetchOp_of_full {g : Got} (hctx : f.ctxBad 0 = false)
    (haddr : s.addrOf f a (desc12 f.iw.lit) f.size (State.memIdx f) = (.ok l, s1))
    (hcell : s1.cellOf a (desc12 f.iw.lit) l f.size = some cell) (hfull : s1.cellState cell = 2)
    (hbad : s1.cellBad l f.size = []) (hload : s1.graphLoad f l f.size = (.ok g, s2)) (hroom : Room s2 f 0 []) :
    State.ifetchOp s f a row = staged s2 f (f.outsAB ⟨BitVec.ofNat 256 g.v, f.comp f.iw.ty 0 g.nd⟩) [] [] 0 false := by
  rw [State.ifetchOp, tokOp_of_noCtx hctx]
  simp only [withAddr_of_ok haddr, hcell, hfull, hbad, hload]
  exact stage_eq_staged hroom

theorem ifetchOp_of_not_full (hctx : f.ctxBad 0 = false)
    (haddr : s.addrOf f a (desc12 f.iw.lit) f.size (State.memIdx f) = (.ok l, s1))
    (hcell : s1.cellOf a (desc12 f.iw.lit) l f.size = some cell) (hfull : s1.cellState cell ≠ 2)
    (hstate : s1.cellState cell ≠ 3) (hbad : s1.cellBad l f.size = [])
    (hslice : (s1.deferred.filter (fun d => decide (d.slice = s1.cellSlice l.addr))).length < 8192) (hroom : Room s1 f 0 []) :
    State.ifetchOp s f a row = staged (readDeferred s1 f l cell) f [] [] [.deferred s1.nextFid] 0 false := by
  rw [State.ifetchOp, tokOp_of_noCtx hctx]
  simp only [withAddr_of_ok haddr, hcell, hfull, hstate, hbad, Nat.not_le.2 hslice]
  exact stage_eq_staged hroom

theorem istoreOp_of_no_causes {stores : List StoreRec} {effects : List Effect} (hctx : f.ctxBad 0 = false)
    (haddr : s.addrOf f a (desc12 f.iw.lit) f.size (if f.iw.mode = mSTOX then f.idxR else 0) = (.ok l, s1))
    (hcell : s1.cellOf a (desc12 f.iw.lit) l f.size = some cell) (hfull : s1.cellStateOf f cell ≠ 2)
    (hstate : s1.cellStateOf f cell ≠ 3)
    (hstore : s1.storeTo l f.iw.ty (natToBytes f.size f.lv.toNat) (some cell) = ([], stores, effects))
    (hheader : s1.touchesHeader cell.1 8 = false) (hroom : Room s1 f stores.length []) :
    State.istoreOp s f a row = staged s1 f (f.outsAB (f.handL false)) stores [] 0 (f.inhNd || l.nd) := by
  rw [State.istoreOp, tokOp_of_noCtx hctx]
  simp only [withAddr_of_ok haddr, hcell, hfull, hstate, hstore, hheader]
  exact stage_eq_staged hroom

/-! ### CLEAN and CLINV -/

theorem exec_maint_of_ready (h : Ready s n (if inval then 0x1CD else 0x1CC) f a row) :
    Sys2Proof.Machine.exec (if inval then .fireClinv n else .fireClean n) s = .next (State.maintOp inval s f a row) := by
  cases inval
  · exact congrArg Host.Outcome.next (fire_of_ready h _)
  · exact congrArg Host.Outcome.next (fire_of_ready h _)

theorem maintOp_of_sdram (hctx : f.ctxBad 0 = false)
    (haddr : s.addrOf f a (desc12 f.iw.lit) f.size (State.memIdx f) = (.ok l, s1)) (hcsr : touchesCsr l.addr f.size = false)
    (hlocal : l.device = s1.localId) (hkind : s1.accessKind l.addr f.size = .sdram)
    (hsplit : s1.splitDiffers l.addr f.size = false) (hfills : ∀ x ∈ s1.mem.fills, x.line ≠ l.addr / 64)
    (hroom : Room s1 f 0 []) : State.maintOp inval s f a row =
      staged s1 f (f.outsAB (f.handL false)) [] [.maint inval (l.addr / 64)] 0 (f.inhNd || l.nd) := by
  have hnofill : s1.mem.fills.any (fun x => decide (x.line = l.addr / 64)) = false := by
    simpa using hfills
  rw [State.maintOp, tokOp_of_noCtx hctx]
  simp only [withAddr_of_ok haddr, hcsr, hlocal, hkind, hsplit, hnofill, ne_eq, not_true_eq_false, Bool.false_eq_true, if_false]
  exact handWith_eq_staged hroom

theorem maintOp_of_scratch (hctx : f.ctxBad 0 = false)
    (haddr : s.addrOf f a (desc12 f.iw.lit) f.size (State.memIdx f) = (.ok l, s1)) (hcsr : touchesCsr l.addr f.size = false)
    (hlocal : l.device = s1.localId) (hkind : s1.accessKind l.addr f.size = .scratch) (hroom : Room s1 f 0 []) :
    State.maintOp inval s f a row = staged s1 f (f.outsAB (f.handL false)) [] [] 0 f.inhNd := by
  rw [State.maintOp, tokOp_of_noCtx hctx]
  simp only [withAddr_of_ok haddr, hcsr, hlocal, hkind, ne_eq, not_true_eq_false, Bool.false_eq_true, if_false]
  exact (handWith_eq_staged hroom).trans (by rw [Bool.or_false])

/-- Settles O18: each operation forms its address and ends in the branch that the state of the cell, or the memory of the
line, selects. -/
theorem memoryCellFiringsComplete : Obligations.MemoryCellFiringsComplete := by
  refine ⟨?_, ?_, ?_, ?_, ?_⟩
  · intro s s1 s2 n f a row l cell g hready hctx haddr hcell hfull hbad hload hroom
    rw [exec_fireIfetch, execFireIfetch, fire_of_ready hready,
      ifetchOp_of_full hctx haddr hcell hfull hbad hload hroom]
  · intro s s1 n f a row l cell hready hctx haddr hcell hfull hstate hbad hslice hroom
    rw [exec_fireIfetch, execFireIfetch, fire_of_ready hready,
      ifetchOp_of_not_full hctx haddr hcell hfull hstate hbad hslice hroom]
    rfl
  · intro s s1 n f a row l cell stores effects hready hctx haddr hcell hfull hstate hstore hheader hroom
    rw [exec_fireIstore, execFireIstore, fire_of_ready hready,
      istoreOp_of_no_causes hctx haddr hcell hfull hstate hstore hheader hroom]
  · intro s s1 n f a row l inval hready hctx haddr hcsr hlocal hkind hsplit hfills hroom
    rw [exec_maint_of_ready hready, maintOp_of_sdram hctx haddr hcsr hlocal hkind hsplit hfills hroom]
  · intro s s1 n f a row l inval hready hctx haddr hcsr hlocal hkind hroom
    rw [exec_maint_of_ready hready, maintOp_of_scratch hctx haddr hcsr hlocal hkind hroom]

end Sys2Proof.Safety
end

section
/-! Microcoded firings, and firings that trap (R147, R198 to R205, R210). -/

namespace Sys2Proof.Safety
open Sys2Proof.Machine

variable {s s1 s2 sx : State} {f : Firing} {a : Act} {row : OpRow} {opc entry : Nat} {c : Nat → Instr}
  {op : OpIn → Option OpRes} {isInt : Bool}

/-! ### Microcoded operations -/

/-- A firing whose microsequence reaches END gives the microsequencer up and runs its body. -/
theorem micro_of_sequenced {x : Ins} {q : MicroSeq} (hin : Inputs s f a row 0 x sx) (hseq : Sequenced s f a entry x q)
    (body : State → Firing → Act → OpRow → State) : State.micro entry body s f a row = body (s.useqFree f) f a row := by
  have hfresh : s.useqs.find? (fun q => decide (q.firing = f.id)) = none :=
    List.find?_eq_none.2 fun p hp => by simpa using hseq.new p hp
  simp [State.micro, hin.noCtx, hin.read, hin.wait, hin.bad, hseq.turn, hfresh, hseq.ends]

theorem microcodedBy_of_definedByType (hop : DefinedByType op)
    (hc : ∀ n s, Sys2Proof.Machine.exec (c n) s = .next (s.fire n opc (State.micro entry (State.compute op isInt)))) :
    MicrocodedBy c opc entry op isInt := by
  intro s n f a row x0 x s1 s2 sx z q stores effects nd hready hin0 hseq hin hz hs ht hr
  rw [hc, fire_of_ready hready, micro_of_sequenced hin0 hseq, compute_eq_staged hop hin hz hs ht hr]

theorem microcodedBy_of_isSome (hop : ∀ x, (op x).isSome = true)
    (hc : ∀ n s, Sys2Proof.Machine.exec (c n) s = .next (s.fire n opc (State.micro entry (State.compute op isInt)))) :
    MicrocodedBy c opc entry op isInt :=
  microcodedBy_of_definedByType (definedByType_of_isSome hop) hc

theorem opResamp_definedByType : DefinedByType opResamp := by
  intro x y _ hlty
  unfold opResamp
  rw [hlty]
  split <;> simp only [Option.isSome_some, Option.isSome_none]

theorem opMoment_definedByType : DefinedByType opMoment := by
  intro x y _ hlty
  unfold opMoment
  rw [hlty]
  split <;> simp only [Option.isSome_some, Option.isSome_none]

/-- Settles O11: RESAMP and MOMENT are defined by the type of L, the other operations on all inputs. -/
theorem microcodedFiringsComplete : Obligations.MicrocodedFiringsComplete := by
  refine ⟨?_, ?_, ?_, ?_, ?_, ?_, ?_, ?_, ?_, ?_, ?_, ?_, ?_, ?_⟩
  iterate 11 exact microcodedBy_of_isSome (fun _ => rfl) (fun _ _ => rfl)
  · exact microcodedBy_of_definedByType opResamp_definedByType (fun _ _ => rfl)
  · exact microcodedBy_of_definedByType opMoment_definedByType (fun _ _ => rfl)
  · intro s sx n f a row x0 q m p hready hin hseq hm hp ht hr
    rw [exec_fireCpolar, execFireCpolar, fire_of_ready hready, micro_of_sequenced hin hseq, State.cpolarOp,
      tokOp_of_noCtx hin.noCtx]
    simp only [hm, hp, ht, List.isEmpty_nil, if_true]
    rw [stage_eq_staged hr]

/-! ### Traps -/

theorem stageTrap_eq_staged {x : TrapInfo} {nd : Bool} (hr : Room s f 0 [.noHandler]) :
    s.stageTrap f a x nd = if bit a.mode 2 && !f.excIn
      then staged s f [excToken f.tag f.word a.handler f.inhFlags (f.inhNd || nd) x] [] [] x.raised false
      else staged s f [] [] [.noHandler] x.raised false :=
  if_congr Iff.rfl (stage_eq_staged ⟨hr.1, hr.2⟩) (stage_eq_staged hr)

theorem stageTrap_delivered {x : TrapInfo} {nd : Bool} (hr : Room s f 0 [.noHandler]) (hm : bit a.mode 2 = true)
    (he : f.excIn = false) : s.stageTrap f a x nd =
      staged s f [excToken f.tag f.word a.handler f.inhFlags (f.inhNd || nd) x] [] [] x.raised false := by
  rw [stageTrap_eq_staged hr, hm, he]
  rfl

theorem stageTrap_quarantined {x : TrapInfo} {nd : Bool} (hr : Room s f 0 [.noHandler])
    (h : ¬ (bit a.mode 2 = true ∧ f.excIn = false)) :
    s.stageTrap f a x nd = staged s f [] [] [.noHandler] x.raised false := by
  rw [stageTrap_eq_staged hr, if_neg (by simpa using h)]

/-- A computing firing whose result raises an enabled trap. -/
theorem compute_eq_trapOf (hop : DefinedByType op) {x : Ins} {z : OpRes} {stores : List StoreRec} {effects : List Effect}
    {nd : Bool} {cause : Nat} (hi : Inputs s f a row 0 x s1) (hz : op (opInputs f a x) = some z)
    (hs : Stores s1 f a z.val stores effects nd s2)
    (ht : firstCause (enabledCauses a.mode isInt (orFlags z.flags)) = some cause) :
    State.compute op isInt s f a row = s2.trapOf f a row x (enabledCauses a.mode isInt (orFlags z.flags)) z.flags := by
  have hdef : (op (opInputs f a (State.firingFixed f row))).isNone = false := by
    have h := hop (opInputs f a (State.firingFixed f row)) (opInputs f a x) rfl rfl
    rw [hz] at h
    simpa using h
  have hcs : (enabledCauses a.mode isInt (orFlags z.flags)).isEmpty = false := by
    cases h : enabledCauses a.mode isInt (orFlags z.flags) with
    | nil => simp [h, firstCause] at ht
    | cons => rfl
  rw [opInputs] at hz hdef
  rw [Stores] at hs
  simp only [State.compute, hdef, hi.noCtx, hi.read, hi.wait, hi.bad, hz, List.isEmpty_nil, Bool.not_true, Bool.false_eq_true,
    if_false, State.finish, hs, List.nil_append, hcs]

theorem trapsBy_of_definedByType (hop : DefinedByType op)
    (hc : ∀ n s, Sys2Proof.Machine.exec (c n) s = .next (s.fire n opc (State.compute op isInt))) : TrapsBy c opc op isInt := by
  intro s n f a row x s1 s2 z stores effects nd cause hready hin hz hs ht hr k info
  have htrap : Sys2Proof.Machine.exec (c n) s = .next (s2.stageTrap f a info x.nd) := by
    rw [hc, fire_of_ready hready, compute_eq_trapOf hop hin hz hs ht, State.trapOf, ht]
    rfl
  exact ⟨fun hm he => htrap.trans (congrArg _ (stageTrap_delivered hr hm he)),
    fun h => htrap.trans (congrArg _ (stageTrap_quarantined hr h))⟩

theorem trapsBy_of_isSome (hop : ∀ x, (op x).isSome = true)
    (hc : ∀ n s, Sys2Proof.Machine.exec (c n) s = .next (s.fire n opc (State.compute op isInt))) : TrapsBy c opc op isInt :=
  trapsBy_of_definedByType (definedByType_of_isSome hop) hc

/-- Settles O19: an enabled trap ends an operation in its exception token or its quarantine, and a reserved encoding has no other
effect. -/
theorem enabledTrapsDeliverAnExceptionToken : Obligations.EnabledTrapsDeliverAnExceptionToken := by
  refine ⟨?_, ?_, ?_, ?_, ?_, ?_, ?_, ?_, ?_, ?_, ?_, ?_, ?_, ?_, ?_, ?_, ?_, by decide +kernel⟩
  iterate 9 exact trapsBy_of_isSome (fun _ => rfl) (fun _ _ => rfl)
  · exact trapsBy_of_definedByType opCvt_definedByType (fun _ _ => rfl)
  iterate 2 exact trapsBy_of_isSome (opCmp_isSome _) (fun _ _ => rfl)
  · exact trapsBy_of_isSome opHsum_isSome (fun _ _ => rfl)
  iterate 2 exact trapsBy_of_isSome (opHminmax_isSome _) (fun _ _ => rfl)
  · exact trapsBy_of_isSome (fun _ => rfl) (fun _ _ => rfl)
  · intro s n f a halive hfound hstage hwait hserves hillegal hact hruns hr x
    have htrap : Sys2Proof.Machine.exec (.fireIllegalEncoding n) s =
        .next (s.stageTrap f a ⟨0x0F, 0, 0, x.1, x.2.1, x.2.2⟩ false) := by
      rw [exec_fireIllegalEncoding, execFireIllegalEncoding, State.fireIllegal]
      simp only [halive, hfound, hstage, hwait, hserves, hillegal, hact, hruns, Bool.false_eq_true, if_false, if_true, and_self,
        Bool.not_false]
      rfl
    refine ⟨fun hm he => htrap.trans (congrArg _ ?_), fun h => htrap.trans (congrArg _ (stageTrap_quarantined hr h))⟩
    rw [stageTrap_delivered hr hm he, Bool.or_false]

end Sys2Proof.Safety
end

section
/-! Room in the commit buffers under changes that the buffers do not see (R58, R62). -/

namespace Sys2Proof.Safety
open Sys2Proof.Machine

variable {s t : State} {f : Firing} {ns n : Nat} {es : List Effect}

/-- What the buffers of the PEs count of a firing: its PE, its stage, its stores and its effects. -/
def bufferPart (f : Firing) : Nat × Nat × FStage × List StoreRec × List Effect := (f.tile, f.pe, f.stage, f.stores, f.effects)

theorem sbUsed_eq (s : State) (t p : Nat) : s.sbUsed t p =
    (s.storeBuf.filter (fun b => decide (b.tile = t ∧ b.pe = p))).length +
      ((s.firings.map bufferPart).filter (fun x => decide (x.1 = t ∧ x.2.1 = p ∧ x.2.2.1 = .executed))).foldl
        (fun n x => n + x.2.2.2.1.length) 0 := by
  rw [List.filter_map, List.foldl_map]
  rfl

theorem ebUsed_eq (s : State) (t p : Nat) : s.ebUsed t p =
    (s.eventBuf.filter (fun b => decide (b.tile = t ∧ b.pe = p))).length +
      ((s.firings.map bufferPart).filter (fun x => decide (x.1 = t ∧ x.2.1 = p ∧ x.2.2.1 = .executed))).foldl
        (fun n x => n + (x.2.2.2.2.filter State.inEvents).length) 0 := by
  rw [List.filter_map, List.foldl_map]
  rfl

/-- Room depends on the buffers and on what they count of the firings alone. -/
theorem room_congr (hsb : t.storeBuf = s.storeBuf) (heb : t.eventBuf = s.eventBuf)
    (hf : t.firings.map bufferPart = s.firings.map bufferPart) (h : Room s f ns es) : Room t f ns es := by
  have hs : t.sbUsed f.tile f.pe = s.sbUsed f.tile f.pe := by rw [sbUsed_eq, sbUsed_eq, hsb, hf]
  have he : t.ebUsed f.tile f.pe = s.ebUsed f.tile f.pe := by rw [ebUsed_eq, ebUsed_eq, heb, hf]
  rw [Room, hs, he]
  exact h

/-- A change of some firings that the buffers do not see. -/
theorem map_bufferPart_of_eq {p : Firing → Prop} [DecidablePred p] {g : Firing → Firing} (h : ∀ x, bufferPart (g x) = bufferPart x)
    (xs : List Firing) : (xs.map (fun x => if p x then g x else x)).map bufferPart = xs.map bufferPart := by
  rw [List.map_map]
  refine List.map_congr_left fun x _ => ?_
  rw [Function.comp_apply]
  split
  · exact h x
  · rfl

theorem room_updFiring {id : Nat} {g : Firing → Firing} (hg : ∀ x, bufferPart (g x) = bufferPart x) (h : Room s f ns es) :
    Room (s.updFiring id g) f ns es := room_congr (s := s) rfl rfl (map_bufferPart_of_eq (p := fun x => x.id = id) hg s.firings) h

/-- Effects that do not pass the event buffer need no room. -/
theorem room_of_outside (hes : es.filter State.inEvents = []) (h : Room s f ns []) : Room s f ns es :=
  ⟨h.1, by rw [hes]; exact h.2⟩

/-! ### Firings found and staged -/

theorem firing?_id (h : s.firing? n = some f) : f.id = n := by
  simpa using List.find?_some h

/-- The firing that a change of one firing has changed. -/
theorem firing?_updFiring {g : Firing → Firing} (hg : ∀ x, (g x).id = x.id) (h : s.firing? n = some f) :
    (s.updFiring n g).firing? n = some (g f) := by
  have hid : ((fun x : Firing => decide (x.id = n)) ∘ fun x => if x.id = n then g x else x) = fun x => decide (x.id = n) := by
    funext x
    simp only [Function.comp_apply]
    split
    · rw [hg]
    · rfl
  rw [State.firing?, State.updFiring, List.find?_map, hid]
  exact (congrArg _ h).trans (congrArg _ (if_pos (firing?_id h)))

theorem firing?_congr (h : t.firings = s.firings) (n : Nat) : t.firing? n = s.firing? n := by
  rw [State.firing?, h, State.firing?]

theorem firing?_staged {g : Firing} {outs : List OutTok} {stores : List StoreRec} {raised : Flags7} {nd : Bool}
    (h : s.firing? f.id = some g) : (staged s f outs stores es raised nd).firing? f.id = some { g with
      stage := .executed, wait := .none, outs := outs, stores := stores, effects := es, raised := raised, nd := nd } :=
  firing?_updFiring (g := fun x => { x with
    stage := .executed, wait := .none, outs := outs, stores := stores, effects := es, raised := raised, nd := nd }) (fun _ => rfl) h

end Sys2Proof.Safety
end

section
/-! Firings whose inputs are all tokens: the scheduler's operations, channels and locks (R165 to R170, R176, R268, R280,
R282). -/

namespace Sys2Proof.Safety
open Sys2Proof.Machine

variable {s : State} {n k : Nat} {f : Firing} {a : Act} {row : OpRow}

/-! ### The scheduler's operations -/

theorem exec_delay_of_ready {ticks : Bool} (h : Ready s n (if ticks then 0x2E1 else 0x2E0) f a row) :
    Sys2Proof.Machine.exec (if ticks then .fireTickwait n else .fireDelay n) s = .next (State.delayOp ticks s f a row) := by
  cases ticks
  · exact congrArg _ (fire_of_ready h _)
  · exact congrArg _ (fire_of_ready h _)

theorem fenceThen_of_fenced {fabric : Bool} (go : State → State)
    (h : s.fenced (if f.fenceSeq = 0 then s.cseq + 1 else f.fenceSeq) fabric = true) : s.fenceThen f fabric go = go s :=
  if_pos h

/-- Settles O15: each operation stages the effects and tokens of its row. -/
theorem schedulerFiringsComplete : Obligations.SchedulerFiringsComplete := by
  refine ⟨?_, ?_, ?_, ?_, ?_⟩
  · intro s n f a row ticks hready hctx hr hfree
    rw [exec_delay_of_ready hready, State.delayOp, tokOp_of_noCtx hctx]
    dsimp only
    rw [if_neg (Nat.not_lt.2 hfree)]
    exact congrArg _ (stage_eq_staged (stores := []) (room_of_outside rfl (room_updFiring (fun _ => rfl) hr)))
  · intro s n f a row code hready hctx hr hfenced
    cases code
    · refine congrArg _ ((fire_of_ready hready _).trans ?_)
      rw [State.fenceOp, tokOp_of_noCtx hctx]
      refine (fenceThen_of_fenced _ hfenced).trans ?_
      rw [handWith_eq_staged hr, Bool.or_false]
      rfl
    · refine congrArg _ ((fire_of_ready hready _).trans ?_)
      rw [State.codeCommitOp, tokOp_of_noCtx hctx]
      exact (fenceThen_of_fenced _ hfenced).trans (stage_eq_staged (room_of_outside rfl hr))
  · intro s n f a row hready hctx hr k v
    rw [exec_fireSchstat, execFireSchstat, fire_of_ready hready, State.schstatOp, tokOp_of_noCtx hctx]
    exact congrArg _ (stage_eq_staged hr)
  · intro s n f a row p hready hctx hp hr
    subst hp
    rw [exec_fireCrumb, execFireCrumb, fire_of_ready hready, State.crumbOp, tokOp_of_noCtx hctx, handWith_eq_staged hr,
      Bool.or_false]
  · intro s n f a row hready hctx hr v
    rw [exec_fireTimeq, execFireTimeq, fire_of_ready hready, State.timeqOp, tokOp_of_noCtx hctx]
    exact congrArg _ (stage_eq_staged hr)

/-! ### Channels -/

/-- Settles O16: each operation finds its channel by its binding, and ends with its send or its poll. -/
theorem channelFiringsComplete : Obligations.ChannelFiringsComplete := by
  refine ⟨?_, ?_⟩
  · intro s n opc f a row h w c i close hi hready hctx hbind hchan hwidth hword hlen hroom hw hr
    subst hw
    have hexec : Sys2Proof.Machine.exec (i n) s = .next (s.fire n opc (State.sendOp close)) := by
      obtain ⟨rfl, rfl, rfl⟩ | ⟨rfl, rfl, rfl⟩ | ⟨rfl, rfl, rfl⟩ := hi <;> rfl
    have hgood : ¬ (c.width ≠ f.size ∨ (stCtx f.ltok.st = true ∧ c.width < 8) ∨ c.maxlen ≤ s.openLen c.handle a.id f.slot f.inc) := by
      rintro (h | ⟨h, hlt⟩ | h)
      · exact h hwidth
      · exact absurd (hword h) (by omega)
      · omega
    rw [hexec, fire_of_ready hready, State.sendOp, tokOp_of_noCtx hctx]
    simp only [hbind, Option.bind_some, hchan, if_neg hgood, hroom, Bool.not_true, Bool.false_eq_true, if_false]
    rw [handWith_eq_staged hr, Bool.or_false]
  · intro s n f a row h c hready hctx hbind hchan hkind hwidth hr
    have hgood : ¬ (c.ckind ≠ ckPoll ∨ c.width ≠ f.size) := by simp [hkind, hwidth]
    rw [exec_fireChpoll, execFireChpoll, fire_of_ready hready, State.pollOp, tokOp_of_noCtx hctx]
    simp only [hbind, Option.bind_some, hchan, if_neg hgood]
    rw [stage_eq_staged (room_of_outside rfl hr)]

/-! ### Crumbs -/

/-- From `s` to `t` nothing but memories, registers and the counts of free values and of lost crumbs has changed. -/
def Records (s t : State) : Prop := ∃ m c n l, t = { s with mem := m, csr := c, free := n, trcLost := l }

namespace Records
variable {s t u : State}

theorem refl : Records s s := ⟨s.mem, s.csr, s.free, s.trcLost, rfl⟩

theorem trans (h : Records s t) (g : Records t u) : Records s u := by
  obtain ⟨m, c, n, l, rfl⟩ := h
  obtain ⟨m', c', n', l', rfl⟩ := g
  exact ⟨m', c', n', l', rfl⟩

theorem ite {p : Prop} [Decidable p] (h : Records s t) (g : Records s u) : Records s (if p then t else u) := by
  split
  · exact h
  · exact g

theorem ofMemStep (h : MemStep s t) : Records s t := by
  obtain ⟨m, c, n, rfl⟩ := h.frame
  exact ⟨m, c, n, s.trcLost, rfl⟩

theorem trcLost (s : State) (l : Nat) : Records s { s with trcLost := l } := ⟨s.mem, s.csr, s.free, l, rfl⟩

theorem rset {a : Nat} {v : Word} (h : Records s t) : Records s (t.rset a v) := h.trans (ofMemStep (.rset _ _ _))

theorem ringWrite {cs : List (BitVec 128)} (h : Records s t) : Records s (t.ringWrite cs) :=
  h.trans (ofMemStep (MemStep.foldl _ (fun _ _ => (MemStep.sdWrite _ _ _).trans (.rset _ _ _)) _ _))

theorem ringItem (s : State) (wrap : Bool) (cs : List (BitVec 128)) : Records s (s.ringItem wrap cs) := by
  unfold State.ringItem
  extract_lets size used all s1
  have h1 : Records s s1 := (trcLost s 0).ringWrite
  exact .ite (.ite h1.rset.rset h1) (.ite h1 (trcLost s _).rset.rset)

theorem lockCrumb (s : State) (kind k low : Nat) (o : Owner) : Records s (s.lockCrumb kind k low o) :=
  .ite (ringItem _ _ _) .refl

theorem updFiring {id : Nat} {g : Firing → Firing} (h : Records s t) : Records (s.updFiring id g) (t.updFiring id g) := by
  obtain ⟨m, c, n, l, rfl⟩ := h
  exact ⟨m, c, n, l, rfl⟩

theorem firings (h : Records s t) : t.firings = s.firings := by
  obtain ⟨m, c, n, l, rfl⟩ := h
  rfl

theorem storeBuf (h : Records s t) : t.storeBuf = s.storeBuf := by
  obtain ⟨m, c, n, l, rfl⟩ := h
  rfl

theorem eventBuf (h : Records s t) : t.eventBuf = s.eventBuf := by
  obtain ⟨m, c, n, l, rfl⟩ := h
  rfl

theorem locks (h : Records s t) : t.locks = s.locks := by
  obtain ⟨m, c, n, l, rfl⟩ := h
  rfl

end Records

/-! ### Locks -/

theorem lockAt_k (s : State) (k : Nat) : (s.lockAt k).k = k := by
  unfold State.lockAt
  cases h : s.locks.find? (fun l => decide (l.k = k)) with
  | none => rfl
  | some l => simpa using List.find?_some h

theorem lockAt_congr {t : State} (h : t.locks = s.locks) (k : Nat) : t.lockAt k = s.lockAt k := by
  rw [State.lockAt, h, State.lockAt]

/-- A lock that is held reads back as it was written. -/
theorem lockAt_setLock_same (s : State) {l : Lock} (h : l.holder.isSome = true) : (s.setLock l).lockAt l.k = l := by
  have hne : l ≠ Lock.fresh l.k := fun he => by rw [he] at h; exact Bool.noConfusion h
  simp [State.lockAt, State.setLock, hne]

/-- The lock reserved for an owner (R167). -/
def reservation (l : Lock) (o : Owner) (b : Nat) : Lock :=
  { l with holder := some o, base := b, resv := true, abandBefore := l.aband }

/-- The lock and the firing as a reservation leaves them (R167). -/
def reserved (s : State) (l : Lock) (o : Owner) (b id : Nat) : State :=
  (s.setLock (reservation l o b)).updFiring id (fun x => { x with granted := some (b2n l.aband), wait := .none })

theorem room_reserved {l : Lock} {o : Owner} {b id ns : Nat} {es : List Effect} (h : Room s f ns es) :
    Room (reserved s l o b id) f ns es :=
  room_updFiring (s := s.setLock (reservation l o b)) (fun _ => rfl) h

theorem lockGive_reserved (s : State) (l : Lock) (o : Owner) (b id : Nat) :
    Records (reserved s l o b id) (s.lockGive l o b (id + 1)) := by
  have hlock : ({ l with holder := some o, base := b, resv := decide (id + 1 ≠ 0), abandBefore := l.aband
                         aband := l.aband && decide (id + 1 ≠ 0) } : Lock) = reservation l o b := by simp [reservation]
  unfold State.lockGive
  rw [hlock, if_pos (Nat.succ_ne_zero id)]
  simp only [Nat.add_right_cancel_iff]
  exact ((Records.ofMemStep (.rinc _ _)).trans (.lockCrumb _ _ _ _ _)).updFiring

/-- A firing that takes a lock as a reservation is staged with the lock's status (R167, R282). -/
theorem lockTake_spec {ndA : Bool} (hf : s.firing? n = some f) (hr : Room s f 0 [.lockHold k]) :
    ((s.lockTake f a k ndA).lockAt k).holder = some ⟨f.tile, f.act⟩ ∧ ((s.lockTake f a k ndA).lockAt k).resv = true ∧
    ∃ y, (s.lockTake f a k ndA).firing? n = some y ∧ y.stage = .executed ∧ y.stores = [] ∧ y.effects = [.lockHold k] ∧
      y.outs = f.outTo f.iw.da (f.handL ndA) ++
        f.outTo f.iw.db ⟨BitVec.ofNat 256 (if (s.lockAt k).aband then 1 else 0), f.comp 1 0 true⟩ := by
  obtain rfl := firing?_id hf
  have hgive := lockGive_reserved s (s.lockAt k) (State.lockOwner f) a.base f.id
  unfold State.lockTake
  extract_lets l s1
  have hfound : s1.firing? f.id = some { f with granted := some (b2n l.aband), wait := .none } :=
    (firing?_congr hgive.firings _).trans (firing?_updFiring (fun _ => rfl) hf)
  have hlock : s1.lockAt k = reservation l ⟨f.tile, f.act⟩ a.base := by
    have h := lockAt_setLock_same s (l := reservation l ⟨f.tile, f.act⟩ a.base) rfl
    rw [show (reservation l ⟨f.tile, f.act⟩ a.base).k = k from lockAt_k s k] at h
    exact (lockAt_congr hgive.locks k).trans h
  have hroom : Room s1 { f with granted := some (b2n l.aband), wait := .none } 0 [.lockHold k] :=
    room_congr hgive.storeBuf hgive.eventBuf (congrArg _ hgive.firings) (room_reserved hr)
  have hst : b2n l.aband < 2 := by cases l.aband <;> decide
  rw [hfound]
  dsimp only
  rw [State.lockEnd, if_pos hst, stage_eq_staged hroom]
  refine ⟨congrArg Lock.holder hlock, congrArg Lock.resv hlock, _, firing?_staged hfound, rfl, rfl, rfl, rfl⟩

theorem exec_lock_of_ready {tryIt : Bool} (h : Ready s n (if tryIt then 0x2D1 else 0x2D0) f a row) (hctx : f.ctxBad 0 = false)
    (hg : f.granted = none) (hfree : (s.lockAt (f.iw.lit % 1024)).holder = none)
    (hheld : (s.lockAt (f.iw.lit % 1024)).withheld = false) (hw : (s.lockAt (f.iw.lit % 1024)).waiters = []) :
    Sys2Proof.Machine.exec (if tryIt then .fireLktry n else .fireLkacq n) s =
      .next (s.lockTake f a (f.iw.lit % 1024) tryIt) := by
  cases tryIt
  · refine congrArg _ ((fire_of_ready h _).trans ?_)
    rw [State.lkacqOp, tokOp_of_noCtx hctx]
    simp [hg, hfree, hheld, hw]
  · refine congrArg _ ((fire_of_ready h _).trans ?_)
    rw [State.lktryOp, tokOp_of_noCtx hctx]
    simp [hg, hfree, hheld]

theorem holds_of_holder (hh : (s.lockAt k).holder = some ⟨f.tile, f.act⟩) (hr : (s.lockAt k).resv = false) :
    s.holds f k = true := by
  simp [State.holds, State.lockOwner, hh, hr]

/-- Settles O17: a free lock is taken as a reservation, a lock of another owner is BUSY, and the holder stages its release. -/
theorem lockFiringsComplete : Obligations.LockFiringsComplete := by
  refine ⟨?_, ?_, ?_, ?_⟩
  · intro s n f a row tryIt hready hctx hg hfree hheld hw hr
    exact ⟨_, exec_lock_of_ready hready hctx hg hfree hheld hw, lockTake_spec hready.found hr⟩
  · intro s n f a row o hready hctx hg hheld hne hr
    rw [exec_fireLktry, execFireLktry, fire_of_ready hready, State.lktryOp, tokOp_of_noCtx hctx]
    have hother : ¬ (some o = some (State.lockOwner f) ∧ (s.lockAt (f.iw.lit % 1024)).resv = false) := fun h =>
      hne (Option.some.inj h.1)
    simp only [hg, hheld, if_neg hother, Option.isNone_some, Bool.false_and, Bool.false_eq_true, if_false]
    exact congrArg _ (stage_eq_staged hr)
  · intro s n f a row hready hctx hh hresv hr
    rw [exec_fireLkrel, execFireLkrel, fire_of_ready hready, State.lkrelOp, tokOp_of_noCtx hctx]
    dsimp only
    rw [if_pos (holds_of_holder hh hresv), handWith_eq_staged hr, Bool.or_false]
  · intro s n f a row r hready hin hc hctx hh hresv hr
    have hof : State.ctxOfR f = some (fld r.v 15 0) := by simp [State.ctxOfR, hin, hc]
    rw [exec_fireLkhand, execFireLkhand, fire_of_ready hready, State.lkhandOp, hof]
    dsimp only
    rw [hctx, if_neg Bool.false_ne_true, if_pos (holds_of_holder hh hresv), handWith_eq_staged hr, Bool.or_false]

end Sys2Proof.Safety
end

section
/-! Remote sends, and extension operations with their requests and replies (R175, R178 to R181, R201, R404, R406). -/

namespace Sys2Proof.Safety
open Sys2Proof.Machine

variable {s s1 : State} {n p : Nat} {f : Firing} {a : Act} {row : OpRow} {x : Ins}

/-! ### RSEND -/

section Rsend
variable {w : Nat} (hctx : f.ctxBad 0 = false) (hw : w = s.remoteBinding a.epoch (f.iw.lit % 4096)) (hset : w.testBit 31 = true)
  (hsize : f.size = 4 * 2 ^ natField w 15 14) (hopen : (s.rsBind (natField w 25 16) (natField w 7 0)).refused = false)
include hctx hw hset hsize hopen

theorem rsendOp_of_lost (hlost : s.deviceLost (natField w 25 16) = true) (hr : Room s f 0 [.rsLost (natField w 25 16)]) :
    State.rsendOp s f a row = staged s f (f.outsAB (f.handL false)) [] [.rsLost (natField w 25 16)] 0 f.inhNd := by
  subst hw
  rw [State.rsendOp, tokOp_of_noCtx hctx]
  simp only [hset, ← hsize, hopen, hlost, Bool.not_true, Bool.false_eq_true, ne_eq, not_true_eq_false, or_self, if_false, if_true]
  rw [handWith_eq_staged hr, Bool.or_false]

theorem rsendOp_of_credit (hlost : s.deviceLost (natField w 25 16) = false)
    (hcredit : s.rsPending (natField w 25 16) (natField w 7 0) < (s.rsBind (natField w 25 16) (natField w 7 0)).credits)
    (hr : Room s f 0 [.rsend (natField w 25 16) (natField w 7 0) (w.testBit 30) (f.lv.toNat % 2 ^ (8 * f.size)) f.size]) :
    State.rsendOp s f a row = staged s f (f.outsAB (f.handL false)) []
      [.rsend (natField w 25 16) (natField w 7 0) (w.testBit 30) (f.lv.toNat % 2 ^ (8 * f.size)) f.size] 0 f.inhNd := by
  subst hw
  rw [State.rsendOp, tokOp_of_noCtx hctx]
  simp only [hset, ← hsize, hopen, hlost, hcredit, Bool.not_true, Bool.false_eq_true, ne_eq, not_true_eq_false, or_self, if_false,
    if_true]
  rw [handWith_eq_staged hr, Bool.or_false]

end Rsend

/-! ### Requests of extension operations -/

theorem fireIf_of_ready {sel : Nat → Bool} (h : Ready s n f.iw.opc f a row) (hsel : sel f.iw.opc = true)
    (body : State → Firing → Act → OpRow → State) : s.fireIf n sel body = body s f a row := by
  simp [State.fireIf, h.alive, h.found, h.stage, h.wait, h.serves, h.act, h.legal, h.runs, hsel]

/-- Among `m` identifiers in a row, one is in use by none of fewer than `m` requests. -/
theorem exists_unused_reqid {xs : List XReq} {m : Nat} (d : Nat) (hm : m ≤ 32768) (h : xs.length < m) :
    ∃ q ∈ (List.range m).map (fun k => (d + k) % 32768), (!xs.any (fun x => decide (x.reqid = q))) = true := by
  have hdistinct : ((List.range m).map (fun k => (d + k) % 32768)).Nodup := by
    refine List.nodup_range.map_on fun i hi j hj he => ?_
    have hi := List.mem_range.1 hi
    have hj := List.mem_range.1 hj
    omega
  by_contra hnone
  have hsub : (List.range m).map (fun k => (d + k) % 32768) ⊆ xs.map (·.reqid) := by
    intro q hq
    have hused := fun h => hnone ⟨q, hq, h⟩
    simpa using hused
  have hlen := (List.subperm_of_subset hdistinct hsub).length_le
  rw [List.length_map, List.length_range, List.length_map] at hlen
  omega

/-- While fewer than 1,025 requests are outstanding, the identifier drawn for a new one is that of none. -/
theorem freeReqid_fresh (h : s.xreqs.length < 1025) : ∀ r ∈ s.xreqs, r.reqid ≠ s.freeReqid.1 := by
  obtain ⟨q, hq⟩ := Option.isSome_iff_exists.1 (List.find?_isSome.2 (exists_unused_reqid s.drawNat.1 (by decide) h))
  have hunused := List.find?_some hq
  have hdrawn : s.freeReqid.1 = q := by
    unfold State.freeReqid
    dsimp only
    rw [hq]
    rfl
  rw [hdrawn]
  simpa using hunused

/-- A change of a firing on top of another one. -/
theorem updFiring_updFiring (s : State) (id : Nat) {g h : Firing → Firing} (hg : ∀ y, (g y).id = y.id) :
    (s.updFiring id g).updFiring id h = s.updFiring id (fun y => h (g y)) := by
  refine congrArg (fun fs => { s with firings := fs }) ?_
  rw [State.updFiring, List.map_map]
  refine List.map_congr_left fun y _ => ?_
  rw [Function.comp_apply]
  by_cases hy : y.id = id
  · rw [if_pos hy, if_pos ((hg y).trans hy), if_pos hy]
  · rw [if_neg hy, if_neg hy, if_neg hy]

/-- A link that is UP is one of the device's. -/
theorem linkAt_updLink_of_up {g : Link → Link} (h : (s.linkAt p).state = .up) : (s.updLink p g).linkAt p = g (s.linkAt p) := by
  refine nth_updAt_same _ _ _ _ (Nat.lt_of_not_le fun hlen => ?_)
  rw [State.linkAt, nth, List.getD_eq_default _ _ hlen] at h
  exact LinkState.noConfusion h

/-- The codewords of a request: its header, and two for each input that the operation has (Table 5.15). -/
def requestWords (f : Firing) (row : OpRow) (x : Ins) (q : Nat) : List (BitVec 128) :=
  let two (v : Value) : List (BitVec 128) := [BitVec.ofNat 128 v.toNat, BitVec.ofNat 128 (v.toNat / 2 ^ 128)]
  State.xHeader f row.ins q :: ((if row.ins % 2 = 1 then two x.l else []) ++
    (if row.ins / 2 % 2 = 1 then two x.r else []) ++ (if row.ins / 4 % 2 = 1 then two x.c else []))

/-- Request `q` of a firing opened and sent over port X (R178, R179). -/
def requested (s : State) (f : Firing) (row : OpRow) (x : Ins) (q : Nat) : State :=
  { s.drawNat.2 with xreqs := s.xreqs ++
    [({ reqid := q, firing := f.id, since := s.clock, aband := false, l := x.l, r := x.r, c := x.c } : XReq)] }.updLink 6
      (fun l => l.push s.clock 0 (requestWords f row x q))

/-- A firing that may send its request opens it, sends it, and waits for the reply. -/
theorem extOp_eq_requested (hin : Inputs s f a row 0 x s1) (hup : (s1.linkAt 6).state = .up) (hnone : s1.xOf f = none)
    (hlen : s1.xreqs.length < 1024) : State.extOp s f a row =
      ((requested s1 f row x s1.freeReqid.1).updFiring f.id (fun y => { y with nd := x.nd })).waitFor f .xreply := by
  rw [State.extOp, withIns_of_inputs hin]
  simp only [hup, hnone, Nat.not_le.2 hlen, ne_eq, not_true_eq_false, Option.isSome_none, Bool.false_eq_true, if_false]
  rfl

theorem waitFor_firings (s : State) (f : Firing) (w : Wait) :
    (s.waitFor f w).firings = s.firings.map (fun y => if y.id = f.id then { y with wait := w } else y) := by
  unfold State.waitFor
  dsimp only
  split <;> rfl

theorem requested_linkAt (row : OpRow) (x : Ins) (q : Nat) (hup : (s.linkAt 6).state = .up) :
    (requested s f row x q).linkAt 6 = (s.linkAt 6).push s.clock 0 (requestWords f row x q) :=
  linkAt_updLink_of_up (s := { s.drawNat.2 with xreqs := _ }) hup

theorem fireExtOp_opens (hready : Ready s n f.iw.opc f a row) (hext : 0x3C0 ≤ f.iw.opc) (hin : Inputs s f a row 0 x s1)
    (hup : (s1.linkAt 6).state = .up) (hnone : s1.xOf f = none) (hlen : s1.xreqs.length < 1024) :
    Completes (.fireExtOp n) s (fun t => ∃ q, (∀ r ∈ s1.xreqs, r.reqid ≠ q) ∧
      t.xreqs = s1.xreqs ++ [({ reqid := q, firing := f.id, since := s1.clock, aband := false, l := x.l, r := x.r, c := x.c } : XReq)] ∧
      t.firings = s1.firings.map (fun y => if y.id = f.id then { y with nd := x.nd, wait := .xreply } else y) ∧
      (∃ body, t.linkAt 6 = (s1.linkAt 6).push s1.clock 0 (State.xHeader f row.ins q :: body)) ∧
      t.storeBuf = s1.storeBuf ∧ t.net = s1.net) := by
  have hexec : Sys2Proof.Machine.exec (.fireExtOp n) s =
      .next (((requested s1 f row x s1.freeReqid.1).updFiring f.id (fun y => { y with nd := x.nd })).waitFor f .xreply) := by
    rw [exec_fireExtOp, execFireExtOp, fireIf_of_ready hready (decide_eq_true hext), extOp_eq_requested hin hup hnone hlen]
  refine ⟨_, hexec, s1.freeReqid.1, freeReqid_fresh (by omega), rfl, ?_, ⟨_, requested_linkAt row x _ hup⟩, rfl, rfl⟩
  rw [waitFor_firings]
  exact congrArg State.firings (updFiring_updFiring (requested s1 f row x s1.freeReqid.1) f.id
    (g := fun y => { y with nd := x.nd }) (h := fun y => { y with wait := .xreply }) (fun _ => rfl))

/-! ### Replies and timeouts -/

/-- The outstanding requests without one that has ended. -/
def withoutRequest (s : State) (x : XReq) : State := { s with xreqs := s.xreqs.filter (fun y => decide (y ≠ x)) }

theorem withoutRequest_eq (s : State) (x : XReq) :
    { s with xreqs := s.xreqs.filter (fun y => decide (y ≠ x)) } = withoutRequest s x := rfl

theorem firing?_withoutRequest (s : State) (x : XReq) (n : Nat) : (withoutRequest s x).firing? n = s.firing? n := rfl

theorem act?_withoutRequest (s : State) (x : XReq) (n : Nat) : (withoutRequest s x).act? n = s.act? n := rfl

theorem room_withoutRequest {ns : Nat} {es : List Effect} (x : XReq) (h : Room s f ns es) : Room (withoutRequest s x) f ns es := h

/-- The output of a RESULT reply that begins at codeword `k` of its body (R180). -/
def replyOut (f : Firing) (h : BitVec 128) (body : List (BitVec 128)) (k : Nat) : TVal :=
  ⟨tyMask (fld h 107 104) (BitVec.ofNat 256 ((nth body k 0).toNat + (nth body (k + 1) 0).toNat * 2 ^ 128)),
    f.comp (fld h 107 104) (BitVec.ofNat 7 (fld h 103 97)) f.nd⟩

/-- The tokens of a RESULT reply (R180). -/
def replyOuts (f : Firing) (h : BitVec 128) (body : List (BitVec 128)) : List OutTok :=
  if isMemForm f.iw.mode then (if bit h 109 then f.outsAB (replyOut f h body 0) else [])
  else (if bit h 109 then f.outTo f.iw.da (replyOut f h body 0) else []) ++
    (if bit h 108 then f.outTo f.iw.db (replyOut f h body (if bit h 109 then 2 else 0)) else [])

section Reply
variable {h : BitVec 128} {body : List (BitVec 128)} {x : XReq}
  (hx : s.xreqs.find? (fun y => decide (y.reqid = fld h 127 113)) = some x) (hlive : x.aband = false)
  (hty : fld h 107 104 ≤ 0xD) (hlen : body.length = 2 * (b2n (bit h 109) + b2n (bit h 108)))
  (hf : s.firing? x.firing = some f) (hact : s.act? f.act = some a) (hlegal : legalRow f.iw (s.arityOf f.epoch f.word) = some row)
include hx hlive hty hlen hf hact hlegal

theorem extReply_of_fault (hkind : fld h 112 110 = 1) :
    s.extReply (h :: body) = (withoutRequest s x).xerr f a (fld h 63 0) x.reqid f.nd := by
  simp only [State.extReply, hx, hkind, hty, ← hlen, withoutRequest_eq, firing?_withoutRequest, hf, hlive, act?_withoutRequest, hact,
    hlegal, Nat.le_refl, and_self, decide_true, Bool.not_true, Bool.false_eq_true, if_false, if_true]

theorem extReply_of_result (hkind : fld h 112 110 = 0)
    (ht : enabledCauses a.mode false (BitVec.ofNat 7 (fld h 103 97)) = []) : s.extReply (h :: body) =
      (withoutRequest s x).stage f (replyOuts f h body) [] [] (BitVec.ofNat 7 (fld h 103 97)) f.nd := by
  simp only [State.extReply, hx, hkind, hty, ← hlen, withoutRequest_eq, firing?_withoutRequest, hf, hlive, act?_withoutRequest, hact,
    hlegal, ht, Nat.zero_le, and_self, decide_true, Bool.not_true, Bool.false_eq_true, if_false]
  rfl

end Reply

theorem xerr_eq_staged {ecode reqid : Nat} {nd : Bool} (hr : Room s f 0 [.noHandler]) :
    s.xerr f a ecode reqid nd = if bit a.mode 2 && !f.excIn
      then staged s f [excToken f.tag f.word a.handler f.inhFlags (f.inhNd || nd) ⟨0x14, 0, 0, ecode, reqid % 32768, 0⟩] [] [] 0 false
      else staged s f [] [] [.noHandler] 0 false :=
  stageTrap_eq_staged hr

/-- A reply that no request awaits. -/
theorem extReply_unawaited (h : BitVec 128) (ws : List (BitVec 128)) (hnone : ∀ y ∈ s.xreqs, y.reqid ≠ fld h 127 113) :
    s.extReply (h :: ws) = s.replyDiscarded := by
  have hfind : s.xreqs.find? (fun y => decide (y.reqid = fld h 127 113)) = none :=
    List.find?_eq_none.2 fun y hy => by simpa using hnone y hy
  simp only [State.extReply, hfind]

section Timeout
variable {x : XReq}

theorem xExpire_of_due (hx : s.xreqs[n]? = some x)
    (hdue : x.since + clampNat 10 1000000 (s.rfld Reg.FAB_XTMO 19 0) * 1000 ≤ s.clock) : s.xExpire n = s.xAbandon x := by
  simp only [State.xExpire, hx, hdue, if_true]

theorem xAbandon_of_gone (hgone : x.aband = true) : s.xAbandon x = withoutRequest s x := by
  simp only [State.xAbandon, hgone, if_true]
  rfl

theorem xAbandon_of_live (hlive : x.aband = false) (hf : s.firing? x.firing = some f) (hact : s.act? f.act = some a) :
    s.xAbandon x = (withoutRequest s x).xerr f a (2 ^ 64 - 1) x.reqid f.nd := by
  simp only [State.xAbandon, hlive, withoutRequest_eq, firing?_withoutRequest, hf, act?_withoutRequest, hact, Bool.false_eq_true,
    if_false]
  rfl

/-- What the end of a request by a timeout leaves of the firing that waited for it (R181, R200, R201). -/
theorem xerr_spec {ecode reqid : Nat} {nd : Bool} (hf : s.firing? f.id = some f) (hr : Room s f 0 [.noHandler]) :
    (s.xerr f a ecode reqid nd).xreqs = s.xreqs ∧
    ∃ y, (s.xerr f a ecode reqid nd).firing? f.id = some y ∧ y.stage = .executed ∧ y.stores = [] ∧
      (if bit a.mode 2 && !f.excIn
        then y.outs = [excToken f.tag f.word a.handler f.inhFlags (f.inhNd || nd) ⟨0x14, 0, 0, ecode, reqid % 32768, 0⟩] ∧ y.effects = []
        else y.outs = [] ∧ y.effects = [.noHandler]) := by
  rw [xerr_eq_staged hr]
  cases bit a.mode 2 && !f.excIn
  · exact ⟨rfl, _, firing?_staged hf, rfl, rfl, rfl, rfl⟩
  · exact ⟨rfl, _, firing?_staged hf, rfl, rfl, rfl, rfl⟩

end Timeout

end Sys2Proof.Safety
end

section
/-! Votes: how a waiting VOTE forms its outcome, and how it is sent to the other members (R172 to R174, R416 to R418). -/

namespace Sys2Proof.Safety
open Sys2Proof.Machine

variable {s t : State} {n me late : Nat} {f : Firing} {a : Act} {row : OpRow} {r : VoteRec}

/-! ### The outcome of a vote -/

/-- The group of a VOTE firing (R172, R416). -/
def voteGroup (s : State) (f : Firing) : Group := bankGroup (s.bankOf f.epoch) f.vkey.group

/-- No message of the member is kept for the firing's vote. -/
def voteSilent (s : State) (f : Firing) (m : Nat) : Bool := !(s.votesOf f.vkey).any (fun x => decide (x.member = m))

/-- A silent member that the vote excludes (R418 rule 2). -/
def voteGone (s : State) (f : Firing) (late m : Nat) : Bool :=
  voteSilent s f m && (s.unreachable (nth (voteGroup s f).mems m 0) || late.testBit m)

/-- The members beside the local one. -/
def voteOthers (s : State) (f : Firing) (me : Nat) : List Nat := (voteGroup s f).members.filter (fun m => decide (m ≠ me))

/-- The tokens that a VOTE sends for an outcome (R173). -/
def voteOuts (f : Firing) (o : Outcome) : List OutTok :=
  f.outTo f.iw.da ⟨o.value.v, mkStatus (stType o.value.st) false false (o.nd || f.inhNd) (f.inhFlags ||| stFlags o.value.st)⟩ ++
    f.outTo f.iw.db ⟨BitVec.ofNat 256 o.status, mkStatus 1 false false (o.nd || f.inhNd) f.inhFlags⟩

/-- What the commit buffers and the firings of a state hold. -/
def firingParts (s : State) : List Firing × List SbEntry × List EbEntry := (s.firings, s.storeBuf, s.eventBuf)

theorem firingParts_eventIf (c : Bool) (src loc code arg : Nat) (tag : Tag) (w : Option Nat) :
    firingParts (if c then s.eventTag src loc code arg tag w else s) = firingParts s := by
  cases c
  · rfl
  · simp [firingParts, State.eventTag]

theorem room_of_parts {ns : Nat} {es : List Effect} (h : firingParts t = firingParts s) (hr : Room s f ns es) : Room t f ns es := by
  simp only [firingParts, Prod.mk.injEq] at h
  exact room_congr h.2.1 h.2.2 (congrArg _ h.1) hr

/-- A waiting VOTE whose other members have answered or are excluded stages its outcome. -/
theorem voteTry_of_answered {o : Outcome} (hrec : s.voteRec? f.vkey = some r) (hpart : r.part = none)
    (hlocal : (voteGroup s f).local s.localId = some me)
    (hall : ∀ m ∈ voteOthers s f me, voteSilent s f m = true → voteGone s f late m = true)
    (ho : s.outcomeOf f (voteGroup s f) me { r with excl := maskOf ((voteOthers s f me).filter (voteGone s f late)) } = o)
    (hr : Room s f 0 []) :
    ∃ u, firingParts u = firingParts s ∧
      s.voteTry f late = staged u f (voteOuts f o) [] [.vote f.vkey.group (decide (o.code = 2))] 0 false := by
  have hanswered : (voteOthers s f me).all (fun m => !voteSilent s f m || voteGone s f late m) = true := by
    refine List.all_eq_true.2 fun m hm => ?_
    cases hs : voteSilent s f m
    · rfl
    · exact hall m hm hs
  unfold State.voteTry
  extract_lets k g ms silent gone reg
  rw [show s.voteRec? k = some r from hrec, show g.local s.localId = some me from hlocal]
  dsimp -zeta only
  extract_lets others excl r1 o' s1 vtmo s2 s3 s4 nd res st
  have hexcl : excl = maskOf ((voteOthers s f me).filter (voteGone s f late)) := if_neg (by simp [hpart])
  have ho' : o' = o := by
    rw [← ho, ← hexcl]
    rfl
  have h2 : firingParts s2 = firingParts s := by
    unfold s2
    split
    · rfl
    · rfl
  have h4 : firingParts s4 = firingParts s :=
    (firingParts_eventIf _ _ _ _ _ _ _).trans ((firingParts_eventIf _ _ _ _ _ _ _).trans h2)
  rw [← ho']
  exact ⟨s4, h4, (if_pos (Bool.or_eq_true_iff.2 (.inr hanswered))).trans
    (stage_eq_staged (room_of_outside rfl (room_of_parts h4 hr)))⟩

/-- A waiting VOTE waits on while a member that can be reached is silent. -/
theorem voteTry_of_silent {o : Nat} (hrec : s.voteRec? f.vkey = some r) (hpart : r.part = none)
    (hlocal : (voteGroup s f).local s.localId = some me) (ho : o ∈ voteOthers s f me)
    (hsilent : voteSilent s f o = true) (hreach : s.unreachable (nth (voteGroup s f).mems o 0) = false) :
    s.voteTry f 0 = s := by
  have hstays : voteGone s f 0 o = false := by simp [voteGone, hreach]
  have hwaits : ¬ (r.part.isSome || (voteOthers s f me).all (fun m => !voteSilent s f m || voteGone s f 0 m)) = true := by
    intro h
    have h := List.all_eq_true.1 ((Bool.or_eq_true_iff.1 h).resolve_left (by simp [hpart])) o ho
    simp [hsilent, hstays] at h
  unfold State.voteTry
  extract_lets k g
  rw [show s.voteRec? k = some r from hrec, show g.local s.localId = some me from hlocal]
  exact if_neg hwaits

/-! ### A vote that begins -/

/-- The local member's message (R172). -/
def ownVote (s : State) (f : Firing) (me : Nat) : VoteMsg :=
  { group := f.vkey.group, wafer := f.wafer, iaddr := f.iaddr, iter := tagIter f.tag, key := f.vkey.key, member := me,
    abstain := s.abstains f.slot, tv := f.ltok, digest := groupDigest (s.bankOf f.epoch) f.vkey.group }

/-- The record of a vote that begins. -/
def ownRecord (s : State) (f : Firing) : VoteRec :=
  ⟨f.vkey.group, f.wafer, f.iaddr, tagIter f.tag, f.vkey.key, f.id, s.clock, none, 0⟩

/-- The vote opened: its record, and the local member's message (R172, R174). -/
def voteOpened (s : State) (f : Firing) (me : Nat) : State :=
  { s with votes := s.votes ++ [ownVote s f me], voteRecs := s.voteRecs ++ [ownRecord s f] }

/-- The message sent to the other members that can be reached. -/
def voteSent (s : State) (f : Firing) (me : Nat) : State :=
  (voteOthers s f me).foldl (fun (u : State) o =>
    if u.unreachable (nth (voteGroup s f).mems o 0) then u
    else u.sendMsg (nth (voteGroup s f).mems o 0) 0x18 (if (voteGroup s f).guar then 0 else 2) (f.vkey.group * 4096 + me * 1024)
      f.wafer (State.voteBody (ownVote s f me) (s.slotAt f.slot).wide (s.slotAt f.slot).suspect)) (voteOpened s f me)

section Begins
variable (hctx : f.ctxBad 0 = false) (hlocal : (voteGroup s f).local s.localId = some me) (hrec : s.voteRec? f.vkey = none)
  (hnone : s.votesOf f.vkey = [])
include hctx hlocal hrec hnone

theorem voteOp_of_new : State.voteOp s f a row = ((voteSent s f me).waitFor f .vote).voteTry f 0 := by
  have hkeep : s.keepVote (ownVote s f me) = { s with votes := s.votes ++ [ownVote s f me] } :=
    if_neg (by rw [show s.votesOf (ownVote s f me).vkey = [] from hnone]; exact Bool.false_ne_true)
  have hrec' : ({ s with votes := s.votes ++ [ownVote s f me] } : State).voteRec? f.vkey = none := hrec
  rw [State.voteOp, tokOp_of_noCtx hctx]
  extract_lets k b g isOpen x
  rw [show g.local s.localId = some me from hlocal]
  dsimp -zeta only
  extract_lets m s1 s2 s3
  have h2 : s2 = voteOpened s f me := by
    unfold s2 s1
    rw [show s.keepVote m = _ from hkeep, hrec']
    rfl
  have h3 : s3 = voteSent s f me := by
    unfold s3
    rw [h2]
    rfl
  rw [show s.voteRec? k = none from hrec, h3]
  exact if_neg Bool.false_ne_true

end Begins

theorem voteRec?_opened (hrec : s.voteRec? f.vkey = none) : (voteOpened s f me).voteRec? f.vkey = some (ownRecord s f) := by
  rw [State.voteRec?] at hrec ⊢
  rw [voteOpened, List.find?_append, hrec]
  simp [ownRecord, VoteRec.vkey, Firing.vkey]

theorem votesOf_opened (hnone : s.votesOf f.vkey = []) : (voteOpened s f me).votesOf f.vkey = [ownVote s f me] := by
  rw [State.votesOf] at hnone ⊢
  rw [voteOpened, List.filter_append, hnone]
  simp [ownVote, VoteMsg.vkey, Firing.vkey]

/-! ### A group of one member -/

/-- The outcome of a vote that the local member alone takes part in, or that nobody does (R173). -/
theorem voteOutcome_alone (g : Machine.Group) (m : VoteMsg) (hm : m.member < 3) :
    (voteOutcome g m.member m.tv [m] none).value = m.tv ∧
    (voteOutcome g m.member m.tv [m] none).code = (if m.abstain then 6 else 5) := by
  unfold voteOutcome
  extract_lets d degraded takes ps same part pair first pick
  have htakes : takes m = !m.abstain := by simp [takes, d, agreedDigest]
  have hps : ps = if m.abstain then [] else [m] := by
    have hcases : m.member = 0 ∨ m.member = 1 ∨ m.member = 2 := by omega
    unfold ps
    simp only [List.find?_singleton, htakes]
    cases m.abstain
    · obtain h | h | h := hcases <;> rw [h] <;> rfl
    · simp
  have hpair : pair = none := by
    have hfew : ∀ v : TVal, (same v).length ≤ ps.length := fun v => by
      simpa [same] using List.length_filter_le _ ps
    have hlen : ps.length ≤ 1 := by
      rw [hps]
      split <;> simp
    refine List.find?_eq_none.2 fun p _ hp => ?_
    have hp := of_decide_eq_true hp
    have := hfew p.tv
    omega
  have hpick : pick = if m.abstain then (6, m.tv) else (5, m.tv) := by
    unfold pick first
    rw [hpair, hps]
    cases m.abstain <;> rfl
  rw [hpick]
  cases m.abstain <;> exact ⟨rfl, rfl⟩

theorem stType_mkStatus (ty : Nat) (exc ctx nd : Bool) (fl : Flags7) : stType (mkStatus ty exc ctx nd fl) = ty % 16 := by
  have hfl := fl.isLt
  have hb : ∀ b : Bool, b2n b ≤ 1 := fun b => by cases b <;> decide
  have hexc := hb exc
  have hctx := hb ctx
  have hnd := hb nd
  rw [stType, fld, natField_eq_div_mod, mkStatus, BitVec.toNat_ofNat]
  omega

/-- The code of an outcome in the low bits of its status word (Table 5.13). -/
theorem fld_status {o : Outcome} (h : o.code < 16) : fld (BitVec.ofNat 256 o.status) 3 0 = o.code := by
  rw [fld, natField_eq_div_mod, BitVec.toNat_ofNat, Outcome.status]
  omega

theorem ltok_v (f : Firing) : f.ltok.v = f.lv := by
  unfold Firing.ltok Firing.lv
  cases f.inL <;> rfl

theorem outcomeOf_alone {u : State} {g : Machine.Group} (hvotes : u.votesOf f.vkey = [ownVote s f me])
    (hmem : g.members = [me]) :
    u.outcomeOf f g me { ownRecord s f with excl := 0 } = voteOutcome g me f.ltok [ownVote s f me] none := by
  unfold State.outcomeOf
  rw [show u.votesOf ({ ownRecord s f with excl := 0 } : VoteRec).vkey = [ownVote s f me] from hvotes, hmem]
  simp [ownVote, ownRecord]

theorem member_lt_three {g : Machine.Group} {m : Nat} (h : m ∈ g.members) : m < 3 := List.mem_range.1 (List.mem_filter.1 h).1

/-- The vote of a group's only member ends at once. -/
theorem voteOp_alone (hctx : f.ctxBad 0 = false) (hlocal : (voteGroup s f).local s.localId = some me)
    (hmem : (voteGroup s f).members = [me]) (hrec : s.voteRec? f.vkey = none) (hnone : s.votesOf f.vkey = [])
    (hf : s.firing? f.id = some f) (hr : Room s f 0 []) :
    ∃ y, (State.voteOp s f a row).firing? f.id = some y ∧ y.stage = .executed ∧ y.stores = [] ∧
      ∃ r st : TVal, y.outs = f.outTo f.iw.da r ++ f.outTo f.iw.db st ∧ r.v = f.lv ∧ stType st.st = 1 ∧
        fld st.v 3 0 = (if s.abstains f.slot then 6 else 5) := by
  have hothers : voteOthers s f me = [] := by simp [voteOthers, hmem]
  have hsent : voteSent s f me = voteOpened s f me := by
    unfold voteSent
    rw [hothers]
    rfl
  have hme : (ownVote s f me).member < 3 := member_lt_three (by rw [hmem]; exact List.mem_singleton_self me)
  have hwait : ((voteOpened s f me).waitFor f .vote).firing? f.id = some { f with wait := .vote } :=
    firing?_updFiring (g := fun x => { x with wait := .vote }) (fun _ => rfl) hf
  have hoff : (voteOthers s f me).filter (voteGone ((voteOpened s f me).waitFor f .vote) f 0) = [] := by
    rw [hothers]
    rfl
  have hout : ((voteOpened s f me).waitFor f .vote).outcomeOf f (voteGroup s f) me { ownRecord s f with
      excl := maskOf ((voteOthers s f me).filter (voteGone ((voteOpened s f me).waitFor f .vote) f 0)) } =
        voteOutcome (voteGroup s f) me f.ltok [ownVote s f me] none := by
    rw [hoff]
    exact outcomeOf_alone (votesOf_opened hnone) hmem
  obtain ⟨hvalue, hcode⟩ : (voteOutcome (voteGroup s f) me f.ltok [ownVote s f me] none).value = f.ltok ∧
      (voteOutcome (voteGroup s f) me f.ltok [ownVote s f me] none).code = (if s.abstains f.slot then 6 else 5) :=
    voteOutcome_alone (voteGroup s f) (ownVote s f me) hme
  have hsmall : (voteOutcome (voteGroup s f) me f.ltok [ownVote s f me] none).code < 16 := by
    rw [hcode]
    split <;> omega
  obtain ⟨u, hparts, htry⟩ := voteTry_of_answered (s := (voteOpened s f me).waitFor f .vote) (late := 0)
    (voteRec?_opened (me := me) hrec) rfl hlocal (fun m hm => absurd ((hothers ▸ hm : m ∈ ([] : List Nat))) List.not_mem_nil) hout
    (room_updFiring (s := voteOpened s f me) (g := fun x => { x with wait := .vote }) (fun _ => rfl) hr)
  have hfound := (firing?_congr (congrArg Prod.fst hparts) f.id).trans hwait
  rw [voteOp_of_new hctx hlocal hrec hnone, hsent, htry]
  exact ⟨_, firing?_staged hfound, rfl, rfl, _, _, rfl, (congrArg TVal.v hvalue).trans (ltok_v f), stType_mkStatus _ _ _ _ _,
    (fld_status hsmall).trans hcode⟩

/-! ### A vote that waits for another member -/

theorem pump_state (now n : Nat) (l : Link) : (Link.pump now n l).state = l.state := by
  induction n generalizing l with
  | zero => rfl
  | succ n ih =>
    unfold Link.pump
    split
    · rfl
    · split
      · rfl
      · exact ih _

theorem push_state (l : Link) (now vc : Nat) (ws : List (BitVec 128)) : (l.push now vc ws).state = l.state := pump_state _ _ _

/-- Words put on a link leave the state of every link. -/
theorem linkAt_state_updLink {g : Link → Link} (hg : ∀ l, (g l).state = l.state) (s : State) (p q : Nat) :
    ((s.updLink p g).linkAt q).state = (s.linkAt q).state := by
  have hstate : ∀ ls : List Link, (nth ls q Reset.link).state = nth (ls.map (·.state)) q Reset.link.state := fun ls => by
    simp [nth]
  have hmap := map_updAt_of_eq (g := fun l : Link => l.state) hg s.fab.links p
  exact (hstate _).trans ((congrArg (nth · q Reset.link.state) hmap).trans (hstate _).symm)

/-- The state with other links, messages and counts of the fabric. -/
def withFab (s : State) (fab : Fabric) : State := { s with fab := fab }

/-- Whether a device can be reached depends on the lost devices, the registers and the states of the links alone. -/
theorem unreachable_congr (hlost : t.fab.lost = s.fab.lost) (hcsr : t.csr = s.csr)
    (hlink : ∀ p, (t.linkAt p).state = (s.linkAt p).state) (d : Nat) : t.unreachable d = s.unreachable d := by
  simp only [State.unreachable, State.deviceLost, State.onlyRestricted, hlost, State.rget_congr hcsr, hlink]

theorem localId_congr (hcsr : t.csr = s.csr) : t.localId = s.localId := congrArg (fld · 9 0) (State.rget_congr hcsr _)

/-- A vote's group is read in the bank of its epoch (R497). -/
theorem voteGroup_congr (hcsr : t.csr = s.csr) (hcfg : t.cfg = s.cfg) : voteGroup t f = voteGroup s f := by
  have hepoch : t.epochNow = s.epochNow := congrArg (fld · 31 0) (State.rget_congr hcsr _)
  unfold voteGroup State.bankOf
  rw [hepoch, hcfg]

/-- A message for which the retention buffer has room is retained under its number; it may leave over a link at once (R398). -/
theorem sendMsg_retained {dst kind vc aux arg : Nat} {body : List (BitVec 128)} (hwait : s.fab.waiting = [])
    (hroom : s.retainUsed + 1 + body.length ≤ 16384) : ∃ fab r,
      s.sendMsg dst kind vc aux arg body = withFab s fab ∧ fab.retained = s.fab.retained ++ [r] ∧
      (r.msg.dst = dst ∧ r.msg.kind = kind ∧ r.msg.arg = arg ∧ r.msg.body = body) ∧ fab.lost = s.fab.lost ∧
      ∀ p, (nth fab.links p Reset.link).state = (s.linkAt p).state := by
  unfold State.sendMsg
  extract_lets m _ k n m' s1 _
  rw [if_neg (by simp [hwait, hroom])]
  cases hfwd : s1.forward m' with
  | none => exact ⟨_, _, rfl, rfl, ⟨rfl, rfl, rfl, rfl⟩, rfl, fun _ => rfl⟩
  | some s2 =>
    obtain ⟨p, -, rfl⟩ := Option.map_eq_some_iff.1 hfwd
    exact ⟨_, _, rfl, rfl, ⟨rfl, rfl, rfl, rfl⟩, rfl, fun q => linkAt_state_updLink (fun l => push_state l _ _ _) s1 p q⟩

/-- The state in which a vote waits that has been opened and sent; sending changes the fabric alone. -/
def voteAsked (s : State) (f : Firing) (me : Nat) (fab : Fabric) : State := (withFab (voteOpened s f me) fab).waitFor f .vote

theorem voteRecs_asked (fab : Fabric) : (voteAsked s f me fab).voteRecs = (voteOpened s f me).voteRecs := rfl

theorem votes_asked (fab : Fabric) : (voteAsked s f me fab).votes = (voteOpened s f me).votes := rfl

theorem fab_asked (fab : Fabric) : (voteAsked s f me fab).fab = fab := rfl

theorem csr_waitFor (s : State) (f : Firing) (w : Wait) : (s.waitFor f w).csr = s.csr := by
  unfold State.waitFor
  dsimp only
  split <;> rfl

theorem cfg_waitFor (s : State) (f : Firing) (w : Wait) : (s.waitFor f w).cfg = s.cfg := by
  unfold State.waitFor
  dsimp only
  split <;> rfl

theorem csr_asked (fab : Fabric) : (voteAsked s f me fab).csr = s.csr := csr_waitFor (withFab (voteOpened s f me) fab) f .vote

theorem cfg_asked (fab : Fabric) : (voteAsked s f me fab).cfg = s.cfg := cfg_waitFor (withFab (voteOpened s f me) fab) f .vote

theorem voteRec?_asked (fab : Fabric) (hrec : s.voteRec? f.vkey = none) :
    (voteAsked s f me fab).voteRec? f.vkey = some (ownRecord s f) := by
  rw [State.voteRec?, voteRecs_asked]
  exact voteRec?_opened hrec

theorem votesOf_asked (fab : Fabric) (hnone : s.votesOf f.vkey = []) :
    (voteAsked s f me fab).votesOf f.vkey = [ownVote s f me] := by
  rw [State.votesOf, votes_asked]
  exact votesOf_opened hnone

theorem unreachable_asked {fab : Fabric} (hlost : fab.lost = s.fab.lost)
    (hlink : ∀ p, (nth fab.links p Reset.link).state = (s.linkAt p).state) (d : Nat) :
    (voteAsked s f me fab).unreachable d = s.unreachable d :=
  unreachable_congr (by rw [fab_asked, hlost]) (csr_asked fab) (fun p => by rw [State.linkAt, fab_asked]; exact hlink p) d

theorem voteGroup_asked (fab : Fabric) : voteGroup (voteAsked s f me fab) f = voteGroup s f :=
  voteGroup_congr (csr_asked fab) (cfg_asked fab)

theorem localId_asked (fab : Fabric) : (voteAsked s f me fab).localId = s.localId := localId_congr (csr_asked fab)

theorem voteOthers_asked (fab : Fabric) : voteOthers (voteAsked s f me fab) f me = voteOthers s f me := by
  rw [voteOthers, voteGroup_asked, voteOthers]

/-- A vote that has been sent to a member waits for its message. -/
theorem voteTry_asked {o : Nat} {fab : Fabric} (hlocal : (voteGroup s f).local s.localId = some me)
    (ho : o ∈ voteOthers s f me) (hreach : s.unreachable (nth (voteGroup s f).mems o 0) = false)
    (hrec : s.voteRec? f.vkey = none) (hnone : s.votesOf f.vkey = []) (hlost : fab.lost = s.fab.lost)
    (hlink : ∀ p, (nth fab.links p Reset.link).state = (s.linkAt p).state) :
    (voteAsked s f me fab).voteTry f 0 = voteAsked s f me fab := by
  have hne : ¬ me = o := fun h => of_decide_eq_true (List.mem_filter.1 ho).2 h.symm
  have hsilent : voteSilent (voteAsked s f me fab) f o = true := by
    rw [voteSilent, votesOf_asked fab hnone]
    simp [ownVote, hne]
  refine voteTry_of_silent (me := me) (voteRec?_asked fab hrec) rfl ?_ ?_ hsilent ?_
  · rw [voteGroup_asked, localId_asked, hlocal]
  · rw [voteOthers_asked]
    exact ho
  · rw [voteGroup_asked, unreachable_asked hlost hlink, hreach]

/-- A vote whose other member can be reached and has not answered is sent to it, and waits. -/
theorem voteOp_pair {o : Nat} (hctx : f.ctxBad 0 = false) (hlocal : (voteGroup s f).local s.localId = some me)
    (hothers : voteOthers s f me = [o]) (hreach : s.unreachable (nth (voteGroup s f).mems o 0) = false)
    (hrec : s.voteRec? f.vkey = none) (hnone : s.votesOf f.vkey = []) (hwait : s.fab.waiting = [])
    (hroom : s.retainUsed + 5 ≤ 16384) : ∃ (fab : Fabric) (r : Retained),
      State.voteOp s f a row = voteAsked s f me fab ∧
      fab.retained = s.fab.retained ++ [r] ∧ r.msg.dst = nth (voteGroup s f).mems o 0 ∧ r.msg.kind = 0x18 ∧ r.msg.arg = f.wafer ∧
      r.msg.body = State.voteBody (ownVote s f me) (s.slotAt f.slot).wide (s.slotAt f.slot).suspect := by
  obtain ⟨fab, r, hmsg, hret, hr, hlost, hlinks⟩ := sendMsg_retained (s := voteOpened s f me)
    (dst := nth (voteGroup s f).mems o 0) (kind := 0x18) (vc := if (voteGroup s f).guar then 0 else 2)
    (aux := f.vkey.group * 4096 + me * 1024) (arg := f.wafer)
    (body := State.voteBody (ownVote s f me) (s.slotAt f.slot).wide (s.slotAt f.slot).suspect) hwait hroom
  have hsent : voteSent s f me = withFab (voteOpened s f me) fab := by
    rw [voteSent, hothers, ← hmsg]
    exact if_neg (by rw [show (voteOpened s f me).unreachable _ = _ from hreach]; exact Bool.false_ne_true)
  refine ⟨fab, r, ?_, hret, hr⟩
  rw [voteOp_of_new hctx hlocal hrec hnone, hsent]
  exact voteTry_asked hlocal (by rw [hothers]; exact List.mem_singleton_self o) hreach hrec hnone hlost hlinks

/-! ### The vote timeout -/

/-- The members that the timeout excludes: those that have not answered (R418 rule 2). -/
theorem voteGone_timeout (s : State) (f : Firing) (me : Nat) : (voteOthers s f me).filter (voteGone s f 7) =
    (voteGroup s f).members.filter (fun m => decide (m ≠ me) && voteSilent s f m) := by
  rw [voteOthers, List.filter_filter]
  refine List.filter_congr fun m hm => ?_
  have hbit : (7 : Nat).testBit m = true := by
    have h3 := member_lt_three hm
    interval_cases m <;> rfl
  simp [voteGone, hbit, Bool.and_comm]

theorem voteExpire_of_due {r : VoteRec} (hf : s.firing? n = some f) (hwait : f.wait = .vote) (hrec : s.voteRec? f.vkey = some r)
    (hdue : r.since + clampNat 10 100000 (s.rfld Reg.FAB_VOTE_TMO 19 0) * 1000 ≤ s.clock) : s.voteExpire n = s.voteTry f 7 := by
  simp only [State.voteExpire, hf, hrec, hwait, hdue, and_self, if_true]

/-- A vote timeout that has run out stages the outcome without the silent members. -/
theorem voteTry_timeout {r : VoteRec} (hrec : s.voteRec? f.vkey = some r) (hpart : r.part = none)
    (hlocal : (voteGroup s f).local s.localId = some me) (hr : Room s f 0 []) :
    ∃ u, firingParts u = firingParts s ∧ s.voteTry f 7 = staged u f
      (voteOuts f (s.outcomeOf f (voteGroup s f) me { r with
        excl := maskOf ((voteGroup s f).members.filter (fun m => decide (m ≠ me) && voteSilent s f m)) })) []
      [.vote f.vkey.group (decide ((s.outcomeOf f (voteGroup s f) me { r with
        excl := maskOf ((voteGroup s f).members.filter (fun m => decide (m ≠ me) && voteSilent s f m)) }).code = 2))] 0 false := by
  refine voteTry_of_answered hrec hpart hlocal (fun m hm hsilent => ?_) (by rw [voteGone_timeout]) hr
  have hmem : m ∈ (voteOthers s f me).filter (voteGone s f 7) := by
    obtain ⟨hin, hne⟩ := List.mem_filter.1 hm
    rw [voteGone_timeout]
    exact List.mem_filter.2 ⟨hin, by rw [hne, hsilent]; rfl⟩
  exact (List.mem_filter.1 hmem).2

end Sys2Proof.Safety
end

section
/-! Firings that use the fabric or port X, and the replies and timeouts that end them (R172 to R181, R200, R201, R406, R418). -/

namespace Sys2Proof.Safety
open Sys2Proof.Machine

section Exec
variable {s : State} {n : Nat} {f : Firing} {a : Act} {row : OpRow}

theorem exec_fireVote_of_ready (h : Ready s n 0x300 f a row) :
    Sys2Proof.Machine.exec (.fireVote n) s = .next (State.voteOp s f a row) := by
  rw [exec_fireVote, execFireVote, fire_of_ready h]

theorem exec_extReply_of_alive (h : s.dead = false) (ws : List (BitVec 128)) :
    Sys2Proof.Machine.exec (.extReply ws) s = .next (s.extReply ws) :=
  congrArg _ (State.onlyIf_pos s _ (by rw [h]; rfl))

theorem exec_extReplyTimeout_of_alive (h : s.dead = false) (n : Nat) :
    Sys2Proof.Machine.exec (.extReplyTimeout n) s = .next (s.xExpire n) :=
  congrArg _ (State.onlyIf_pos s _ (by rw [h]; rfl))

theorem exec_voteTimeout_of_alive (h : s.dead = false) (n : Nat) :
    Sys2Proof.Machine.exec (.voteTimeout n) s = .next (s.voteExpire n) :=
  congrArg _ (State.onlyIf_pos s _ (by rw [h]; rfl))

end Exec

/-- Settles O20: VOTE by the members that have to answer, RSEND by its binding and its credit, an extension operation by the
request that it opens. -/
theorem fabricFiringsComplete : Obligations.FabricFiringsComplete := by
  refine ⟨?_, ?_, ?_, ?_, ?_⟩
  · intro s n f a row me hready hctx hlocal hmem hrec hnone hr
    obtain rfl := firing?_id hready.found
    exact ⟨_, exec_fireVote_of_ready hready, voteOp_alone hctx hlocal hmem hrec hnone hready.found hr⟩
  · intro s n f a row me o g m hready hctx hlocal hothers hreach hrec hnone hwait hroom
    obtain ⟨fab, r, hop, hret, hmsg⟩ := voteOp_pair (a := a) (row := row) hctx hlocal hothers hreach hrec hnone hwait hroom
    refine ⟨_, (exec_fireVote_of_ready hready).trans (congrArg _ hop), rfl, rfl, ⟨r, hret, hmsg⟩, rfl⟩
  · intro s n f a row w d i hready hctx hw hd hi hset hsize hopen hlost hcredit hr
    subst hd hi
    rw [exec_fireRsend, execFireRsend, fire_of_ready hready, rsendOp_of_credit hctx hw hset hsize hopen hlost hcredit hr]
  · intro s n f a row w hready hctx hw hset hsize hopen hlost hr
    rw [exec_fireRsend, execFireRsend, fire_of_ready hready, rsendOp_of_lost hctx hw hset hsize hopen hlost hr]
  · intro s s1 n f a row x hready hext hin hup hnone hlen
    exact fireExtOp_opens hready hext hin hup hnone hlen

/-- Settles O21: a reply and a timeout end the request that they name, and the firing with it; a vote timeout ends a vote without
the members that are silent. -/
theorem repliesEndTheirFirings : Obligations.RepliesEndTheirFirings := by
  refine ⟨?_, ?_, ?_, ?_, ?_, ?_⟩
  · intro s h body x f a row out halive hx hlive hkind hty hlen hf hid hact hlegal ht hr
    rw [exec_extReply_of_alive halive,
      extReply_of_result hx hlive hty hlen hf hact hlegal hkind ht, stage_eq_staged (room_withoutRequest x hr)]
    rfl
  · intro s h x f a row halive hx hlive hkind hty hA hB hf hid hact hlegal hr
    rw [exec_extReply_of_alive halive,
      extReply_of_fault hx hlive hty (by rw [hA, hB]; rfl) hf hact hlegal hkind, xerr_eq_staged (room_withoutRequest x hr)]
    rfl
  · intro s h ws halive hnone
    refine ⟨_, exec_extReply_of_alive halive _, ?_⟩
    rw [extReply_unawaited h ws hnone]
    exact ⟨State.event_firings _ _ _ _ _, State.event_xreqs _ _ _ _ _⟩
  · intro s n x f a halive hx hlive hdue hf hact hr
    refine ⟨_, exec_extReplyTimeout_of_alive halive n, ?_⟩
    rw [xExpire_of_due hx hdue, xAbandon_of_live hlive hf hact, ← firing?_id hf]
    obtain ⟨hxreqs, y, hy⟩ := xerr_spec (s := withoutRequest s x) (a := a) (ecode := 2 ^ 64 - 1) (reqid := x.reqid) (nd := f.nd)
      ((firing?_id hf).symm ▸ hf : s.firing? f.id = some f) (room_withoutRequest x hr)
    exact ⟨hxreqs, y, hy⟩
  · intro s n x halive hx hgone hdue
    rw [exec_extReplyTimeout_of_alive halive, xExpire_of_due hx hdue,
      xAbandon_of_gone hgone]
    rfl
  · intro s n f r me g silent o halive hf hwait hrec hdue hpart hlocal hr
    obtain ⟨u, hparts, htry⟩ := voteTry_timeout hrec hpart hlocal hr
    refine ⟨_, (exec_voteTimeout_of_alive halive n).trans (congrArg _ ((voteExpire_of_due hf hwait hrec hdue).trans htry)), ?_⟩
    exact congrArg (List.map _) (congrArg Prod.fst hparts)

end Sys2Proof.Safety
end

section
/-! Integer lanes: what a lane holds after a lane operation, and the quotient, remainder, high product, minimum, maximum and
relation of two lanes (R148, R150, R183 to R185, Table 6.1). -/

namespace Sys2Proof.Safety
open Sys2Proof.Machine

variable {w k : Nat} {sgn : Bool} {x : OpIn}

/-! ### Lanes of a value -/

/-- The number whose digits in base `2 ^ w` are the given ones, lane 0 first. -/
def joinLanes (w : Nat) (xs : List Nat) : Nat := xs.foldr (fun x acc => acc * 2 ^ w + x % 2 ^ w) 0

theorem ofLanes_eq (w : Nat) (xs : List Nat) : ofLanes w xs = BitVec.ofNat 256 (joinLanes w xs) := rfl

theorem joinLanes_cons (w y : Nat) (ys : List Nat) : joinLanes w (y :: ys) = joinLanes w ys * 2 ^ w + y % 2 ^ w := rfl

theorem joinLanes_lt (w : Nat) (xs : List Nat) : joinLanes w xs < 2 ^ (xs.length * w) := by
  induction xs with
  | nil => exact Nat.two_pow_pos _
  | cons y ys ih =>
    rw [joinLanes_cons, List.length_cons, Nat.succ_mul, Nat.pow_add]
    have hy := Nat.mod_lt y (Nat.two_pow_pos w)
    calc joinLanes w ys * 2 ^ w + y % 2 ^ w < (joinLanes w ys + 1) * 2 ^ w := by rw [Nat.succ_mul]; omega
      _ ≤ 2 ^ (ys.length * w) * 2 ^ w := Nat.mul_le_mul_right _ ih

theorem joinLanes_digit (w : Nat) {xs : List Nat} (hk : k < xs.length) :
    joinLanes w xs / 2 ^ (k * w) % 2 ^ w = xs[k] % 2 ^ w := by
  induction xs generalizing k with
  | nil => exact absurd hk (Nat.not_lt_zero k)
  | cons y ys ih =>
    rw [joinLanes_cons]
    cases k with
    | zero => simp
    | succ k =>
      have hlow : (joinLanes w ys * 2 ^ w + y % 2 ^ w) / 2 ^ w = joinLanes w ys := by
        rw [Nat.mul_comm, Nat.mul_add_div (Nat.two_pow_pos w), Nat.div_eq_of_lt (Nat.mod_lt _ (Nat.two_pow_pos w)), Nat.add_zero]
      rw [Nat.succ_mul, Nat.add_comm (k * w), Nat.pow_add, ← Nat.div_div_eq_div_mul, hlow, List.getElem_cons_succ]
      exact ih (Nat.lt_of_succ_lt_succ hk)

theorem lane_ofLanes (hw : 0 < w) {xs : List Nat} (hk : k < xs.length) (hfit : xs.length * w ≤ 256) :
    lane w k (ofLanes w xs) = xs[k] % 2 ^ w := by
  have hlt := Nat.lt_of_lt_of_le (joinLanes_lt w xs) (Nat.pow_le_pow_right (by decide) hfit)
  have hwidth : (k + 1) * w - 1 + 1 - k * w = w := by
    rw [Nat.succ_mul]
    omega
  rw [lane, natField_eq_div_mod, hwidth, ofLanes_eq, BitVec.toNat_ofNat, Nat.mod_eq_of_lt hlt, joinLanes_digit w hk]

/-- The lanes of every type have a width, and fit a value (Table 4.2). -/
theorem tyInfo_fits (ty : Nat) : 0 < (tyInfo ty).w ∧ (tyInfo ty).lanes * (tyInfo ty).w ≤ 256 := by
  unfold tyInfo
  split <;> decide

/-! ### The integer that a lane holds -/

theorem laneInt_mod (sgn : Bool) (w a : Nat) : laneInt sgn w (a % 2 ^ w) = laneInt sgn w a := by
  simp [laneInt, signedOf]

theorem two_pow_eq_double (hw : 0 < w) : 2 ^ w = 2 * 2 ^ (w - 1) := by
  rw [← Nat.pow_succ', Nat.succ_eq_add_one, Nat.sub_add_cancel hw]

theorem laneInt_bounds (sgn : Bool) (hw : 0 < w) (a : Nat) :
    laneMin sgn w ≤ laneInt sgn w a ∧ laneInt sgn w a ≤ laneMax sgn w := by
  have hlt := Nat.mod_lt a (Nat.two_pow_pos w)
  have hdouble := two_pow_eq_double hw
  cases sgn
  · simp only [laneMin, laneMax, laneInt, Bool.false_eq_true, if_false]
    omega
  · simp only [laneMin, laneMax, laneInt, signedOf, if_true, Nat.ne_of_gt hw, if_false]
    split <;> omega

theorem wrapInt_cast (w : Nat) (e : Int) : (wrapInt w e : Int) = e % (2 ^ w : Nat) :=
  Int.toNat_of_nonneg (Int.emod_nonneg _ (Int.natCast_ne_zero.2 (Nat.two_pow_pos w).ne'))

/-- A number less than one period outside the `w` bits comes back by one period. -/
theorem wrapInt_near {e : Int} (hlo : -(2 ^ w : Nat) ≤ e) (hhi : e < 2 * (2 ^ w : Nat)) :
    (wrapInt w e : Int) = if e < 0 then e + (2 ^ w : Nat) else if e < (2 ^ w : Nat) then e else e - (2 ^ w : Nat) := by
  rw [wrapInt_cast]
  split
  · rw [← Int.add_emod_right, Int.emod_eq_of_lt (by omega) (by omega)]
  · split
    · exact Int.emod_eq_of_lt (by omega) (by omega)
    · rw [← Int.sub_emod_right, Int.emod_eq_of_lt (by omega) (by omega)]

/-- A wrapped result is read back where it fits; the next one above the lane's range reads as its minimum. -/
theorem laneInt_wrapInt (hw : 0 < w) {e : Int} (hmin : laneMin sgn w ≤ e) (hmax : e ≤ laneMax sgn w + 1) :
    laneInt sgn w (wrapInt w e) = if laneMax sgn w < e then laneMin sgn w else e := by
  have hdouble := two_pow_eq_double hw
  have hpos := Nat.two_pow_pos (w - 1)
  have hnear := wrapInt_near (w := w) (e := e)
  cases sgn
  · simp only [laneMin, laneMax, laneInt, Bool.false_eq_true, if_false] at hmin hmax ⊢
    have hwrap := hnear (by omega) (by omega)
    rw [Nat.mod_eq_of_lt (by split at hwrap <;> omega)]
    split at hwrap <;> split <;> omega
  · simp only [laneMin, laneMax, laneInt, signedOf, if_true, Nat.ne_of_gt hw, if_false] at hmin hmax ⊢
    have hwrap := hnear (by omega) (by omega)
    rw [Nat.mod_eq_of_lt (by split at hwrap <;> omega)]
    split at hwrap <;> split <;> omega

theorem laneInt_wrapInt_of_fits (hw : 0 < w) {e : Int} (hmin : laneMin sgn w ≤ e) (hmax : e ≤ laneMax sgn w) :
    laneInt sgn w (wrapInt w e) = e := by
  rw [laneInt_wrapInt hw hmin (by omega), if_neg (by omega)]

theorem laneMin_le_zero (sgn : Bool) (w : Nat) : laneMin sgn w ≤ 0 := by
  cases sgn
  · exact le_rfl
  · exact Int.neg_nonpos_of_nonneg (Int.natCast_nonneg _)

theorem laneMax_nonneg (sgn : Bool) (w : Nat) : 0 ≤ laneMax sgn w := by
  have h1 := Nat.two_pow_pos w
  have h2 := Nat.two_pow_pos (w - 1)
  cases sgn
  · simp only [laneMax, Bool.false_eq_true, if_false]
    omega
  · simp only [laneMax, if_true]
    omega

/-! ### Quotient, remainder, high product, minimum and maximum of two lanes -/

section Ranges
variable {a b : Int} (hamin : laneMin sgn w ≤ a) (hamax : a ≤ laneMax sgn w) (hbmin : laneMin sgn w ≤ b) (hbmax : b ≤ laneMax sgn w)
include hamin hamax

/-- A remainder lies between 0 and the dividend, so the lane represents it. -/
theorem tmod_fits (b : Int) : laneMin sgn w ≤ Int.tmod a b ∧ Int.tmod a b ≤ laneMax sgn w := by
  have hmin := laneMin_le_zero sgn w
  have hmax := laneMax_nonneg sgn w
  have habs : (Int.tmod a b).natAbs ≤ a.natAbs := by
    rw [Int.natAbs_tmod]
    exact Nat.mod_le _ _
  rcases Int.le_total 0 a with ha | ha
  · have hsign := Int.tmod_nonneg b ha
    omega
  · have hsign := Int.tmod_nonneg b (Int.neg_nonneg_of_nonpos ha)
    rw [Int.neg_tmod] at hsign
    omega

include hbmin

/-- A quotient exceeds the lane's range by one at the most: that is MIN divided by −1. -/
theorem tdiv_near : laneMin sgn w ≤ Int.tdiv a b ∧ Int.tdiv a b ≤ laneMax sgn w + 1 := by
  have habs := Int.natAbs_tdiv_le_natAbs a b
  cases sgn
  · have hsign := Int.tdiv_nonneg (a := a) (b := b) hamin hbmin
    simp only [laneMin, laneMax, Bool.false_eq_true, if_false] at hamin hamax ⊢
    omega
  · simp only [laneMin, laneMax, if_true] at hamin hamax ⊢
    omega

include hbmax

/-- The high half of a product is a number of the lane. -/
theorem high_fits (hw : 0 < w) : laneMin sgn w ≤ a * b / (2 ^ w : Nat) ∧ a * b / (2 ^ w : Nat) ≤ laneMax sgn w := by
  have hpos : (0 : Int) < (2 ^ w : Nat) := Int.natCast_pos.2 (Nat.two_pow_pos w)
  have hdouble : ((2 ^ w : Nat) : Int) = 2 * (2 ^ (w - 1) : Nat) := by exact_mod_cast two_pow_eq_double hw
  have hbounds : laneMin sgn w * (2 ^ w : Nat) ≤ a * b ∧ a * b < (laneMax sgn w + 1) * (2 ^ w : Nat) := by
    cases sgn
    · simp only [laneMin, laneMax, Bool.false_eq_true, if_false] at hamin hamax hbmin hbmax ⊢
      constructor <;> nlinarith
    · simp only [laneMin, laneMax, if_true] at hamin hamax hbmin hbmax ⊢
      constructor <;> nlinarith
  exact ⟨Int.le_ediv_of_mul_le hpos hbounds.1, Int.lt_add_one_iff.1 (Int.ediv_lt_of_lt_mul hpos hbounds.2)⟩

end Ranges

/-- The high half of a doubled lane is the quotient, wrapped to the lane. -/
theorem wrapInt_double_div (w : Nat) (e : Int) : wrapInt (2 * w) e / 2 ^ w = wrapInt w (e / (2 ^ w : Nat)) := by
  have hpos : (0 : Int) < (2 ^ w : Nat) := Int.natCast_pos.2 (Nat.two_pow_pos w)
  apply Int.natCast_inj.1
  rw [Int.natCast_ediv, wrapInt_cast, wrapInt_cast, two_mul, Nat.pow_add, Nat.cast_mul]
  generalize ((2 ^ w : Nat) : Int) = u at hpos ⊢
  calc e % (u * u) / u = (e + u * -(u * (e / (u * u)))) / u := by rw [Int.emod_def, Int.sub_eq_add_neg, mul_neg, mul_assoc]
    _ = e / u - u * (e / u / u) := by
      rw [Int.add_mul_ediv_left _ _ hpos.ne', Int.sub_eq_add_neg, Int.ediv_ediv_of_nonneg hpos.le]
    _ = e / u % u := (Int.emod_def _ _).symm

section Lane
variable (hw : 0 < w) (l r : Nat)
include hw

theorem laneInt_intDiv_of_ne (hr : laneInt sgn w r ≠ 0) : laneInt sgn w (intDiv sgn w l r).bits =
    if laneMax sgn w < Int.tdiv (laneInt sgn w l) (laneInt sgn w r) then laneMin sgn w
    else Int.tdiv (laneInt sgn w l) (laneInt sgn w r) := by
  obtain ⟨hlmin, hlmax⟩ := laneInt_bounds sgn hw l
  obtain ⟨hmin, hmax⟩ := tdiv_near hlmin hlmax (laneInt_bounds sgn hw r).1
  rw [intDiv, if_neg hr]
  exact laneInt_wrapInt hw hmin hmax

theorem laneInt_intDiv_of_eq (hr : laneInt sgn w r = 0) : laneInt sgn w (intDiv sgn w l r).bits =
    if laneInt sgn w l < 0 then laneMin sgn w else laneMax sgn w := by
  have hmin := laneMin_le_zero sgn w
  have hmax := laneMax_nonneg sgn w
  rw [intDiv, if_pos hr]
  exact laneInt_wrapInt_of_fits hw (by split <;> omega) (by split <;> omega)

theorem laneInt_intRem_of_ne (hr : laneInt sgn w r ≠ 0) :
    laneInt sgn w (intRem sgn w l r).bits = Int.tmod (laneInt sgn w l) (laneInt sgn w r) := by
  obtain ⟨hlmin, hlmax⟩ := laneInt_bounds sgn hw l
  obtain ⟨hmin, hmax⟩ := tmod_fits hlmin hlmax (laneInt sgn w r)
  rw [intRem, if_neg hr]
  exact laneInt_wrapInt_of_fits hw hmin hmax

omit hw in
theorem laneInt_intRem_of_eq (hr : laneInt sgn w r = 0) : laneInt sgn w (intRem sgn w l r).bits = laneInt sgn w l := by
  rw [intRem, if_pos hr]
  exact laneInt_mod sgn w l

theorem laneInt_intMulh : laneInt sgn w (intMulh sgn w l r).bits = laneInt sgn w l * laneInt sgn w r / (2 ^ w : Nat) := by
  obtain ⟨hlmin, hlmax⟩ := laneInt_bounds sgn hw l
  obtain ⟨hrmin, hrmax⟩ := laneInt_bounds sgn hw r
  obtain ⟨hmin, hmax⟩ := high_fits hlmin hlmax hrmin hrmax hw
  rw [intMulh, wrapInt_double_div]
  exact laneInt_wrapInt_of_fits hw hmin hmax

omit hw in
theorem laneInt_intMin : laneInt sgn w (intMin sgn w l r).bits = min (laneInt sgn w l) (laneInt sgn w r) := by
  rw [intMin, apply_ite (laneInt sgn w), min_def]

omit hw in
theorem laneInt_intMax : laneInt sgn w (intMax sgn w l r).bits = max (laneInt sgn w l) (laneInt sgn w r) := by
  rw [intMax, apply_ite (laneInt sgn w), max_def]

end Lane

/-! ### Operations lane by lane -/

theorem int2_eq (x : OpIn) (f : Bool → Nat → Nat → Nat → LaneRes) :
    int2 x f = some (map2 x (f (laneSigned x.ty) (tyInfo x.ty).w)) := rfl

/-- A lane of a result is the lane function of the inputs' lanes. -/
theorem laneVal_map2 (f : Nat → Nat → LaneRes) (hk : k < (tyInfo x.ty).lanes) : laneVal x (map2 x f).val k =
    laneInt (laneSigned x.ty) (tyInfo x.ty).w (f (lane (tyInfo x.ty).w k x.l) (lane (tyInfo x.ty).w k x.r)).bits := by
  obtain ⟨hw, hfit⟩ := tyInfo_fits x.ty
  rw [laneVal, map2, lane_ofLanes hw (by simpa using hk) (by simpa using hfit), laneInt_mod]
  simp

/-- The trap of an integer operation: IDZ alone (R198). -/
theorem enabledCauses_int (mode : BitVec 16) (fl : Flags7) :
    enabledCauses mode true fl = if fl &&& flDZ ≠ 0 ∧ bit mode 10 = true then [cIDZ] else [] := by
  simp [enabledCauses]

/-- Settles O23: each lane is the integer that the operation names, wrapped only where MIN is divided by −1. -/
theorem divisionAndHighProductLanes : Obligations.DivisionAndHighProductLanes := by
  refine ⟨?_, ?_, enabledCauses_int⟩
  · intro x _
    have hw := (tyInfo_fits x.ty).1
    refine ⟨_, _, int2_eq x intDiv, int2_eq x intRem, rfl, rfl, fun k hk => ⟨fun hr => ?_, fun hr => ?_⟩⟩
    · rw [laneVal_map2 _ hk, laneVal_map2 _ hk]
      exact ⟨laneInt_intDiv_of_ne hw _ _ hr, laneInt_intRem_of_ne hw _ _ hr⟩
    · rw [laneVal_map2 _ hk, laneVal_map2 _ hk]
      exact ⟨laneInt_intDiv_of_eq hw _ _ hr, laneInt_intRem_of_eq _ _ hr⟩
  · intro x _
    have hw := (tyInfo_fits x.ty).1
    refine ⟨_, _, _, int2_eq x intMulh, int2_eq x intMin, int2_eq x intMax, rfl, rfl, rfl, fun k hk => ?_⟩
    rw [laneVal_map2 _ hk, laneVal_map2 _ hk, laneVal_map2 _ hk]
    exact ⟨laneInt_intMulh hw _ _, laneInt_intMin _ _, laneInt_intMax _ _⟩

/-! ### Compares of integer lanes -/

/-- The relation that an integer compare tests (R150); no integer is unordered. -/
def intRel : FCmp → Int → Int → Bool
  | .eq, p, q => decide (p = q)
  | .ne, p, q => decide (p ≠ q)
  | .lt, p, q => decide (p < q)
  | .le, p, q => decide (p ≤ q)
  | .un, _, _ => false

theorem ofLanes_b2n (b : Bool) : ofLanes 32 [b2n b] = BitVec.ofNat 256 (b2n b) := by
  cases b <;> decide +kernel

/-- A compare of a scalar type answers its one relation as a u32 (R150). -/
theorem opCmp_of_scalar {c : FCmp} {q : Bool × Flags7} (hone : (moveLane x.ty).2 = 1) (hq : cmpMoved x c 0 = q) :
    opCmp c x = some ⟨BitVec.ofNat 256 (b2n q.1), 1, [q.2]⟩ := by
  subst hq
  rw [← ofLanes_b2n, opCmp, hone]
  rfl

theorem orFlags_eq_zero {fs : List Flags7} (h : ∀ f ∈ fs, f = 0) : orFlags fs = 0 := by
  induction fs with
  | nil => rfl
  | cons f fs ih =>
    obtain ⟨rfl, hfs⟩ := List.forall_mem_cons.1 h
    exact (congrArg (0 ||| ·) (ih hfs)).trans (BitVec.or_zero)

section Integer
variable (h : IntType x.ty)
include h

theorem cmpMoved_of_int (c : FCmp) (k : Nat) : cmpMoved x c k = (intRel c (laneVal x x.l k) (laneVal x x.r k), 0) := by
  obtain h | h := h
  · cases c <;> simp only [cmpMoved, cmpLane, h, intRel, laneVal] <;> rfl
  · cases c <;> simp only [cmpMoved, cmpLane, h, intRel, laneVal] <;> rfl

theorem moveLane_of_int : moveLane x.ty = ((tyInfo x.ty).w, (tyInfo x.ty).lanes) := by
  refine if_neg ?_
  obtain h | h := h <;> rw [h] <;> decide

theorem opCmp_of_int_scalar (c : FCmp) (hone : (tyInfo x.ty).lanes = 1) : opCmp c x =
    some ⟨BitVec.ofNat 256 (b2n (intRel c (laneVal x x.l 0) (laneVal x x.r 0))), 1, [0]⟩ :=
  opCmp_of_scalar ((congrArg Prod.snd (moveLane_of_int h)).trans hone) (cmpMoved_of_int h c 0)

/-- A compare of an integer vector answers a mask of each lane (R150). -/
theorem opCmp_of_int_vector (c : FCmp) (hmany : (tyInfo x.ty).lanes ≠ 1) :
    ∃ z, opCmp c x = some z ∧ orFlags z.flags = 0 ∧ z.ty = 7 ∧ ∀ k < (tyInfo x.ty).lanes,
      lane (tyInfo x.ty).w k z.val = if intRel c (laneVal x x.l k) (laneVal x x.r k) then 2 ^ (tyInfo x.ty).w - 1 else 0 := by
  obtain ⟨hw, hfit⟩ := tyInfo_fits x.ty
  have hmove := moveLane_of_int h
  refine ⟨_, if_neg (by rw [hmove]; exact hmany), orFlags_eq_zero fun f hf => ?_, rfl, fun k hk => ?_⟩
  · obtain ⟨q, hq, rfl⟩ := List.mem_map.1 hf
    obtain ⟨k, -, rfl⟩ := List.mem_map.1 hq
    rw [cmpMoved_of_int h]
  · have hpos := Nat.two_pow_pos (tyInfo x.ty).w
    simp only [hmove]
    rw [lane_ofLanes hw (by simpa using hk) (by simpa using hfit)]
    simp only [List.getElem_map, List.getElem_range, cmpMoved_of_int h]
    split
    · exact Nat.mod_eq_of_lt (Nat.sub_one_lt_of_lt hpos)
    · exact Nat.zero_mod _

end Integer

/-! ### Compares of one floating-point lane -/

section Float
variable {f : Fmt} {env : FEnv} {l r : Nat}

/-- DAZ touches no operand but a subnormal one. -/
theorem dazOp_of_not_sub (h : f.isSub l = false) : dazOp f env l = l := by
  rw [dazOp, h, Bool.and_false]
  rfl

theorem dazOp_of_isNaN (hew : 0 < f.ew) (h : f.isNaN l = true) : dazOp f env l = l := by
  refine dazOp_of_not_sub (decide_eq_false fun hsub => ?_)
  have hexp := (of_decide_eq_true h).1
  have := Nat.one_lt_two_pow hew.ne'
  omega

theorem isNaN_dazOp (hew : 0 < f.ew) (h : f.isNaN l = true ∨ f.isNaN r = true) :
    (f.isNaN (dazOp f env l) || f.isNaN (dazOp f env r)) = true := by
  obtain h | h := h
  · rw [dazOp_of_isNaN hew h, h, Bool.true_or]
  · rw [dazOp_of_isNaN hew h, h, Bool.or_true]

/-- A NaN operand makes every relation but "unequal" and "unordered" false, and a signalling compare raise NV (R150). -/
theorem fCompare_of_nan (hew : 0 < f.ew) (h : f.isNaN l = true ∨ f.isNaN r = true) (c : FCmp) :
    (fCompare f env c l r).1 = decide (c = .ne ∨ c = .un) ∧ (c = .lt ∨ c = .le → (fCompare f env c l r).2 = flNV) := by
  have hnan := isNaN_dazOp (env := env) hew h
  unfold fCompare
  dsimp only
  rw [hnan]
  cases c <;> simp

/-- −0 equals +0. -/
theorem fCompare_zeros (h : f = fmt32 ∨ f = fmt64) : fCompare f env .eq f.signBit 0 = (true, 0) := by
  have hneg : f.isSub f.signBit = false := by obtain rfl | rfl := h <;> decide +kernel
  have hpos : f.isSub 0 = false := by obtain rfl | rfl := h <;> decide +kernel
  unfold fCompare
  dsimp only
  rw [dazOp_of_not_sub hneg, dazOp_of_not_sub hpos]
  obtain rfl | rfl := h <;> decide +kernel

end Float

theorem cmpMoved_of_flt (h : (tyInfo x.ty).kind = .flt) (c : FCmp) (k : Nat) : cmpMoved x c k =
    fCompare (tyFmt x.ty) x.env c (lane (tyInfo x.ty).w k x.l) (lane (tyInfo x.ty).w k x.r) := by
  simp only [cmpMoved, cmpLane, h]
  rfl

/-- The answer of a compare of f32 or f64 (R150). -/
theorem opCmp_of_float (h : x.ty = 4 ∨ x.ty = 5) (c : FCmp) {q : Bool × Flags7}
    (hq : fCompare (tyFmt x.ty) x.env c (lane (tyInfo x.ty).w 0 x.l) (lane (tyInfo x.ty).w 0 x.r) = q) :
    opCmp c x = some ⟨BitVec.ofNat 256 (b2n q.1), 1, [q.2]⟩ := by
  have hkind : (tyInfo x.ty).kind = .flt := by obtain h | h := h <;> rw [h] <;> rfl
  have hone : (moveLane x.ty).2 = 1 := by obtain h | h := h <;> rw [h] <;> rfl
  exact opCmp_of_scalar hone ((cmpMoved_of_flt hkind c 0).trans hq)

theorem tyFmt_of_float {ty : Nat} (h : ty = 4 ∨ ty = 5) : tyFmt ty = fmt32 ∨ tyFmt ty = fmt64 := by
  obtain rfl | rfl := h
  · exact .inl rfl
  · exact .inr rfl

/-- The answer of a compare of f32 or f64 with a NaN operand (R150). -/
theorem opCmp_of_nan (hty : x.ty = 4 ∨ x.ty = 5) (hnan : (tyFmt x.ty).isNaN (lane (tyInfo x.ty).w 0 x.l) = true ∨
    (tyFmt x.ty).isNaN (lane (tyInfo x.ty).w 0 x.r) = true) (c : FCmp) : ∃ fl,
      opCmp c x = some ⟨BitVec.ofNat 256 (b2n (decide (c = .ne ∨ c = .un))), 1, [fl]⟩ ∧ (c = .lt ∨ c = .le → fl = flNV) := by
  have hew : 0 < (tyFmt x.ty).ew := by obtain h | h := tyFmt_of_float hty <;> rw [h] <;> decide
  obtain ⟨hval, hfl⟩ := fCompare_of_nan (env := x.env) hew hnan c
  exact ⟨_, opCmp_of_float hty c (q := (_, _)) (Prod.ext hval rfl), hfl⟩

/-- Settles O25: an integer lane by its relation; a floating-point one by NaN and by the signs of zeros. -/
theorem comparesFollowTheirRelation : Obligations.ComparesFollowTheirRelation := by
  refine ⟨?_, ?_, ?_⟩
  · intro x op rel hint hop
    obtain ⟨c, rfl, hrel⟩ : ∃ c, op = opCmp c ∧ ∀ p q, rel p q ↔ intRel c p q = true := by
      obtain ⟨rfl, rfl⟩ | ⟨rfl, rfl⟩ | ⟨rfl, rfl⟩ | ⟨rfl, rfl⟩ := hop
      · exact ⟨.eq, rfl, fun _ _ => decide_eq_true_iff.symm⟩
      · exact ⟨.ne, rfl, fun _ _ => decide_eq_true_iff.symm⟩
      · exact ⟨.lt, rfl, fun _ _ => decide_eq_true_iff.symm⟩
      · exact ⟨.le, rfl, fun _ _ => decide_eq_true_iff.symm⟩
    by_cases hone : (tyInfo x.ty).lanes = 1
    · refine ⟨_, opCmp_of_int_scalar hint c hone, rfl, fun _ => ⟨rfl, fun h => ?_, fun h => ?_⟩, fun hmany => absurd hone hmany⟩
      · rw [(hrel _ _).1 h]
        rfl
      · rw [Bool.eq_false_iff.2 (mt (hrel _ _).2 h)]
        rfl
    · obtain ⟨z, hz, hflags, hty, hlane⟩ := opCmp_of_int_vector hint c hone
      refine ⟨z, hz, hflags, fun h => absurd h hone, fun _ => ⟨hty, fun k hk => ⟨fun h => ?_, fun h => ?_⟩⟩⟩
      · rw [hlane k hk, if_pos ((hrel _ _).1 h)]
      · rw [hlane k hk, if_neg (mt (hrel _ _).2 h)]
  · intro x hty hnan
    obtain ⟨_, heq, -⟩ := opCmp_of_nan hty hnan .eq
    obtain ⟨_, hne, -⟩ := opCmp_of_nan hty hnan .ne
    obtain ⟨_, hlt, hltfl⟩ := opCmp_of_nan hty hnan .lt
    obtain ⟨_, hle, hlefl⟩ := opCmp_of_nan hty hnan .le
    obtain ⟨_, hun, -⟩ := opCmp_of_nan hty hnan .un
    refine ⟨_, _, _, _, _, heq, hne, hlt, hle, hun, rfl, rfl, rfl, rfl, rfl, ?_, ?_⟩
    · rw [hltfl (.inl rfl)]
      rfl
    · rw [hlefl (.inr rfl)]
      rfl
  · intro x hty hl hr
    have heq : fCompare (tyFmt x.ty) x.env .eq (lane (tyInfo x.ty).w 0 x.l) (lane (tyInfo x.ty).w 0 x.r) = (true, 0) := by
      rw [hl, hr, fCompare_zeros (tyFmt_of_float hty)]
    exact ⟨_, opCmp_of_float hty .eq heq, rfl, rfl⟩

end Sys2Proof.Safety
end

section
/-! Integer lanes that wrap, clamp or raise no flag, and the operations on the bits of a lane: logic, shifts and rotates (R148,
R183, R186, Table 6.2). -/

namespace Sys2Proof.Safety
open Sys2Proof.Machine

variable {w k j l r : ℕ} {sgn : Bool} {x : OpIn}

/-! ### A lane and its flags -/

theorem lane_lt (hw : 0 < w) (k : ℕ) (v : Value) : lane w k v < 2 ^ w := by
  have hwidth : (k + 1) * w - 1 + 1 - k * w = w := by
    rw [Nat.succ_mul]
    omega
  rw [lane, natField_eq_div_mod, hwidth]
  exact Nat.mod_lt _ (Nat.two_pow_pos w)

theorem lane_map2 (f : ℕ → ℕ → LaneRes) (hk : k < (tyInfo x.ty).lanes) : lane (tyInfo x.ty).w k (map2 x f).val =
    (f (lane (tyInfo x.ty).w k x.l) (lane (tyInfo x.ty).w k x.r)).bits % 2 ^ (tyInfo x.ty).w := by
  obtain ⟨hw, hfit⟩ := tyInfo_fits x.ty
  rw [map2, lane_ofLanes hw (by simpa using hk) (by simpa using hfit)]
  simp

theorem flags_map2 (f : ℕ → ℕ → LaneRes) (hk : k < (tyInfo x.ty).lanes) :
    (map2 x f).flags[k]? = some (f (lane (tyInfo x.ty).w k x.l) (lane (tyInfo x.ty).w k x.r)).flags := by
  simp [map2, hk]

/-- An operation of one input is one of two that does not look at R. -/
theorem int1_eq (x : OpIn) (f : Bool → ℕ → ℕ → LaneRes) :
    int1 x f = some (map2 x fun a _ => f (laneSigned x.ty) (tyInfo x.ty).w a) := rfl

theorem orFlags_map2 {f : ℕ → ℕ → LaneRes} (hf : ∀ a b, (f a b).flags = 0) : orFlags (map2 x f).flags = 0 := by
  refine orFlags_eq_zero fun fl hfl => ?_
  obtain ⟨res, hres, rfl⟩ := List.mem_map.1 hfl
  obtain ⟨k, -, rfl⟩ := List.mem_map.1 hres
  exact hf _ _

/-! ### Lanes that wrap and lanes that clamp -/

theorem wrapInt_lt (w : ℕ) (e : ℤ) : wrapInt w e < 2 ^ w := by
  have hpos : (0 : ℤ) < (2 ^ w : ℕ) := Int.natCast_pos.2 (Nat.two_pow_pos w)
  have hlt := Int.emod_lt_of_pos e hpos
  rw [← wrapInt_cast] at hlt
  exact_mod_cast hlt

theorem clampInt_bounds {lo hi : ℤ} (h : lo ≤ hi) (e : ℤ) : lo ≤ clampInt lo hi e ∧ clampInt lo hi e ≤ hi := by
  rw [clampInt]
  split
  · exact ⟨le_rfl, h⟩
  · split <;> omega

section Fits
variable {e : ℤ}

theorem flags_wrapRes_of_fits (h : laneMin sgn w ≤ e ∧ e ≤ laneMax sgn w) : (wrapRes sgn w e).flags = 0 := if_neg (by omega)

theorem flags_wrapRes_of_not_fits (h : ¬ (laneMin sgn w ≤ e ∧ e ≤ laneMax sgn w)) : (wrapRes sgn w e).flags = flV :=
  if_pos (by omega)

theorem flags_satRes_of_fits (h : laneMin sgn w ≤ e ∧ e ≤ laneMax sgn w) : (satRes sgn w e).flags = 0 := if_neg (by omega)

theorem flags_satRes_of_not_fits (h : ¬ (laneMin sgn w ≤ e ∧ e ≤ laneMax sgn w)) : (satRes sgn w e).flags = flSAT :=
  if_pos (by omega)

theorem bits_wrapRes_mod (sgn : Bool) (w : ℕ) (e : ℤ) : (((wrapRes sgn w e).bits % 2 ^ w : ℕ) : ℤ) = e % (2 ^ w : ℕ) :=
  (congrArg Nat.cast (Nat.mod_eq_of_lt (wrapInt_lt w e))).trans (wrapInt_cast w e)

theorem laneInt_satRes (hw : 0 < w) (e : ℤ) :
    laneInt sgn w (satRes sgn w e).bits = clampInt (laneMin sgn w) (laneMax sgn w) e := by
  obtain ⟨hmin, hmax⟩ := clampInt_bounds ((laneMin_le_zero sgn w).trans (laneMax_nonneg sgn w)) e
  exact laneInt_wrapInt_of_fits hw hmin hmax

end Fits

section Exact
variable {op : OpIn → Option OpRes} {g : ℤ → ℤ → ℤ} {f : Bool → ℕ → ℕ → ℕ → LaneRes}
  (hop : ∀ x, op x = some (map2 x (f (laneSigned x.ty) (tyInfo x.ty).w)))
include hop

theorem lanesWrap_of_map2 (hf : ∀ sgn w a b, f sgn w a b = wrapRes sgn w (g (laneInt sgn w a) (laneInt sgn w b))) :
    LanesWrap op g := by
  refine fun x _ => ⟨_, hop x, rfl, fun k hk => ?_⟩
  rw [lane_map2 _ hk, flags_map2 _ hk, hf]
  exact ⟨bits_wrapRes_mod _ _ _, fun h => congrArg some (flags_wrapRes_of_fits h),
    fun h => congrArg some (flags_wrapRes_of_not_fits h)⟩

theorem lanesClamp_of_map2 (hf : ∀ sgn w a b, f sgn w a b = satRes sgn w (g (laneInt sgn w a) (laneInt sgn w b))) :
    LanesClamp op g := by
  refine fun x _ => ⟨_, hop x, rfl, fun k hk => ?_⟩
  rw [laneVal_map2 _ hk, flags_map2 _ hk, hf]
  exact ⟨laneInt_satRes (tyInfo_fits x.ty).1 _, fun h => congrArg some (flags_satRes_of_fits h),
    fun h => congrArg some (flags_satRes_of_not_fits h)⟩

end Exact

theorem natAbs_eq_ite (a : ℤ) : (a.natAbs : ℤ) = if a < 0 then -a else a := by
  split <;> omega

/-- A quotient is below MAX + 1, so V says that it is above MAX. -/
theorem flags_intDiv (sgn : Bool) (hw : 0 < w) (l r : ℕ) : (intDiv sgn w l r).flags = if laneInt sgn w r = 0 then flDZ
    else if laneMax sgn w < Int.tdiv (laneInt sgn w l) (laneInt sgn w r) then flV else 0 := by
  obtain ⟨hlmin, hlmax⟩ := laneInt_bounds sgn hw l
  obtain ⟨hmin, -⟩ := tdiv_near hlmin hlmax (laneInt_bounds sgn hw r).1
  rw [intDiv]
  split
  · rfl
  · simp [wrapRes, hmin.not_gt]

theorem flags_intRem (sgn : Bool) (w l r : ℕ) : (intRem sgn w l r).flags = if laneInt sgn w r = 0 then flDZ else 0 := by
  rw [intRem]
  split <;> rfl

theorem noFlag_of_int2 {f : Bool → ℕ → ℕ → ℕ → LaneRes} (hf : ∀ sgn w a b, (f sgn w a b).flags = 0) (x : OpIn) :
    ∃ z, int2 x f = some z ∧ orFlags z.flags = 0 := ⟨_, rfl, orFlags_map2 fun _ _ => hf _ _ _ _⟩

theorem noFlag_of_int1 {f : Bool → ℕ → ℕ → LaneRes} (hf : ∀ sgn w a, (f sgn w a).flags = 0) (x : OpIn) :
    ∃ z, int1 x f = some z ∧ orFlags z.flags = 0 := ⟨_, int1_eq x f, orFlags_map2 fun _ _ => hf _ _ _⟩

/-- V and SAT have no trap enable (R183, Table 2.6). -/
theorem enabledCauses_wrap_clamp (mode : BitVec 16) (isInt : Bool) : enabledCauses mode isInt (flV ||| flSAT) = [] := by
  cases isInt <;> rfl

/-- Settles O22: each operation is its exact result wrapped or clamped, lane by lane, and the others raise no flag. -/
theorem integerLanesWrapOrClamp : Obligations.IntegerLanesWrapOrClamp := by
  refine ⟨lanesWrap_of_map2 (f := intAdd) (fun _ => rfl) fun _ _ _ _ => rfl,
    lanesWrap_of_map2 (f := intSub) (fun _ => rfl) fun _ _ _ _ => rfl,
    lanesWrap_of_map2 (f := intMul) (fun _ => rfl) fun _ _ _ _ => rfl,
    lanesWrap_of_map2 (f := fun s w a _ => intNeg s w a) (fun _ => rfl) fun _ _ _ _ => rfl,
    lanesWrap_of_map2 (f := fun s w a _ => intAbs s w a) (fun _ => rfl)
      fun s w a _ => congrArg (wrapRes s w) (natAbs_eq_ite _),
    lanesClamp_of_map2 (f := intAdds) (fun _ => rfl) fun _ _ _ _ => rfl,
    lanesClamp_of_map2 (f := intSubs) (fun _ => rfl) fun _ _ _ _ => rfl,
    lanesClamp_of_map2 (f := intMuls) (fun _ => rfl) fun _ _ _ _ => rfl,
    lanesClamp_of_map2 (f := fun s w a _ => intNegs s w a) (fun _ => rfl) fun _ _ _ _ => rfl,
    lanesClamp_of_map2 (f := fun s w a _ => intAbss s w a) (fun _ => rfl)
      fun s w a _ => congrArg (satRes s w) (natAbs_eq_ite _),
    fun x _ => ⟨_, int2_eq x intDiv, fun k hk => ?_⟩, fun x _ => ⟨_, int2_eq x intRem, fun k hk => ?_⟩, ?_,
    enabledCauses_wrap_clamp⟩
  · rw [flags_map2 _ hk, flags_intDiv _ (tyInfo_fits x.ty).1]
    rfl
  · rw [flags_map2 _ hk, flags_intRem]
    rfl
  · simp only [List.forall_mem_cons]
    exact ⟨noFlag_of_int2 fun _ _ _ _ => rfl, noFlag_of_int2 fun _ _ _ _ => rfl, noFlag_of_int2 fun _ _ _ _ => rfl,
      noFlag_of_int2 fun _ _ _ _ => rfl, noFlag_of_int1 fun _ _ _ => rfl, noFlag_of_int2 fun _ _ _ _ => rfl,
      noFlag_of_int2 fun _ _ _ _ => rfl, noFlag_of_int2 fun _ _ _ _ => rfl, noFlag_of_int2 fun _ _ _ _ => rfl,
      noFlag_of_int2 fun _ _ _ _ => rfl, noFlag_of_int2 fun _ _ _ _ => rfl, noFlag_of_int1 fun _ _ _ => rfl,
      noFlag_of_int1 fun _ _ _ => rfl, noFlag_of_int2 fun _ _ _ _ => rfl, noFlag_of_int2 fun _ _ _ _ => rfl,
      List.forall_mem_nil _⟩

/-! ### The bits of a lane -/

theorem testBit_lane_map2 (f : ℕ → ℕ → LaneRes) (hk : k < (tyInfo x.ty).lanes) (hj : j < (tyInfo x.ty).w) :
    (lane (tyInfo x.ty).w k (map2 x f).val).testBit j =
      (f (lane (tyInfo x.ty).w k x.l) (lane (tyInfo x.ty).w k x.r)).bits.testBit j := by
  rw [lane_map2 f hk, Nat.testBit_mod_two_pow, decide_eq_true hj, Bool.true_and]

theorem signedOf_of_lt (hw : 0 < w) (hl : l < 2 ^ (w - 1)) : signedOf w l = l := by
  have hdouble := two_pow_eq_double hw
  rw [signedOf, Nat.mod_eq_of_lt (by omega)]
  exact (if_neg hw.ne').trans (if_pos hl)

theorem signedOf_of_ge (hl : l < 2 ^ w) (hneg : 2 ^ (w - 1) ≤ l) : signedOf w l = Int.negSucc (2 ^ w - 1 - l) := by
  have hw : w ≠ 0 := by
    rintro rfl
    simp at hl hneg
    omega
  rw [signedOf, Nat.mod_eq_of_lt hl]
  refine ((if_neg hw).trans (if_neg hneg.not_gt)).trans ?_
  rw [Int.negSucc_eq]
  omega

theorem wrapInt_natCast (hl : l < 2 ^ w) : wrapInt w l = l := by
  rw [wrapInt, ← Int.natCast_emod, Int.toNat_natCast, Nat.mod_eq_of_lt hl]

theorem wrapInt_negSucc (hl : l < 2 ^ w) : wrapInt w (Int.negSucc l) = 2 ^ w - 1 - l := by
  have hnear := wrapInt_near (w := w) (e := Int.negSucc l) (by rw [Int.negSucc_eq]; omega) (by rw [Int.negSucc_eq]; omega)
  rw [if_pos (Int.negSucc_lt_zero l)] at hnear
  generalize wrapInt w (Int.negSucc l) = v at hnear ⊢
  rw [Int.negSucc_eq] at hnear
  omega

theorem testBit_of_le (hl : l < 2 ^ w) (hj : w ≤ j) : l.testBit j = false :=
  Nat.testBit_lt_two_pow (hl.trans_le (Nat.pow_le_pow_right two_pos hj))

/-- A number that is not negative has zeros from the sign bit on. -/
theorem testBit_min (hpos : l < 2 ^ (w - 1)) (i : ℕ) : l.testBit (min i (w - 1)) = l.testBit i := by
  rcases Nat.le_total i (w - 1) with hi | hi
  · rw [min_eq_left hi]
  · rw [min_eq_right hi, testBit_of_le hpos le_rfl, testBit_of_le hpos hi]

section Bits
variable (hl : l < 2 ^ w) (hj : j < w)

include hj

theorem testBit_complement (l : ℕ) : (2 ^ w - 1 - l % 2 ^ w).testBit j = !l.testBit j := by
  have hpos := Nat.mod_lt l (Nat.two_pow_pos w)
  rw [Nat.sub_sub, Nat.add_comm 1, Nat.testBit_two_pow_sub_succ hpos, Nat.testBit_mod_two_pow]
  simp [hj]

theorem testBit_intShl (sgn : Bool) (l r : ℕ) : (intShl sgn w l r).bits.testBit j = (decide (r ≤ j) && l.testBit (j - r)) := by
  rw [intShl]
  split
  next hr => simp [show ¬ r ≤ j by omega]
  next => rw [Nat.testBit_mod_two_pow, decide_eq_true hj, Bool.true_and, Nat.testBit_mul_two_pow]

include hl

omit hj in
theorem testBit_intShr (sgn : Bool) (r : ℕ) : (intShr sgn w l r).bits.testBit j = (decide (j + r < w) && l.testBit (j + r)) := by
  have hbeyond : w ≤ j + r → l.testBit (j + r) = false := testBit_of_le hl
  rw [intShr]
  split
  next hr => simp [show ¬ j + r < w by omega]
  next =>
    rw [Nat.testBit_div_two_pow]
    by_cases hin : j + r < w
    · simp [hin]
    · simp [hin, hbeyond (not_lt.1 hin)]

/-- The rotated lane is joined from the bits that stay and the bits that come round. -/
theorem testBit_intRol (sgn : Bool) (r : ℕ) : (intRol sgn w l r).bits.testBit j = l.testBit ((j + (w - r % w)) % w) := by
  have hr := Nat.mod_lt r (Nat.zero_lt_of_lt hj)
  rw [intRol, Nat.testBit_or, Nat.testBit_mod_two_pow, Nat.testBit_mul_two_pow, Nat.testBit_div_two_pow, Nat.mod_eq_of_lt hl,
    decide_eq_true hj, Bool.true_and]
  rcases Nat.lt_or_ge j (r % w) with hlow | hhigh
  · rw [Nat.mod_eq_of_lt (show j + (w - r % w) < w by omega)]
    simp [hlow]
  · have hpos : (j + (w - r % w)) % w = j - r % w := by
      rw [show j + (w - r % w) = j - r % w + w by omega, Nat.add_mod_right, Nat.mod_eq_of_lt (by omega)]
    rw [hpos, testBit_of_le hl (show w ≤ j + (w - r % w) by omega)]
    simp [hhigh]

theorem testBit_intRor (sgn : Bool) (r : ℕ) : (intRor sgn w l r).bits.testBit j = l.testBit ((j + r) % w) := by
  have hr := Nat.mod_lt r (Nat.zero_lt_of_lt hj)
  rw [intRor, testBit_intRol hl hj, Nat.add_mod j r]
  congr 1
  rcases Nat.eq_zero_or_pos (r % w) with hzero | hpos
  · simp [hzero, Nat.mod_eq_of_lt hj]
  · rw [Nat.mod_eq_of_lt (show w - r % w < w by omega), Nat.mod_eq_of_lt hj]
    congr 1
    omega

/-- A shift of the signed number fills with its sign bit (R186): of a negative number, the complement is shifted as a number that
is not negative. -/
theorem testBit_intSar (sgn : Bool) (r : ℕ) : (intSar sgn w l r).bits.testBit j = l.testBit (min (j + r) (w - 1)) := by
  rcases Nat.lt_or_ge l (2 ^ (w - 1)) with hpos | hneg
  · rw [testBit_min hpos, intSar, signedOf_of_lt (by omega) hpos]
    dsimp only
    split
    next hr => rw [if_neg (by omega), testBit_of_le hl (by omega), Nat.zero_testBit]
    next => rw [← Int.natCast_ediv, wrapInt_natCast ((Nat.div_le_self _ _).trans_lt hl), Nat.testBit_div_two_pow]
  · have hc : 2 ^ w - 1 - l < 2 ^ (w - 1) := by
      have := two_pow_eq_double (Nat.zero_lt_of_lt hj)
      omega
    have hbit : l.testBit (min (j + r) (w - 1)) = !(2 ^ w - 1 - l).testBit (j + r) := by
      have hcompl := testBit_complement (show min (j + r) (w - 1) < w by omega) l
      rw [Nat.mod_eq_of_lt hl] at hcompl
      rw [← testBit_min hc, hcompl, Bool.not_not]
    rw [hbit, intSar, signedOf_of_ge hl hneg]
    dsimp only
    split
    next hr =>
      rw [if_pos (Int.negSucc_lt_zero _), Nat.testBit_two_pow_sub_one, decide_eq_true hj, testBit_of_le hc (by omega)]
      rfl
    next =>
      have hshift : Int.negSucc (2 ^ w - 1 - l) / (2 ^ r : ℕ) = Int.negSucc ((2 ^ w - 1 - l) / 2 ^ r) :=
        Int.negSucc_ediv _ (Int.natCast_pos.2 (Nat.two_pow_pos r))
      have hlt : (2 ^ w - 1 - l) / 2 ^ r < 2 ^ w := (Nat.div_le_self _ _).trans_lt (by omega)
      have hcompl := testBit_complement hj ((2 ^ w - 1 - l) / 2 ^ r)
      rw [Nat.mod_eq_of_lt hlt, Nat.testBit_div_two_pow] at hcompl
      rw [hshift, wrapInt_negSucc hlt, hcompl]

end Bits

/-- Settles O24: each operation takes its bits of L and R in place, or moved by the whole of R. -/
theorem bitwiseLanes : Obligations.BitwiseLanes := by
  intro x _
  refine ⟨_, _, _, _, _, _, _, _, _, _, int2_eq x intAnd, int2_eq x intOr, int2_eq x intXor, int1_eq x intNot, int2_eq x intAndn,
    int2_eq x intShl, int2_eq x intShr, int2_eq x intSar, int2_eq x intRol, int2_eq x intRor, ?_, fun k hk j hj => ?_⟩
  · simp only [List.forall_mem_cons]
    exact ⟨⟨orFlags_map2 fun _ _ => rfl, rfl⟩, ⟨orFlags_map2 fun _ _ => rfl, rfl⟩, ⟨orFlags_map2 fun _ _ => rfl, rfl⟩,
      ⟨orFlags_map2 fun _ _ => rfl, rfl⟩, ⟨orFlags_map2 fun _ _ => rfl, rfl⟩, List.forall_mem_nil _⟩
  · have hl := lane_lt (tyInfo_fits x.ty).1 k x.l
    simp only [testBit_lane_map2 _ hk hj]
    refine ⟨Nat.testBit_and .., Nat.testBit_or .., Nat.testBit_xor .., testBit_complement hj _, ?_, testBit_intShl hj _ _ _,
      testBit_intShr hl _ _, testBit_intSar hl hj _ _, testBit_intRol hl hj _ _, testBit_intRor hl hj _ _⟩
    exact (Nat.testBit_and ..).trans (congrArg (_ && ·) (testBit_complement hj _))

end Sys2Proof.Safety
end

section
/-! Rounding: the number of steps that `roundShift` gives, the order of a format's patterns, and the pattern that a finite
result is delivered as (R187 to R189). A format's patterns fall into binades, in each of which neighbours lie one step apart;
without an overflow, each branch of `roundFin` delivers the exact magnitude rounded to the steps of its binade. -/

namespace Sys2Proof.Safety
open Sys2Proof.Machine

/-! ### Rounding to a whole number of steps -/

/-- The rounding never exceeds the magnitude of a number of sign `neg` (R187). -/
def roundsDown (rm : RMode) (neg : Bool) : Bool :=
  decide (rm = .rtz) || decide (rm = .rup) && neg || decide (rm = .rdn) && !neg

/-- The rounding never falls below the magnitude of a number of sign `neg` (R187). -/
def roundsUp (rm : RMode) (neg : Bool) : Bool := decide (rm = .rup) && !neg || decide (rm = .rdn) && neg

/-- The number `q` of whole steps is `y` steps rounded (R187). -/
structure RoundsTo (rm : RMode) (neg : Bool) (y : ℚ) (q : ℕ) : Prop where
  down    : roundsDown rm neg = true → q ≤ y ∧ y < q + 1
  up      : roundsUp rm neg = true → y ≤ q ∧ q < y + 1
  nearest : rm = .rne → |(q : ℚ) - y| ≤ 1 / 2

theorem rounding_cases (rm : RMode) (neg : Bool) : rm = .rne ∨ roundsDown rm neg = true ∨ roundsUp rm neg = true := by
  cases rm <;> cases neg <;> decide

theorem roundsUp_excludes {rm : RMode} {neg : Bool} (h : roundsUp rm neg = true) : roundsDown rm neg = false ∧ rm ≠ .rne := by
  revert h
  cases rm <;> cases neg <;> decide

namespace RoundsTo
variable {rm : RMode} {neg : Bool} {y : ℚ} {q : ℕ}

theorem near (h : RoundsTo rm neg y q) : y < q + 1 ∧ q < y + 1 := by
  obtain hrm | hdir | hdir := rounding_cases rm neg
  · have := abs_le.1 (h.nearest hrm)
    constructor <;> linarith
  · have := h.down hdir
    constructor <;> linarith
  · have := h.up hdir
    constructor <;> linarith

theorem le_of_le (h : RoundsTo rm neg y q) {n : ℕ} (hn : n ≤ y) : n ≤ q :=
  Nat.lt_succ_iff.1 (by exact_mod_cast hn.trans_lt h.near.1)

theorem ge_of_ge (h : RoundsTo rm neg y q) {n : ℕ} (hn : y ≤ n) : q ≤ n :=
  Nat.lt_succ_iff.1 (by exact_mod_cast h.near.2.trans_le (by linarith : y + 1 ≤ (n : ℚ) + 1))

theorem of_eq (h : (q : ℚ) = y) : RoundsTo rm neg y q := by
  subst h
  exact ⟨fun _ => ⟨le_rfl, lt_add_one _⟩, fun _ => ⟨le_rfl, lt_add_one _⟩, fun _ => by norm_num⟩

/-- A number that rounds to a whole count of doubled steps is rounded on them, too. -/
theorem half (h : RoundsTo rm neg y (2 * q)) : RoundsTo rm neg (y / 2) q := by
  have hcast : ((2 * q : ℕ) : ℚ) = 2 * q := by norm_num
  refine ⟨fun hdir => ?_, fun hdir => ?_, fun hrm => ?_⟩
  · have := h.down hdir
    constructor <;> linarith
  · have := h.up hdir
    constructor <;> linarith
  · have := abs_le.1 (h.nearest hrm)
    exact abs_le.2 ⟨by linarith, by linarith⟩

end RoundsTo

/-- The step beyond the quotient `q` is taken: by the remainder `r` of the division by `d`, the rounding and the sign. -/
def roundsAway (rm : RMode) (neg : Bool) (q r d : ℕ) : Bool :=
  match rm with
  | .rne => decide (2 * r > d ∨ (2 * r = d ∧ q % 2 = 1))
  | .rtz => false
  | .rup => !neg && decide (r ≠ 0)
  | .rdn => neg && decide (r ≠ 0)

theorem roundsAway_iff {rm : RMode} {neg : Bool} {q r d : ℕ} : roundsAway rm neg q r d = true ↔
    rm = .rne ∧ (d < 2 * r ∨ 2 * r = d ∧ q % 2 = 1) ∨ roundsUp rm neg = true ∧ r ≠ 0 := by
  cases rm <;> simp [roundsAway, roundsUp]

theorem roundShift_of_neg (rm : RMode) (neg : Bool) (m n : ℕ) : roundShift rm neg m (-n) = (m * 2 ^ n, false) := by
  rw [roundShift, if_pos (by omega), neg_neg, Int.toNat_natCast]

theorem roundShift_of_pos (rm : RMode) (neg : Bool) (m : ℕ) {n : ℕ} (hn : 0 < n) : roundShift rm neg m n =
    (if roundsAway rm neg (m / 2 ^ n) (m % 2 ^ n) (2 ^ n) then m / 2 ^ n + 1 else m / 2 ^ n, decide (m % 2 ^ n ≠ 0)) := by
  rw [roundShift, if_neg (by omega), Int.toNat_natCast]
  rfl

section Quotient
variable {rm : RMode} {neg : Bool} {q r d : ℕ} (hr : r < d)
include hr

/-- The step is taken only where there is a remainder, never toward zero, and to nearest from half a step on. -/
theorem roundsTo_of_roundsAway (h : roundsAway rm neg q r d = true) :
    r ≠ 0 ∧ (q + r / d : ℚ) < (q + 1 : ℕ) ∧ RoundsTo rm neg (q + r / d) (q + 1) := by
  have hd : (0 : ℚ) < d := by exact_mod_cast Nat.zero_lt_of_lt hr
  have hfrac : (r : ℚ) / d < 1 := (div_lt_one hd).2 (by exact_mod_cast hr)
  obtain ⟨hne, hdown, hhalf⟩ : r ≠ 0 ∧ roundsDown rm neg = false ∧ (rm = .rne → d ≤ 2 * r) := by
    obtain ⟨rfl, hhalf⟩ | ⟨hup, hne⟩ := roundsAway_iff.1 h
    · exact ⟨by omega, rfl, fun _ => by omega⟩
    · obtain ⟨hdown, hrm⟩ := roundsUp_excludes hup
      exact ⟨hne, hdown, fun h => absurd h hrm⟩
  have hpos : 0 < (r : ℚ) / d := div_pos (by exact_mod_cast Nat.pos_of_ne_zero hne) hd
  refine ⟨hne, by push_cast; linarith, fun hdir => absurd hdir (by simp [hdown]), fun _ => ?_, fun hrm => ?_⟩
  · push_cast
    constructor <;> linarith
  · have : (1 : ℚ) / 2 ≤ r / d := (div_le_div_iff₀ two_pos hd).2 (by exact_mod_cast (by have := hhalf hrm; omega))
    push_cast
    exact abs_le.2 ⟨by linarith, by linarith⟩

theorem roundsTo_of_not_roundsAway (h : roundsAway rm neg q r d = false) : RoundsTo rm neg (q + r / d) q := by
  have hd : (0 : ℚ) < d := by exact_mod_cast Nat.zero_lt_of_lt hr
  have hfrac : (r : ℚ) / d < 1 := (div_lt_one hd).2 (by exact_mod_cast hr)
  obtain ⟨hnearest, hup⟩ := not_or.1 (mt roundsAway_iff.2 (Bool.eq_false_iff.1 h))
  have hexact : roundsUp rm neg = true → r = 0 := fun hdir => not_not.1 fun hne => hup ⟨hdir, hne⟩
  have hhalf : rm = .rne → 2 * r ≤ d := fun hrm => not_lt.1 fun hlt => hnearest ⟨hrm, .inl hlt⟩
  have hnonneg : 0 ≤ (r : ℚ) / d := by positivity
  refine ⟨fun _ => ⟨by linarith, by linarith⟩, fun hdir => ?_, fun hrm => ?_⟩
  · simp [hexact hdir]
  · have : (r : ℚ) / d ≤ 1 / 2 := (div_le_div_iff₀ hd two_pos).2 (by exact_mod_cast (by have := hhalf hrm; omega))
    exact abs_le.2 ⟨by linarith, by linarith⟩

end Quotient

theorem cast_div_two_pow (m n : ℕ) : (m : ℚ) / 2 ^ n = (m / 2 ^ n : ℕ) + (m % 2 ^ n : ℕ) / (2 ^ n : ℕ) := by
  have hm : (m : ℚ) = (2 ^ n : ℕ) * (m / 2 ^ n : ℕ) + (m % 2 ^ n : ℕ) := by
    exact_mod_cast (Nat.div_add_mod m (2 ^ n)).symm
  have hd : ((2 ^ n : ℕ) : ℚ) ≠ 0 := by positivity
  rw [eq_comm, ← mul_right_inj' hd, mul_add, mul_div_cancel₀ _ hd, ← hm]
  push_cast
  field_simp

/-- `roundShift` rounds `m / 2 ^ sh`, and says whether that changed the number (R187). -/
theorem roundShift_roundsTo (rm : RMode) (neg : Bool) (m : ℕ) (sh : ℤ) :
    RoundsTo rm neg (m / 2 ^ sh) (roundShift rm neg m sh).1 ∧
      ((roundShift rm neg m sh).2 = true ↔ ((roundShift rm neg m sh).1 : ℚ) ≠ m / 2 ^ sh) := by
  rcases le_or_gt sh 0 with hsh | hsh
  · obtain ⟨n, rfl⟩ := Int.exists_eq_neg_ofNat hsh
    have hval : ((m * 2 ^ n : ℕ) : ℚ) = m / 2 ^ (-n : ℤ) := by
      rw [zpow_neg, zpow_natCast, div_inv_eq_mul]
      push_cast
      rfl
    rw [roundShift_of_neg]
    exact ⟨.of_eq hval, by simp [hval]⟩
  · obtain ⟨n, rfl⟩ := Int.eq_ofNat_of_zero_le hsh.le
    have hr := Nat.mod_lt m (Nat.two_pow_pos n)
    rw [roundShift_of_pos rm neg m (by omega), zpow_natCast, cast_div_two_pow]
    cases haway : roundsAway rm neg (m / 2 ^ n) (m % 2 ^ n) (2 ^ n) with
    | true =>
      obtain ⟨hne, hlt, hround⟩ := roundsTo_of_roundsAway hr haway
      exact ⟨hround, iff_of_true (decide_eq_true hne) hlt.ne'⟩
    | false =>
      refine ⟨roundsTo_of_not_roundsAway hr haway, ?_⟩
      simp

/-! ### The patterns of a format in their order -/

variable {f : Fmt} {b t q : ℕ}

/-- The step between neighbouring patterns of binade `t`, the subnormals and the first normal binade being binade 0. -/
def binadeStep (f : Fmt) (t : ℕ) : ℚ := 2 ^ (1 - f.bias - f.mw + t)

theorem binadeStep_pos (f : Fmt) (t : ℕ) : 0 < binadeStep f t := by
  unfold binadeStep
  positivity

theorem binadeStep_succ (f : Fmt) (t : ℕ) : binadeStep f (t + 1) = 2 * binadeStep f t := by
  rw [binadeStep, binadeStep, ← zpow_one_add₀ two_ne_zero]
  congr 1
  push_cast
  ring

/-- The pattern of `q` steps in binade `t`. -/
def binadePattern (f : Fmt) (t q : ℕ) : ℕ := t * 2 ^ f.mw + q

theorem infBits_lt_signBit (f : Fmt) : f.infBits < f.signBit := by
  have h := Nat.two_pow_pos f.mw
  have h' := Nat.two_pow_pos f.ew
  rw [Fmt.infBits, Fmt.signBit, Nat.pow_add]
  exact Nat.mul_lt_mul_of_pos_right (by omega) h

theorem fields_of_lt (hb : b < f.signBit) : f.expOf b = b / 2 ^ f.mw ∧ f.fracOf b = b % 2 ^ f.mw := by
  refine ⟨Nat.mod_eq_of_lt ((Nat.div_lt_iff_lt_mul (Nat.two_pow_pos _)).2 ?_), rfl⟩
  rwa [← Nat.pow_add]

theorem magVal_subnormal (hb : b < f.infBits) (hsub : b < 2 ^ f.mw) : magVal f b = b * binadeStep f 0 := by
  obtain ⟨hexp, hfrac⟩ := fields_of_lt (hb.trans (infBits_lt_signBit f))
  rw [magVal, hexp, hfrac, Nat.div_eq_of_lt hsub, Nat.mod_eq_of_lt hsub, if_pos rfl, binadeStep, Nat.cast_zero, add_zero]

theorem magVal_normal {fr : ℕ} (hfr : fr < 2 ^ f.mw) (hb : (t + 1) * 2 ^ f.mw + fr < f.infBits) :
    magVal f ((t + 1) * 2 ^ f.mw + fr) = (2 ^ f.mw + fr : ℕ) * binadeStep f t := by
  obtain ⟨hexp, hfrac⟩ := fields_of_lt (hb.trans (infBits_lt_signBit f))
  have hdiv : ((t + 1) * 2 ^ f.mw + fr) / 2 ^ f.mw = t + 1 := by
    rw [mul_comm, Nat.mul_add_div (Nat.two_pow_pos _), Nat.div_eq_of_lt hfr, add_zero]
  have hmod : ((t + 1) * 2 ^ f.mw + fr) % 2 ^ f.mw = fr := by rw [mul_comm, Nat.mul_add_mod, Nat.mod_eq_of_lt hfr]
  rw [magVal, hexp, hfrac, hdiv, hmod, if_neg t.succ_ne_zero, binadeStep]
  congr 2
  push_cast
  ring

/-- A pattern of a binade stands for its number of steps; the last one is the first of the next binade. -/
theorem magVal_binadePattern (hlow : t = 0 ∨ 2 ^ f.mw ≤ q) (hhigh : q ≤ 2 ^ (f.mw + 1))
    (hfin : binadePattern f t q < f.infBits) :
    magVal f (binadePattern f t q) = q * binadeStep f t := by
  have hpos := Nat.two_pow_pos f.mw
  have hpow : 2 ^ (f.mw + 1) = 2 ^ f.mw + 2 ^ f.mw := by rw [pow_succ, mul_two]
  rcases Nat.lt_or_ge q (2 ^ f.mw) with hsub | hnormal
  · obtain rfl : t = 0 := hlow.resolve_right (by omega)
    rw [binadePattern, zero_mul, zero_add] at hfin ⊢
    exact magVal_subnormal hfin hsub
  · obtain ⟨fr, rfl⟩ := Nat.exists_eq_add_of_le hnormal
    obtain rfl | hfr := Nat.eq_or_lt_of_le (show fr ≤ 2 ^ f.mw by omega)
    · have heq : binadePattern f t (2 ^ f.mw + 2 ^ f.mw) = (t + 1 + 1) * 2 ^ f.mw + 0 := by
        rw [binadePattern]
        ring
      rw [heq] at hfin ⊢
      rw [magVal_normal hpos hfin, binadeStep_succ]
      push_cast
      ring
    · have heq : binadePattern f t (2 ^ f.mw + fr) = (t + 1) * 2 ^ f.mw + fr := by
        rw [binadePattern]
        ring
      rw [heq] at hfin ⊢
      exact magVal_normal hfr hfin

/-- Every pattern is one of a binade, and not its last. -/
theorem exists_binadePattern (f : Fmt) (b : ℕ) :
    ∃ t q, b = binadePattern f t q ∧ (t = 0 ∨ 2 ^ f.mw ≤ q) ∧ q < 2 ^ (f.mw + 1) := by
  have hmod := Nat.mod_lt b (Nat.two_pow_pos f.mw)
  have hdiv := Nat.div_add_mod b (2 ^ f.mw)
  have hpow : 2 ^ (f.mw + 1) = 2 ^ f.mw + 2 ^ f.mw := by rw [pow_succ, mul_two]
  cases hexp : b / 2 ^ f.mw with
  | zero => exact ⟨0, b % 2 ^ f.mw, by rw [binadePattern, ← hdiv, hexp]; simp, .inl rfl, by omega⟩
  | succ t =>
    refine ⟨t, 2 ^ f.mw + b % 2 ^ f.mw, ?_, .inr (Nat.le_add_right _ _), by omega⟩
    rw [binadePattern, ← Nat.add_assoc, ← Nat.succ_mul, mul_comm, Nat.succ_eq_add_one, ← hexp, hdiv]

theorem magVal_lt_succ (hb : b + 1 < f.infBits) : magVal f b < magVal f (b + 1) := by
  obtain ⟨t, q, rfl, hlow, hhigh⟩ := exists_binadePattern f b
  have hstep := binadeStep_pos f t
  rw [binadePattern, add_assoc, ← binadePattern] at hb ⊢
  rw [← binadePattern, magVal_binadePattern hlow hhigh.le (by rw [binadePattern] at hb ⊢; omega),
    magVal_binadePattern (hlow.imp_right (by omega)) hhigh hb]
  push_cast
  linarith

theorem magVal_strictMonoOn (f : Fmt) : StrictMonoOn (magVal f) (Set.Iio f.infBits) :=
  strictMonoOn_of_lt_add_one Set.ordConnected_Iio fun _ _ _ hb => magVal_lt_succ hb

/-! ### The pattern that is delivered -/

/-- The magnitude `x` lies in binade `t`, and rounds to `q` steps of it, whose pattern is finite. -/
structure RoundsIn (f : Fmt) (rm : RMode) (neg : Bool) (x : ℚ) (t q : ℕ) : Prop where
  round  : RoundsTo rm neg (x / binadeStep f t) q
  above  : t = 0 ∨ ((2 ^ f.mw : ℕ) : ℚ) ≤ x / binadeStep f t
  below  : x / binadeStep f t ≤ (2 ^ (f.mw + 1) : ℕ)
  finite : binadePattern f t q < f.infBits

namespace RoundsIn
variable {rm : RMode} {neg : Bool} {x : ℚ} (h : RoundsIn f rm neg x t q)
include h

theorem low : t = 0 ∨ 2 ^ f.mw ≤ q := h.above.imp_right h.round.le_of_le

theorem high : q ≤ 2 ^ (f.mw + 1) := h.round.ge_of_ge h.below

theorem magVal_eq : magVal f (binadePattern f t q) = q * binadeStep f t := magVal_binadePattern h.low h.high h.finite

theorem next_ge (hnext : binadePattern f t q + 1 < f.infBits) :
    (q + 1) * binadeStep f t ≤ magVal f (binadePattern f t q + 1) := by
  have hpos := Nat.two_pow_pos f.mw
  have hstep := binadeStep_pos f t
  have hpow : 2 ^ (f.mw + 1) = 2 ^ f.mw + 2 ^ f.mw := by rw [pow_succ, mul_two]
  rcases Nat.lt_or_ge q (2 ^ (f.mw + 1)) with hq | hq
  · rw [binadePattern, add_assoc, ← binadePattern] at hnext ⊢
    rw [magVal_binadePattern (h.low.imp_right (by omega)) hq hnext]
    push_cast
    exact le_rfl
  · obtain rfl := Nat.le_antisymm h.high hq
    have heq : binadePattern f t (2 ^ (f.mw + 1)) + 1 = binadePattern f (t + 1) (2 ^ f.mw + 1) := by
      rw [binadePattern, binadePattern]
      ring
    rw [heq] at hnext ⊢
    rw [magVal_binadePattern (.inr (Nat.le_succ _)) (by omega) hnext, binadeStep_succ]
    push_cast [pow_succ]
    linarith

/-- The pattern before is one step less; where it is nearer, the magnitude does not lie between the two. -/
theorem prev_eq_or (hpos : 0 < binadePattern f t q) :
    magVal f (binadePattern f t q - 1) = (q - 1) * binadeStep f t ∨ (q : ℚ) ≤ x / binadeStep f t := by
  have hhigh := h.high
  have hfin := h.finite
  by_cases hq : t = 0 ∨ 2 ^ f.mw < q
  · have hq1 : 1 ≤ q := by
      obtain rfl | hq := hq
      · rwa [binadePattern, zero_mul, zero_add] at hpos
      · omega
    obtain ⟨q, rfl⟩ := Nat.exists_eq_add_of_le' hq1
    rw [binadePattern, ← add_assoc, ← binadePattern] at hfin
    rw [binadePattern, ← add_assoc, ← binadePattern, Nat.add_sub_cancel,
      magVal_binadePattern (hq.imp_right (by omega)) (by omega) (by omega)]
    push_cast
    exact .inl (by ring)
  · obtain ⟨ht, hle⟩ := not_or.1 hq
    obtain rfl : q = 2 ^ f.mw := Nat.le_antisymm (by omega) (h.low.resolve_left ht)
    exact .inr (h.above.resolve_left ht)

theorem prev_lt (hpos : 0 < binadePattern f t q) : magVal f (binadePattern f t q - 1) < q * binadeStep f t := by
  have hfin := h.finite
  rw [← h.magVal_eq]
  exact magVal_strictMonoOn f (Set.mem_Iio.2 (by omega)) hfin (by omega)

theorem down (hdir : roundsDown rm neg = true) : magVal f (binadePattern f t q) ≤ x ∧
    (binadePattern f t q + 1 < f.infBits → x < magVal f (binadePattern f t q + 1)) := by
  obtain ⟨hle, hlt⟩ := h.round.down hdir
  have hstep := binadeStep_pos f t
  rw [h.magVal_eq]
  exact ⟨(le_div_iff₀ hstep).1 hle, fun hnext => ((div_lt_iff₀ hstep).1 hlt).trans_le (h.next_ge hnext)⟩

theorem up (hdir : roundsUp rm neg = true) : x ≤ magVal f (binadePattern f t q) ∧
    (0 < binadePattern f t q → magVal f (binadePattern f t q - 1) < x) := by
  obtain ⟨hle, hlt⟩ := h.round.up hdir
  have hstep := binadeStep_pos f t
  rw [h.magVal_eq]
  refine ⟨(div_le_iff₀ hstep).1 hle, fun hpos => ?_⟩
  obtain hprev | hexact := h.prev_eq_or hpos
  · rw [hprev]
    exact (lt_div_iff₀ hstep).1 (by linarith)
  · exact (h.prev_lt hpos).trans_le ((le_div_iff₀ hstep).1 hexact)

theorem nearest (hrm : rm = .rne) {b : ℕ} (hb : b < f.infBits) :
    |magVal f (binadePattern f t q) - x| ≤ |magVal f b - x| := by
  have hstep := binadeStep_pos f t
  have hmono := (magVal_strictMonoOn f).monotoneOn
  have hfin := h.finite
  obtain ⟨hlow, hhigh⟩ := abs_le.1 (h.round.nearest hrm)
  have hge : (q - 1 / 2) * binadeStep f t ≤ x := (le_div_iff₀ hstep).1 (by linarith)
  have hle : x ≤ (q + 1 / 2) * binadeStep f t := (div_le_iff₀ hstep).1 (by linarith)
  have hhalf : |q * binadeStep f t - x| ≤ binadeStep f t / 2 := abs_le.2 ⟨by linarith, by linarith⟩
  rw [h.magVal_eq]
  rcases lt_trichotomy b (binadePattern f t q) with hlt | rfl | hgt
  · have hprev : magVal f b ≤ magVal f (binadePattern f t q - 1) :=
      hmono hb (Set.mem_Iio.2 (by omega)) (Nat.le_sub_one_of_lt hlt)
    rw [abs_sub_comm (magVal f b)]
    obtain heq | hexact := h.prev_eq_or (Nat.zero_lt_of_lt hlt)
    · exact hhalf.trans (le_abs.2 (.inl (by linarith)))
    · have hqx : q * binadeStep f t ≤ x := (le_div_iff₀ hstep).1 hexact
      have := h.prev_lt (Nat.zero_lt_of_lt hlt)
      rw [abs_sub_comm, abs_of_nonneg (sub_nonneg.2 hqx)]
      exact le_abs.2 (.inl (by linarith))
  · rw [h.magVal_eq]
  · have hnext : magVal f (binadePattern f t q + 1) ≤ magVal f b := hmono (Set.mem_Iio.2 (by omega)) hb hgt
    have := h.next_ge (by omega)
    exact hhalf.trans (le_abs.2 (.inl (by linarith)))

end RoundsIn

/-! ### The branches of `roundFin` -/

section Deliver
variable {env : FEnv} {neg : Bool} {m : ℕ} {e : ℤ}

/-- The exact magnitude lies in the binade of its leading bit. -/
theorem log2_bounds (hm : m ≠ 0) (e : ℤ) :
    (2 : ℚ) ^ ((m.log2 : ℤ) + e) ≤ m * 2 ^ e ∧ (m : ℚ) * 2 ^ e < 2 ^ ((m.log2 : ℤ) + e + 1) := by
  have he : (0 : ℚ) < 2 ^ e := by positivity
  have hlow : ((2 ^ m.log2 : ℕ) : ℚ) ≤ m := by exact_mod_cast Nat.log2_self_le hm
  have hhigh : (m : ℚ) < (2 ^ (m.log2 + 1) : ℕ) := by exact_mod_cast Nat.lt_log2_self
  rw [zpow_add₀ two_ne_zero, add_right_comm, zpow_add₀ two_ne_zero]
  refine ⟨mul_le_mul_of_nonneg_right ?_ he.le, mul_lt_mul_of_pos_right ?_ he⟩
  · simpa using hlow
  · exact_mod_cast hhigh

/-- What a rounded result says of the exact magnitude: its pattern, and whether it is exact (R187, R189). -/
def DeliversRounded (f : Fmt) (env : FEnv) (neg : Bool) (x : ℚ) (r : FRes) : Prop :=
  ∃ t q, RoundsIn f env.rm neg x t q ∧ r.bits = f.signed neg (binadePattern f t q) ∧
    ((r.flags = flNX ∨ r.flags = flUF ||| flNX) ∧ q * binadeStep f t ≠ x ∨ r.flags = 0 ∧ q * binadeStep f t = x)

/-- The significand of the number's leading `mw + 1` bits, rounded with an unbounded exponent (R188). -/
def significand (f : Fmt) (env : FEnv) (neg : Bool) (m : ℕ) : ℕ × Bool := roundShift env.rm neg m (m.log2 - f.mw)

/-- The exponent of the leading bit after that rounding, which decides tininess and overflow (R188, R189). -/
def roundedExp (f : Fmt) (env : FEnv) (neg : Bool) (m : ℕ) (e : ℤ) : ℤ :=
  if (significand f env neg m).1 = 2 ^ (f.mw + 1) then m.log2 + e + 1 else m.log2 + e

theorem roundFin_of_tiny (hm : m ≠ 0) (hftz : env.ftz = false) (h : roundedExp f env neg m e < 1 - f.bias) :
    let q := roundShift env.rm neg m (1 - f.bias - f.mw - e)
    roundFin f env neg m e = ⟨f.signed neg q.1, if q.2 then flUF ||| flNX else 0⟩ := by
  rw [roundFin, if_neg hm]
  refine (if_pos h).trans ?_
  rw [hftz]
  rfl

theorem roundFin_of_overflow (hm : m ≠ 0) (h : 1 - f.bias ≤ roundedExp f env neg m e)
    (hover : f.bias < roundedExp f env neg m e) :
    roundFin f env neg m e = ⟨overflowBits f env.rm neg, flOF ||| flNX⟩ := by
  rw [roundFin, if_neg hm]
  exact (if_neg h.not_gt).trans (if_pos hover)

theorem roundFin_of_normal (hm : m ≠ 0) (h : 1 - f.bias ≤ roundedExp f env neg m e)
    (hfin : roundedExp f env neg m e ≤ f.bias) :
    roundFin f env neg m e = ⟨f.signed neg ((roundedExp f env neg m e + f.bias).toNat * 2 ^ f.mw +
        (if (significand f env neg m).1 = 2 ^ (f.mw + 1) then 0 else (significand f env neg m).1 - 2 ^ f.mw)),
      if (significand f env neg m).2 then flNX else 0⟩ := by
  rw [roundFin, if_neg hm]
  exact (if_neg h.not_gt).trans (if_neg hfin.not_gt)

theorem two_mul_bias (hew : 0 < f.ew) : 2 * f.bias + 2 = (2 ^ f.ew : ℕ) := by
  have hdouble := two_pow_eq_double hew
  have hpos := Nat.two_pow_pos (f.ew - 1)
  rw [Fmt.bias]
  omega

theorem binadePattern_finite {c : ℕ} (hq : q < 2 ^ f.mw * c) (hc : t + c ≤ 2 ^ f.ew - 1) :
    binadePattern f t q < f.infBits := by
  calc binadePattern f t q < t * 2 ^ f.mw + 2 ^ f.mw * c := Nat.add_lt_add_left hq _
    _ = (t + c) * 2 ^ f.mw := by ring
    _ ≤ f.infBits := Nat.mul_le_mul_right _ hc

theorem two_pow_mul_binadeStep (f : Fmt) (t n : ℕ) :
    ((2 ^ n : ℕ) : ℚ) * binadeStep f t = 2 ^ (n + (1 - f.bias - f.mw + t)) := by
  rw [binadeStep, zpow_add₀ two_ne_zero n, zpow_natCast, Nat.cast_pow, Nat.cast_ofNat]

/-- A magnitude lies above the power of two of its leading bit, and below the next one, counted in steps. -/
theorem above_of_log2 (hm : m ≠ 0) {n : ℕ} (h : n + (1 - f.bias - f.mw + t) ≤ m.log2 + e) :
    ((2 ^ n : ℕ) : ℚ) ≤ m * 2 ^ e / binadeStep f t := by
  rw [le_div_iff₀ (binadeStep_pos f t), two_pow_mul_binadeStep]
  exact (zpow_le_zpow_right₀ one_le_two h).trans (log2_bounds hm e).1

theorem below_of_log2 (hm : m ≠ 0) {n : ℕ} (h : m.log2 + e + 1 ≤ n + (1 - f.bias - f.mw + t)) :
    m * 2 ^ e / binadeStep f t ≤ (2 ^ n : ℕ) := by
  rw [div_le_iff₀ (binadeStep_pos f t), two_pow_mul_binadeStep]
  exact (log2_bounds hm e).2.le.trans (zpow_le_zpow_right₀ one_le_two h)

theorem div_binadeStep (f : Fmt) (t m : ℕ) (e : ℤ) :
    (m : ℚ) * 2 ^ e / binadeStep f t = m / 2 ^ (1 - f.bias - f.mw + t - e) := by
  rw [binadeStep, mul_div_assoc, ← zpow_sub₀ two_ne_zero, div_eq_mul_inv, ← zpow_neg, neg_sub]

/-- Rounding the significand at a step's place rounds the number to steps. -/
theorem roundShift_binadeStep (rm : RMode) {sh : ℤ} (hsh : sh = 1 - f.bias - f.mw + t - e) :
    RoundsTo rm neg (m * 2 ^ e / binadeStep f t) (roundShift rm neg m sh).1 ∧
      ((roundShift rm neg m sh).2 = true ↔ (roundShift rm neg m sh).1 * binadeStep f t ≠ m * 2 ^ e) := by
  obtain ⟨hround, hinexact⟩ := roundShift_roundsTo rm neg m sh
  rw [hsh, ← div_binadeStep, ← hsh] at hround hinexact
  exact ⟨hround, hinexact.trans (eq_div_iff (binadeStep_pos f t).ne').not⟩

/-- The flags of a rounded result: `fl` where it is inexact. -/
theorem deliversRounded_intro {x : ℚ} {r : FRes} {inexact : Bool} {fl : Flags7} (hin : RoundsIn f env.rm neg x t q)
    (hinexact : inexact = true ↔ q * binadeStep f t ≠ x) (hfl : fl = flNX ∨ fl = flUF ||| flNX)
    (hr : r = ⟨f.signed neg (binadePattern f t q), if inexact then fl else 0⟩) : DeliversRounded f env neg x r := by
  subst hr
  refine ⟨t, q, hin, rfl, ?_⟩
  cases inexact with
  | true => exact .inl ⟨hfl, hinexact.1 rfl⟩
  | false => exact .inr ⟨rfl, not_not.1 (mt hinexact.2 Bool.false_ne_true)⟩

theorem deliversRounded_of_tiny (hew : 1 < f.ew) (hftz : env.ftz = false) (hm : m ≠ 0)
    (h : roundedExp f env neg m e < 1 - f.bias) : DeliversRounded f env neg (m * 2 ^ e) (roundFin f env neg m e) := by
  have hexp : m.log2 + e + 1 ≤ f.mw + (1 - f.bias - f.mw + (0 : ℕ)) := by
    rw [roundedExp] at h
    split at h <;> omega
  have hfour : 4 ≤ 2 ^ f.ew := Nat.pow_le_pow_right (n := 2) two_pos hew
  have hpos := Nat.two_pow_pos f.mw
  obtain ⟨hround, hinexact⟩ := roundShift_binadeStep (f := f) (t := 0) (neg := neg) (m := m) env.rm
    (show 1 - f.bias - f.mw - e = 1 - f.bias - f.mw + (0 : ℕ) - e by simp)
  have hq := hround.ge_of_ge (below_of_log2 hm hexp)
  refine deliversRounded_intro ⟨hround, .inl rfl, below_of_log2 hm (by omega), ?_⟩ hinexact (.inr rfl) ?_
  · exact binadePattern_finite (c := 2) (by omega) (by omega)
  · rw [roundFin_of_tiny hm hftz h, binadePattern, zero_mul, zero_add]

/-- The exponent and fraction that a normal result is packed from give the pattern of its significand; a carry gives the next
exponent. -/
theorem packed_eq_binadePattern (hlog : m.log2 + e + f.bias = t + 1) (hlow : 2 ^ f.mw ≤ (significand f env neg m).1) :
    (roundedExp f env neg m e + f.bias).toNat * 2 ^ f.mw +
      (if (significand f env neg m).1 = 2 ^ (f.mw + 1) then 0 else (significand f env neg m).1 - 2 ^ f.mw) =
    binadePattern f t (significand f env neg m).1 := by
  rw [roundedExp, binadePattern]
  split
  next hcarry =>
    have hexp : (m.log2 + e + 1 + f.bias).toNat = t + 2 := by omega
    rw [hexp, hcarry]
    ring
  next =>
    have hexp : (m.log2 + e + f.bias).toNat = t + 1 := by omega
    rw [hexp, Nat.succ_mul]
    omega

/-- The significand's binade is that of the exact magnitude, unless it is carried out of the subnormals. -/
theorem deliversRounded_of_normal (hew : 0 < f.ew) (hm : m ≠ 0) (hlog : 1 - f.bias ≤ m.log2 + e)
    (hfin : roundedExp f env neg m e ≤ f.bias) : DeliversRounded f env neg (m * 2 ^ e) (roundFin f env neg m e) := by
  obtain ⟨t, ht⟩ := Int.eq_ofNat_of_zero_le (sub_nonneg.2 hlog)
  have hbias := two_mul_bias hew
  have hpos := Nat.two_pow_pos f.mw
  have hpow : 2 ^ (f.mw + 1) = 2 ^ f.mw * 2 := pow_succ 2 f.mw
  obtain ⟨hround, hinexact⟩ := roundShift_binadeStep (f := f) (t := t) (neg := neg) (m := m) env.rm
    (show (m.log2 : ℤ) - f.mw = 1 - f.bias - f.mw + t - e by omega)
  have habove : ((2 ^ f.mw : ℕ) : ℚ) ≤ m * 2 ^ e / binadeStep f t := above_of_log2 hm (by omega)
  have hbelow : m * 2 ^ e / binadeStep f t ≤ (2 ^ (f.mw + 1) : ℕ) := below_of_log2 hm (by omega)
  have hlow := hround.le_of_le habove
  have hhigh := hround.ge_of_ge hbelow
  rw [← significand] at hround hinexact hlow hhigh
  refine deliversRounded_intro ⟨hround, .inr habove, hbelow, ?_⟩ hinexact (.inl rfl) ?_
  · rw [roundedExp] at hfin
    split at hfin
    next => exact binadePattern_finite (c := 3) (by omega) (by omega)
    next => exact binadePattern_finite (c := 2) (by omega) (by omega)
  · have hexp : 1 - f.bias ≤ roundedExp f env neg m e := by
      rw [roundedExp]
      split <;> omega
    rw [roundFin_of_normal hm hexp hfin, packed_eq_binadePattern (t := t) (by omega) hlow]

/-- A subnormal magnitude whose significand carries to the smallest normal number rounds to that one in the subnormals' steps. -/
theorem deliversRounded_of_carry (hew : 1 < f.ew) (hm : m ≠ 0) (hlog : m.log2 + e < 1 - f.bias)
    (hexp : 1 - f.bias ≤ roundedExp f env neg m e) : DeliversRounded f env neg (m * 2 ^ e) (roundFin f env neg m e) := by
  have hcarry : (significand f env neg m).1 = 2 ^ (f.mw + 1) := by
    by_contra h
    rw [roundedExp, if_neg h] at hexp
    omega
  rw [roundedExp, if_pos hcarry] at hexp
  have hbias := two_mul_bias (zero_lt_one.trans hew)
  have hfour : 4 ≤ 2 ^ f.ew := Nat.pow_le_pow_right (n := 2) two_pos hew
  have hpos := Nat.two_pow_pos f.mw
  obtain ⟨hround, hinexact⟩ := roundShift_roundsTo env.rm neg m (m.log2 - f.mw)
  have hhalf : (m : ℚ) / 2 ^ ((m.log2 : ℤ) - f.mw) / 2 = m * 2 ^ e / binadeStep f 0 := by
    rw [div_binadeStep, div_div, ← zpow_add_one₀ two_ne_zero]
    congr 2
    omega
  rw [← significand, hcarry, pow_succ'] at hround hinexact
  have hround := hround.half
  rw [hhalf] at hround
  have hexact : ((2 * 2 ^ f.mw : ℕ) : ℚ) = m / 2 ^ ((m.log2 : ℤ) - f.mw) ↔
      ((2 ^ f.mw : ℕ) : ℚ) * binadeStep f 0 = m * 2 ^ e := by
    rw [← eq_div_iff (binadeStep_pos f 0).ne', ← hhalf, eq_div_iff two_ne_zero, Nat.cast_mul, mul_comm, Nat.cast_ofNat]
  refine deliversRounded_intro ⟨hround, .inl rfl, below_of_log2 hm (by omega), ?_⟩ (hinexact.trans hexact.not) (.inl rfl) ?_
  · exact binadePattern_finite (c := 2) (by omega) (by omega)
  · have hone : roundedExp f env neg m e + f.bias = 1 := by
      rw [roundedExp, if_pos hcarry]
      omega
    rw [roundFin_of_normal hm (by omega) (by omega), hone, if_pos hcarry, binadePattern]
    simp

theorem roundFin_delivers (hew : 1 < f.ew) (hftz : env.ftz = false) (hm : m ≠ 0) :
    DeliversRounded f env neg (m * 2 ^ e) (roundFin f env neg m e) ∨
      roundFin f env neg m e = ⟨overflowBits f env.rm neg, flOF ||| flNX⟩ := by
  rcases lt_or_ge (roundedExp f env neg m e) (1 - f.bias) with htiny | hexp
  · exact .inl (deliversRounded_of_tiny hew hftz hm htiny)
  rcases lt_or_ge f.bias (roundedExp f env neg m e) with hover | hfin
  · exact .inr (roundFin_of_overflow hm hexp hover)
  rcases lt_or_ge (m.log2 + e) (1 - f.bias) with hcarry | hlog
  · exact .inl (deliversRounded_of_carry hew hm hcarry hexp)
  · exact .inl (deliversRounded_of_normal (zero_lt_one.trans hew) hm hlog hfin)

end Deliver

/-! ### The sign and the magnitude of a delivered pattern -/

theorem isNeg_signed (neg : Bool) (hb : b < f.signBit) : f.isNeg (f.signed neg b) = neg := by
  have hpos := Nat.zero_lt_of_lt hb
  cases neg with
  | true => simp [Fmt.isNeg, Fmt.signed, Nat.add_div_left _ hpos, Nat.div_eq_of_lt hb]
  | false => simp [Fmt.isNeg, Fmt.signed, Nat.div_eq_of_lt hb]

theorem fAbs_signed (neg : Bool) (hb : b < f.signBit) : fAbs f (f.signed neg b) = b := by
  rw [fAbs, isNeg_signed neg hb]
  cases neg <;> simp [Fmt.signed]

/-- What an overflow delivers, by the directions in which the rounding goes (R188). -/
theorem overflowBits_eq (f : Fmt) (rm : RMode) (neg : Bool) : overflowBits f rm neg =
    f.signed neg (if rm = .rne ∨ roundsUp rm neg = true then f.infBits else f.maxBits) := by
  cases rm <;> cases neg <;> rfl

theorem overflowMag_lt (f : Fmt) (p : Prop) [Decidable p] : (if p then f.infBits else f.maxBits) < f.signBit := by
  have h := infBits_lt_signBit f
  split
  · exact h
  · exact (Nat.sub_le _ _).trans_lt h

/-- A rounded result raises no OF, NX where it is inexact, and UF with NX only (R189). -/
theorem rounded_flags {fl : Flags7} {exact : Prop} (h : (fl = flNX ∨ fl = flUF ||| flNX) ∧ ¬ exact ∨ fl = 0 ∧ exact) :
    fl &&& flOF = 0 ∧ (fl &&& flNX ≠ 0 ↔ ¬ exact) ∧ (fl &&& flUF ≠ 0 → fl = flUF ||| flNX) := by
  obtain ⟨rfl | rfl, hex⟩ | ⟨rfl, hex⟩ := h
  · exact ⟨by decide, iff_of_true (by decide) hex, fun h => absurd h (by decide)⟩
  · exact ⟨by decide, iff_of_true (by decide) hex, fun _ => rfl⟩
  · exact ⟨by decide, iff_of_false (by decide) (not_not_intro hex), fun h => absurd h (by decide)⟩

/-- Settles O27: a result without overflow is the exact magnitude rounded to the steps of its binade; a carry out of the
subnormals is the same rounding in the subnormals' steps. -/
theorem roundingIsCorrect : Obligations.RoundingIsCorrect := by
  intro f env neg m e hf hftz hm
  have hew : 1 < f.ew := by obtain rfl | rfl := hf <;> decide
  dsimp only
  obtain ⟨t, q, hin, hbits, hflags⟩ | hover := roundFin_delivers (neg := neg) (e := e) hew hftz hm
  · have hlt := hin.finite.trans (infBits_lt_signBit f)
    rw [← hin.magVal_eq] at hflags
    obtain ⟨hof, hnx, huf⟩ := rounded_flags hflags
    rw [hbits, isNeg_signed neg hlt, fAbs_signed neg hlt]
    exact ⟨fun _ => ⟨rfl, hin.finite, hin.down, hin.up, fun hrm b hb => hin.nearest hrm hb, hnx⟩,
      huf, fun h => absurd hof h⟩
  · have hlt := overflowMag_lt f (env.rm = .rne ∨ roundsUp env.rm neg = true)
    have hof : (flOF ||| flNX) &&& flOF ≠ 0 := by decide
    have huf : (flOF ||| flNX) &&& flUF = 0 := by decide
    rw [hover, overflowBits_eq, isNeg_signed neg hlt, fAbs_signed neg hlt]
    exact ⟨fun h => absurd h hof, fun h => absurd huf h, fun _ => ⟨rfl, rfl, rfl⟩⟩

end Sys2Proof.Safety
end

section
/-! NaN operands and invalid operations of f32 and f64: what DAZ and a change of sign leave of a NaN, the NaN that an operation
delivers, and the operands that make an operation invalid (R189, R190, R192). -/

namespace Sys2Proof.Safety
open Sys2Proof.Machine

variable {f : Fmt} {env : FEnv} {b l r c : ℕ}

/-! ### What a pattern stands for -/

theorem unpack_of_isNaN (h : f.isNaN b = true) : ∃ s, unpack f b = .nan s := by
  obtain ⟨hexp, hfrac⟩ := of_decide_eq_true h
  exact ⟨_, (if_pos hexp).trans (if_neg hfrac)⟩

theorem unpack_of_not_isNaN (h : f.isNaN b = false) : unpack f b = .inf (f.isNeg b) ∨
    ∃ m e, unpack f b = .fin (f.isNeg b) m e ∧ (m = 0 → f.expOf b = 0 ∧ f.fracOf b = 0) := by
  have hpos := Nat.two_pow_pos f.mw
  by_cases hexp : f.expOf b = 2 ^ f.ew - 1
  · have hfrac : f.fracOf b = 0 := by
      by_contra hfrac
      exact of_decide_eq_false h ⟨hexp, hfrac⟩
    exact .inl ((if_pos hexp).trans (if_pos hfrac))
  · refine .inr ?_
    by_cases hzero : f.expOf b = 0
    · exact ⟨_, _, (if_neg hexp).trans (if_pos hzero), fun hm => ⟨hzero, hm⟩⟩
    · exact ⟨_, _, (if_neg hexp).trans (if_neg hzero), fun hm => by omega⟩

theorem isSNaN_of_not_isNaN (h : f.isNaN b = false) : f.isSNaN b = false := by
  rw [Fmt.isSNaN, h, Bool.false_and]

/-! ### NaNs under DAZ and under a change of sign -/

theorem fields_add_signBit (f : Fmt) (b : ℕ) : f.expOf (b + f.signBit) = f.expOf b ∧ f.fracOf (b + f.signBit) = f.fracOf b := by
  rw [Fmt.signBit, pow_add, Fmt.expOf, Fmt.fracOf, Nat.add_mul_div_right _ _ (Nat.two_pow_pos _), Nat.add_mod_right,
    Nat.add_mul_mod_self_right]
  exact ⟨rfl, rfl⟩

theorem isNaN_add_signBit (f : Fmt) (b : ℕ) : f.isNaN (b + f.signBit) = f.isNaN b := by
  obtain ⟨hexp, hfrac⟩ := fields_add_signBit f b
  rw [Fmt.isNaN, hexp, hfrac, Fmt.isNaN]

theorem signBit_le_of_isNeg (h : f.isNeg b = true) : f.signBit ≤ b := by
  by_contra hlt
  have := of_decide_eq_true h
  rw [Nat.div_eq_of_lt (not_le.1 hlt)] at this
  omega

theorem isNaN_fNeg (f : Fmt) (b : ℕ) : f.isNaN (fNeg f b) = f.isNaN b := by
  rw [fNeg]
  split
  next hneg => rw [← isNaN_add_signBit, Nat.sub_add_cancel (signBit_le_of_isNeg hneg)]
  next => exact isNaN_add_signBit f b

theorem dazOp_eq_or (f : Fmt) (env : FEnv) (b : ℕ) :
    dazOp f env b = b ∨ f.isSub b = true ∧ dazOp f env b = f.signed (f.isNeg b) 0 := by
  rw [dazOp]
  split
  next h => exact .inr ⟨(Bool.and_eq_true_iff.1 h).2, rfl⟩
  next => exact .inl rfl

theorem isNeg_dazOp (f : Fmt) (env : FEnv) (b : ℕ) : f.isNeg (dazOp f env b) = f.isNeg b := by
  obtain h | ⟨-, h⟩ := dazOp_eq_or f env b
  · rw [h]
  · rw [h, isNeg_signed _ (Nat.two_pow_pos _)]

theorem isNaN_signed_zero (hew : 0 < f.ew) (neg : Bool) : f.isNaN (f.signed neg 0) = false := by
  have hexp : 2 ^ f.ew - 1 ≠ 0 := Nat.sub_ne_zero_of_lt (Nat.one_lt_two_pow hew.ne')
  have hzero : f.isNaN 0 = false := by simp [Fmt.isNaN, Fmt.expOf, Fmt.fracOf]
  cases neg with
  | true => exact (congrArg f.isNaN (Nat.add_comm _ _)).trans ((isNaN_add_signBit f 0).trans hzero)
  | false => exact hzero

theorem isNaN_dazOp_eq (hew : 0 < f.ew) (env : FEnv) (b : ℕ) : f.isNaN (dazOp f env b) = f.isNaN b := by
  cases h : f.isNaN b with
  | true => rw [dazOp_of_isNaN hew h, h]
  | false =>
    obtain heq | ⟨-, heq⟩ := dazOp_eq_or f env b
    · rw [heq, h]
    · rw [heq, isNaN_signed_zero hew]

theorem isSNaN_dazOp_eq (hew : 0 < f.ew) (env : FEnv) (b : ℕ) : f.isSNaN (dazOp f env b) = f.isSNaN b := by
  cases h : f.isNaN b with
  | true => rw [dazOp_of_isNaN hew h]
  | false => rw [isSNaN_of_not_isNaN h, isSNaN_of_not_isNaN ((isNaN_dazOp_eq hew env b).trans h)]

/-! ### The NaN that an operation delivers -/

theorem nanResult_map_dazOp (hew : 0 < f.ew) (env : FEnv) (ops : List ℕ) :
    nanResult f (ops.map (dazOp f env)) = nanResult f ops := by
  suffices h : (ops.map (dazOp f env)).find? (fun b => f.isNaN b) = ops.find? (fun b => f.isNaN b) by rw [nanResult, h, nanResult]
  induction ops with
  | nil => rfl
  | cons b ops ih =>
    cases h : f.isNaN b with
    | true => simp [dazOp_of_isNaN hew h, h]
    | false => simpa [isNaN_dazOp_eq hew, h] using ih

theorem snanFlag_map_dazOp (hew : 0 < f.ew) (env : FEnv) (ops : List ℕ) :
    snanFlag f (ops.map (dazOp f env)) = snanFlag f ops := by
  simp only [snanFlag, List.any_map, Function.comp_def, isSNaN_dazOp_eq hew]

theorem nanResult_pair (h : f.isNaN l = true ∨ f.isNaN r = true) : nanResult f [l, r] = f.quiet (if f.isNaN l then l else r) := by
  cases hl : f.isNaN l with
  | true => simp [nanResult, hl]
  | false => simp [nanResult, hl, h.resolve_left (by simp [hl])]

theorem nanResult_triple (h : f.isNaN l = true ∨ f.isNaN r = true ∨ f.isNaN c = true) :
    nanResult f [l, r, c] = f.quiet (if f.isNaN l then l else if f.isNaN r then r else c) := by
  cases hl : f.isNaN l with
  | true => simp [nanResult, hl]
  | false =>
    have hskip : nanResult f [l, r, c] = nanResult f [r, c] := by simp [nanResult, hl]
    exact hskip.trans (nanResult_pair (h.resolve_left (by simp [hl])))

theorem snanFlag_pair (f : Fmt) (l r : ℕ) : snanFlag f [l, r] = if f.isSNaN l || f.isSNaN r then flNV else 0 := by
  simp [snanFlag]

theorem snanFlag_triple (h : f.isSNaN l = true ∨ f.isSNaN r = true ∨ f.isSNaN c = true) : snanFlag f [l, r, c] = flNV := by
  simp [snanFlag, h]

section Nan
variable (hew : 0 < f.ew) (env : FEnv) (h : f.isNaN l = true ∨ f.isNaN r = true)
include hew h

/-- One of the two operands that an operation reads is a NaN. -/
theorem unpack_dazOp_of_nan : (∃ s, unpack f (dazOp f env l) = .nan s) ∨ ∃ s, unpack f (dazOp f env r) = .nan s :=
  h.imp (fun hl => unpack_of_isNaN ((isNaN_dazOp_eq hew env l).trans hl))
    (fun hr => unpack_of_isNaN ((isNaN_dazOp_eq hew env r).trans hr))

theorem nan_pair : (⟨nanResult f [dazOp f env l, dazOp f env r], snanFlag f [dazOp f env l, dazOp f env r]⟩ : FRes) =
    ⟨f.quiet (if f.isNaN l then l else r), if f.isSNaN l || f.isSNaN r then flNV else 0⟩ := by
  exact congrArg₂ FRes.mk ((nanResult_map_dazOp hew env [l, r]).trans (nanResult_pair h))
    ((snanFlag_map_dazOp hew env [l, r]).trans (snanFlag_pair f l r))

theorem fAdd_of_nan : fAdd f env l r =
    ⟨f.quiet (if f.isNaN l then l else r), if f.isSNaN l || f.isSNaN r then flNV else 0⟩ := by
  rw [← nan_pair hew env h]
  obtain ⟨s, hs⟩ | ⟨s, hs⟩ := unpack_dazOp_of_nan hew env h
  · simp only [fAdd, hs]
  · cases ha : unpack f (dazOp f env l) <;> simp only [fAdd, ha, hs]

theorem fMul_of_nan : fMul f env l r =
    ⟨f.quiet (if f.isNaN l then l else r), if f.isSNaN l || f.isSNaN r then flNV else 0⟩ := by
  rw [← nan_pair hew env h]
  obtain ⟨s, hs⟩ | ⟨s, hs⟩ := unpack_dazOp_of_nan hew env h
  · simp only [fMul, hs]
  · cases ha : unpack f (dazOp f env l) <;> simp only [fMul, ha, hs]

theorem fDiv_of_nan : fDiv f env l r =
    ⟨f.quiet (if f.isNaN l then l else r), if f.isSNaN l || f.isSNaN r then flNV else 0⟩ := by
  rw [← nan_pair hew env h]
  obtain ⟨s, hs⟩ | ⟨s, hs⟩ := unpack_dazOp_of_nan hew env h
  · simp only [fDiv, hs]
  · cases ha : unpack f (dazOp f env l) <;> simp only [fDiv, ha, hs]

/-- The change of R's sign in a subtraction makes no NaN and takes none away. -/
theorem fSub_of_nan : fSub f env l r =
    ⟨f.quiet (if f.isNaN l then l else r), if f.isSNaN l || f.isSNaN r then flNV else 0⟩ := by
  cases hr : f.isNaN r with
  | true => rw [fSub, if_pos hr, fAdd_of_nan hew env h]
  | false =>
    have hl := h.resolve_right (by simp [hr])
    have hneg := (isNaN_fNeg f r).trans hr
    rw [fSub, if_neg (by simp [hr]), fAdd_of_nan hew env (.inl hl), hl, isSNaN_of_not_isNaN hr, isSNaN_of_not_isNaN hneg]
    rfl

end Nan

theorem flNV_or_ite (p : Bool) : (flNV ||| if p then flNV else 0) = flNV := by
  cases p <;> decide

theorem fFused_of_nan (hew : 0 < f.ew) (env : FEnv) (negP negC : Bool)
    (h : f.isNaN l = true ∨ f.isNaN r = true ∨ f.isNaN c = true) :
    (fFused f env negP negC l r c).bits = f.quiet (if f.isNaN l then l else if f.isNaN r then r else c) ∧
      (f.isSNaN l = true ∨ f.isSNaN r = true ∨ f.isSNaN c = true → (fFused f env negP negC l r c).flags = flNV) := by
  have hany : (f.isNaN (dazOp f env l) || f.isNaN (dazOp f env r) || f.isNaN (dazOp f env c)) = true := by
    simpa [isNaN_dazOp_eq hew, or_assoc] using h
  rw [fFused, if_pos hany]
  refine ⟨(nanResult_map_dazOp hew env [l, r, c]).trans (nanResult_triple h), fun hs => ?_⟩
  have hflag := (snanFlag_map_dazOp hew env [l, r, c]).trans (snanFlag_triple hs)
  exact (congrArg (· ||| _) hflag).trans (flNV_or_ite _)

/-! ### Invalid operations without a NaN -/

/-- The patterns of zero and of the infinities are not subnormal, so DAZ leaves them, and they stand for what they are named. -/
theorem unpack_special (h : f = fmt32 ∨ f = fmt64) (env : FEnv) : (∃ e, unpack f (dazOp f env 0) = .fin false 0 e) ∧
    unpack f (dazOp f env f.infBits) = .inf false ∧ unpack f (dazOp f env (f.signBit + f.infBits)) = .inf true := by
  have hsub : f.isSub 0 = false ∧ f.isSub f.infBits = false ∧ f.isSub (f.signBit + f.infBits) = false := by
    obtain rfl | rfl := h <;> decide +kernel
  obtain ⟨hzero, hpos, hneg⟩ := hsub
  rw [dazOp_of_not_sub hzero, dazOp_of_not_sub hpos, dazOp_of_not_sub hneg]
  obtain rfl | rfl := h
  · exact ⟨⟨_, rfl⟩, by decide +kernel, by decide +kernel⟩
  · exact ⟨⟨_, rfl⟩, by decide +kernel, by decide +kernel⟩

/-- A negative pattern of value zero is −0. -/
theorem eq_signBit_of_fields (hneg : f.isNeg b = true) (hb : b < 2 ^ f.width) (h : f.expOf b = 0 ∧ f.fracOf b = 0) :
    b = f.signBit := by
  obtain ⟨d, rfl⟩ := Nat.exists_eq_add_of_le' (signBit_le_of_isNeg hneg)
  have hd : d < f.signBit := by
    have : 2 ^ f.width = 2 * f.signBit := by rw [Fmt.width, Fmt.signBit, add_assoc, pow_add, pow_one]
    omega
  obtain ⟨hexp, hfrac⟩ := fields_add_signBit f d
  obtain ⟨hdiv, hmod⟩ := fields_of_lt hd
  rw [hexp, hfrac, hdiv, hmod] at h
  obtain ⟨hdiv, hmod⟩ := h
  have hzero := Nat.div_add_mod d (2 ^ f.mw)
  rw [hdiv, hmod] at hzero
  simp [← hzero]

/-- The square root of a number below −0 is invalid. -/
theorem fSqrt_of_neg (hew : 0 < f.ew) (hl : l < 2 ^ f.width) (hnan : f.isNaN l = false) (hzero : dazOp f env l ≠ f.signBit)
    (hneg : f.isNeg l = true) : fSqrt f env l = ⟨f.dNaN, flNV⟩ := by
  have hneg' := (isNeg_dazOp f env l).trans hneg
  have hl' : dazOp f env l < 2 ^ f.width := by
    obtain heq | ⟨-, heq⟩ := dazOp_eq_or f env l
    · rwa [heq]
    · exact absurd (by rw [heq, hneg]; rfl) hzero
  obtain hinf | ⟨m, e, hfin, hm⟩ := unpack_of_not_isNaN ((isNaN_dazOp_eq hew env l).trans hnan)
  · simp only [fSqrt, hinf, hneg', if_true]
  · have hm0 : m ≠ 0 := fun h => hzero (eq_signBit_of_fields hneg' hl' (hm h))
    simp only [fSqrt, hfin, hneg', if_true, if_neg hm0]

/-- Settles O26: a NaN operand passes DAZ unchanged and decides the result; without one, the operands' classes do. -/
theorem nanOperandsGiveTheirPayload : Obligations.NanOperandsGiveTheirPayload := by
  intro f env l r c hf hl _ _
  have hew : 0 < f.ew := by obtain rfl | rfl := hf <;> decide
  obtain ⟨⟨e, hzero⟩, hpos, hneg⟩ := unpack_special hf env
  have hadd : fAdd f env f.infBits (f.signBit + f.infBits) = ⟨f.dNaN, flNV⟩ := by simp [fAdd, hpos, hneg]
  have hsub : f.isNaN f.infBits = false ∧ fNeg f f.infBits = f.signBit + f.infBits := by
    obtain rfl | rfl := hf <;> decide +kernel
  refine ⟨fun h g hg => ?_, fun h g hg => ?_, hadd, ?_, ?_, ?_, ?_, fSqrt_of_neg hew hl⟩
  · simp only [List.mem_cons, List.not_mem_nil, or_false] at hg
    obtain rfl | rfl | rfl | rfl := hg
    · exact fAdd_of_nan hew env h
    · exact fSub_of_nan hew env h
    · exact fMul_of_nan hew env h
    · exact fDiv_of_nan hew env h
  · simp only [List.mem_cons, List.not_mem_nil, or_false] at hg
    obtain rfl | rfl | rfl := hg
    · exact fFused_of_nan hew env false false h
    · exact fFused_of_nan hew env false true h
    · exact fFused_of_nan hew env true false h
  · rw [fSub, hsub.1, hsub.2]
    exact hadd
  · simp [fMul, hzero, hpos]
  · simp [fDiv, hzero]
  · simp [fDiv, hpos]

end Sys2Proof.Safety
end

section
/-! Control stores: the repair of a wrong microword, and the registers in which it and the retry that follows it count (R215,
R467). -/

namespace Sys2Proof.Safety
open Sys2Proof.Machine

variable {s : State} {t a n : Nat} {f : Firing} {j : RecJob} {b : UcsBad} {ok : Bool}

/-- The word of `b` has been rewritten by the recovery `j`, and its firing has not been retried yet (R215). -/
def rewritten (s : State) (t a : Nat) (j : RecJob) (b : UcsBad) (ok : Bool) : State :=
  (({ s with ucsBad := s.ucsBad.filter (fun x => decide (x ≠ b)) }.rsetBit (Reg.UCS_STATUS t) 4
    (s.rbit (Reg.UCS_CTRL t) 1)).endJob j).ucsRewrite t a ok

/-- A word whose stored parity is wrong is rewritten first, and then its firing is retried (R215). -/
theorem exec_ucsWordRepair_of_wrong (hj : s.curJob 3 t a = some j)
    (hb : s.ucsBad.find? (fun b => decide (b.tile = t ∧ b.addr = a)) = some b) (hwrong : parityBad (s.ucsWord t a) ≠ 0) :
    Sys2Proof.Machine.exec (.ucsWordRepair t a ok) s = .next ((rewritten s t a j b ok).retryChecked b.firing) := by
  simp only [exec_ucsWordRepair, execUcsWordRepair, hj, hb, if_neg hwrong, rewritten]

/-- A dispatched firing that is retried counts in the retry counter of its PE (R467). -/
theorem rget_retryChecked (hf : s.firing? n = some f) (hstage : f.stage = .dispatched) :
    (s.retryChecked n).rget (Reg.PEX_RETRY f.tile f.pe) = s.rget (Reg.PEX_RETRY f.tile f.pe) + 1 := by
  have hretry : s.retryChecked n = s.retryFiring f := by simp only [State.retryChecked, hf, if_pos hstage]
  rw [hretry, State.retryFiring, State.rinc_eq, State.rget_rset_same]
  rfl

/-- The retry counter of PE 224, a number that no tile has, lies at the address of the next tile's count of store errors: an
address is the sum of its block and its offset, and the model's PE numbers have no bound. -/
theorem pexRetry_eq_ucsPerr (t : Nat) : Reg.PEX_RETRY t 224 = Reg.UCS_PERR (t + 1) := by
  simp only [Reg.PEX_RETRY, Reg.UCS_PERR, csrAddr]
  omega

/-- A dispatched firing on PE 224 of tile 0. -/
def strayFiring : Firing :=
  { id := 1, tile := 0, pe := 224, tag := 0, inc := 0, wafer := 0, epoch := 0, word := 0, inL := none, inR := none, inC := none,
    stage := .dispatched, wait := .none, outs := [], stores := [], effects := [], raised := 0, nd := false, attempt := 0,
    reserved := 0, granted := none, fenceSeq := 0, since := 0 }

/-- The mark of word 0 of tile 1 as BAD, with that firing. -/
def strayBad : UcsBad := { tile := 1, addr := 0, pe := 224, firing := 1, path := false, scrub := false }

/-- The recovery of word 0 of tile 1. -/
def strayJob : RecJob := { mech := 3, cls := 1, src := srcTile 1 3, a := 1, b := 0, slots := [], time := 0, fid := none }

/-- The sequencer runs that recovery, and the stored word has wrong parity. -/
def strayRepair : State :=
  { State.reset with
    firings := [strayFiring], ucs := [(4096, 1)], ucsBad := [strayBad], recCur := some strayJob, recOpen := [strayJob] }

/-- The rewrite counts a store error of tile 1, and the retry counts in the same register. -/
theorem ucsPerr_strayRepair : ((rewritten strayRepair 1 0 strayJob strayBad true).retryChecked 1).rget (Reg.UCS_PERR 1) = 2 := by
  have hfound : (rewritten strayRepair 1 0 strayJob strayBad true).firing? 1 = some strayFiring := by decide +kernel
  have hrewrite : (rewritten strayRepair 1 0 strayJob strayBad true).rget (Reg.UCS_PERR 1) = 1 := by decide +kernel
  have hretry := rget_retryChecked hfound rfl
  rw [show Reg.PEX_RETRY strayFiring.tile strayFiring.pe = Reg.UCS_PERR 1 from pexRetry_eq_ucsPerr 0, hrewrite] at hretry
  exact hretry

/-- Refutes O39: the repair of a wrong word raises `UCS_PERR` by 2 where the firing that met the word stands on a PE whose retry
counter has the address of that register; the statement bounds neither the firing's tile nor its PE. -/
theorem not_controlStoreCommands : ¬ Obligations.ControlStoreCommands := by
  rintro ⟨-, -, -, -, hrepair, -⟩
  have hj : strayRepair.curJob 3 1 0 = some strayJob := by decide +kernel
  have hb : strayRepair.ucsBad.find? (fun b => decide (b.tile = 1 ∧ b.addr = 0)) = some strayBad := by decide +kernel
  have hwrong : parityBad (strayRepair.ucsWord 1 0) ≠ 0 := by decide +kernel
  have hmarks : ∀ m ∈ strayRepair.marks, m.kind ≠ 3 := by decide +kernel
  obtain ⟨u, hexec, -, -, -, hcount, -⟩ := hrepair strayRepair 1 0 strayJob strayBad (by decide) hj hb hwrong hmarks
  rw [exec_ucsWordRepair_of_wrong hj hb hwrong] at hexec
  obtain rfl := Host.Outcome.next.inj hexec
  have hbefore : strayRepair.rget (Reg.UCS_PERR 1) = 0 := by decide +kernel
  rw [show strayBad.firing = 1 from rfl, ucsPerr_strayRepair, hbefore] at hcount
  exact absurd hcount (by decide)

end Sys2Proof.Safety
end

section
/-! The columns of the D144 code: the field GF(16), whose sum is exclusive OR, the form in a column's last entry, and the
independence of any three columns (R246). -/

namespace Sys2Proof.Safety
open Sys2Proof.Machine

/-! ### GF(16) -/

theorem gfX_xor (a b : BitVec 4) : gfX (a ^^^ b) = gfX a ^^^ gfX b := by decide +revert

theorem gfMul_comm (a b : BitVec 4) : gfMul a b = gfMul b a := by decide +revert

@[simp] theorem zero_gfMul (a : BitVec 4) : gfMul 0 a = 0 := by decide +revert

@[simp] theorem gfMul_zero (a : BitVec 4) : gfMul a 0 = 0 := by rw [gfMul_comm, zero_gfMul]

@[simp] theorem gfMul_one (a : BitVec 4) : gfMul a 1 = a := by decide +revert

theorem gfMul_eq_zero {a b : BitVec 4} : gfMul a b = 0 → a = 0 ∨ b = 0 := by decide +revert

theorem gfMul_gfX (a b : BitVec 4) : gfMul a (gfX b) = gfX (gfMul a b) := by decide +revert

theorem xor_gfMul (a b c : BitVec 4) : gfMul (a ^^^ b) c = gfMul a c ^^^ gfMul b c := by
  have hterm : ∀ (p : Bool) (x y : BitVec 4), (if p then x ^^^ y else 0) = (if p then x else 0) ^^^ (if p then y else 0) := by
    intro p x y
    cases p <;> simp
  simp only [gfMul, gfX_xor, hterm]
  ac_rfl

theorem gfMul_xor (a b c : BitVec 4) : gfMul a (b ^^^ c) = gfMul a b ^^^ gfMul a c := by
  rw [gfMul_comm, xor_gfMul, gfMul_comm b, gfMul_comm c]

theorem gfMul_assoc (a b c : BitVec 4) : gfMul (gfMul a b) c = gfMul a (gfMul b c) := by
  rw [gfMul, gfMul.eq_1 b c]
  simp only [gfMul_xor, apply_ite (gfMul a), gfMul_gfX, gfMul_zero]

theorem gfMul_left_comm (a b c : BitVec 4) : gfMul a (gfMul b c) = gfMul b (gfMul a c) := by
  rw [← gfMul_assoc, gfMul_comm a b, gfMul_assoc]

/-- A factor that is not 0 cancels. -/
theorem gfMul_left_cancel {a b c : BitVec 4} (ha : a ≠ 0) (h : gfMul a b = gfMul a c) : b = c := by
  have hzero : gfMul a (b ^^^ c) = 0 := by
    rw [gfMul_xor, h]
    exact BitVec.xor_self
  exact BitVec.xor_eq_zero_iff.1 ((gfMul_eq_zero hzero).resolve_left ha)

/-! ### The form u² + uv + ωv² -/

/-- The last entry of a column (R246). -/
def gfForm (u v : BitVec 4) : BitVec 4 := gfMul u u ^^^ gfMul u v ^^^ gfMul 8 (gfMul v v)

/-- x² + x + ω has no root in GF(16), so the form is 0 at (0, 0) alone. -/
theorem gfForm_eq_zero {u v : BitVec 4} : gfForm u v = 0 → u = 0 ∧ v = 0 := by decide +revert

theorem gfForm_scale (c u v : BitVec 4) : gfForm (gfMul c u) (gfMul c v) = gfMul (gfMul c c) (gfForm u v) := by
  simp only [gfForm, gfMul_xor, gfMul_left_comm, gfMul_comm]

theorem gfMul_self_xor (a b : BitVec 4) : gfMul (a ^^^ b) (a ^^^ b) = gfMul a a ^^^ gfMul b b := by
  have hcross : gfMul (a ^^^ b) (a ^^^ b) = gfMul a b ^^^ (gfMul a b ^^^ (gfMul a a ^^^ gfMul b b)) := by
    rw [xor_gfMul, gfMul_xor, gfMul_xor, gfMul_comm b a]
    ac_rfl
  rw [hcross, ← BitVec.xor_assoc, BitVec.xor_self, BitVec.zero_xor]

/-- The form of a sum is the sum of the forms and of the polar form. -/
theorem gfForm_xor (u v p r : BitVec 4) :
    gfForm (u ^^^ p) (v ^^^ r) = gfForm u v ^^^ gfForm p r ^^^ (gfMul u r ^^^ gfMul p v) := by
  rw [gfForm, gfMul_self_xor, gfMul_self_xor v, gfForm, gfForm]
  simp only [gfMul_xor, xor_gfMul]
  ac_rfl

/-- Two directions that are proportional, and whose forms are so with the same factors: the factors are equal, or one
of them is 0. -/
theorem gfForm_of_proportional {a b p r p' r' : BitVec 4} (hp : gfMul a p = gfMul b p') (hr : gfMul a r = gfMul b r')
    (hform : gfMul a (gfForm p r) = gfMul b (gfForm p' r')) : gfMul (gfMul b (a ^^^ b)) (gfForm p' r') = 0 := by
  have hsquare : gfMul (gfMul b a) (gfForm p' r') = gfMul (gfMul b b) (gfForm p' r') :=
    calc gfMul (gfMul b a) (gfForm p' r')
        = gfMul a (gfMul b (gfForm p' r')) := by rw [gfMul_comm b a, gfMul_assoc]
      _ = gfMul (gfMul a a) (gfForm p r) := by rw [← hform, gfMul_assoc]
      _ = gfForm (gfMul b p') (gfMul b r') := by rw [← gfForm_scale, hp, hr]
      _ = gfMul (gfMul b b) (gfForm p' r') := gfForm_scale b p' r'
  rw [gfMul_xor, xor_gfMul, hsquare]
  exact BitVec.xor_self

/-- In a dependence of three columns the factors of two different points are not both other than 0. -/
theorem gfForm_of_dependent {a b c u v u' v' p r : BitVec 4} (hsum : a ^^^ b ^^^ c = 0)
    (hu : gfMul a u ^^^ gfMul b u' ^^^ gfMul c p = 0) (hv : gfMul a v ^^^ gfMul b v' ^^^ gfMul c r = 0)
    (hq : gfMul a (gfForm u v) ^^^ gfMul b (gfForm u' v') ^^^ gfMul c (gfForm p r) = 0) :
    gfMul (gfMul b c) (gfForm (u' ^^^ p) (v' ^^^ r)) = 0 := by
  obtain rfl : a ^^^ b = c := BitVec.xor_eq_zero_iff.1 hsum
  have hmove : ∀ x y z : BitVec 4, gfMul a x ^^^ gfMul b y ^^^ gfMul (a ^^^ b) z = 0 → gfMul a (x ^^^ z) = gfMul b (y ^^^ z) := by
    intro x y z h
    refine BitVec.xor_eq_zero_iff.1 (Eq.trans ?_ h)
    simp only [gfMul_xor, xor_gfMul]
    ac_rfl
  refine gfForm_of_proportional (hmove _ _ _ hu) (hmove _ _ _ hv) ?_
  have hpolar : gfMul a (gfMul u r ^^^ gfMul p v) ^^^ gfMul b (gfMul u' r ^^^ gfMul p v') = 0 := by
    calc gfMul a (gfMul u r ^^^ gfMul p v) ^^^ gfMul b (gfMul u' r ^^^ gfMul p v')
        = gfMul (gfMul a u ^^^ gfMul b u') r ^^^ gfMul p (gfMul a v ^^^ gfMul b v') := by
          simp only [gfMul_xor, xor_gfMul, gfMul_assoc, gfMul_left_comm p]
          ac_rfl
      _ = gfMul (gfMul (a ^^^ b) p) r ^^^ gfMul p (gfMul (a ^^^ b) r) := by
          rw [BitVec.xor_eq_zero_iff.1 hu, BitVec.xor_eq_zero_iff.1 hv]
      _ = 0 := by
          rw [gfMul_left_comm, gfMul_assoc]
          exact BitVec.xor_self
  refine BitVec.xor_eq_zero_iff.1 ?_
  calc gfMul a (gfForm (u ^^^ p) (v ^^^ r)) ^^^ gfMul b (gfForm (u' ^^^ p) (v' ^^^ r))
      = (gfMul a (gfForm u v) ^^^ gfMul b (gfForm u' v') ^^^ gfMul (a ^^^ b) (gfForm p r)) ^^^
        (gfMul a (gfMul u r ^^^ gfMul p v) ^^^ gfMul b (gfMul u' r ^^^ gfMul p v')) := by
        simp only [gfForm_xor, gfMul_xor a (_ ^^^ _), gfMul_xor b (_ ^^^ _), gfMul_xor _ (gfForm _ _), xor_gfMul]
        ac_rfl
    _ = 0 := by rw [hq, hpolar]; rfl

/-! ### Sums of columns -/

theorem sym4_add_assoc (x y z : Sym4) : (x.add y).add z = x.add (y.add z) := by
  simp only [Sym4.add, BitVec.xor_assoc]

theorem sym4_add_comm (x y : Sym4) : x.add y = y.add x := by
  simp only [Sym4.add, BitVec.xor_comm]

@[simp] theorem sym4_zero_add (x : Sym4) : Sym4.zero.add x = x := by simp [Sym4.add, Sym4.zero]

@[simp] theorem sym4_add_zero (x : Sym4) : x.add Sym4.zero = x := by rw [sym4_add_comm, sym4_zero_add]

@[simp] theorem sym4_add_self (x : Sym4) : x.add x = .zero := by simp [Sym4.add, Sym4.zero]

theorem sym4_eq_of_add_eq_zero {x y : Sym4} (h : x.add y = .zero) : x = y := by
  have := congrArg (Sym4.add · y) h
  simpa [sym4_add_assoc] using this

@[simp] theorem scale_zero (x : Sym4) : Sym4.scale 0 x = .zero := by simp only [Sym4.scale, zero_gfMul, Sym4.zero]

theorem scale_xor (a b : BitVec 4) (x : Sym4) : Sym4.scale (a ^^^ b) x = (Sym4.scale a x).add (Sym4.scale b x) := by
  simp only [Sym4.scale, Sym4.add, xor_gfMul]

/-- The place of column j among the points (u, v): 16 v + u (R246). -/
def d144Place (j : Nat) : Nat :=
  if j < 32 then (if j ≤ 13 then j + 2 else j + 3) else if j = 34 then 1 else if j = 35 then 16 else 0

def d144U (j : Nat) : BitVec 4 := BitVec.ofNat 4 (d144Place j % 16)

def d144V (j : Nat) : BitVec 4 := BitVec.ofNat 4 (d144Place j / 16)

@[simp] theorem d144Col_apex : d144Col 32 = ⟨0, 0, 0, 1⟩ := rfl

theorem d144Col_eq_quad : ∀ j < 36, j ≠ 32 → d144Col j = ⟨1, d144U j, d144V j, gfForm (d144U j) (d144V j)⟩ := by decide

/-- Different columns lie at different points. -/
theorem d144UV_inj : ∀ i < 36, ∀ j < 36, i ≠ 32 ∧ j ≠ 32 ∧ d144U i = d144U j ∧ d144V i = d144V j → i = j := by
  decide +kernel

theorem scale_apex (a : BitVec 4) : Sym4.scale a (d144Col 32) = ⟨0, 0, 0, a⟩ := by
  simp only [d144Col_apex, Sym4.scale, gfMul_zero, gfMul_one]

theorem scale_quad {j : Nat} (hj : j < 36) (hne : j ≠ 32) (a : BitVec 4) : Sym4.scale a (d144Col j) =
    ⟨a, gfMul a (d144U j), gfMul a (d144V j), gfMul a (gfForm (d144U j) (d144V j))⟩ := by
  simp only [d144Col_eq_quad j hj hne, Sym4.scale, gfMul_one]

/-- A factor under which two points coincide is 0. -/
theorem eq_zero_of_points {i j : Nat} {a : BitVec 4} (hi : i < 36) (hj : j < 36) (hi' : i ≠ 32) (hj' : j ≠ 32) (hne : i ≠ j)
    (hu : gfMul a (d144U i) = gfMul a (d144U j)) (hv : gfMul a (d144V i) = gfMul a (d144V j)) : a = 0 := by
  by_contra ha
  exact hne (d144UV_inj i hi j hj ⟨hi', hj', gfMul_left_cancel ha hu, gfMul_left_cancel ha hv⟩)

/-- No two columns are linearly dependent. -/
theorem columns_independent_pair {i j : Nat} {a b : BitVec 4} (hi : i < 36) (hj : j < 36) (hne : i ≠ j)
    (h : (Sym4.scale a (d144Col i)).add (Sym4.scale b (d144Col j)) = .zero) : a = 0 ∧ b = 0 := by
  have happex : ∀ {j a b}, j < 36 → j ≠ 32 → (Sym4.scale a (d144Col j)).add (Sym4.scale b (d144Col 32)) = .zero →
      a = 0 ∧ b = 0 := by
    intro j a b hj hj' h
    rw [scale_quad hj hj', scale_apex] at h
    simp only [Sym4.add, Sym4.zero, Sym4.mk.injEq] at h
    obtain ⟨h0, -, -, h3⟩ := h
    obtain rfl := BitVec.xor_eq_zero_iff.1 h0
    rw [zero_gfMul] at h3
    exact ⟨rfl, (BitVec.xor_eq_zero_iff.1 h3).symm⟩
  by_cases hj' : j = 32
  · subst hj'
    exact happex hi hne h
  by_cases hi' : i = 32
  · subst hi'
    rw [sym4_add_comm] at h
    exact (happex hj hj' h).symm
  rw [scale_quad hi hi', scale_quad hj hj'] at h
  simp only [Sym4.add, Sym4.zero, Sym4.mk.injEq] at h
  obtain ⟨h0, hu, hv, -⟩ := h
  obtain rfl := BitVec.xor_eq_zero_iff.1 h0
  have ha := eq_zero_of_points hi hj hi' hj' hne (BitVec.xor_eq_zero_iff.1 hu) (BitVec.xor_eq_zero_iff.1 hv)
  exact ⟨ha, ha⟩

/-- In a dependence of two points and the apex, column 32, the factor of a point is 0. -/
theorem factor_of_apex {i j : Nat} {a b c : BitVec 4} (hi : i < 36) (hj : j < 36) (hi' : i ≠ 32) (hj' : j ≠ 32) (hne : i ≠ j)
    (h : ((Sym4.scale a (d144Col i)).add (Sym4.scale b (d144Col j))).add (Sym4.scale c (d144Col 32)) = .zero) : a = 0 := by
  rw [scale_quad hi hi', scale_quad hj hj', scale_apex] at h
  simp only [Sym4.add, Sym4.zero, Sym4.mk.injEq, BitVec.ofNat_eq_ofNat, BitVec.xor_zero] at h
  obtain ⟨h0, hu, hv, -⟩ := h
  obtain rfl := BitVec.xor_eq_zero_iff.1 h0
  exact eq_zero_of_points hi hj hi' hj' hne (BitVec.xor_eq_zero_iff.1 hu) (BitVec.xor_eq_zero_iff.1 hv)

/-- In a dependence of three points one of the last two factors is 0: the form is 0 on no difference of two points. -/
theorem factor_of_points {i j k : Nat} {a b c : BitVec 4} (hi : i < 36) (hj : j < 36) (hk : k < 36) (hi' : i ≠ 32)
    (hj' : j ≠ 32) (hk' : k ≠ 32) (hjk : j ≠ k)
    (h : ((Sym4.scale a (d144Col i)).add (Sym4.scale b (d144Col j))).add (Sym4.scale c (d144Col k)) = .zero) :
    b = 0 ∨ c = 0 := by
  rw [scale_quad hi hi', scale_quad hj hj', scale_quad hk hk'] at h
  simp only [Sym4.add, Sym4.zero, Sym4.mk.injEq] at h
  obtain ⟨h0, hu, hv, hq⟩ := h
  obtain hbc | hform := gfMul_eq_zero (gfForm_of_dependent h0 hu hv hq)
  · exact gfMul_eq_zero hbc
  · obtain ⟨hu', hv'⟩ := gfForm_eq_zero hform
    exact absurd (d144UV_inj j hj k hk ⟨hj', hk', BitVec.xor_eq_zero_iff.1 hu', BitVec.xor_eq_zero_iff.1 hv'⟩) hjk

/-- No three columns are linearly dependent (R246). -/
theorem columns_independent {i j k : Nat} {a b c : BitVec 4} (hi : i < 36) (hj : j < 36) (hk : k < 36)
    (hij : i ≠ j) (hik : i ≠ k) (hjk : j ≠ k)
    (h : ((Sym4.scale a (d144Col i)).add (Sym4.scale b (d144Col j))).add (Sym4.scale c (d144Col k)) = .zero) :
    a = 0 ∧ b = 0 ∧ c = 0 := by
  have hfactor : a = 0 ∨ b = 0 ∨ c = 0 := by
    by_cases hk' : k = 32
    · subst hk'
      exact .inl (factor_of_apex hi hj hik hjk hij h)
    by_cases hj' : j = 32
    · subst hj'
      rw [sym4_add_assoc, sym4_add_comm (Sym4.scale b _), ← sym4_add_assoc] at h
      exact .inl (factor_of_apex hi hk hij hk' hik h)
    by_cases hi' : i = 32
    · subst hi'
      rw [sym4_add_assoc, sym4_add_comm] at h
      exact .inr (.inl (factor_of_apex hj hk hj' hk' hjk h))
    · exact .inr (factor_of_points hi hj hk hi' hj' hk' hjk h)
  obtain rfl | rfl | rfl := hfactor
  · rw [scale_zero, sym4_zero_add] at h
    exact ⟨rfl, columns_independent_pair hj hk hjk h⟩
  · rw [scale_zero, sym4_add_zero] at h
    obtain ⟨ha, hc⟩ := columns_independent_pair hi hk hik h
    exact ⟨ha, rfl, hc⟩
  · rw [scale_zero, sym4_add_zero] at h
    obtain ⟨ha, hb⟩ := columns_independent_pair hi hj hij h
    exact ⟨ha, hb, rfl⟩

/-- A column alone is not 0. -/
theorem factor_of_col {j : Nat} {a : BitVec 4} (hj : j < 36) (h : Sym4.scale a (d144Col j) = .zero) : a = 0 := by
  by_cases hj' : j = 32
  · subst hj'
    rw [scale_apex] at h
    exact congrArg Sym4.s3 h
  · rw [scale_quad hj hj'] at h
    exact congrArg Sym4.s0 h

/-- A multiple of a column determines the column and the factor. -/
theorem scale_col_inj {i j : Nat} {a b : BitVec 4} (hi : i < 36) (hj : j < 36) (ha : a ≠ 0)
    (h : Sym4.scale a (d144Col i) = Sym4.scale b (d144Col j)) : i = j ∧ a = b := by
  have hsum : (Sym4.scale a (d144Col i)).add (Sym4.scale b (d144Col j)) = .zero := by rw [h, sym4_add_self]
  obtain rfl : i = j := by
    by_contra hne
    exact ha (columns_independent_pair hi hj hne hsum).1
  rw [← scale_xor] at hsum
  exact ⟨rfl, BitVec.xor_eq_zero_iff.1 (factor_of_col hi hsum)⟩

end Sys2Proof.Safety
end

section
/-! The D144 code: the syndrome is linear, the encoder makes it vanish, and the decoder names the column of which it is a multiple
(R246, R247). -/

namespace Sys2Proof.Safety
open Sys2Proof.Machine

/-! ### Syndromes -/

/-- A codeword that holds m in symbol j and 0 in every other. -/
def symbolAt (j : Nat) (m : BitVec 4) : Codeword := m.setWidth 144 <<< (4 * j)

theorem d144Flip_eq (c : Codeword) (j : Nat) (m : BitVec 4) : d144Flip c j m = c ^^^ symbolAt j m := rfl

theorem d144Sym_xor (c e : Codeword) (j : Nat) : d144Sym (c ^^^ e) j = d144Sym c j ^^^ d144Sym e j := by
  unfold d144Sym
  exact BitVec.extractLsb'_xor

theorem d144Sym_symbolAt {i j : Nat} (hi : i < 36) (m : BitVec 4) : d144Sym (symbolAt j m) i = if i = j then m else 0 := by
  refine BitVec.eq_of_getLsbD_eq fun k hk => ?_
  simp only [d144Sym, symbolAt, BitVec.getLsbD_extractLsb', BitVec.getLsbD_shiftLeft, BitVec.getLsbD_setWidth]
  split
  · next heq =>
    subst heq
    have hlo : ¬ 4 * i + k < 4 * i := by omega
    have hhi : 4 * i + k < 144 := by omega
    have hbit : 4 * i + k - 4 * i = k := by omega
    simp [hlo, hhi, hbit, hk, show k < 144 by omega]
  · next hne =>
    by_cases hlo : 4 * i + k < 4 * j
    · simp [hlo]
    · simp [BitVec.getLsbD_of_ge m (4 * i + k - 4 * j) (by omega)]

theorem d144Sum_xor (c e : Codeword) (n : Nat) : d144Sum (c ^^^ e) n = (d144Sum c n).add (d144Sum e n) := by
  induction n with
  | zero => exact (sym4_add_self _).symm
  | succ n ih =>
    rw [d144Sum, d144Sum, d144Sum, ih, d144Sym_xor, scale_xor]
    simp only [sym4_add_assoc]
    rw [← sym4_add_assoc (d144Sum e n), sym4_add_comm (d144Sum e n), sym4_add_assoc]

theorem d144Sum_symbolAt {j : Nat} (m : BitVec 4) {n : Nat} (hn : n ≤ 36) :
    d144Sum (symbolAt j m) n = if j < n then Sym4.scale m (d144Col j) else .zero := by
  induction n with
  | zero => rfl
  | succ n ih =>
    rw [d144Sum, ih (by omega), d144Sym_symbolAt (by omega)]
    obtain hlt | rfl | hgt := Nat.lt_trichotomy j n
    · rw [if_pos hlt, if_neg (by omega), if_pos (by omega), scale_zero, sym4_add_zero]
    · rw [if_neg (by omega), if_pos rfl, if_pos (by omega), sym4_zero_add]
    · rw [if_neg (by omega), if_neg (by omega), if_neg (by omega), scale_zero, sym4_add_zero]

/-- A changed symbol adds its multiple of the column to the syndrome. -/
theorem d144Syn_flip (c : Codeword) {j : Nat} (hj : j < 36) (m : BitVec 4) :
    d144Syn (d144Flip c j m) = (d144Syn c).add (Sym4.scale m (d144Col j)) := by
  rw [d144Syn, d144Flip_eq, d144Sum_xor, d144Sum_symbolAt m le_rfl, if_pos hj, d144Syn]

theorem d144Sym_flip (c : Codeword) {i : Nat} (hi : i < 36) (j : Nat) (m : BitVec 4) :
    d144Sym (d144Flip c j m) i = if i = j then d144Sym c i ^^^ m else d144Sym c i := by
  rw [d144Flip_eq, d144Sym_xor, d144Sym_symbolAt hi]
  split
  · rfl
  · exact BitVec.xor_zero

@[simp] theorem d144Flip_flip (c : Codeword) (j : Nat) (m : BitVec 4) : d144Flip (d144Flip c j m) j m = c := by
  rw [d144Flip_eq, d144Flip_eq, BitVec.xor_assoc, BitVec.xor_self, BitVec.xor_zero]

/-! ### The encoder -/

/-- The word has nothing in symbol n and above. -/
def EndsBelow (c : Codeword) (n : Nat) : Prop := ∀ i, 4 * n ≤ i → c.getLsbD i = false

theorem EndsBelow.flip {c : Codeword} {n : Nat} (h : EndsBelow c n) (m : BitVec 4) : EndsBelow (d144Flip c n m) (n + 1) := by
  intro i hi
  rw [d144Flip_eq, BitVec.getLsbD_xor, h i (by omega), symbolAt, BitVec.getLsbD_shiftLeft, BitVec.getLsbD_setWidth,
    BitVec.getLsbD_of_ge m _ (by omega)]
  simp

/-- A symbol joined above the end of a word. -/
theorem EndsBelow.or_symbol {c : Codeword} {n : Nat} (h : EndsBelow c n) (m : BitVec 4) :
    c ||| (m.setWidth 144 <<< (4 * n)) = d144Flip c n m := by
  refine BitVec.eq_of_getLsbD_eq fun i _ => ?_
  rw [d144Flip, BitVec.getLsbD_or, BitVec.getLsbD_xor]
  by_cases hi : i < 4 * n
  · simp [BitVec.getLsbD_shiftLeft, hi]
  · rw [h i (by omega)]
    simp

theorem endsBelow_setWidth (d : BitVec 128) : EndsBelow (d.setWidth 144) 32 := by
  intro i hi
  rw [BitVec.getLsbD_setWidth, BitVec.getLsbD_of_ge d i (by omega), Bool.and_false]

/-- The sum over the data symbols, from which R246 forms the check symbols. -/
def dataSum (d : BitVec 128) : Sym4 := d144Sum (d.setWidth 144) 32

theorem d144Encode_eq_flips (d : BitVec 128) : d144Encode d =
    d144Flip (d144Flip (d144Flip (d144Flip (d.setWidth 144)
      32 ((dataSum d).s3 ^^^ (dataSum d).s1 ^^^ gfMul 8 (dataSum d).s2))
      33 ((dataSum d).s0 ^^^ (dataSum d).s1 ^^^ (dataSum d).s2)) 34 (dataSum d).s1) 35 (dataSum d).s2 := by
  have h := endsBelow_setWidth d
  rw [← (((h.flip _).flip _).flip _).or_symbol, ← ((h.flip _).flip _).or_symbol, ← (h.flip _).or_symbol, ← h.or_symbol]
  rfl

theorem d144Sym_data (d : BitVec 128) (j : Nat) : d144Sym (d.setWidth 144) j = BitVec.extractLsb' (4 * j) 4 d := by
  refine BitVec.eq_of_getLsbD_eq fun i hi => ?_
  simp only [d144Sym, BitVec.getLsbD_extractLsb', BitVec.getLsbD_setWidth, hi, decide_true, Bool.true_and]
  by_cases h : 4 * j + i < 144
  · simp [h]
  · simp [BitVec.getLsbD_of_ge d (4 * j + i) (by omega)]

theorem d144Sym_data_of_check (d : BitVec 128) {j : Nat} (hj : 32 ≤ j) : d144Sym (d.setWidth 144) j = 0 := by
  refine BitVec.eq_of_getLsbD_eq fun i hi => ?_
  rw [d144Sym_data, BitVec.getLsbD_extractLsb', BitVec.getLsbD_of_ge d _ (by omega)]
  simp

theorem d144Sum_data (d : BitVec 128) (n : Nat) : d144Sum (d.setWidth 144) (32 + n) = dataSum d := by
  induction n with
  | zero => rfl
  | succ n ih => rw [← Nat.add_assoc, d144Sum, ih, d144Sym_data_of_check d (by omega), scale_zero, sym4_add_zero]

/-- The check symbols are chosen so that the syndrome vanishes (R246). -/
theorem d144Syn_encode (d : BitVec 128) : d144Syn (d144Encode d) = .zero := by
  rw [d144Encode_eq_flips, d144Syn_flip _ (by decide), d144Syn_flip _ (by decide), d144Syn_flip _ (by decide),
    d144Syn_flip _ (by decide), d144Syn, d144Sum_data d 4]
  generalize dataSum d = x
  have h33 : d144Col 33 = ⟨1, 0, 0, 0⟩ := by decide
  have h34 : d144Col 34 = ⟨1, 1, 0, 1⟩ := by decide
  have h35 : d144Col 35 = ⟨1, 0, 1, 8⟩ := by decide
  simp only [h33, h34, h35, d144Col_apex, Sym4.scale, Sym4.add, Sym4.zero, Sym4.mk.injEq, gfMul_one, gfMul_zero,
    gfMul_comm x.s2 8]
  have hleft : ∀ a b c : BitVec 4, a ^^^ (b ^^^ c) = b ^^^ (a ^^^ c) := by
    intro a b c
    ac_rfl
  simp [BitVec.xor_assoc, hleft]

theorem d144Data_encode (d : BitVec 128) : d144Data (d144Encode d) = d := by
  have hflip : ∀ (c : Codeword) (j : Nat) (m : BitVec 4), 32 ≤ j → d144Data (d144Flip c j m) = d144Data c := by
    intro c j m hj
    refine BitVec.eq_of_getLsbD_eq fun i hi => ?_
    have hlo : i < 4 * j := by omega
    simp [d144Data, d144Flip, BitVec.getLsbD_shiftLeft, hlo]
  rw [d144Encode_eq_flips, hflip _ _ _ (by decide), hflip _ _ _ (by decide), hflip _ _ _ (by decide),
    hflip _ _ _ (by decide)]
  refine BitVec.eq_of_getLsbD_eq fun i hi => ?_
  simp [d144Data, hi]

/-! ### The decoder -/

/-- The search finds a symbol whose column S0 × h_j is S. -/
theorem scale_of_d144Find {x : Sym4} {n j : Nat} (h : d144Find x n = some j) : j < n ∧ Sym4.scale x.s0 (d144Col j) = x := by
  induction n with
  | zero => cases h
  | succ n ih =>
    rw [d144Find] at h
    split at h
    · next i hi =>
      obtain rfl := Option.some.inj h
      obtain ⟨hlt, hcol⟩ := ih hi
      exact ⟨by omega, hcol⟩
    · split at h
      · next hcol =>
        obtain rfl := Option.some.inj h
        exact ⟨by omega, hcol⟩
      · cases h

/-- It finds one where there is one. -/
theorem d144Find_ne_none {x : Sym4} {n j : Nat} (hj : j < n) (h : Sym4.scale x.s0 (d144Col j) = x) : d144Find x n ≠ none := by
  induction n with
  | zero => omega
  | succ n ih =>
    rw [d144Find]
    split
    · simp
    · next hnone =>
      obtain rfl : j = n := by
        by_contra hne
        exact ih (by omega) hnone
      rw [if_pos h]
      simp

theorem d144Check_of_zero {c : Codeword} (h : d144Syn c = .zero) : d144Check c = .clean := if_pos h

theorem ne_zero_of_s0 {x : Sym4} (h : x.s0 ≠ 0) : x ≠ .zero := by
  rintro rfl
  exact h rfl

theorem d144Check_of_find {c : Codeword} {j : Nat} (h : (d144Syn c).s0 ≠ 0) (hj : d144Find (d144Syn c) 36 = some j) :
    d144Check c = .corrected j (d144Syn c).s0 := by
  rw [d144Check, if_neg (ne_zero_of_s0 h), if_pos h, hj]

theorem d144Check_of_find_none {c : Codeword} (h : (d144Syn c).s0 ≠ 0) (hn : d144Find (d144Syn c) 36 = none) :
    d144Check c = .uncorrectable := by
  rw [d144Check, if_neg (ne_zero_of_s0 h), if_pos h, hn]

/-- The decoder names the column of which the syndrome is S0 times. -/
theorem d144Check_of_scale {c : Codeword} {j : Nat} (hj : j < 36) (h : (d144Syn c).s0 ≠ 0)
    (hcol : Sym4.scale (d144Syn c).s0 (d144Col j) = d144Syn c) : d144Check c = .corrected j (d144Syn c).s0 := by
  obtain ⟨i, hi⟩ := Option.ne_none_iff_exists'.1 (d144Find_ne_none hj hcol)
  obtain ⟨hlt, hi'⟩ := scale_of_d144Find hi
  rw [d144Check_of_find h hi, (scale_col_inj hlt hj h (hi'.trans hcol.symm)).1]

theorem d144Check_of_no_scale {c : Codeword} (h : (d144Syn c).s0 ≠ 0)
    (hcol : ∀ j < 36, Sym4.scale (d144Syn c).s0 (d144Col j) ≠ d144Syn c) : d144Check c = .uncorrectable := by
  refine d144Check_of_find_none h (Option.eq_none_iff_forall_ne_some.2 fun i hi => ?_)
  obtain ⟨hlt, hi'⟩ := scale_of_d144Find hi
  exact hcol i hlt hi'

theorem sym4_eq_apex {x : Sym4} (h0 : x.s0 = 0) (h1 : x.s1 = 0) (h2 : x.s2 = 0) : x = ⟨0, 0, 0, x.s3⟩ := by
  obtain ⟨x0, x1, x2, x3⟩ := x
  obtain rfl : x0 = 0 := h0
  obtain rfl : x1 = 0 := h1
  obtain rfl : x2 = 0 := h2
  rfl

/-- The decoder names symbol 32 where S3 alone is not 0. -/
theorem d144Check_of_apex {c : Codeword} (h : d144Syn c ≠ .zero) (h0 : (d144Syn c).s0 = 0) (h1 : (d144Syn c).s1 = 0)
    (h2 : (d144Syn c).s2 = 0) : d144Check c = .corrected 32 (d144Syn c).s3 := by
  rw [d144Check, if_neg h, if_neg (not_not.2 h0), if_pos ⟨h1, h2⟩]

theorem d144Check_of_no_apex {c : Codeword} (h0 : (d144Syn c).s0 = 0) (h12 : (d144Syn c).s1 ≠ 0 ∨ (d144Syn c).s2 ≠ 0) :
    d144Check c = .uncorrectable := by
  have hne : d144Syn c ≠ .zero := by
    intro h
    rw [h] at h12
    exact h12.elim (· rfl) (· rfl)
  rw [d144Check, if_neg hne, if_neg (not_not.2 h0), if_neg (fun h => h12.elim (· h.1) (· h.2))]

/-- A multiple of one column, as the syndrome of an error in that symbol is, is corrected there. -/
theorem d144Check_of_col {c : Codeword} {j : Nat} {m : BitVec 4} (hj : j < 36) (hm : m ≠ 0)
    (h : d144Syn c = Sym4.scale m (d144Col j)) : d144Check c = .corrected j m := by
  by_cases hj' : j = 32
  · subst hj'
    rw [scale_apex] at h
    have hne : d144Syn c ≠ .zero := fun hz => hm (congrArg Sym4.s3 (h.symm.trans hz))
    rw [d144Check_of_apex hne (congrArg Sym4.s0 h) (congrArg Sym4.s1 h) (congrArg Sym4.s2 h), h]
  · have hs0 : (d144Syn c).s0 = m := by rw [h, scale_quad hj hj']
    rw [d144Check_of_scale hj (by rwa [hs0]) (by rw [hs0, h]), hs0]

/-- What a verdict says of the syndrome. -/
theorem d144Check_cases (c : Codeword) : (d144Check c = .clean ∧ d144Syn c = .zero) ∨
    (∃ j m, d144Check c = .corrected j m ∧ j < 36 ∧ d144Syn c = Sym4.scale m (d144Col j)) ∨ d144Check c = .uncorrectable := by
  by_cases h : d144Syn c = .zero
  · exact .inl ⟨d144Check_of_zero h, h⟩
  refine .inr ?_
  by_cases h0 : (d144Syn c).s0 = 0
  · by_cases h12 : (d144Syn c).s1 = 0 ∧ (d144Syn c).s2 = 0
    · obtain ⟨h1, h2⟩ := h12
      exact .inl ⟨32, _, d144Check_of_apex h h0 h1 h2, by decide, (sym4_eq_apex h0 h1 h2).trans (scale_apex _).symm⟩
    · exact .inr (d144Check_of_no_apex h0 (by tauto))
  · by_cases hcol : ∃ j < 36, Sym4.scale (d144Syn c).s0 (d144Col j) = d144Syn c
    · obtain ⟨j, hj, hcol⟩ := hcol
      exact .inl ⟨j, _, d144Check_of_scale hj h0 hcol, hj, hcol.symm⟩
    · exact .inr (d144Check_of_no_scale h0 (by simpa using hcol))

/-- A single error in a codeword is named (R247). -/
theorem d144Check_flip_encode (d : BitVec 128) {j : Nat} {m : BitVec 4} (hj : j < 36) (hm : m ≠ 0) :
    d144Check (d144Flip (d144Encode d) j m) = .corrected j m :=
  d144Check_of_col hj hm (by rw [d144Syn_flip _ hj, d144Syn_encode, sym4_zero_add])

theorem d144Correct_of_corrected {c : Codeword} {j : Nat} {m : BitVec 4} (h : d144Check c = .corrected j m) :
    d144Correct c = d144Flip c j m := by
  rw [d144Correct, h]

theorem d144Correct_flip_encode (d : BitVec 128) {j : Nat} {m : BitVec 4} (hj : j < 36) (hm : m ≠ 0) :
    d144Correct (d144Flip (d144Encode d) j m) = d144Encode d := by
  rw [d144Correct_of_corrected (d144Check_flip_encode d hj hm), d144Flip_flip]

/-- Two errors: no column is dependent on two others, so the decoder finds none (R246). -/
theorem d144Check_flip_flip_encode (d : BitVec 128) {j k : Nat} {m n : BitVec 4} (hj : j < 36) (hk : k < 36) (hne : j ≠ k)
    (hm : m ≠ 0) (hn : n ≠ 0) : d144Check (d144Flip (d144Flip (d144Encode d) j m) k n) = .uncorrectable := by
  have hsyn : d144Syn (d144Flip (d144Flip (d144Encode d) j m) k n) =
      (Sym4.scale m (d144Col j)).add (Sym4.scale n (d144Col k)) := by
    rw [d144Syn_flip _ hk, d144Syn_flip _ hj, d144Syn_encode, sym4_zero_add]
  obtain ⟨-, hzero⟩ | ⟨i, e, -, hi, hcol⟩ | hun := d144Check_cases (d144Flip (d144Flip (d144Encode d) j m) k n)
  · exact absurd (columns_independent_pair hj hk hne (hsyn.symm.trans hzero)).1 hm
  · have hdep : ((Sym4.scale m (d144Col j)).add (Sym4.scale n (d144Col k))).add (Sym4.scale e (d144Col i)) = .zero := by
      rw [← hsyn, hcol, sym4_add_self]
    by_cases hij : i = j
    · subst hij
      rw [sym4_add_assoc, sym4_add_comm, sym4_add_assoc, ← scale_xor] at hdep
      exact absurd (columns_independent_pair hk hi (Ne.symm hne) hdep).1 hn
    · by_cases hik : i = k
      · subst hik
        rw [sym4_add_assoc, ← scale_xor] at hdep
        exact absurd (columns_independent_pair hj hi hne hdep).1 hm
      · exact absurd (columns_independent hj hk hi hne (Ne.symm hij) (Ne.symm hik) hdep).1 hm
  · exact hun

/-! ### Syndromes in records -/

theorem d144Syn_eq_foldl (c : Codeword) : d144Syn c =
    (List.range 36).foldl (fun x j => x.add (Sym4.scale (d144Sym c j) (d144Col j))) .zero := by
  have hsum : ∀ n, d144Sum c n = (List.range n).foldl (fun x j => x.add (Sym4.scale (d144Sym c j) (d144Col j))) .zero := by
    intro n
    induction n with
    | zero => rfl
    | succ n ih => rw [d144Sum, List.range_succ, List.foldl_append, ← ih, List.foldl_cons, List.foldl_nil]
  exact hsum 36

theorem sym4_toNat_fields (x : Sym4) : natField x.toNat 3 0 = x.s0.toNat ∧ natField x.toNat 7 4 = x.s1.toNat ∧
    natField x.toNat 11 8 = x.s2.toNat ∧ natField x.toNat 15 12 = x.s3.toNat := by
  have h0 := x.s0.isLt
  have h1 := x.s1.isLt
  have h2 := x.s2.isLt
  have h3 := x.s3.isLt
  simp only [natField, Sym4.toNat, Nat.shiftRight_eq_div_pow]
  omega

theorem sym4_toNat_lt (x : Sym4) : x.toNat < 2 ^ 16 := by
  have h0 := x.s0.isLt
  have h1 := x.s1.isLt
  have h2 := x.s2.isLt
  have h3 := x.s3.isLt
  rw [Sym4.toNat]
  omega

theorem eccDetail_fields {c : Codeword} {j : Nat} {m : BitVec 4} (h : d144Check c = .corrected j m) :
    natField (eccDetail c) 15 0 = (d144Syn c).toNat ∧ natField (eccDetail c) 21 16 = j ∧ natField (eccDetail c) 25 22 = m.toNat := by
  have hj : j < 36 := by
    obtain ⟨hclean, -⟩ | ⟨i, e, hcor, hi, -⟩ | hun := d144Check_cases c
    · cases hclean.symm.trans h
    · cases hcor.symm.trans h
      exact hi
    · cases hun.symm.trans h
  have hsyn := sym4_toNat_lt (d144Syn c)
  have hm := m.isLt
  rw [eccDetail, h]
  simp only [natField, Nat.shiftRight_eq_div_pow]
  omega

/-- Settles O7: the syndrome is linear and 0 on codewords, so a single error leaves its multiple of one column, which no other
column has; the verdicts are the branches of the decoder. -/
theorem singleSymbolErrorsAreCorrected : Obligations.SingleSymbolErrorsAreCorrected := by
  refine ⟨fun d => ⟨d144Syn_encode d, d144Data_encode d, d144Check_of_zero (d144Syn_encode d)⟩,
    fun d j m hj hm => ⟨d144Check_flip_encode d hj hm, d144Correct_flip_encode d hj hm⟩, d144Syn_eq_foldl, sym4_toNat_fields,
    fun c j m h => ?_, fun c => d144Check_of_zero, fun c j hj => d144Check_of_scale hj, fun c => d144Check_of_apex,
    fun c => d144Check_of_no_apex, fun c => d144Check_of_no_scale⟩
  obtain ⟨hsyn, hsym, hmag⟩ := eccDetail_fields h
  exact ⟨hsyn, hsym, hmag, d144Correct_of_corrected h⟩

theorem d144UV_values : ∀ j < 36, (j < 32 → (d144U j).toNat = (if j ≤ 13 then j + 2 else j + 3) % 16 ∧
    (d144V j).toNat = (if j ≤ 13 then j + 2 else j + 3) / 16) ∧ (j = 33 → d144U j = 0 ∧ d144V j = 0) ∧
    (j = 34 → d144U j = 1 ∧ d144V j = 0) ∧ (j = 35 → d144U j = 0 ∧ d144V j = 1) := by decide

/-- The check symbols of a codeword. -/
theorem d144Sym_encode_check (d : BitVec 128) : d144Sym (d144Encode d) 34 = (dataSum d).s1 ∧
    d144Sym (d144Encode d) 35 = (dataSum d).s2 ∧
    d144Sym (d144Encode d) 33 = (dataSum d).s0 ^^^ (dataSum d).s1 ^^^ (dataSum d).s2 ∧
    d144Sym (d144Encode d) 32 = (dataSum d).s3 ^^^ (dataSum d).s1 ^^^ gfMul 8 (dataSum d).s2 := by
  rw [d144Encode_eq_flips]
  simp [d144Sym_flip, d144Sym_data_of_check]

theorem d144Sym_encode_data (d : BitVec 128) {j : Nat} (hj : j < 32) :
    d144Sym (d144Encode d) j = BitVec.extractLsb' (4 * j) 4 d := by
  have hlt : j < 36 := by omega
  rw [d144Encode_eq_flips, d144Sym_flip _ hlt, if_neg (by omega), d144Sym_flip _ hlt, if_neg (by omega),
    d144Sym_flip _ hlt, if_neg (by omega), d144Sym_flip _ hlt, if_neg (by omega), d144Sym_data]

/-- Settles O8: no three columns are dependent, so two errors leave neither 0 nor a multiple of one column. -/
theorem doubleSymbolErrorsAreDetected : Obligations.DoubleSymbolErrorsAreDetected := by
  refine ⟨fun d j => d144Sym_encode_data d, d144Sym_encode_check,
    fun j hj hne => ⟨d144U j, d144V j, d144Col_eq_quad j hj hne, d144UV_values j hj⟩, d144Col_apex, by decide,
    d144Syn_encode 0, fun i j k a b c hij hjk hk => ?_, fun d j k m n hj hk => d144Check_flip_flip_encode d hj hk,
    fun d j m => d144Correct_flip_encode d⟩
  exact columns_independent (by omega) (by omega) hk (by omega) (by omega) (by omega)

end Sys2Proof.Safety
end

section
/-! The frames of the L2 slices: what the operations on one frame leave of the others, and of the registers and memories beside
them (R237, R243). -/

namespace Sys2Proof.Safety
open Sys2Proof.Machine

variable {s : State} {f g : L2Line}

/-! ### Places -/

/-- Two frames stand at the same place. -/
abbrev SamePlace (g f : L2Line) : Prop := g.slice = f.slice ∧ g.set = f.set ∧ g.way = f.way

theorem mem_l2Set : g ∈ (s.l2Set f).mem.l2 ↔ g = f ∨ g ∈ s.mem.l2 ∧ ¬SamePlace g f := by
  simp only [State.l2Set, List.mem_cons, List.mem_filter, decide_eq_true_eq]

theorem mem_l2Clear : g ∈ (s.l2Clear f).mem.l2 ↔ g ∈ s.mem.l2 ∧ ¬SamePlace g f := by
  simp only [State.l2Clear, List.mem_filter, decide_eq_true_eq]

@[simp] theorem l1Invalidate_l2 (s : State) (line : Nat) (p : Option (Nat × Nat)) : (s.l1Invalidate line p).mem.l2 = s.mem.l2 := rfl

@[simp] theorem sdWrite_l2 (s : State) (a : Nat) (bs : List Byte) : (s.sdWrite a bs).mem.l2 = s.mem.l2 := rfl

theorem l2Clean_of_dirty (hv : f.valid = true) (hd : f.dirty = true) : s.l2Clean f =
    ((s.sdWrite (f.line * 64) (natToBytes 64 f.data.toNat)).rinc (Reg.L2C_WBACKS f.slice)).l2Set { f with dirty := false } := by
  rw [State.l2Clean, hv, hd]
  rfl

theorem l2Clean_of_clean (h : ¬(f.valid = true ∧ f.dirty = true)) : s.l2Clean f = s := by
  rw [State.l2Clean, if_neg (by simpa using h)]

/-- A write-back puts a clean frame in the place of a dirty one. -/
theorem mem_l2Clean (h : g ∈ (s.l2Clean f).mem.l2) :
    g ∈ s.mem.l2 ∧ (f.valid = true ∧ f.dirty = true → ¬SamePlace g f) ∨ g = { f with dirty := false } := by
  by_cases hd : f.valid = true ∧ f.dirty = true
  · rw [l2Clean_of_dirty hd.1 hd.2, mem_l2Set] at h
    exact h.symm.imp (fun h => ⟨h.1, fun _ => h.2⟩) id
  · rw [l2Clean_of_clean hd] at h
    exact .inl ⟨h, fun h => absurd h hd⟩

/-! ### Operations on several frames -/

/-- An operation on one frame after another, each of which takes its frame out of those that `P` names, takes out all of them. -/
theorem foldl_takes_out {op : State → L2Line → State} {P : L2Line → Prop}
    (hop : ∀ s f g, g ∈ (op s f).mem.l2 → P g → g ∈ s.mem.l2 ∧ g ≠ f) (fs : List L2Line) (s : State) :
    ∀ g ∈ (fs.foldl op s).mem.l2, P g → g ∈ s.mem.l2 ∧ g ∉ fs := by
  induction fs generalizing s with
  | nil => exact fun g hg _ => ⟨hg, List.not_mem_nil⟩
  | cons f fs ih =>
    intro g hg hP
    obtain ⟨hmem, hrest⟩ := ih (op s f) g hg hP
    obtain ⟨hs, hne⟩ := hop s f g hmem hP
    exact ⟨hs, by simp [hne, hrest]⟩

/-! ### The operations of Table 8.5 on one frame -/

theorem clean_takes_out (s : State) (f g : L2Line) (hg : g ∈ (s.mntFrame 1 f).mem.l2) (hP : g.valid = true ∧ g.dirty = true) :
    g ∈ s.mem.l2 ∧ g ≠ f := by
  obtain ⟨hmem, hplace⟩ | rfl := mem_l2Clean hg
  · refine ⟨hmem, ?_⟩
    rintro rfl
    exact hplace hP ⟨rfl, rfl, rfl⟩
  · exact absurd hP.2 Bool.false_ne_true

/-- Invalidation leaves at most an invalid frame in the place. -/
theorem mem_l2Inval (hg : g ∈ (s.l2Inval f).mem.l2) (hv : g.valid = true) : g ∈ s.mem.l2 ∧ ¬SamePlace g f := by
  unfold State.l2Inval at hg
  extract_lets s1 at hg
  split at hg
  · obtain rfl | h := mem_l2Set.1 hg
    · exact absurd hv Bool.false_ne_true
    · exact h
  · exact mem_l2Clear.1 hg

theorem inval_takes_out (s : State) (f g : L2Line) (hg : g ∈ (s.mntFrame 2 f).mem.l2) (hP : g.valid = true) :
    g ∈ s.mem.l2 ∧ g ≠ f := by
  obtain ⟨hmem, hplace⟩ := mem_l2Inval (f := { f with dirty := false }) hg hP
  refine ⟨hmem, ?_⟩
  rintro rfl
  exact hplace ⟨rfl, rfl, rfl⟩

theorem clinv_takes_out (s : State) (f g : L2Line) (hg : g ∈ (s.mntFrame 3 f).mem.l2) (hP : g.valid = true) :
    g ∈ s.mem.l2 ∧ g ≠ f := by
  obtain ⟨hmem, hplace⟩ := mem_l2Inval (s := s.l2Clean f) (f := { f with dirty := false }) hg hP
  obtain ⟨hs, -⟩ | rfl := mem_l2Clean hmem
  · refine ⟨hs, ?_⟩
    rintro rfl
    exact hplace ⟨rfl, rfl, rfl⟩
  · exact absurd ⟨rfl, rfl, rfl⟩ hplace

/-- A frame cleaned, and its place emptied (R243). -/
theorem mem_l2Clear_l2Clean {line : Nat} {p : Option (Nat × Nat)}
    (hg : g ∈ (((s.l2Clean f).l1Invalidate line p).l2Clear f).mem.l2) : g ∈ s.mem.l2 ∧ ¬SamePlace g f := by
  obtain ⟨hmem, hplace⟩ := mem_l2Clear.1 hg
  obtain ⟨hs, -⟩ | rfl := mem_l2Clean hmem
  · exact ⟨hs, hplace⟩
  · exact absurd ⟨rfl, rfl, rfl⟩ hplace

theorem unpin_takes_out (s : State) (f g : L2Line) (hg : g ∈ (s.mntFrame 5 f).mem.l2) (hP : g.bound = true) :
    g ∈ s.mem.l2 ∧ g ≠ f := by
  by_cases hb : f.bound = true
  · have hframe : s.mntFrame 5 f = ((s.l2Clean f).l1Invalidate f.line none).l2Clear f := if_pos hb
    rw [hframe] at hg
    obtain ⟨hmem, hplace⟩ := mem_l2Clear_l2Clean hg
    refine ⟨hmem, ?_⟩
    rintro rfl
    exact hplace ⟨rfl, rfl, rfl⟩
  · have hframe : s.mntFrame 5 f = s := if_neg hb
    rw [hframe] at hg
    refine ⟨hg, ?_⟩
    rintro rfl
    exact hb hP

theorem flush_takes_out (sl w : Nat) (s : State) (hg : g ∈ (s.flushWay sl w).mem.l2) :
    g ∈ s.mem.l2 ∧ ¬(g.slice = sl ∧ g.way = w) := by
  have hstep : ∀ (u : State) (f g : L2Line), g ∈ (((u.l2Clean f).l1Invalidate f.line none).l2Clear f).mem.l2 → True →
      g ∈ u.mem.l2 ∧ g ≠ f := by
    intro u f g hg _
    obtain ⟨hu, hplace⟩ := mem_l2Clear_l2Clean hg
    refine ⟨hu, ?_⟩
    rintro rfl
    exact hplace ⟨rfl, rfl, rfl⟩
  obtain ⟨hmem, hnot⟩ := foldl_takes_out hstep _ s g hg trivial
  exact ⟨hmem, fun h => hnot (List.mem_filter.2 ⟨hmem, decide_eq_true h⟩)⟩

end Sys2Proof.Safety
end

section
/-! Maintenance commands: one operation at a time, and what it leaves of the lines that it names (R237 to R242). -/

namespace Sys2Proof.Safety
open Sys2Proof.Machine

variable {s : State} {m n op : Nat} {v : Word}

/-! ### The start of an operation -/

theorem mntStart_of_busy (h : s.rbit Reg.L2C_MNT_STATUS 63 = true) : s.mntStart v = s.rsetBit Reg.L2C_STATUS 1 true := by
  rw [State.mntStart, if_pos h]

/-- The operation `op` on the line that L2C_MNT_ADDR names, begun (Table 8.12). -/
def mntBegun (s : State) (op : Nat) : State :=
  { s with mem.maint := some ⟨op, s.rfld Reg.L2C_MNT_ADDR 47 6, s.rfld Reg.L2C_MNT_ADDR 47 6 + 1, none⟩ }.rset
    Reg.L2C_MNT_STATUS (w64 (2 ^ 63 + s.rfld Reg.L2C_MNT_ADDR 47 6 * 64))

theorem mntStart_of_line (hidle : s.rbit Reg.L2C_MNT_STATUS 63 = false) (hscope : fld v 7 4 = 0)
    (htop : s.rfld Reg.L2C_MNT_ADDR 47 6 * 64 + 64 ≤ s.sdramTop) (hop : 1 ≤ op ∧ op ≤ 5)
    (hpin : op = 4 ∨ op = 5 →
      s.cachedRange (s.rfld Reg.L2C_MNT_ADDR 47 6 * 64) (s.rfld Reg.L2C_MNT_ADDR 47 6 * 64 + 64) = true) :
    s.mntStart (setFld v 3 0 op) = mntBegun s op := by
  have hopc : fld (setFld v 3 0 op) 3 0 = op := by
    rw [fld_setFld_same _ _ (by decide)]
    exact Nat.mod_eq_of_lt (by omega)
  have hsc : fld (setFld v 3 0 op) 7 4 = 0 := (fld_setFld_disjoint _ (by decide)).trans hscope
  have hline : (s.rfld Reg.L2C_MNT_ADDR 47 6 * 64 + 64 + 63) / 64 = s.rfld Reg.L2C_MNT_ADDR 47 6 + 1 := by omega
  by_cases hp : op = 4 ∨ op = 5
  · simp [State.mntStart, hidle, hopc, hsc, htop, hop, hline, mntBegun, hpin hp]
  · simp [State.mntStart, hidle, hopc, hsc, htop, hop, hline, mntBegun, hp]

theorem mntBegun_maintains (s : State) (op : Nat) : Maintains s (mntBegun s op) op := by
  have haddr : s.rfld Reg.L2C_MNT_ADDR 47 6 < 2 ^ 42 := fld_lt _ _ _
  refine ⟨rfl, ?_⟩
  rw [mntBegun, State.rbit_rset_same, bit, w64, BitVec.getLsbD_ofNat, Nat.testBit_eq_decide_div_mod_eq]
  simp only [decide_eq_true_eq, Bool.and_eq_true]
  omega

/-! ### Its end -/

/-- The frames of one line. -/
def lineFrames (s : State) (n : Nat) : List L2Line := s.mem.l2.filter (fun f => decide (n ≤ f.line ∧ f.line < n + 1))

theorem mem_lineFrames {f : L2Line} : f ∈ lineFrames s n ↔ f ∈ s.mem.l2 ∧ f.line = n := by
  rw [lineFrames, List.mem_filter, decide_eq_true_eq]
  exact and_congr_right fun _ => by omega

/-- An operation on one line, of which no fill is in progress, acts on the line's frames and ends. -/
theorem mntRun_of_line (h : s.mem.maint = some ⟨op, n, n + 1, none⟩) (hfills : ∀ f ∈ s.mem.fills, f.line ≠ n) (hop : op ≠ 4) :
    s.mntRun = ((lineFrames s n).foldl (fun s f => s.mntFrame op f) s).mntEnd (n + 1) 0 := by
  have hblocked : (s.mem.fills.map (·.line)).filter (fun l => decide (n ≤ l ∧ l < n + 1)) = [] := by
    refine List.filter_eq_nil_iff.2 fun l hl => ?_
    obtain ⟨f, hf, rfl⟩ := List.mem_map.1 hl
    have := hfills f hf
    rw [decide_eq_true_eq]
    omega
  unfold State.mntRun
  rw [h]
  dsimp only
  rw [hblocked, if_neg hop]
  rfl

theorem exec_mntComplete_of_line (h : s.mem.maint = some ⟨op, n, n + 1, none⟩) (hfills : ∀ f ∈ s.mem.fills, f.line ≠ n)
    (hop : op ≠ 4) : exec .mntComplete s =
      .next (((lineFrames s n).foldl (fun s f => s.mntFrame op f) s).mntEnd (n + 1) 0) := by
  rw [exec_mntComplete, execMntComplete, mntRun_of_line h hfills hop]

/-- An operation that takes a line's frames out of those that `P` names leaves none of them. -/
theorem not_of_takes_out {P : L2Line → Prop}
    (hout : ∀ s f g, g ∈ (State.mntFrame s op f).mem.l2 → P g → g ∈ s.mem.l2 ∧ g ≠ f) :
    ∀ f ∈ ((lineFrames s n).foldl (fun s f => s.mntFrame op f) s).mem.l2, f.line = n → ¬P f := by
  intro f hf hline hP
  obtain ⟨hmem, hnot⟩ := foldl_takes_out hout (lineFrames s n) s f hf hP
  exact hnot (mem_lineFrames.2 ⟨hmem, hline⟩)

/-- Settles O40: an operation begins with BUSY, and its completion takes the frames of the line that it is to leave none of out of
the slices, one frame after another. -/
theorem cacheMaintenanceActsOnItsLines : Obligations.CacheMaintenanceActsOnItsLines := by
  refine ⟨fun s m v hw hidle hscope htop => ?_, fun s m v hw hbusy c hc => ?_, fun s n op h hfills hop => ?_,
    fun s n f h hfills hone hv hd => ?_, fun s h => ?_⟩
  · have start : ∀ op, 1 ≤ op ∧ op ≤ 5 → (op = 4 ∨ op = 5 →
        s.cachedRange (s.rfld Reg.L2C_MNT_ADDR 47 6 * 64) (s.rfld Reg.L2C_MNT_ADDR 47 6 * 64 + 64) = true) →
        s.onlyIf (s.mayWrite m) (·.mntStart (setFld v 3 0 op)) = mntBegun s op := fun op hop hpin =>
      (State.onlyIf_pos s _ hw).trans (mntStart_of_line hidle hscope htop hop hpin)
    have done : ∀ {c : Instr} {op : Nat}, exec c s = .next (mntBegun s op) → Completes c s (fun u => Maintains s u op) :=
      fun h => ⟨_, h, mntBegun_maintains s _⟩
    refine ⟨done (congrArg _ (start 1 (by decide) (by omega))), done (congrArg _ (start 2 (by decide) (by omega))),
      done (congrArg _ (start 3 (by decide) (by omega))), fun hpin =>
      ⟨done (congrArg _ (start 4 (by decide) fun _ => hpin)), done (congrArg _ (start 5 (by decide) fun _ => hpin))⟩⟩
  · obtain rfl | rfl | rfl | rfl | rfl := hc <;>
      exact congrArg _ ((State.onlyIf_pos s _ hw).trans (mntStart_of_busy hbusy))
  · refine ⟨_, exec_mntComplete_of_line h hfills hop, rfl, State.rget_rset_same _ _ _, ?_, ?_, ?_⟩
    · rintro rfl f hf hline hvalid
      exact Bool.eq_false_iff.2 fun hdirty => not_of_takes_out clean_takes_out f hf hline ⟨hvalid, hdirty⟩
    · rintro (rfl | rfl) f hf hline
      · exact Bool.eq_false_iff.2 (not_of_takes_out inval_takes_out f hf hline)
      · exact Bool.eq_false_iff.2 (not_of_takes_out clinv_takes_out f hf hline)
    · rintro rfl f hf hline
      exact Bool.eq_false_iff.2 (not_of_takes_out unpin_takes_out f hf hline)
  · refine ⟨_, exec_mntComplete_of_line h hfills (by decide), ?_⟩
    have hf : f ∈ lineFrames s n := by
      rw [lineFrames, hone]
      exact List.mem_singleton_self f
    rw [lineFrames, hone, List.foldl_cons, List.foldl_nil, ← (mem_lineFrames.1 hf).2]
    change smBytes (s.l2Clean f).mem.sdram 0 (f.line * 64) 64 = _
    rw [l2Clean_of_dirty hv hd]
    have hread := smBytes_putBytes s.mem.sdram 0 (f.line * 64) (natToBytes 64 f.data.toNat)
    rwa [length_natToBytes] at hread
  · rw [exec_mntComplete, execMntComplete, State.mntRun, h]

end Sys2Proof.Safety
end

section
/-! Way locks, way-group power and fills of a slice (R223, R229, R240, R243, R245). -/

namespace Sys2Proof.Safety
open Sys2Proof.Machine

variable {s : State} {t g : Nat} {v : Word}

/-! ### Way locks -/

theorem lockWays_of_running (h : s.running = true) : s.lockWays t v = s.rsetBit (Reg.L2C_SLICE_STATUS t) 3 true := if_pos h

theorem rget_lock_lockWays (hr : s.running = false) (hl : s.locked = false) :
    (s.lockWays t v).rget (Reg.L2C_LOCK t) = v &&& 0x00000FFF00000FFF := by
  rw [State.lockWays, hr, hl]
  exact State.rget_rset_same _ _ _

/-! ### Power of way groups -/

/-- The group's request to be switched off waits (R245). -/
def groupWaits (s : State) (t g : Nat) : State :=
  { s.rsetBit (Reg.L2C_WGPWR t) g false with
    mem.groupReq := s.mem.groupReq ++ [(t, g, true)]
    power.moving := s.power.moving ++ [(State.groupDomain t g, false)] }

/-- The request is refused (R245). -/
def groupRefused (s : State) (t : Nat) : State := (s.rsetBit (Reg.L2C_SLICE_STATUS t) 0 true).rsetBit Reg.PWR_STATUS 2 true

/-- What a write of L2C_WGPWR does for group `g` of slice `t` (R245, R438). -/
def groupStep (t : Nat) (v : Word) (s : State) (g : Nat) : State :=
  let old := s.rbit (Reg.L2C_WGPWR t) g
  if old = bit v g then s
  else if bit v g then (s.rsetBit (Reg.L2C_WGPWR t) g true).powerUp (State.groupDomain t g)
  else if (List.range 4).any (fun i => s.wayLocked t (4 * g + i)) || (s.waysWithout t g).isEmpty then
    groupRefused s t
  else groupWaits s t g

theorem groupPower_eq_foldl (s : State) (t : Nat) (v : Word) : s.groupPower t v = (List.range 3).foldl (groupStep t v) s := rfl

theorem groupStep_of_same (h : s.rbit (Reg.L2C_WGPWR t) g = bit v g) : groupStep t v s g = s := if_pos h

/-- A fold of which one step alone changes the state. -/
theorem foldl_range_one {f : State → Nat → State} {n : Nat} (hg : g < n) (hbefore : ∀ i < g, f s i = s)
    (hafter : ∀ i, g < i → i < n → f (f s g) i = f s g) : (List.range n).foldl f s = f s g := by
  have hsame : ∀ m ≤ g, (List.range m).foldl f s = s := by
    intro m hm
    induction m with
    | zero => rfl
    | succ m ih => rw [List.range_succ, List.foldl_append, ih (by omega), List.foldl_cons, List.foldl_nil, hbefore m (by omega)]
  induction n with
  | zero => omega
  | succ n ih =>
    rw [List.range_succ, List.foldl_append, List.foldl_cons, List.foldl_nil]
    obtain hlt | rfl : g < n ∨ g = n := by omega
    · rw [ih hlt fun i hgi hi => hafter i hgi (by omega), hafter n hlt (by omega)]
    · rw [hsame g le_rfl]

/-- A write that asks for a change of one group alone does what that group's change does. -/
theorem groupPower_of_one (hg : g < 3) (hothers : ∀ i < 3, i ≠ g → s.rbit (Reg.L2C_WGPWR t) i = bit v i)
    (hkeeps : ∀ i, i ≠ g → (groupStep t v s g).rbit (Reg.L2C_WGPWR t) i = s.rbit (Reg.L2C_WGPWR t) i) :
    s.groupPower t v = groupStep t v s g := by
  rw [groupPower_eq_foldl, foldl_range_one hg]
  · exact fun i hi => groupStep_of_same (hothers i (by omega) (by omega))
  · exact fun i hgi hi => groupStep_of_same ((hkeeps i (by omega)).trans (hothers i hi (by omega)))

theorem rget_groupWaits (s : State) (t g a : Nat) : (groupWaits s t g).rget a = (s.rsetBit (Reg.L2C_WGPWR t) g false).rget a := rfl

theorem groupStep_waits (hon : s.rbit (Reg.L2C_WGPWR t) g = true) (hoff : bit v g = false)
    (hlocked : ∀ i < 4, s.wayLocked t (4 * g + i) = false) (hstay : s.waysWithout t g ≠ []) :
    groupStep t v s g = groupWaits s t g := by
  have hnone : (List.range 4).any (fun i => s.wayLocked t (4 * g + i)) = false :=
    List.any_eq_false.2 fun i hi => Bool.eq_false_iff.1 (hlocked i (List.mem_range.1 hi))
  have hsome : (s.waysWithout t g).isEmpty = false := Bool.eq_false_iff.2 fun h => hstay (List.isEmpty_iff.1 h)
  simp [groupStep, hon, hoff, hnone, hsome, groupWaits]

theorem groupStep_refused (hon : s.rbit (Reg.L2C_WGPWR t) g = true) (hoff : bit v g = false)
    (h : (∃ i < 4, s.wayLocked t (4 * g + i) = true) ∨ s.waysWithout t g = []) :
    groupStep t v s g = groupRefused s t := by
  have hcond : ((List.range 4).any (fun i => s.wayLocked t (4 * g + i)) || (s.waysWithout t g).isEmpty) = true := by
    obtain ⟨i, hi, hlocked⟩ | hnone := h
    · rw [List.any_eq_true.2 ⟨i, List.mem_range.2 hi, hlocked⟩, Bool.true_or]
    · rw [hnone, List.isEmpty_nil, Bool.or_true]
  rw [groupStep, hon, hoff, hcond]
  rfl

theorem rbit_wgpwr_groupWaits {i : Nat} (hi : i ≠ g) :
    (groupWaits s t g).rbit (Reg.L2C_WGPWR t) i = s.rbit (Reg.L2C_WGPWR t) i := by
  rw [State.rbit, rget_groupWaits, State.rsetBit_eq, State.rget_rset_same, bit_setBit_ne _ _ hi, State.rbit]

theorem rbit_wgpwr_groupRefused (i : Nat) : (groupRefused s t).rbit (Reg.L2C_WGPWR t) i = s.rbit (Reg.L2C_WGPWR t) i :=
  (State.rbit_rset_ne _ _ _ (csrAddr_ne_of_block (b := 0x10 + t) (c := 4) (by omega) (by decide) (by decide))).trans
    (State.rbit_rset_ne _ _ _ (csrAddr_ne_of_off (by decide)))

/-- The end of the wait: the group's frames are gone, and its status bit and its request with them (R245). -/
theorem mem_groupOff {f : L2Line} (hf : f ∈ (s.groupOff t g).mem.l2) : f.slice = t → f.way / 4 ≠ g := by
  have hfold : ∀ (ws : List Nat) (s : State), f ∈ (ws.foldl (fun (s : State) i => s.flushWay t (4 * g + i)) s).mem.l2 →
      f ∈ s.mem.l2 ∧ ∀ i ∈ ws, ¬(f.slice = t ∧ f.way = 4 * g + i) := by
    intro ws
    induction ws with
    | nil => exact fun s h => ⟨h, fun i hi => absurd hi List.not_mem_nil⟩
    | cons w ws ih =>
      intro s h
      obtain ⟨hmem, hrest⟩ := ih _ h
      obtain ⟨hs, hw⟩ := flush_takes_out t (4 * g + w) s hmem
      exact ⟨hs, List.forall_mem_cons.2 ⟨hw, hrest⟩⟩
  obtain ⟨-, hnot⟩ := hfold (List.range 4) s hf
  intro hslice hway
  exact hnot (f.way % 4) (List.mem_range.2 (by omega)) ⟨hslice, by omega⟩

/-! ### Fills -/

/-- A line filled into a PE's L1 is there. -/
theorem mem_l1Fill (s : State) (t p line : Nat) (d : BitVec 512) :
    ∃ x ∈ (s.l1Fill t p line d).mem.l1d, x.tile = t ∧ x.pe = p ∧ x.line = line := by
  unfold State.l1Fill
  extract_lets mine inSet fresh r v'
  split
  · next h =>
    obtain ⟨x, hx, hline⟩ := List.any_eq_true.1 h
    obtain ⟨hmem, hset⟩ := List.mem_filter.1 hx
    obtain ⟨hmine, -⟩ := Bool.and_eq_true_iff.1 hset
    obtain ⟨ht, hp⟩ := of_decide_eq_true hmine
    exact ⟨x, hmem, ht, hp, of_decide_eq_true hline⟩
  · split
    · exact ⟨fresh, List.mem_cons_self .., rfl, rfl, rfl⟩
    · exact ⟨fresh, List.mem_cons_self .., rfl, rfl, rfl⟩

/-- A line placed in its set takes no fill away. -/
theorem l2Install_fills (s : State) (line : Nat) (d : BitVec 512) (dirty : Bool) :
    (s.l2Install line d dirty).mem.fills = s.mem.fills := by
  have hclean : ∀ (u : State) (f : L2Line), (u.l2Clean f).mem.fills = u.mem.fills := by
    intro u f
    unfold State.l2Clean
    split <;> rfl
  unfold State.l2Install
  extract_lets sl set ways fresh r w
  split
  · rfl
  · split
    · rfl
    · split
      · split <;> rfl
      · split
        · exact hclean r.2 _
        · rfl

theorem l1Fill_fills (s : State) (t p line : Nat) (d : BitVec 512) : (s.l1Fill t p line d).mem.fills = s.mem.fills := by
  unfold State.l1Fill
  extract_lets mine inSet fresh r v'
  split
  · rfl
  · split <;> rfl

theorem sdLine_mem (s : State) (line : Nat) : (s.sdLine line).2.mem = s.mem := by
  unfold State.sdLine
  split <;> rfl

/-- A line as a fill brings it: from the slice that holds it, else from SDRAM into a frame (R229). -/
def filledLine (s : State) (line : Nat) : BitVec 512 × State :=
  match s.l2Get line with
  | some g => (g.data, s)
  | none => ((s.sdLine line).1, (s.sdLine line).2.l2Install line (s.sdLine line).1 false)

theorem filledLine_fills (s : State) (line : Nat) : (filledLine s line).2.mem.fills = s.mem.fills := by
  unfold filledLine
  split
  · rfl
  · rw [l2Install_fills, sdLine_mem]

/-- The caches after fill `f`. -/
def fillLanded (s : State) (f : Fill) : State :=
  if f.l1 then (filledLine s f.line).2.l1Fill f.tile f.pe f.line (filledLine s f.line).1 else (filledLine s f.line).2

theorem fillLanded_fills (s : State) (f : Fill) : (fillLanded s f).mem.fills = s.mem.fills := by
  unfold fillLanded
  split
  · rw [l1Fill_fills, filledLine_fills]
  · exact filledLine_fills s f.line

/-- The loads of the fill's PE no longer wait. -/
def woken (f : Fill) (x : Firing) : Firing :=
  if x.tile = f.tile ∧ x.pe = f.pe ∧ x.wait = .fill then { x with wait := .none } else x

theorem woken_wait {f : Fill} {x : Firing} (ht : (woken f x).tile = f.tile) (hp : (woken f x).pe = f.pe) :
    (woken f x).wait ≠ .fill := by
  unfold woken at ht hp ⊢
  split
  · simp
  · next h =>
    rw [if_neg h] at ht hp
    exact fun hw => h ⟨ht, hp, hw⟩

theorem exec_l2FillComplete_of_fill {n : Nat} {f : Fill} (h : s.mem.fills[n]? = some f) :
    exec (.l2FillComplete n) s = .next { fillLanded s f with
      mem.fills := (fillLanded s f).mem.fills.eraseIdx n
      firings := (fillLanded s f).firings.map (woken f) } := by
  rw [exec_l2FillComplete, execL2FillComplete, h]
  rfl

/-! ### The commands -/

theorem exec_l2cLockWrite_of_mayWrite {m : Nat} (h : s.mayWrite m = true) :
    exec (.l2cLockWrite m t v) s = .next (s.lockWays t v) := by
  rw [exec_l2cLockWrite, execL2cLockWrite, State.onlyIf_pos s _ h]

theorem exec_wayGroupPowerRequest_of_mayWrite {m : Nat} (h : s.mayWrite m = true) :
    exec (.wayGroupPowerRequest m t v) s = .next (s.groupPower t v) := by
  rw [exec_wayGroupPowerRequest, execWayGroupPowerRequest, State.onlyIf_pos s _ h]

theorem exec_wayGroupPowerDownDone_of_waiting (h : s.mem.groupReq.contains (t, g, true) = true) :
    exec (.wayGroupPowerDownDone t g) s = .next (s.groupOff t g) := by
  rw [exec_wayGroupPowerDownDone, execWayGroupPowerDownDone, State.onlyIf_pos s _ h]

/-- Settles O41: a request for one group takes one step, the end of its wait empties the group's four ways, and a fill lands in the
slice, in the PE's L1 where it is a load's, and wakes what waits for it. -/
theorem wayLocksPowerAndFills : Obligations.WayLocksPowerAndFills := by
  refine ⟨fun s m t v hw hr => ?_, fun s m t v hw hr hl => ?_, fun s m t g v hw hg hothers hon hoff hlocked hstay => ?_,
    fun s m t g v hw hg hothers hon hoff hkeep => ?_, fun s t g hg hreq => ?_, fun s t g hreq => ?_, fun s n f h => ?_⟩
  · rw [exec_l2cLockWrite_of_mayWrite hw, lockWays_of_running hr]
  · exact ⟨_, exec_l2cLockWrite_of_mayWrite hw, rget_lock_lockWays hr hl⟩
  · have hstep := groupStep_waits hon hoff hlocked hstay
    have hone := groupPower_of_one hg hothers fun i hi => hstep ▸ rbit_wgpwr_groupWaits hi
    refine ⟨groupWaits s t g, ?_, rfl, ?_, rfl⟩
    · rw [exec_wayGroupPowerRequest_of_mayWrite hw, hone, hstep]
    · exact (State.rbit_rset_same ..).trans (bit_setBit_same _ _ (by omega))
  · have hstep := groupStep_refused hon hoff hkeep
    have hone := groupPower_of_one hg hothers fun i _ => hstep ▸ rbit_wgpwr_groupRefused i
    rw [exec_wayGroupPowerRequest_of_mayWrite hw, hone, hstep, groupRefused]
  · refine ⟨_, exec_wayGroupPowerDownDone_of_waiting hreq, ?_, ?_, fun f hf => mem_groupOff hf⟩
    · exact (State.rbit_rset_same ..).trans (bit_setBit_same _ _ (by omega))
    · refine Bool.eq_false_iff.2 fun hmem => ?_
      obtain ⟨-, hne⟩ := List.mem_filter.1 (List.contains_iff_mem.1 hmem)
      exact of_decide_eq_true hne rfl
  · exact congrArg Host.Outcome.next (State.onlyIf_neg s _ hreq)
  · refine ⟨_, exec_l2FillComplete_of_fill h, ?_, ?_, fun hl1 => ?_⟩
    · exact congrArg (List.eraseIdx · n) (fillLanded_fills s f)
    · intro x hx
      obtain ⟨y, -, rfl⟩ := List.mem_map.1 hx
      exact woken_wait
    · change ∃ x ∈ (fillLanded s f).mem.l1d, _
      rw [fillLanded, if_pos hl1]
      exact mem_l1Fill _ _ _ _ _

end Sys2Proof.Safety
end

section
/-! Stores within one line, and the loads that see them (R224, R229, R232, R244). -/

namespace Sys2Proof.Safety
open Sys2Proof.Machine

variable {s u : State} {own : Option (Nat × Nat)} {a : Nat} {bs : List Byte} {d : BitVec 512}

/-! ### Bytes of a line -/

/-- Byte `k` of a line. -/
def lineByte (d : BitVec 512) (k : Nat) : Byte := BitVec.ofNat 8 (fld d (8 * k + 7) (8 * k))

theorem lineBytes_succ (d : BitVec 512) (o n : Nat) : lineBytes d o (n + 1) = lineByte d o :: lineBytes d (o + 1) n := rfl

theorem lineByte_setFld_same {k : Nat} (hk : k < 64) (b : Byte) : lineByte (setFld d (8 * k + 7) (8 * k) b.toNat) k = b := by
  have hwidth : 8 * k + 7 + 1 - 8 * k = 8 := by omega
  rw [lineByte, fld_setFld_same _ _ (by omega), hwidth, Nat.mod_eq_of_lt b.isLt]
  exact (BitVec.ofNat_toNat 8 b).trans (BitVec.setWidth_eq b)

theorem lineByte_setFld_ne {j k : Nat} (h : j ≠ k) (v : Nat) : lineByte (setFld d (8 * k + 7) (8 * k) v) j = lineByte d j := by
  rw [lineByte, fld_setFld_disjoint _ (by omega), lineByte]

theorem lineByte_linePut_below {j o : Nat} (h : j < o) : lineByte (linePut d o bs) j = lineByte d j := by
  induction bs generalizing d o with
  | nil => rfl
  | cons b bs ih => rw [linePut, ih (by omega), lineByte_setFld_ne (by omega)]

/-- Bytes put into a line are read back. -/
theorem lineBytes_linePut {o : Nat} (h : o + bs.length ≤ 64) : lineBytes (linePut d o bs) o bs.length = bs := by
  induction bs generalizing d o with
  | nil => rfl
  | cons b bs ih =>
    rw [List.length_cons] at h
    rw [List.length_cons, lineBytes_succ, linePut, ih (by omega), lineByte_linePut_below (by omega),
      lineByte_setFld_same (by omega)]

/-! ### Kinds and attributes of addresses -/

theorem addrKind_eq_sdram_iff : s.addrKind a = .sdram ↔ a < 0x2000000000 ∧ a < s.sdramTop := by
  unfold State.addrKind
  split_ifs <;> simp_all

theorem addrKind_of_mem (s : State) (m : Mem) (a : Nat) : { s with mem := m }.addrKind a = s.addrKind a := rfl

theorem sdramTop_of_keeps (h : Keeps LowReg s u) : u.sdramTop = s.sdramTop :=
  congrArg (fun w : Word => w.toNat - 0x4000000) (h Reg.SDC_CAPACITY (by unfold LowReg; decide))

theorem addrKind_sdram_of_keeps (h : Keeps LowReg s u) (ha : s.addrKind a = .sdram) : u.addrKind a = .sdram := by
  rw [addrKind_eq_sdram_iff] at ha ⊢
  rwa [sdramTop_of_keeps h]

/-- The registers of the regions are among those that memory leaves. -/
theorem lowReg_region {k : Nat} (hk : k < 16) :
    LowReg (Reg.L2C_RGN_BASE k) ∧ LowReg (Reg.L2C_RGN_LIMIT k) ∧ LowReg (Reg.L2C_RGN_ATTR k) := by
  simp only [LowReg, Reg.L2C_RGN_BASE, Reg.L2C_RGN_LIMIT, Reg.L2C_RGN_ATTR, csrAddr, csrBase]
  omega

theorem sdramAttr_of_keeps (h : Keeps LowReg s u) (a : Nat) : u.sdramAttr a = s.sdramAttr a := by
  have hregs : ∀ k < 16, u.rget (Reg.L2C_RGN_BASE k) = s.rget (Reg.L2C_RGN_BASE k) ∧
      u.rget (Reg.L2C_RGN_LIMIT k) = s.rget (Reg.L2C_RGN_LIMIT k) ∧ u.rget (Reg.L2C_RGN_ATTR k) = s.rget (Reg.L2C_RGN_ATTR k) := by
    intro k hk
    obtain ⟨hbase, hlimit, hattr⟩ := lowReg_region hk
    exact ⟨h _ hbase, h _ hlimit, h _ hattr⟩
  have hdef : u.rget Reg.L2C_DEF_ATTR = s.rget Reg.L2C_DEF_ATTR := h _ (by unfold LowReg; decide)
  have hhit : ∀ k ∈ List.range 16, (u.rbit (Reg.L2C_RGN_ATTR k) 63 && decide (u.rfld (Reg.L2C_RGN_BASE k) 47 12 ≤ a / 4096 ∧
      a / 4096 ≤ u.rfld (Reg.L2C_RGN_LIMIT k) 47 12)) = (s.rbit (Reg.L2C_RGN_ATTR k) 63 &&
      decide (s.rfld (Reg.L2C_RGN_BASE k) 47 12 ≤ a / 4096 ∧ a / 4096 ≤ s.rfld (Reg.L2C_RGN_LIMIT k) 47 12)) := by
    intro k hk
    obtain ⟨hbase, hlimit, hattr⟩ := hregs k (List.mem_range.1 hk)
    rw [State.rbit, State.rfld, State.rfld, hbase, hlimit, hattr]
    rfl
  unfold State.sdramAttr
  dsimp only
  rw [List.find?_congr hhit]
  split
  · next k hk =>
    obtain ⟨-, -, hattr⟩ := hregs k (List.mem_range.1 (List.mem_of_find?_eq_some hk))
    rw [hattr]
  · rw [hdef]

/-! ### Loads -/

theorem viewLine_of_scratch (h : s.addrKind a = .scratch) (n : Nat) : s.viewLine a n = smBytes s.mem.scratch 0 a n := by
  rw [State.viewLine, h]

theorem viewLine_of_uncached (h : s.addrKind a = .sdram) (huc : (s.sdramAttr a).1 = 2) (n : Nat) :
    s.viewLine a n = smBytes s.mem.sdram 0 a n := by
  rw [State.viewLine, h]
  dsimp only
  rw [if_pos huc]

theorem viewLine_of_hit {f : L2Line} (h : s.addrKind a = .sdram) (hcached : (s.sdramAttr a).1 ≠ 2)
    (hf : s.l2Get (a / 64) = some f) (n : Nat) : s.viewLine a n = lineBytes f.data (a % 64) n := by
  rw [State.viewLine, h]
  dsimp only
  rw [if_neg hcached, hf]

/-! ### Stores -/

/-- The L1 copies after a store: the storing PE's has the new bytes, the others are dropped (R224, R232). -/
def l1Stored (s : State) (own : Option (Nat × Nat)) (a : Nat) (bs : List Byte) : State :=
  { s.l1Invalidate (a / 64) own with
    mem.l1d := (s.l1Invalidate (a / 64) own).mem.l1d.map (fun x =>
      if x.line = a / 64 then { x with data := linePut x.data (a % 64) bs } else x) }

theorem storeLine_of_scratch (h : s.addrKind a = .scratch) :
    s.storeLine own a bs = l1Stored { s with mem.scratch := smPutBytes s.mem.scratch 0 a bs } own a bs := by
  rw [State.storeLine, h]
  rfl

theorem storeLine_of_uncached (h : s.addrKind a = .sdram) (huc : (s.sdramAttr a).1 = 2) :
    s.storeLine own a bs = l1Stored (s.sdWrite a bs) own a bs := by
  unfold State.storeLine
  extract_lets line l1
  rw [h]
  exact if_pos huc

/-- A frame with the stored bytes, dirty under write-back (Table 8.4). -/
def storedFrame (s : State) (f : L2Line) (a : Nat) (bs : List Byte) : L2Line :=
  { f with data := linePut f.data (a % 64) bs, dirty := f.dirty || decide ((s.sdramAttr a).1 = 0) }

/-- The slice after a store that hits. -/
def putInFrame (s : State) (f : L2Line) (a : Nat) (bs : List Byte) : State :=
  (s.l2Set (storedFrame s f a bs)).rinc (Reg.L2C_HITS (homeSlice a))

theorem storeLine_of_hit {f : L2Line} (h : s.addrKind a = .sdram) (hwb : (s.sdramAttr a).1 = 0) (hf : s.l2Get (a / 64) = some f)
    (hpower : s.groupFills (homeSlice a) (f.way / 4) = true) :
    s.storeLine own a bs = l1Stored (putInFrame s f a bs) own a bs := by
  unfold State.storeLine
  extract_lets line l1
  rw [h]
  have huc : ¬(s.sdramAttr a).1 = 2 := by
    rw [hwb]
    decide
  have hwt : ¬(s.sdramAttr a).1 = 1 := by
    rw [hwb]
    decide
  refine (if_neg huc).trans ?_
  rw [hf]
  exact (if_pos hpower).trans (congrArg l1 (if_neg hwt))

/-- What is put in a line's frame is found there. -/
theorem l2Get_putInFrame {f : L2Line} (hf : s.l2Get (a / 64) = some f) :
    (putInFrame s f a bs).l2Get (a / 64) = some (storedFrame s f a bs) := by
  have hmatch := List.find?_some hf
  exact List.find?_cons_of_pos hmatch

theorem l2Get_l1Stored (s : State) (n : Nat) : (l1Stored s own a bs).l2Get n = s.l2Get n := rfl

theorem l1Stored_sdram (s : State) : (l1Stored s own a bs).mem.sdram = s.mem.sdram := rfl

theorem putInFrame_sdram (s : State) (f : L2Line) : (putInFrame s f a bs).mem.sdram = s.mem.sdram := by
  rw [putInFrame, State.rinc_eq, State.rset_mem]
  rfl

theorem mem_l1Stored_own {x : L1Line} (hx : x ∈ s.mem.l1d) (hline : x.line = a / 64) (hown : some (x.tile, x.pe) = own) :
    { x with data := linePut x.data (a % 64) bs } ∈ (l1Stored s own a bs).mem.l1d :=
  List.mem_map.2 ⟨x, List.mem_filter.2 ⟨hx, decide_eq_true (.inr hown)⟩, if_pos hline⟩

theorem mem_l1Stored_other {x : L1Line} (hx : x ∈ s.mem.l1d) (hline : x.line ≠ a / 64) :
    x ∈ (l1Stored s own a bs).mem.l1d :=
  List.mem_map.2 ⟨x, List.mem_filter.2 ⟨hx, decide_eq_true (.inl hline)⟩, if_neg hline⟩

/-- No PE but the storing one keeps a copy of the line. -/
theorem own_of_mem_l1Stored {x : L1Line} (hx : x ∈ (l1Stored s own a bs).mem.l1d) (hline : x.line = a / 64) :
    some (x.tile, x.pe) = own := by
  obtain ⟨y, hy, rfl⟩ := List.mem_map.1 hx
  obtain ⟨-, hkeep⟩ := List.mem_filter.1 hy
  by_cases hy' : y.line = a / 64
  · rw [if_pos hy']
    exact (of_decide_eq_true hkeep).resolve_left (not_not.2 hy')
  · rw [if_neg hy'] at hline
    exact absurd hline hy'

/-- Settles O42: a store leaves the kind and the region of its address, so a load of it reads the memory or the frame that the store
has written. -/
theorem storesAreSeenByLoads : Obligations.StoresAreSeenByLoads := by
  refine ⟨fun s own a bs hlen ha huc => ?_, fun s own a bs hlen ha => ?_, fun s own a bs f hlen ha hwb hf hpower => ?_,
    fun s own a bs hkind => ?_⟩
  · have hkeeps : Keeps LowReg s (s.storeLine own a bs) := Keeps.refl.storeLine
    have ha' := addrKind_sdram_of_keeps hkeeps ha
    have huc' := (congrArg Prod.fst (sdramAttr_of_keeps hkeeps a)).trans huc
    rw [viewLine_of_uncached ha' huc', storeLine_of_uncached ha huc]
    exact ⟨smBytes_putBytes _ _ _ _, fun b hb => smGet_putBytes_outside (by omega), rfl, rfl⟩
  · rw [storeLine_of_scratch ha, viewLine_of_scratch (ha ▸ addrKind_of_mem ..)]
    exact ⟨smBytes_putBytes _ _ _ _, fun b hb => smGet_putBytes_outside (by omega), rfl, rfl⟩
  · have hkeeps : Keeps LowReg s (s.storeLine own a bs) := Keeps.refl.storeLine
    have ha' := addrKind_sdram_of_keeps hkeeps ha
    have hattr := (congrArg Prod.fst (sdramAttr_of_keeps hkeeps a)).trans hwb
    have hget : (s.storeLine own a bs).l2Get (a / 64) = some (storedFrame s f a bs) := by
      rw [storeLine_of_hit ha hwb hf hpower, l2Get_l1Stored, l2Get_putInFrame hf]
    rw [viewLine_of_hit ha' (by rw [hattr]; decide) hget]
    refine ⟨lineBytes_linePut hlen, ?_⟩
    rw [storeLine_of_hit ha hwb hf hpower, l1Stored_sdram, putInFrame_sdram]
  · have hl1 : ∃ u : State, s.storeLine own a bs = l1Stored u own a bs ∧ u.mem.l1d = s.mem.l1d := by
      obtain ha | ⟨ha, huc⟩ := hkind
      · exact ⟨_, storeLine_of_scratch ha, rfl⟩
      · exact ⟨_, storeLine_of_uncached ha huc, rfl⟩
    obtain ⟨u, hu, hl1d⟩ := hl1
    rw [hu, ← hl1d]
    exact ⟨fun x => own_of_mem_l1Stored, fun x => mem_l1Stored_own, fun x => mem_l1Stored_other⟩

end Sys2Proof.Safety
end

section
/-! Reports of the memory's units: they leave the registers of the tiles and of the memory, the memory itself and the recovery
queue, and a C4 report stops the device (R455 to R459, R464). -/

namespace Sys2Proof.Safety
open Sys2Proof.Machine

variable {s s0 u : State} {r : Report}

/-- FCL_STATUS, and the registers of the tiles and of the memory. -/
def CacheReg (a : Nat) : Prop := a = Reg.FCL_STATUS ∨ csrAddr 0x10 0 ≤ a ∧ a < csrAddr 0x40 0

theorem cacheReg_of_block {b o : Nat} (hlo : 0x10 ≤ b) (hhi : b < 0x40) (ho : o < 0x10000) : CacheReg (csrAddr b o) := by
  refine .inr ⟨csrAddr_le_of_block hlo, ?_⟩
  simp only [csrAddr]
  omega

theorem cacheReg_status : CacheReg Reg.FCL_STATUS := .inl rfl

theorem ne_fcl {o : Nat} (hne : o ≠ 8) (ho : o < 0x10000) : ∀ a, CacheReg a → a ≠ csrAddr 3 o := by
  rintro a (rfl | ha)
  · exact csrAddr_ne_of_off hne.symm
  · simp only [csrAddr] at ha ⊢
    omega

theorem ne_of_far_block {b o : Nat} (hb : b ≠ 3) (hfar : b < 0x10 ∨ 0x40 ≤ b) (ho : o < 0x10000) :
    ∀ a, CacheReg a → a ≠ csrAddr b o := by
  rintro a (rfl | ha)
  · exact csrAddr_ne_of_block hb.symm (by decide) ho
  · simp only [csrAddr] at ha ⊢
    omega

namespace Keeps

theorem collectAny (h : Keeps CacheReg s0 s) (hr : r.cls ≤ 4) : Keeps CacheReg s0 (s.collect r) := by
  have hlatch : Keeps CacheReg s0 (s.latch r.cls (s.record r)) :=
    .ite (h.rset (ne_fcl (by decide) (by decide))) ((((h.rset (ne_fcl (by omega) (by omega))).rset
      (ne_fcl (by omega) (by omega))).rset (ne_fcl (by omega) (by omega))).rset (ne_fcl (by omega) (by omega))).raiseVector
  have hcount : Keeps CacheReg s0 ((s.latch r.cls (s.record r)).rinc (Reg.FCL_COUNT r.cls)) :=
    hlatch.rset (ne_fcl (by omega) (by omega))
  exact .ite (.frame hcount rfl) (.ite (.frame hcount rfl) (hcount.rset (ne_fcl (by decide) (by decide))))

theorem tripOne {reset : Bool} {k : Nat} (hk : k < 32) (h : Keeps CacheReg s0 s) : Keeps CacheReg s0 (tripOne reset s k) := by
  unfold Machine.tripOne
  extract_lets cfg o v h' force armed t c o' _ s1 s2 s3
  have h1 : Keeps CacheReg s0 s1 := h.frame rfl
  have hwake : Keeps CacheReg s0 (s1.wakeBy 8) :=
    .ite (.ite (.frame (h1.rset (ne_of_far_block (b := 4) (o := 0) (by decide) (by decide) (by decide))) rfl) h1) h1
  have h2 : Keeps CacheReg s0 s2 :=
    (hwake.rset (ne_of_far_block (by decide) (by decide) (by omega))).rset (ne_of_far_block (by decide) (by decide) (by omega))
  have h3 : Keeps CacheReg s0 s3 := .ite (h2.collectAny (Nat.zero_le _)) h2
  exact .ite h1 (.ite ((h3.rset (ne_of_far_block (by decide) (by decide) (by decide))).rset
    (ne_of_far_block (by decide) (by decide) (by decide))) h3)

theorem setForce {f : Force} (h : Keeps CacheReg s0 s) : Keeps CacheReg s0 (setForce s f) :=
  List.foldlRecOn _ _ (h.frame rfl) fun _ hu _ hk => hu.tripOne (List.mem_range.1 hk)

end Keeps

/-! ### The C4 reaction -/

theorem graveReaction_keeps (s : State) : Keeps CacheReg (s.rsetBit Reg.FCL_STATUS 3 true) s.graveReaction :=
  .rset (.frame (Keeps.refl.setForce (f := .c4)) (by with_reducible rfl)) (ne_fcl (by decide) (by decide))

theorem dead_graveReaction (s : State) : s.graveReaction.dead = true := by
  rw [State.dead, State.rbit, graveReaction_keeps s _ cacheReg_status, State.rsetBit_eq, State.rget_rset_same]
  exact bit_setBit_same _ _ (by decide)

theorem rget_graveReaction {a : Nat} (ha : CacheReg a) (hne : a ≠ Reg.FCL_STATUS) : s.graveReaction.rget a = s.rget a :=
  (graveReaction_keeps s a ha).trans (State.rget_rset_ne _ _ hne)

/-- A report of class C4 of a unit that is not the sequencer stops the device (R464). -/
theorem report_of_class4 {job : Option RecJob} (hsrc : r.src / 16 ≠ 0x38) (hr : r.cls = 4) :
    s.report r job = (s.collect r).graveReaction := by
  unfold State.report
  rw [decide_eq_false hsrc, Bool.false_and, if_neg Bool.false_ne_true, if_pos hr]

theorem dead_report_of_class4 {job : Option RecJob} (hsrc : r.src / 16 ≠ 0x38) (hr : r.cls = 4) :
    (s.report r job).dead = true := by
  rw [report_of_class4 hsrc hr, dead_graveReaction]

/-! ### Reports below C4 -/

/-- From `s0` to `s` there were reports that ask nothing of the sequencer. -/
structure Reported (s0 s : State) : Prop where
  mem : s.mem = s0.mem
  recQ : s.recQ = s0.recQ
  marks : s.marks = s0.marks
  regs : Keeps CacheReg s0 s

namespace Reported

theorem refl : Reported s s := ⟨rfl, rfl, rfl, .refl⟩

theorem trans (h : Reported s0 s) (g : Reported s u) : Reported s0 u :=
  ⟨g.mem.trans h.mem, g.recQ.trans h.recQ, g.marks.trans h.marks, fun a ha => (g.regs a ha).trans (h.regs a ha)⟩

theorem dead (h : Reported s0 s) : s.dead = s0.dead := congrArg (bit · 3) (h.regs _ cacheReg_status)

theorem ite {c : Prop} [Decidable c] (h : Reported s0 s) (g : Reported s0 u) : Reported s0 (if c then s else u) := by
  split
  · exact h
  · exact g

theorem rset {b : Nat} {v : Word} (h : Reported s0 s) (hb : ∀ a, CacheReg a → a ≠ b) : Reported s0 (s.rset b v) :=
  ⟨h.mem, h.recQ, h.marks, h.regs.rset hb⟩

theorem collect (h : Reported s0 s) (hr : r.cls ≤ 4) : Reported s0 (s.collect r) :=
  ⟨(State.collect_mem s r).trans h.mem, (State.collect_recQ s r).trans h.recQ, (State.collect_marks s r).trans h.marks,
    h.regs.collectAny hr⟩

theorem report (h : Reported s0 s) (hr : r.cls < 4) : Reported s0 (s.report r none) := by
  unfold State.report
  exact .ite h (by rw [if_neg (by omega)]; exact h.collect (by omega))

theorem closeRecovery {j : RecJob} {ns : Nat} (h : Reported s0 s) : Reported s0 (s.closeRecovery j ns) := by
  have hopen : Reported s0 { s with recOpen := s.recOpen.erase j, recLast := some j } :=
    ⟨h.mem, h.recQ, h.marks, h.regs.frame rfl⟩
  have hshow : ∀ a, CacheReg a → a ≠ Reg.FCL_RECOV := ne_fcl (by decide) (by decide)
  exact .rset (.ite (.rset (hopen.rset hshow) (ne_fcl (by decide) (by decide))) (hopen.rset hshow)) (ne_fcl (by decide) (by decide))

theorem retried (h : Reported s0 s) : Reported s0 (s.retried r) :=
  .closeRecovery (h.report (r := { r with cls := 1 }) Nat.one_lt_ofNat)

end Reported

end Sys2Proof.Safety
end

section
/-! Errors of the L2 slices, the L1 caches and SDRAM (R249 to R251, Table 8.6). -/

namespace Sys2Proof.Safety
open Sys2Proof.Machine

variable {s u : State} {t w set p line a c j : Nat} {e e2 : Codeword} {m : BitVec 4}

/-! ### State beside the reports -/

theorem status_ne {b o : Nat} (hb : 4 ≤ b) : Reg.FCL_STATUS ≠ csrAddr b o := by
  simp only [Reg.FCL_STATUS, csrAddr]
  omega

theorem dead_rset {b : Nat} {v : Word} (h : Reg.FCL_STATUS ≠ b) : (s.rset b v).dead = s.dead := State.rbit_rset_ne _ _ _ h

theorem dead_sdLine (s : State) (line : Nat) : (s.sdLine line).2.dead = s.dead :=
  congrArg (bit · 3) (Keeps.refl.sdLine Reg.FCL_STATUS (by unfold LowReg; decide))

/-- Tiles are no part of the sequencer. -/
theorem srcTile_ne_seq {sub : Nat} (ht : t < 16) (hsub : sub < 16) : srcTile t sub / 16 ≠ 0x38 := by
  rw [srcTile]
  omega

/-- A unit notes an error of a kind of which it has noted none before. -/
theorem noteError_new {kind b ns : Nat} (h : ∀ x ∈ s.marks, x.kind ≠ kind) : (s.noteError kind a b ns).1 = false := by
  refine List.any_eq_false.2 fun x hx => ?_
  have := h x hx
  simp [this]

theorem l2At_lastErr (s : State) (b : Nat) (r : Report) : (s.lastErr b r).l2At t set w = s.l2At t set w := by
  rw [State.l2At, State.l2At, State.lastErr, State.rset_mem]

/-! ### Frames of the L2 slices -/

theorem l2DataError_of_clean (h : d144Check e = .clean) : s.l2DataError t set w e = s := by
  rw [State.l2DataError, h]

theorem l2DataError_of_corrected (h : d144Check e = .corrected j m) : s.l2DataError t set w e = s.l2Corrected t set w e := by
  rw [State.l2DataError, h]

/-- The report of an error of class `cls` in way `w` of slice `t`. -/
def wordReport (cls t w : Nat) (e : Codeword) : Report := Report.plain cls (srcTile t 4) 1 w (eccDetail e)

/-- A corrected word of the slice counted and reported. -/
def wordCorrected (s : State) (t w : Nat) (e : Codeword) : State :=
  ((s.rinc (Reg.L2C_ECC_CE t)).lastErr (Reg.L2C_ECC_LAST t) (wordReport 0 t w e)).report (wordReport 0 t w e) none

theorem wordCorrected_reported (s : State) (t w : Nat) (e : Codeword) :
    Reported ((s.rinc (Reg.L2C_ECC_CE t)).lastErr (Reg.L2C_ECC_LAST t) (wordReport 0 t w e)) (wordCorrected s t w e) :=
  Reported.refl.report Nat.ofNat_pos

@[simp] theorem noteError_mem (s : State) (kind a b ns : Nat) : (s.noteError kind a b ns).2.mem = s.mem := rfl

@[simp] theorem noteError_csr (s : State) (kind a b ns : Nat) : (s.noteError kind a b ns).2.csr = s.csr := rfl

/-- Its way stays where nothing in it was in error before (R250). -/
theorem l2Corrected_of_new (hmarks : ∀ x ∈ s.marks, x.kind ≠ 1) : s.l2Corrected t set w e =
    ((wordCorrected s t w e).noteError 1 t (w * 4096 + set) (s.rfld Reg.L2C_PERSIST 15 0 * 1000000)).2 := by
  unfold State.l2Corrected
  extract_lets r s1 n
  have hs1 : s1 = wordCorrected s t w e := rfl
  have hnew : n.1 = false := by
    refine noteError_new ?_
    rwa [hs1, (wordCorrected_reported s t w e).marks, State.lastErr, State.rset_marks, State.rinc_eq, State.rset_marks]
  rw [hnew, if_pos Bool.not_false, ← hs1]

theorem l2Corrected_regs (ht : t < 16) (hmarks : ∀ x ∈ s.marks, x.kind ≠ 1) : (s.l2Corrected t set w e).mem = s.mem ∧
    (s.l2Corrected t set w e).dead = s.dead ∧
    (s.l2Corrected t set w e).rget (Reg.L2C_ECC_CE t) = s.rget (Reg.L2C_ECC_CE t) + 1 := by
  have hrep := wordCorrected_reported s t w e
  rw [l2Corrected_of_new hmarks, noteError_mem, State.dead, State.rbit, State.rget_congr (noteError_csr ..),
    State.rget_congr (noteError_csr ..)]
  have hce : CacheReg (Reg.L2C_ECC_CE t) := cacheReg_of_block (by omega) (by omega) (by decide)
  have hne : Reg.L2C_ECC_CE t ≠ Reg.L2C_ECC_LAST t := csrAddr_ne_of_off (by decide)
  refine ⟨hrep.mem.trans ?_, hrep.dead.trans ?_, (hrep.regs _ hce).trans ?_⟩
  · rw [State.lastErr, State.rset_mem, State.rinc_eq, State.rset_mem]
  · rw [State.lastErr, State.rinc_eq, dead_rset (b := Reg.L2C_ECC_LAST t) (status_ne (by omega)),
      dead_rset (b := Reg.L2C_ECC_CE t) (status_ne (by omega))]
  · rw [State.lastErr, State.rget_rset_ne _ _ hne, State.rinc_eq, State.rget_rset_same]

/-- The word of a clean frame is loaded again (R249). -/
theorem l2DataError_of_clean_frame {f : L2Line} (h : d144Check e = .uncorrectable) (hscratch : s.wayScratch t w = false)
    (hf : s.l2At t set w = some f) (hv : f.valid = true) (hd : f.dirty = false) :
    s.l2DataError t set w e =
      (((s.lastErr (Reg.L2C_ECC_LAST t) (wordReport 1 t w e)).sdLine f.line).2.l2Set
        { f with data := ((s.lastErr (Reg.L2C_ECC_LAST t) (wordReport 1 t w e)).sdLine f.line).1 }).retried
          (wordReport 1 t w e) := by
  simp only [State.l2DataError, h, hscratch, hf, hv, hd, Bool.false_or, Bool.and_false, Bool.false_eq_true, if_false, if_true,
    l2At_lastErr, wordReport]

theorem l2DataError_of_dirty_frame {f : L2Line} (h : d144Check e = .uncorrectable) (hf : s.l2At t set w = some f)
    (hv : f.valid = true) (hd : f.dirty = true) : s.l2DataError t set w e =
      (s.lastErr (Reg.L2C_ECC_LAST t) (wordReport 4 t w e)).report (wordReport 4 t w e) none := by
  simp only [State.l2DataError, h, hf, hv, hd, Bool.and_true, Bool.or_true, if_true, wordReport]
  rfl

theorem dead_l2Set (s : State) (f : L2Line) : (s.l2Set f).dead = s.dead := congrArg (bit · 3) (State.rget_congr rfl _)

theorem l2At_l2Set {f : L2Line} (hf : s.l2At t set w = some f) (d : BitVec 512) :
    (u.l2Set { f with data := d }).l2At t set w = some { f with data := d } :=
  List.find?_cons_of_pos (by simpa using List.find?_some hf)

theorem codeLineOf_congr {n : Nat} (h : u.rget Reg.SDC_CAPACITY = s.rget Reg.SDC_CAPACITY) : u.codeLineOf n = s.codeLineOf n := by
  have htop : u.sdramTop = s.sdramTop := congrArg (fun c : Word => c.toNat - 0x4000000) h
  simp only [State.codeLineOf, htop, h]

theorem sdLine_fst_congr {n : Nat} (h : u.rget Reg.SDC_CAPACITY = s.rget Reg.SDC_CAPACITY) (hcode : u.code = s.code)
    (hmem : u.mem = s.mem) : (u.sdLine n).1 = (s.sdLine n).1 := by
  unfold State.sdLine
  rw [codeLineOf_congr h]
  split
  · rw [State.codeLine, State.codeLine, hcode]
  · rw [State.sdRead, State.sdRead, hmem]

theorem cacheError_of_data {i x : Nat} (s : State) : s.cacheError 2 t i x e = s.l2DataError t x i e := by
  rw [State.cacheError, if_neg (by decide), if_pos rfl]

theorem cacheError_of_tag {i x : Nat} (h : d144Check e = .uncorrectable) : s.cacheError 3 t i x e =
    (s.lastErr (Reg.L2C_ECC_LAST t) (wordReport 4 t i e)).report (wordReport 4 t i e) none := by
  rw [State.cacheError, if_neg (by decide), if_neg (by decide), h]
  simp only [if_true]
  rfl

/-- A clean frame has the line of SDRAM again, and the device goes on. -/
theorem l2DataError_reloads {f : L2Line} (ht : t < 16) (h : d144Check e = .uncorrectable) (hscratch : s.wayScratch t w = false)
    (hf : s.l2At t set w = some f) (hv : f.valid = true) (hd : f.dirty = false) :
    (s.l2DataError t set w e).dead = s.dead ∧ (s.l2DataError t set w e).mem.sdram = s.mem.sdram ∧
      (s.l2DataError t set w e).l2At t set w = some { f with data := (s.sdLine f.line).1 } := by
  have hcap : Reg.SDC_CAPACITY ≠ Reg.L2C_ECC_LAST t := csrAddr_ne_of_block (by omega) (by decide) (by decide)
  have hline : ((s.lastErr (Reg.L2C_ECC_LAST t) (wordReport 1 t w e)).sdLine f.line).1 = (s.sdLine f.line).1 :=
    sdLine_fst_congr (State.rget_rset_ne _ _ hcap) (State.rset_code ..) (State.rset_mem ..)
  rw [l2DataError_of_clean_frame h hscratch hf hv hd, hline]
  generalize hs1 : s.lastErr (Reg.L2C_ECC_LAST t) (wordReport 1 t w e) = s1
  have hrep := (Reported.refl (s := (s1.sdLine f.line).2.l2Set { f with data := (s.sdLine f.line).1 })).retried
    (r := wordReport 1 t w e)
  refine ⟨hrep.dead.trans ?_, (congrArg Mem.sdram hrep.mem).trans ?_, ?_⟩
  · rw [dead_l2Set, dead_sdLine, ← hs1, State.lastErr, dead_rset (b := Reg.L2C_ECC_LAST t) (status_ne (by omega))]
  · rw [State.l2Set, sdLine_mem, ← hs1, State.lastErr, State.rset_mem]
  · rw [State.l2At, hrep.mem, ← State.l2At, l2At_l2Set hf]

/-- The L1 line that the PE drops. -/
def l1Dropped (s : State) (t p line : Nat) : State :=
  { s with mem.l1d := s.mem.l1d.filter (fun y => decide (¬(y.tile = t ∧ y.pe = p ∧ y.line = line))) }

theorem cacheError_of_l1 (h : d144Check e = .uncorrectable) : s.cacheError 1 t p line e =
    ((l1Dropped (s.lastErr (Reg.PEX_LAST_ERR t p) (Report.plain 1 (srcTile t 0) 1 p (eccDetail e))) t p line).retried
      (Report.plain 0 (srcTile t 0) 1 p (eccDetail e))).l1Retry t p := by
  rw [State.cacheError, if_pos (by decide), h]
  rfl

end Sys2Proof.Safety
end

section
/-! Errors of SDRAM words, the L1 line that an error drops, and the controller's registers (R249 to R256, Table 8.6). -/

namespace Sys2Proof.Safety
open Sys2Proof.Machine

variable {s s0 u : State} {r : Report} {t w set p line a c j n : Nat} {e e2 : Codeword} {m : BitVec 4} {v : Word}

/-- From `s0` to `s` the memory and the recovery queue stay, and the device goes on where it went on. -/
structure Calm (s0 s : State) : Prop where
  mem : s.mem = s0.mem
  recQ : s.recQ = s0.recQ
  dead : s.dead = s0.dead

namespace Calm

theorem refl : Calm s s := ⟨rfl, rfl, rfl⟩

theorem trans (h : Calm s0 s) (g : Calm s u) : Calm s0 u := ⟨g.mem.trans h.mem, g.recQ.trans h.recQ, g.dead.trans h.dead⟩

theorem rset {b o : Nat} (h : Calm s0 s) (hb : 4 ≤ b) : Calm s0 (s.rset (csrAddr b o) v) :=
  ⟨(State.rset_mem ..).trans h.mem, (State.rset_recQ ..).trans h.recQ, (dead_rset (status_ne hb)).trans h.dead⟩

theorem ofReported (h : Reported s0 s) : Calm s0 s := ⟨h.mem, h.recQ, h.dead⟩

end Calm

/-! ### An L1 line in error -/

theorem l1Retry_calm (s : State) (t p : Nat) : Calm s (s.l1Retry t p) := by
  unfold State.l1Retry
  split
  · exact .refl
  · exact Calm.refl.rset (by omega)

theorem dead_l1Dropped (s : State) (t p line : Nat) : (l1Dropped s t p line).dead = s.dead :=
  congrArg (bit · 3) (State.rget_congr rfl _)

theorem l1Dropped_mem (s : State) (t p line : Nat) : (l1Dropped s t p line).mem =
    { s.mem with l1d := s.mem.l1d.filter (fun y => decide (¬(y.tile = t ∧ y.pe = p ∧ y.line = line))) } := rfl

/-- An L1 line with an uncorrectable word is dropped, and the firing that met it retried (R249). -/
theorem cacheError_drops_l1 (h : d144Check e = .uncorrectable) :
    (s.cacheError 1 t p line e).mem =
      { s.mem with l1d := s.mem.l1d.filter (fun y => decide (¬(y.tile = t ∧ y.pe = p ∧ y.line = line))) } ∧
    (s.cacheError 1 t p line e).dead = s.dead := by
  rw [cacheError_of_l1 h]
  generalize hs1 : s.lastErr (Reg.PEX_LAST_ERR t p) (Report.plain 1 (srcTile t 0) 1 p (eccDetail e)) = s1
  have hlog : Calm s s1 := hs1 ▸ Calm.refl.rset (by omega)
  have hretried : Calm (l1Dropped s1 t p line) _ :=
    .ofReported (Reported.refl.retried (r := Report.plain 0 (srcTile t 0) 1 p (eccDetail e)))
  have hrest := hretried.trans (l1Retry_calm _ t p)
  exact ⟨hrest.mem.trans (by rw [l1Dropped_mem, hlog.mem]), hrest.dead.trans ((dead_l1Dropped ..).trans hlog.dead)⟩

/-! ### Words of SDRAM -/

/-- The controller's report of an error of class `cls` on channel `c`. -/
def sdReport (cls c : Nat) (e : Codeword) : Report := Report.plain cls 0x240 1 c (eccDetail e)

theorem sdc_cacheReg {o : Nat} (ho : o < 0x10000) : CacheReg (csrAddr 0x24 o) := cacheReg_of_block (by decide) (by decide) ho

/-- A corrected word counted and noted. -/
def sdCounted (s : State) (c j : Nat) (e : Codeword) : State :=
  (((s.rinc Reg.SDC_ECC_CE).rinc (Reg.SDC_CH_CE c)).rset (Reg.SDC_CH_LASTSYM c) (w64 j)).lastErr Reg.SDC_ECC_LAST (sdReport 0 c e)

theorem sdCorrected_reported (s : State) (c j : Nat) (e : Codeword) : Reported (sdCounted s c j e) (s.sdCorrected c j e) :=
  Reported.refl.report Nat.ofNat_pos

theorem sdCorrected_calm (s : State) (c j : Nat) (e : Codeword) : Calm s (s.sdCorrected c j e) :=
  .trans ((((Calm.refl.rset (by decide)).rset (by decide)).rset (by decide)).rset (by decide))
    (.ofReported (sdCorrected_reported s c j e))

theorem rget_ce_sdCorrected (s : State) (c j : Nat) (e : Codeword) :
    (s.sdCorrected c j e).rget Reg.SDC_ECC_CE = s.rget Reg.SDC_ECC_CE + 1 := by
  have hlast : Reg.SDC_ECC_CE ≠ Reg.SDC_ECC_LAST := csrAddr_ne_of_off (by decide)
  have hsym : Reg.SDC_ECC_CE ≠ Reg.SDC_CH_LASTSYM c := csrAddr_ne_of_off (by omega)
  have hce : Reg.SDC_ECC_CE ≠ Reg.SDC_CH_CE c := csrAddr_ne_of_off (by omega)
  refine ((sdCorrected_reported s c j e).regs Reg.SDC_ECC_CE (sdc_cacheReg (by decide))).trans ?_
  rw [sdCounted, State.lastErr, State.rget_rset_ne _ _ hlast, State.rget_rset_ne _ _ hsym, State.rinc_eq _ (Reg.SDC_CH_CE c),
    State.rget_rset_ne _ _ hce, State.rinc_eq, State.rget_rset_same]

theorem rget_lastsym_sdCorrected (s : State) (hc : c < 4) :
    (s.sdCorrected c j e).rget (Reg.SDC_CH_LASTSYM c) = w64 j := by
  have hlast : Reg.SDC_CH_LASTSYM c ≠ Reg.SDC_ECC_LAST := csrAddr_ne_of_off (by omega)
  refine ((sdCorrected_reported s c j e).regs (Reg.SDC_CH_LASTSYM c) (sdc_cacheReg (by omega))).trans ?_
  rw [sdCounted, State.lastErr, State.rget_rset_ne _ _ hlast, State.rget_rset_same]

/-- An uncorrectable word noted. -/
def sdFailed (s : State) (cls c : Nat) (e : Codeword) : State := (s.rinc Reg.SDC_ECC_UE).lastErr Reg.SDC_ECC_LAST (sdReport cls c e)

theorem sdFailed_calm (s : State) (cls c : Nat) (e : Codeword) : Calm s (sdFailed s cls c e) :=
  (Calm.refl.rset (by decide)).rset (by decide)

theorem rget_ue_sdFailed (s : State) (cls c : Nat) (e : Codeword) :
    (sdFailed s cls c e).rget Reg.SDC_ECC_UE = s.rget Reg.SDC_ECC_UE + 1 := by
  have hlast : Reg.SDC_ECC_UE ≠ Reg.SDC_ECC_LAST := csrAddr_ne_of_off (by decide)
  rw [sdFailed, State.lastErr, State.rget_rset_ne _ _ hlast, State.rinc_eq, State.rget_rset_same]

theorem sdReadError_of_corrected (h : d144Check e = .corrected j m) : s.sdReadError a e e2 = s.sdCorrected (sdChannel a) j e := by
  simp only [State.sdReadError, h]

theorem sdReadError_of_lost (h : d144Check e = .uncorrectable) (h2 : d144Check e2 = .uncorrectable)
    (hspill : s.spillImage a = none) : s.sdReadError a e e2 =
      (sdFailed s 4 (sdChannel a) e).report (sdReport 4 (sdChannel a) e) none := by
  simp only [State.sdReadError, h, h2, hspill]
  rfl

theorem sdReadError_of_spilled {slots : List Nat} (h : d144Check e = .uncorrectable) (h2 : d144Check e2 = .uncorrectable)
    (hspill : s.spillImage a = some (t, false, slots)) :
    s.sdReadError a e e2 = (sdFailed s 2 (sdChannel a) e).askReplay (sdReport 1 (sdChannel a) e) slots := by
  simp only [State.sdReadError, h, h2, hspill, Bool.false_eq_true, if_false]
  rfl

theorem sdReadError_of_reread (h : d144Check e = .uncorrectable) (h2 : d144Check e2 = .clean) : s.sdReadError a e e2 =
    ((s.lastErr Reg.SDC_ECC_LAST (sdReport 1 (sdChannel a) e)).rinc Reg.SDC_REREAD).retried (sdReport 1 (sdChannel a) e) := by
  simp only [State.sdReadError, h, h2]
  rfl

theorem sdReport_ne_seq (cls : Nat) : (sdReport cls c e).src / 16 ≠ 0x38 := show 0x240 / 16 ≠ 0x38 by decide

/-- A word that stays uncorrectable outside the spill areas stops the device (R249, Table 8.6). -/
theorem sdReadError_stops (h : d144Check e = .uncorrectable) (h2 : d144Check e2 = .uncorrectable) (hspill : s.spillImage a = none) :
    (s.sdReadError a e e2).dead = true ∧ (s.sdReadError a e e2).rget Reg.SDC_ECC_UE = s.rget Reg.SDC_ECC_UE + 1 := by
  have hue : CacheReg Reg.SDC_ECC_UE := sdc_cacheReg (by decide)
  have hne : Reg.SDC_ECC_UE ≠ Reg.FCL_STATUS := (status_ne (by decide)).symm
  rw [sdReadError_of_lost h h2 hspill, report_of_class4 (sdReport_ne_seq 4) rfl]
  exact ⟨dead_graveReaction _, (rget_graveReaction hue hne).trans
    ((Keeps.refl.collectAny (Nat.le_refl 4) _ hue).trans (rget_ue_sdFailed ..))⟩

/-- A word that reads clean the second time is counted (R249). -/
theorem sdReadError_rereads (h : d144Check e = .uncorrectable) (h2 : d144Check e2 = .clean) :
    Calm s (s.sdReadError a e e2) ∧ (s.sdReadError a e e2).rget Reg.SDC_REREAD = s.rget Reg.SDC_REREAD + 1 := by
  have hlast : Reg.SDC_REREAD ≠ Reg.SDC_ECC_LAST := csrAddr_ne_of_off (by decide)
  rw [sdReadError_of_reread h h2]
  refine ⟨.trans ((Calm.refl.rset (by decide)).rset (by decide)) (.ofReported Reported.refl.retried),
    (Reported.refl.retried.regs Reg.SDC_REREAD (sdc_cacheReg (by decide))).trans ?_⟩
  rw [State.rinc_eq, State.rget_rset_same, State.lastErr, State.rget_rset_ne _ _ hlast]

/-! ### The replay of a spilled entry's wafer -/

theorem report_of_job {job : RecJob} (hsrc : r.src / 16 ≠ 0x38) (hcls : r.cls ≠ 4) (hroom : s.recQ.length < 16)
    (hlimit : job.slots.any s.replayLimit = false) : s.report r (some job) =
      ({ s.collect r with recQ := (s.collect r).recQ ++ [job] }.openRecovery job).beginJob job := by
  simp only [State.report, decide_eq_false hsrc, Bool.false_and, Bool.false_eq_true, if_false, if_neg hcls,
    if_neg (Nat.not_le.2 hroom), hlimit]

theorem replayLimit_congr (hslots : u.slots = s.slots) (hopen : u.recOpen = s.recOpen) : u.replayLimit = s.replayLimit := by
  funext k
  rw [State.replayLimit, State.replayLimit, hslots, hopen]

namespace Reported

theorem openRecovery {job : RecJob} (h : Reported s0 s) : Reported s0 (s.openRecovery job) :=
  .rset ⟨h.mem, h.recQ, h.marks, h.regs.frame rfl⟩ (ne_fcl (by decide) (by decide))

theorem progress (h : Reported s0 s) (k : Nat) : Reported s0 (s.progress k) := ⟨h.mem, h.recQ, h.marks, h.regs.frame rfl⟩

theorem beginReplay {job : RecJob} (h : Reported s0 s) (hjob : ¬(job.mech = 2 ∨ job.mech = 6)) :
    Reported s0 (s.beginJob job) := by
  unfold State.beginJob
  rw [if_neg hjob]
  exact List.foldlRecOn _ _ h fun _ hu k _ => hu.progress k

/-- A report that asks for a recovery adds it to the queue. -/
theorem queue {job : RecJob} (hr : r.cls ≤ 4) :
    Reported { s with recQ := s.recQ ++ [job] } { s.collect r with recQ := (s.collect r).recQ ++ [job] } :=
  ⟨State.collect_mem s r, congrArg (· ++ [job]) (State.collect_recQ s r), State.collect_marks s r,
    fun _ ha => Keeps.refl.collectAny hr _ ha⟩

end Reported

/-- A replay asked for stands at the end of the recovery queue (R458). -/
theorem askReplay_queues {slots : List Nat} (hsrc : r.src / 16 ≠ 0x38) (hroom : s.recQ.length < 16)
    (hlimit : slots.any s.replayLimit = false) :
    Reported { s with recQ := s.recQ ++ [s.newJob 5 2 r.src 0 0 slots] } (s.askReplay r slots) := by
  rw [State.askReplay, report_of_job (r := { r with cls := 2 }) hsrc (show 2 ≠ 4 by decide) hroom hlimit]
  exact ((Reported.queue (show 2 ≤ 4 by decide)).openRecovery).beginReplay (show ¬(5 = 2 ∨ 5 = 6) by decide)

/-- What the replay asked for leaves as it was, and the job that it adds. -/
theorem askReplay_effect {slots : List Nat} (hsrc : r.src / 16 ≠ 0x38) (hroom : s.recQ.length < 16)
    (hlimit : slots.any s.replayLimit = false) :
    (s.askReplay r slots).mem = s.mem ∧ (s.askReplay r slots).dead = s.dead ∧
      (s.askReplay r slots).recQ = s.recQ ++ [s.newJob 5 2 r.src 0 0 slots] ∧ Keeps CacheReg s (s.askReplay r slots) := by
  have hrep := askReplay_queues hsrc hroom hlimit
  exact ⟨hrep.mem, hrep.dead, hrep.recQ, hrep.regs⟩

/-! ### The patrol -/

/-- The place of the patrol's next read. -/
def patrolNext (s : State) : Word := w64 (if (s.rget Reg.SDC_SCRUB_POS).toNat + 128 < (s.rget Reg.SDC_CAPACITY).toNat / 4
  then (s.rget Reg.SDC_SCRUB_POS).toNat + 128 else 0)

/-- What the patrol does with an uncorrectable word: it flags it and goes on (R251). -/
def patrolFailed (s : State) (c : Nat) (e : Codeword) : State :=
  ((s.rinc Reg.SDC_ECC_UE).rsetBit Reg.SDC_STATUS 1 true).lastErr Reg.SDC_ECC_LAST (sdReport 0 c e)

section
variable (hon : s.rbit Reg.SDC_CTRL 0 = true) (hup : s.rbit Reg.SDC_STATUS 0 = true) (hdoze : s.power.doze < 3)
include hon hup hdoze

theorem sdPatrol_of_clean (h : d144Check e = .clean) : s.sdPatrol c e = s.rset Reg.SDC_SCRUB_POS (patrolNext s) := by
  simp only [State.sdPatrol, hon, hup, hdoze, h, decide_true, Bool.and_true, if_true]
  rfl

theorem sdPatrol_of_corrected (h : d144Check e = .corrected j m) :
    s.sdPatrol c e = (s.sdCorrected c j e).rset Reg.SDC_SCRUB_POS (patrolNext s) := by
  simp only [State.sdPatrol, hon, hup, hdoze, h, decide_true, Bool.and_true, if_true]
  rfl

theorem sdPatrol_of_uncorrectable (h : d144Check e = .uncorrectable) : s.sdPatrol c e =
    ((patrolFailed s c e).report (sdReport 0 c e) none).rset Reg.SDC_SCRUB_POS (patrolNext s) := by
  simp only [State.sdPatrol, hon, hup, hdoze, h, decide_true, Bool.and_true, if_true]
  rfl

end

theorem patrolFailed_reported (s : State) (c : Nat) (e : Codeword) :
    Reported (patrolFailed s c e) ((patrolFailed s c e).report (sdReport 0 c e) none) := Reported.refl.report Nat.ofNat_pos

theorem patrolFailed_calm (s : State) (c : Nat) (e : Codeword) : Calm s (patrolFailed s c e) :=
  ((Calm.refl.rset (by decide)).rset (by decide)).rset (by decide)

theorem patrolFailed_regs (s : State) (c : Nat) (e : Codeword) :
    (patrolFailed s c e).rget Reg.SDC_ECC_UE = s.rget Reg.SDC_ECC_UE + 1 ∧ (patrolFailed s c e).rbit Reg.SDC_STATUS 1 = true := by
  have huelast : Reg.SDC_ECC_UE ≠ Reg.SDC_ECC_LAST := csrAddr_ne_of_off (by decide)
  have hue : Reg.SDC_ECC_UE ≠ Reg.SDC_STATUS := csrAddr_ne_of_off (by decide)
  have hlast : Reg.SDC_STATUS ≠ Reg.SDC_ECC_LAST := csrAddr_ne_of_off (by decide)
  constructor
  · rw [patrolFailed, State.lastErr, State.rget_rset_ne _ _ huelast, State.rsetBit_eq, State.rget_rset_ne _ _ hue, State.rinc_eq,
      State.rget_rset_same]
  · rw [patrolFailed, State.lastErr, State.rbit_rset_ne _ _ _ hlast, State.rsetBit_eq, State.rbit_rset_same,
      bit_setBit_same _ _ (by decide)]

end Sys2Proof.Safety
end

section
/-! The SDRAM controller's configuration, training and refresh rate (R252, R254, R256), and the obligation on memory errors. -/

namespace Sys2Proof.Safety
open Sys2Proof.Machine

variable {s : State} {a c n x : Nat} {v : Word}

/-- TRAINED and UP of the first `n` channels set to `x`. -/
def channelsSet (x : Nat) (s : State) (n : Nat) : State :=
  (List.range n).foldl (fun s c => s.rsetFld (Reg.SDC_CH_STATUS c) 1 0 x) s

theorem channelsSet_succ (s : State) : channelsSet x s (n + 1) = (channelsSet x s n).rsetFld (Reg.SDC_CH_STATUS n) 1 0 x := by
  rw [channelsSet, List.range_succ, List.foldl_append]
  rfl

theorem mem_channelsSet (s : State) (n : Nat) : (channelsSet x s n).mem = s.mem := by
  induction n with
  | zero => rfl
  | succ n ih => rw [channelsSet_succ, State.rsetFld_eq, State.rset_mem, ih]

theorem rget_channelsSet (s : State) {o : Nat} (ho : o < 0x1000) (n : Nat) :
    (channelsSet x s n).rget (csrAddr 0x24 o) = s.rget (csrAddr 0x24 o) := by
  induction n with
  | zero => rfl
  | succ n ih =>
    have hne : csrAddr 0x24 o ≠ Reg.SDC_CH_STATUS n := csrAddr_ne_of_off (by omega)
    rw [channelsSet_succ, State.rsetFld_eq, State.rget_rset_ne _ _ hne, ih]

theorem rfld_channelsSet (s : State) (hx : x < 4) (hc : c < n) : (channelsSet x s n).rfld (Reg.SDC_CH_STATUS c) 1 0 = x := by
  induction n with
  | zero => exact absurd hc (Nat.not_lt_zero c)
  | succ n ih =>
    rw [channelsSet_succ, State.rsetFld_eq]
    rcases Nat.lt_succ_iff_lt_or_eq.1 hc with hlt | rfl
    · have hne : Reg.SDC_CH_STATUS c ≠ Reg.SDC_CH_STATUS n := csrAddr_ne_of_off (by omega)
      rw [State.rfld_rset_ne _ _ _ _ hne, ih hlt]
    · rw [State.rfld_rset_same, fld_setFld_same _ _ (by decide)]
      exact Nat.mod_eq_of_lt hx

/-- A configuration taken: the capacity is unknown and no channel trained. -/
def untrained (s : State) (cfg : Word) : State :=
  (((s.rset Reg.SDC_CFG cfg).rset Reg.SDC_CAPACITY 0).rsetFld Reg.SDC_STATUS 7 4 0).rsetBit Reg.SDC_STATUS 0 false

theorem untrained_regs (s : State) (cfg : Word) : (untrained s cfg).rget Reg.SDC_CFG = cfg ∧
    (untrained s cfg).rget Reg.SDC_CAPACITY = 0 ∧ (untrained s cfg).rbit Reg.SDC_STATUS 0 = false ∧
    (untrained s cfg).mem = s.mem := by
  have hcfg : Reg.SDC_CFG ≠ Reg.SDC_STATUS := csrAddr_ne_of_off (by decide)
  have hcfgcap : Reg.SDC_CFG ≠ Reg.SDC_CAPACITY := csrAddr_ne_of_off (by decide)
  have hcap : Reg.SDC_CAPACITY ≠ Reg.SDC_STATUS := csrAddr_ne_of_off (by decide)
  rw [untrained, State.rsetBit_eq, State.rsetFld_eq]
  refine ⟨?_, ?_, ?_, ?_⟩
  · rw [State.rget_rset_ne _ _ hcfg, State.rget_rset_ne _ _ hcfg, State.rget_rset_ne _ _ hcfgcap, State.rget_rset_same]
  · rw [State.rget_rset_ne _ _ hcap, State.rget_rset_ne _ _ hcap, State.rget_rset_same]
  · rw [State.rbit_rset_same, bit_setBit_same _ _ (by decide)]
  · rw [State.rset_mem, State.rset_mem, State.rset_mem, State.rset_mem]

theorem sdcConfig_of_good (hr : s.running = false) (hl : s.locked = false) (hgood : State.channelGiB v ≠ 0) :
    s.sdcConfig v = channelsSet 0 (untrained s (v &&& 0x00000000000CFE01)) 4 := by
  simp only [State.sdcConfig, hr, hl, hgood, Bool.or_false, Bool.false_eq_true, if_false, decide_false]
  rfl

theorem sdcConfig_of_bad (hr : s.running = false) (hl : s.locked = false) (hbad : State.channelGiB v = 0) :
    s.sdcConfig v =
      channelsSet 0 ((untrained s (setBit (v &&& 0x00000000000CFE01) 0 false)).rsetBit Reg.SDC_STATUS 3 true) 4 := by
  simp only [State.sdcConfig, hr, hl, hbad, Bool.or_false, Bool.false_eq_true, if_false, decide_true, if_true]
  rfl

/-- The controller once every channel is trained, but for the channels' own registers. -/
def trainedUp (s : State) : State :=
  ((s.rsetFld Reg.SDC_STATUS 7 4 15).rsetBit Reg.SDC_STATUS 0 true).rset Reg.SDC_CAPACITY
    (w64 (4 * State.channelGiB (s.rget Reg.SDC_CFG) * 2 ^ 30))

theorem sdcTrained_of_pending (hen : s.rbit Reg.SDC_CFG 0 = true) (hdown : s.rbit Reg.SDC_STATUS 0 = false) :
    s.sdcTrained = channelsSet 3 (trainedUp s) 4 := by
  simp only [State.sdcTrained, hen, hdown, Bool.not_false, Bool.and_true, if_true]
  rfl

theorem trainedUp_regs (s : State) : (trainedUp s).rbit Reg.SDC_STATUS 0 = true ∧ (trainedUp s).rfld Reg.SDC_STATUS 7 4 = 15 ∧
    (trainedUp s).rget Reg.SDC_CAPACITY = w64 (4 * State.channelGiB (s.rget Reg.SDC_CFG) * 2 ^ 30) := by
  have hne : Reg.SDC_STATUS ≠ Reg.SDC_CAPACITY := csrAddr_ne_of_off (by decide)
  rw [trainedUp, State.rsetBit_eq, State.rsetFld_eq]
  refine ⟨?_, ?_, State.rget_rset_same ..⟩
  · rw [State.rbit_rset_ne _ _ _ hne, State.rbit_rset_same, bit_setBit_same _ _ (by decide)]
  · rw [State.rfld_rset_ne _ _ _ _ hne, State.rfld_rset_same, fld_setBit_disjoint _ _ (by decide), State.rget_rset_same,
      fld_setFld_same _ _ (by decide)]
    exact Nat.mod_eq_of_lt (by decide)

/-- The refresh rate of one channel shown. -/
def rateShown (s : State) (c : Nat) (d : Bool) : State := s.rsetFld (Reg.SDC_CH_STATUS c) 3 2 (b2n d)

/-- One channel or more has the doubled rate. -/
def anyDoubled (s : State) : Bool := (List.range 4).any (fun i => decide (s.rfld (Reg.SDC_CH_STATUS i) 3 2 = 1))

theorem anyDoubled_iff : anyDoubled s = true ↔ ∃ i < 4, s.rfld (Reg.SDC_CH_STATUS i) 3 2 = 1 := by
  simp only [anyDoubled, List.any_eq_true, List.mem_range, decide_eq_true_eq]

theorem exec_sdramRefreshRateChange_eq (s : State) (c : Nat) (d : Bool) : exec (.sdramRefreshRateChange c d) s =
    .next ((rateShown s c d).rsetBit Reg.SDC_STATUS 2 (anyDoubled (rateShown s c d))) := by
  rw [exec_sdramRefreshRateChange, execSdramRefreshRateChange, rateShown, anyDoubled]

theorem rateShown_regs (s : State) (c : Nat) (d b : Bool) :
    ((rateShown s c d).rsetBit Reg.SDC_STATUS 2 b).rbit Reg.SDC_STATUS 2 = b ∧
    ((rateShown s c d).rsetBit Reg.SDC_STATUS 2 b).rfld (Reg.SDC_CH_STATUS c) 3 2 = b2n d ∧
    (∀ i, ((rateShown s c d).rsetBit Reg.SDC_STATUS 2 b).rfld (Reg.SDC_CH_STATUS i) 3 2 =
      (rateShown s c d).rfld (Reg.SDC_CH_STATUS i) 3 2) ∧
    ((rateShown s c d).rsetBit Reg.SDC_STATUS 2 b).mem = s.mem := by
  have hne : ∀ i, Reg.SDC_CH_STATUS i ≠ Reg.SDC_STATUS := fun i => csrAddr_ne_of_off (by omega)
  have hbit : b2n d < 2 ^ (3 + 1 - 2) := by cases d <;> decide
  rw [State.rsetBit_eq]
  refine ⟨?_, ?_, fun i => State.rfld_rset_ne _ _ _ _ (hne i), ?_⟩
  · rw [State.rbit_rset_same, bit_setBit_same _ _ (by decide)]
  · rw [State.rfld_rset_ne _ _ _ _ (hne c), rateShown, State.rsetFld_eq, State.rfld_rset_same, fld_setFld_same _ _ (by decide),
      Nat.mod_eq_of_lt hbit]
  · rw [State.rset_mem, rateShown, State.rsetFld_eq, State.rset_mem]

theorem exec_sdcCfgWrite_of_mayWrite {m : Nat} (h : s.mayWrite m = true) : exec (.sdcCfgWrite m v) s = .next (s.sdcConfig v) := by
  rw [exec_sdcCfgWrite, execSdcCfgWrite, State.onlyIf_pos _ _ h]

/-! ### The parts of the obligation -/

theorem exec_l2ScrubRead_of_clean {t p : Nat} {e : Codeword} (h : d144Check e = .clean) (hon : s.rbit Reg.L2C_CTRL 0 = true)
    (hdoze : s.power.doze < 3) (hp : s.scrubFrom t (s.rget (Reg.L2C_SCRUB_POS t)).toNat = some p) :
    exec (.l2ScrubRead t e) s =
      .next (s.rset (Reg.L2C_SCRUB_POS t) (w64 ((s.scrubFrom t ((p + 1) % 65536)).getD ((p + 1) % 65536)))) := by
  rw [exec_l2ScrubRead, execL2ScrubRead, State.onlyIf_pos _ _ (by rw [hon, decide_eq_true hdoze]; rfl)]
  simp only [hp, l2DataError_of_clean h]

theorem sdPatrol_spec {e : Codeword} (hon : s.rbit Reg.SDC_CTRL 0 = true) (hup : s.rbit Reg.SDC_STATUS 0 = true)
    (hdoze : s.power.doze < 3) : ∃ x, s.sdPatrol c e = x.rset Reg.SDC_SCRUB_POS (patrolNext s) ∧ Calm s x ∧
      (d144Check e = .clean → x = s) ∧
      (d144Check e = .uncorrectable → x.rget Reg.SDC_ECC_UE = s.rget Reg.SDC_ECC_UE + 1 ∧ x.rbit Reg.SDC_STATUS 1 = true) := by
  cases h : d144Check e with
  | clean => exact ⟨s, sdPatrol_of_clean hon hup hdoze h, .refl, fun _ => rfl, nofun⟩
  | corrected j m =>
    exact ⟨_, sdPatrol_of_corrected hon hup hdoze h, sdCorrected_calm s c j e, nofun, nofun⟩
  | uncorrectable =>
    have hrep := patrolFailed_reported s c e
    obtain ⟨hue, hflag⟩ := patrolFailed_regs s c e
    exact ⟨_, sdPatrol_of_uncorrectable hon hup hdoze h, (patrolFailed_calm s c e).trans (.ofReported hrep), nofun, fun _ =>
      ⟨(hrep.regs Reg.SDC_ECC_UE (sdc_cacheReg (by decide))).trans hue,
        (congrArg (bit · 1) (hrep.regs Reg.SDC_STATUS (sdc_cacheReg (by decide)))).trans hflag⟩⟩

/-- An uncorrectable word of a spilled entry asks for the replay of the entry's wafer and is counted (R104). -/
theorem sdReadError_replays {t : Nat} {slots : List Nat} {e e2 : Codeword} (h : d144Check e = .uncorrectable)
    (h2 : d144Check e2 = .uncorrectable) (hspill : s.spillImage a = some (t, false, slots)) (hroom : s.recQ.length < 16)
    (hlimit : slots.any s.replayLimit = false) :
    (s.sdReadError a e e2).dead = s.dead ∧ (s.sdReadError a e e2).mem = s.mem ∧
      (s.sdReadError a e e2).rget Reg.SDC_ECC_UE = s.rget Reg.SDC_ECC_UE + 1 ∧
      ∃ j, (s.sdReadError a e e2).recQ = s.recQ ++ [j] ∧ j.mech = 5 ∧ j.cls = 2 ∧ j.slots = slots := by
  have hcalm := sdFailed_calm s 2 (sdChannel a) e
  have hlim : (sdFailed s 2 (sdChannel a) e).replayLimit = s.replayLimit := by
    rw [sdFailed, State.lastErr, State.rinc_eq]
    exact replayLimit_congr (by rw [State.rset_slots, State.rset_slots]) (by rw [State.rset_recOpen, State.rset_recOpen])
  obtain ⟨hmem, hdead, hqueue, hregs⟩ := askReplay_effect (s := sdFailed s 2 (sdChannel a) e)
    (sdReport_ne_seq (c := sdChannel a) (e := e) 1) (by rwa [hcalm.recQ]) (by rwa [hlim])
  rw [sdReadError_of_spilled h h2 hspill]
  rw [hcalm.recQ] at hqueue
  exact ⟨hdead.trans hcalm.dead, hmem.trans hcalm.mem,
    (hregs Reg.SDC_ECC_UE (sdc_cacheReg (by decide))).trans (rget_ue_sdFailed ..), _, hqueue, rfl, rfl, rfl⟩

theorem sdcConfig_good (hr : s.running = false) (hl : s.locked = false) (hgood : State.channelGiB v ≠ 0) :
    (s.sdcConfig v).rget Reg.SDC_CFG = v &&& 0x00000000000CFE01 ∧ (s.sdcConfig v).rget Reg.SDC_CAPACITY = 0 ∧
      (s.sdcConfig v).rbit Reg.SDC_STATUS 0 = false ∧ (s.sdcConfig v).mem = s.mem := by
  obtain ⟨hcfg, hcap, hdown, hmem⟩ := untrained_regs s (v &&& 0x00000000000CFE01)
  rw [sdcConfig_of_good hr hl hgood]
  exact ⟨(rget_channelsSet _ (by decide) 4).trans hcfg, (rget_channelsSet _ (by decide) 4).trans hcap,
    (congrArg (bit · 0) (rget_channelsSet _ (by decide) 4)).trans hdown, (mem_channelsSet _ 4).trans hmem⟩

theorem sdcConfig_bad (hr : s.running = false) (hl : s.locked = false) (hbad : State.channelGiB v = 0) :
    (s.sdcConfig v).rbit Reg.SDC_CFG 0 = false ∧ (s.sdcConfig v).rbit Reg.SDC_STATUS 3 = true := by
  obtain ⟨hcfg, -, -, -⟩ := untrained_regs s (setBit (v &&& 0x00000000000CFE01) 0 false)
  have hne : Reg.SDC_CFG ≠ Reg.SDC_STATUS := csrAddr_ne_of_off (by decide)
  rw [sdcConfig_of_bad hr hl hbad]
  refine ⟨(congrArg (bit · 0) (rget_channelsSet _ (by decide) 4)).trans ?_,
    (congrArg (bit · 3) (rget_channelsSet _ (by decide) 4)).trans ?_⟩
  · rw [State.rsetBit_eq, ← Reg.SDC_CFG, State.rget_rset_ne _ _ hne, hcfg, bit_setBit_same _ _ (by decide)]
  · rw [State.rsetBit_eq, ← Reg.SDC_STATUS, State.rget_rset_same, bit_setBit_same _ _ (by decide)]

theorem sdcTrained_regs (hen : s.rbit Reg.SDC_CFG 0 = true) (hdown : s.rbit Reg.SDC_STATUS 0 = false) :
    s.sdcTrained.rbit Reg.SDC_STATUS 0 = true ∧ s.sdcTrained.rfld Reg.SDC_STATUS 7 4 = 15 ∧
      s.sdcTrained.rget Reg.SDC_CAPACITY = w64 (4 * State.channelGiB (s.rget Reg.SDC_CFG) * 2 ^ 30) ∧
      ∀ c < 4, s.sdcTrained.rfld (Reg.SDC_CH_STATUS c) 1 0 = 3 := by
  obtain ⟨hup, hchans, hcap⟩ := trainedUp_regs s
  have hstatus := rget_channelsSet (x := 3) (trainedUp s) (o := 0x10) (by decide) 4
  rw [sdcTrained_of_pending hen hdown]
  exact ⟨(congrArg (bit · 0) hstatus).trans hup, (congrArg (fld · 7 4) hstatus).trans hchans,
    (rget_channelsSet _ (by decide) 4).trans hcap, fun c hc => rfld_channelsSet _ (by decide) hc⟩

/-- Settles O43: each clause is the lemma of its unit's reaction. -/
theorem memoryErrorsAndController : Obligations.MemoryErrorsAndController := by
  refine ⟨?_, ?_, ?_, ?_, ?_, ?_, ?_, ?_, ?_, ?_, ?_, ?_, ?_, ?_, ?_, ?_, ?_⟩
  · exact fun s t p e h hon hdoze hp => exec_l2ScrubRead_of_clean h hon hdoze hp
  · intro s c e hon hup hdoze
    obtain ⟨x, heq, hcalm, hclean, hbad⟩ := sdPatrol_spec (c := c) (e := e) hon hup hdoze
    have hue : Reg.SDC_ECC_UE ≠ Reg.SDC_SCRUB_POS := csrAddr_ne_of_off (by decide)
    have hstatus : Reg.SDC_STATUS ≠ Reg.SDC_SCRUB_POS := csrAddr_ne_of_off (by decide)
    have hset : Calm s (x.rset Reg.SDC_SCRUB_POS (patrolNext s)) := hcalm.rset (by decide)
    refine ⟨_, congrArg Host.Outcome.next heq, hset.mem, hset.recQ, hset.dead, State.rget_rset_same ..,
      fun h b hb => ?_, fun h => ?_⟩
    · rw [State.rget_rset_ne _ _ hb, hclean h]
    · rw [State.rget_rset_ne _ _ hue, State.rbit_rset_ne _ _ _ hstatus]
      exact hbad h
  · intro s t w set j e m ht h hmarks
    refine ⟨_, rfl, ?_⟩
    rw [cacheError_of_data, l2DataError_of_corrected h]
    exact l2Corrected_regs ht hmarks
  · intro s t w set e f ht h hscratch hf hv hd
    refine ⟨_, rfl, ?_⟩
    rw [cacheError_of_data]
    exact l2DataError_reloads ht h hscratch hf hv hd
  · intro s t w set e f ht h hf hv hd
    refine ⟨_, rfl, ?_⟩
    rw [cacheError_of_data, l2DataError_of_dirty_frame h hf hv hd]
    exact dead_report_of_class4 (srcTile_ne_seq ht (by decide)) rfl
  · intro s t w set e ht h
    refine ⟨_, rfl, ?_⟩
    rw [cacheError_of_tag h]
    exact dead_report_of_class4 (srcTile_ne_seq ht (by decide)) rfl
  · intro s t p line e _ h
    obtain ⟨hmem, hdead⟩ := cacheError_drops_l1 (s := s) (t := t) (p := p) (line := line) h
    refine ⟨_, rfl, fun x hx => ?_, (congrArg Mem.l2 hmem).trans rfl,
      (congrArg Mem.sdram hmem).trans rfl, hdead⟩
    rw [hmem] at hx
    exact of_decide_eq_true (List.mem_filter.1 hx).2
  · intro s a j e e2 m h
    refine ⟨_, rfl, ?_⟩
    rw [sdReadError_of_corrected h]
    have hcalm := sdCorrected_calm s (sdChannel a) j e
    exact ⟨hcalm.mem, hcalm.dead, rget_ce_sdCorrected .., rget_lastsym_sdCorrected s (sdChannel_lt a)⟩
  · exact fun s a e e2 h h2 hspill => ⟨_, rfl, sdReadError_stops h h2 hspill⟩
  · exact fun s a t slots e e2 h h2 hspill hroom hlimit => ⟨_, rfl, sdReadError_replays h h2 hspill hroom hlimit⟩
  · intro s a e e2 h h2
    obtain ⟨hcalm, hcount⟩ := sdReadError_rereads (s := s) (a := a) h h2
    exact ⟨_, rfl, hcalm.dead, hcalm.mem, hcount⟩
  · intro s a e e2 h
    rw [exec_sdramEccError, execSdramEccError, State.sdReadError, h]
  · exact fun s m v hm hr hl hgood => ⟨_, exec_sdcCfgWrite_of_mayWrite hm, sdcConfig_good hr hl hgood⟩
  · exact fun s m v hm hr hl hbad => ⟨_, exec_sdcCfgWrite_of_mayWrite hm, sdcConfig_bad hr hl hbad⟩
  · exact fun s hen hdown => ⟨_, rfl, sdcTrained_regs hen hdown⟩
  · exact fun s c => rfl
  · intro s c d _
    obtain ⟨hflag, hrate, hrates, hmem⟩ := rateShown_regs s c d (anyDoubled (rateShown s c d))
    refine ⟨_, exec_sdramRefreshRateChange_eq s c d, hrate, ?_, hmem⟩
    simp only [hflag, hrates, anyDoubled_iff]

end Sys2Proof.Safety
end
